-- ==== Sys2Proof/Word.lean ====
section
/-! DEFINITION. The word types of the Thagan 7410 and nothing else (R7, R9: registers are 64 bits wide). -/

namespace Sys2Proof

/-- A 64-bit word: a general register, a special register, a control-space register (R9, R98). -/
abbrev Word := BitVec 64

/-- A byte of memory, of a message or of a buffer (R8). -/
abbrev Byte := BitVec 8

/-- A SHA3-256 digest or fingerprint: bytes F[0] to F[31] as one little-endian number, so that F[0] is its low byte (R166, R170). -/
abbrev Digest := BitVec 256

end Sys2Proof
end

