-- ==== Sys2Proof/Machine/DyrisSyntax.lean ====
section
/-! DEFINITION. The Dyris instruction words as data: the formats of Table 4.7 and the opcodes of Tables 4.8 to 4.13.
    A field that an
instruction does not use is kept, so that a nonzero one can raise ILLEGAL (R111). -/

namespace Sys2Proof

/-- A register field of a word. -/
abbrev RegF := Fin 32

/-- Register ALU operations (Table 4.8), format A, op 0x00. -/
inductive AluOp where
  | add | sub | and | or | xor | sll | srl | sra | slt | sltu | mul | mulhu | div | divu | rem | remu | min | max |
    minu | maxu | clz | ctz | popc | bswap | rotr | andn
deriving DecidableEq, Repr

/-- The fn of Table 4.8. -/
def AluOp.code : AluOp → Nat
  | .add => 0x00
  | .sub => 0x01
  | .and => 0x02
  | .or => 0x03
  | .xor => 0x04
  | .sll => 0x05
  | .srl => 0x06
  | .sra => 0x07
  | .slt => 0x08
  | .sltu => 0x09
  | .mul => 0x0A
  | .mulhu => 0x0B
  | .div => 0x0C
  | .divu => 0x0D
  | .rem => 0x0E
  | .remu => 0x0F
  | .min => 0x10
  | .max => 0x11
  | .minu => 0x12
  | .maxu => 0x13
  | .clz => 0x14
  | .ctz => 0x15
  | .popc => 0x16
  | .bswap => 0x17
  | .rotr => 0x18
  | .andn => 0x19

/-- Every value of AluOp. -/
def AluOp.every : List AluOp := [.add, .sub, .and, .or, .xor, .sll, .srl, .sra, .slt, .sltu, .mul, .mulhu, .div,
    .divu, .rem, .remu, .min, .max, .minu, .maxu, .clz, .ctz, .popc, .bswap, .rotr, .andn]

/-- Immediate ALU operations (Table 4.9), format I. -/
inductive ImmOp where
  | addi | andi | ori | xori | clti | cltiu | slli | srli | srai | lmi | lhi | lxi
deriving DecidableEq, Repr

/-- The op of Table 4.9. -/
def ImmOp.code : ImmOp → Nat
  | .addi => 0x08
  | .andi => 0x09
  | .ori => 0x0A
  | .xori => 0x0B
  | .clti => 0x0C
  | .cltiu => 0x0D
  | .slli => 0x0E
  | .srli => 0x0F
  | .srai => 0x10
  | .lmi => 0x11
  | .lhi => 0x12
  | .lxi => 0x13

/-- Every value of ImmOp. -/
def ImmOp.every : List ImmOp := [.addi, .andi, .ori, .xori, .clti, .cltiu, .slli, .srli, .srai, .lmi, .lhi, .lxi]

/-- Loads and stores (Table 4.10), format M. -/
inductive MemOp where
  | lb | lbu | lh | lhu | lw | lwu | ld | sb | sh | sw | sd
deriving DecidableEq, Repr

/-- The op of Table 4.10. -/
def MemOp.code : MemOp → Nat
  | .lb => 0x18
  | .lbu => 0x19
  | .lh => 0x1A
  | .lhu => 0x1B
  | .lw => 0x1C
  | .lwu => 0x1D
  | .ld => 0x1E
  | .sb => 0x20
  | .sh => 0x21
  | .sw => 0x22
  | .sd => 0x23

/-- Every value of MemOp. -/
def MemOp.every : List MemOp := [.lb, .lbu, .lh, .lhu, .lw, .lwu, .ld, .sb, .sh, .sw, .sd]

/-- Branches (Table 4.11), format B. -/
inductive BrOp where
  | beq | bne | blt | bge | bltu | bgeu
deriving DecidableEq, Repr

/-- The op of Table 4.11. -/
def BrOp.code : BrOp → Nat
  | .beq => 0x28
  | .bne => 0x29
  | .blt => 0x2A
  | .bge => 0x2B
  | .bltu => 0x2C
  | .bgeu => 0x2D

/-- Every value of BrOp. -/
def BrOp.every : List BrOp := [.beq, .bne, .blt, .bge, .bltu, .bgeu]

/-- System and engine instructions (Table 4.12), format A, op 0x01. -/
inductive SysOp where
  | sync | syncW | syncR | syncI | mfs | mts | tget | tdone | wtok | job | bget | bref | bdrop | send | waitp |
    hcall | hret | eret | svc | brk
deriving DecidableEq, Repr

/-- The fn of Table 4.12. -/
def SysOp.code : SysOp → Nat
  | .sync => 0x00
  | .syncW => 0x01
  | .syncR => 0x02
  | .syncI => 0x03
  | .mfs => 0x10
  | .mts => 0x11
  | .tget => 0x20
  | .tdone => 0x21
  | .wtok => 0x30
  | .job => 0x31
  | .bget => 0x40
  | .bref => 0x41
  | .bdrop => 0x42
  | .send => 0x50
  | .waitp => 0x60
  | .hcall => 0x70
  | .hret => 0x71
  | .eret => 0x72
  | .svc => 0x73
  | .brk => 0x74

/-- Every value of SysOp. -/
def SysOp.every : List SysOp := [.sync, .syncW, .syncR, .syncI, .mfs, .mts, .tget, .tdone, .wtok, .job, .bget,
    .bref, .bdrop, .send, .waitp, .hcall, .hret, .eret, .svc, .brk]

/-- Atomics (Table 4.13). -/
inductive AmoOp where
  | swap | add | and | or | xor | min | max | minu | maxu | cas
deriving DecidableEq, Repr

/-- The OP field of Table 4.13. -/
def AmoOp.code : AmoOp → Nat
  | .swap => 0x00
  | .add => 0x01
  | .and => 0x02
  | .or => 0x03
  | .xor => 0x04
  | .min => 0x05
  | .max => 0x06
  | .minu => 0x07
  | .maxu => 0x08
  | .cas => 0x09

/-- Every value of AmoOp. -/
def AmoOp.every : List AmoOp := [.swap, .add, .and, .or, .xor, .min, .max, .minu, .maxu, .cas]

/-- An instruction word, decoded. -/
inductive DInstr where
  | alu (op : AluOp) (d a b : RegF)
  | imm (op : ImmOp) (d a : RegF) (imm : BitVec 16)
  | mem (op : MemOp) (d a : RegF) (imm : BitVec 16)
  | br (op : BrOp) (a b : RegF) (off : BitVec 16)
  | jalr (d a : RegF) (imm : BitVec 16)
  | jump (link : Bool) (off : BitVec 26)
  | sys (op : SysOp) (d a b : RegF)
  | amo (op : AmoOp) (rsv : BitVec 4) (ord : BitVec 2) (w : Bool) (d a b : RegF)
deriving DecidableEq, Repr

end Sys2Proof
end

