-- ==== Sys2Proof/Machine/Types.lean ====
section
/-! DEFINITION. The plain-data types that the commands carry and the state holds: host messages, index and map records,
epoch records, Rearn packets, event reports. Every field is named as the spec's table names it. -/

namespace Sys2Proof

/-- A core that executes Dyris code: 0–63 data-path cores, 64 supervisor pair 0, 65 supervisor pair 1 (R100, COREID). -/
abbrev CoreId := Fin 66

/-- A general register number g0–g31 (R99). -/
abbrev Rn := Fin 32

/-- A task slot, 0–511 (R75). -/
abbrev SlotNo := Fin 512

/-- DRIVE of an NVME job: shelf × 52 + bay, or 512 + n for index-tier drive n (R242). DESIGN CHOICE, unsafe: log 65. -/
abbrev DriveNo := Fin 536

/-- A submission queue entry, as far as the rules read it (R40, R61, Table 3.2). -/
structure Sqe where
  opc : Nat := 0
  /-- CDW0 [15:8], the fused and PSDT bits, and CDW0 [31:16], the host's command identifier. -/
  cdwFlags : Nat := 0
  cid : Nat := 0
  nsid : Nat := 0
  cdw10 : Nat := 0
  cdw11 : Nat := 0
  cdw12 : Nat := 0
  cdw13 : Nat := 0
  cdw14 : Nat := 0
  cdw15 : Nat := 0
  sglAddr : Nat := 0
  sglKey : Nat := 0
  sglLen : Nat := 0
  sglType : Nat := 0
deriving DecidableEq, Repr, Inhabited

/-- A completion queue entry: the NVMe status field of R115 and the two command-specific words. -/
structure Cqe where
  sct : Nat := 0
  sc : Nat := 0
  crd : Nat := 0
  more : Bool := false
  dnr : Bool := false
  dw0 : Nat := 0
  dw1 : Nat := 0
deriving DecidableEq, Repr, Inhabited

/-- Names a host command: controller, queue and CMDSEQ (Table 2.3). -/
structure CmdId where
  cntlid : Nat := 0
  qid : Nat := 0
  cmdseq : Nat := 0
deriving DecidableEq, Repr, Inhabited

/-- A host-binding message, or the NVMe/TCP command that lands in its place (Tables 2.3 and 2.4).
`bodyLen` is the number of bytes that really follow the header; `landed` says that the last data byte is in, `xferOk` that the data passed
its transport check (R79). -/
structure HbMsg where
  tcp : Bool := false
  ver : Nat := 1
  typ : Nat := 1
  id : CmdId := {}
  dual : Bool := true
  loc : Bool := false
  rdgen : Nat := 0
  dlen : Nat := 64
  bodyLen : Nat := 64
  session : Nat := 0
  sqe : Sqe := {}
  data : List Byte := []
  landed : Bool := true
  xferOk : Bool := true
deriving DecidableEq, Repr, Inhabited

/-- What a read of an index page finds (R177, R291): its CRC32C passes; it fails and the page decoded from the tier's parity passes; that fails
again. -/
inductive PageRead where
  | good | decoded | lost
deriving DecidableEq, Repr, Inhabited

/-- One chunk that the Array Runtime settles against the index (steps 1 to 6 of "Confirm on hit"). `hook` is what the
CHUNK_CLASS program returned in g1 and g2, when the hook is enabled (R92); `page` what the index page reads as, when one is read (step 4); `reply` the
partner's answer, HIT or not, when it is the server of the slice and was asked (R176). -/
structure ConfirmReq where
  fp : Digest := 0
  kd : Nat := 0xFFF
  chunkLen : Nat := 0
  nsid : Nat := 0
  lba : Nat := 0
  hook : Option (Nat × Nat) := none
  page : PageRead := .good
  reply : Option Bool := none
deriving DecidableEq, Repr, Inhabited

/-- The 64-byte dedup message body (Table 6.7). -/
structure DedupMsg where
  result : Nat := 0
  kd : Nat := 0
  from_ : Nat := 0
  claim : Bool := false
  crd : Nat := 0
  serial : Nat := 0
  fp : Digest := 0
  loc : Nat := 0
  chunkLen : Nat := 0
  frameLen : Nat := 0
  frame : List Byte := []
deriving DecidableEq, Repr, Inhabited

/-- Where a frame lies: shelf, stripe number and byte offset in the stripe's data (LOC of Table 6.5). -/
structure Loc where
  shelf : Nat := 0
  stripe : Nat := 0
  off : Nat := 0
deriving DecidableEq, Repr, Inhabited

/-- KIND of an index entry, with the LOC each kind holds (Table 6.5). -/
inductive EntryKind where
  | chunk (loc : Loc)
  | importFrom (array : Nat)
  | extRef (array : Nat)
  | dir (array : Nat)
deriving DecidableEq, Repr, Inhabited

/-- STATE of an index entry (Table 6.5, Table 6.6). -/
inductive EntryState where
  | pending | live | dead
deriving DecidableEq, Repr, Inhabited

/-- STR_SEL of an index entry: where the strainer keeps its tag (Table 6.5). -/
inductive StrSel where
  | b1 | b2 | stash | dropped
deriving DecidableEq, Repr, Inhabited

/-- An index entry (Table 6.5); `uid` tells two entries of one fingerprint apart, `shared` that a DOMAIN namespace stored its chunk, so that it may be
exported (R184): both the model's own. DEDUCED, unsafe: log 62. -/
structure IndexEntry where
  uid : Nat := 0
  fp : Digest := 0
  kd : Nat := 0
  kind : EntryKind := .chunk {}
  frameLen : Nat := 0
  chunkLen : Nat := 0
  refs : Nat := 0
  holds : Nat := 0
  state : EntryState := .pending
  strSel : StrSel := .b1
  sealed_ : Bool := false
  serial : Nat := 0
  lost : Bool := false
  shared : Bool := false
deriving DecidableEq, Repr, Inhabited

/-- A map record (R258). A record whose `fp` is `none` names a frame directly, as a namespace of scope NONE does (R184, R304). -/
structure MapRec where
  nsid : Nat := 0
  addr : Nat := 0
  len : Nat := 0
  coff : Nat := 0
  fp : Option Digest := none
  frame : Loc := {}
  kd : Nat := 0
  wseq : Nat := 0
deriving DecidableEq, Repr, Inhabited

/-- A retained record: a map record and the WSEQ of the change that replaced it (R302, R303). -/
structure RetRec where
  rec_ : MapRec := {}
  wseqEnd : Nat := 0
deriving DecidableEq, Repr, Inhabited

/-- A frame in a stripe's frame directory (Table 8.5, stripe table). -/
structure FrameDir where
  fp : Digest := 0
  kd : Nat := 0
  off : Nat := 0
  len : Nat := 0
  inIndex : Bool := true
deriving DecidableEq, Repr, Inhabited

/-- STATE of a pour journal entry (Table 8.4). -/
inductive JState where
  | steeping | pouring | landed | committed | discarded
deriving DecidableEq, Repr, Inhabited

/-- A pour journal entry (Table 8.4); MEMBERS lists drive and zone of Z[0] onward. From LANDED on the stripe's frame directory stands by it, and the zone
set whose frames it collects, for the commit that may have to be made again (R252). DESIGN CHOICE, unsafe: log 97. -/
structure JEntry where
  stripe : Nat := 0
  state : JState := .steeping
  shelf : Nat := 0
  k : Nat := 4
  group : Nat := 0
  cls : Nat := 0
  row : Nat := 0xFFFFFFFF
  dataBytes : Nat := 0
  frames : Nat := 0
  zoneSet : Nat := 0
  epoch : Nat := 0
  jseq : Nat := 0
  members : List (Nat × Nat) := []
  dir : List FrameDir := []
  gc : Option Nat := none
deriving DecidableEq, Repr, Inhabited

/-- A row of the stripe table with its frame directory (Table 8.5); the group and placement class of its frames, so that collection keeps them
apart (R244). DESIGN CHOICE, unsafe: log 61. -/
structure StripeRec where
  stripe : Nat := 0
  zoneSet : Nat := 0
  row : Nat := 0
  k : Nat := 4
  dataBytes : Nat := 0
  frames : List FrameDir := []
  group : Nat := 0
  cls : Nat := 0
deriving DecidableEq, Repr, Inhabited

/-- A snapshot catalogue entry (R299, Table 10.1). -/
structure Snapshot where
  snapid : Nat := 0
  point : Nat := 0
  created : Nat := 0
  scheduled : Bool := false
  replicaPoint : Bool := false
  inUse : Nat := 0
  deleting : Bool := false
  sourceSnapid : Nat := 0
  lastTarget : Nat := 0xFFFF
deriving DecidableEq, Repr, Inhabited

/-- A state of Table 9.2. -/
inductive MemberState where
  | spare | target | inService | failing | failed | absent
deriving DecidableEq, Repr, Inhabited

/-! ### Shelves (R263 to R268) -/

/-- The kinds of hold, R265's order. -/
inductive HoldKind where
  | rebuild | write | late | hostPin | stage | hostWake | retention | rep
deriving DecidableEq, Repr, Inhabited

/-- What the master and this head know of a shelf beside its registers: its holds, the operating second each ends at (`none` while it
has no end), the requests that wait, the heads' reports, retries of the last hour, when PG fell, the retention due time, whether a
retention wake runs, each head's scrub done in it, and the counts of Table 8.8. -/
structure Shelf where
  holds : List (HoldKind × Option Nat) := []
  drained : List Bool := [false, false]
  planned : List Bool := [false, false]
  retries : List Nat := []
  minOff : Bool := false
  due : Nat := 0
  retention : Bool := false
  scrubbed : List Bool := [false, false]
  fullSince : Bool := false
  lastWake : Nat := 0
  wakes : Nat := 0
  awakeSec : Nat := 0
  faults : Nat := 0
  /-- The uplinks lost unplanned, head A's and head B's (R261). -/
  lost : List Bool := [false, false]
deriving DecidableEq, Repr, Inhabited

/-- A rebuild of one member: the drive and its target (R278). -/
structure Rebuild where
  drive : Nat := 0
  target : Option Nat := none
deriving DecidableEq, Repr, Inhabited

/-- A target zone of a zone set being rebuilt (R281): the member it stands for, the target's drive and zone, its next row, the rows that no decode
gave, and whether its rows are to be verified before it goes on (R289). -/
structure RebTarget where
  member : Nat := 0
  drive : Nat := 0
  zone : Nat := 0
  next : Nat := 0
  holes : List Nat := []
  check : Bool := false
deriving DecidableEq, Repr, Inhabited

/-- A rebuild checkpoint (R288): the list, each zone set under way with its next row and target zones, and the rebuilt bytes; a target zone's expected
write pointer is 16 × its next row. -/
structure RebCkpt where
  list : List Nat := []
  pos : List (Nat × List RebTarget) := []
  bytes : Nat := 0
deriving DecidableEq, Repr, Inhabited

/-- One change of an index transaction (R249, INDEX records of Table 11.2). -/
inductive IndexChange where
  | mapPut (r : MapRec)
  | mapDel (nsid addr : Nat)
  | retPut (r : RetRec)
  | retDel (nsid addr wseq : Nat)
  | entryPut (e : IndexEntry)
  | entryDel (e : IndexEntry)
  | stripePut (r : StripeRec)
  | stripeDel (stripe : Nat)
  | snapPut (r : Snapshot)
  | snapDel (snapid : Nat)
  | lostPut (fp : Digest) (kd stripe : Nat)
  | lostDel (fp : Digest) (kd : Nat)
  | member (drive : Nat) (st : MemberState)
  | split (drive at_ : Nat)
  | zsPut (zs shelf k rows : Nat) (own isOpen : Bool) (members : List (Nat × Nat))
  | zsDel (zs : Nat)
  /-- What the master keeps of a shelf: its holds, due time and counts. -/
  | shelf (n : Nat) (x : Shelf)
  /-- A pour journal entry, in the transaction that commits its stripe (R249). -/
  | journal (j : JEntry)
  | sessPut (num snapid base chip dstNsid st reason ckpt : Nat)
  /-- The target that the master took for a member, none for no spare; its rebuild ended (R278, R282). -/
  | rebuild (drive : Nat) (target : Option Nat)
  | rebuildEnd (drive : Nat)
  /-- A head's rebuild checkpoint: `mine` at the head that writes it. -/
  | rebCkpt (mine : Bool) (c : RebCkpt)
deriving DecidableEq, Repr, Inhabited

/-- A shelf state (R264); the number of each is the encoding of SHF_STATE_n.STATE. -/
inductive ShelfState where
  | off | powering | linking | awake | draining | releasing | fault | absent
deriving DecidableEq, Repr, Inhabited

/-- An entry of REP_FPS (R312): `trim` for KIND 1. -/
structure RepEntry where
  addr : Nat := 0
  len : Nat := 0
  coff : Nat := 0
  fp : Digest := 0
  chunkLen : Nat := 0
  trim : Bool := false
deriving DecidableEq, Repr, Inhabited

/-- A replication message (Table 10.3). -/
structure RepMsg where
  result : Nat := 0
  session : Nat := 0
  chip : Nat := 0
  srcNsid : Nat := 0
  dstNsid : Nat := 0
  snapid : Nat := 0
  base : Nat := 0
  probe : Digest := 0
  resume : Nat := 0
  winKey : Nat := 0
  winGen : Nat := 0
  batch : Nat := 0
  entries : List RepEntry := []
  need : List Nat := []
  index : Nat := 0
  chunkLen : Nat := 0
  counter : Nat := 0
  frame : List Byte := []
  reason : Nat := 0
  fp : Digest := 0
  crd : Nat := 0
deriving DecidableEq, Repr, Inhabited

/-- A partner message (PMSG of Table 11.2): shelf and member decisions, handover requests, health exceptions and the
Retain agreement of R431; a snapshot's create passed to the owner of its group and the answer (R300); a replication
message passed to the owner of the namespace's group (R308). -/
inductive PartnerMsg where
  | shelfDecision (shelf : Nat) (st : ShelfState)
  | drainReport (shelf : Nat)
  | plannedReport (shelf : Nat)
  | memberReport (drive : Nat) (st : MemberState)
  | memberDecision (drive : Nat) (st : MemberState)
  /-- The sender has seen a drive removed (R544). -/
  | removalSeen (drive : Nat)
  | handoverRequest (groups : List Nat) (toB : Bool)
  | healthException
  | powerFail
  | wakeRequest (shelf : Nat)
  | scrubDone (shelf : Nat)
  | retainPropose (agree alarm : Nat)
  | agree (agree : Nat)
  | refuse (agree id : Nat)
  | replay (ids : List CmdId)
  | snapRequest (nsid req : Nat)
  | snapDone (req snapid : Nat) (ok : Bool)
  | rep (typ : Nat) (m : RepMsg)
  /-- The write shelf and the next one, as the master chose them (R262). -/
  | writeShelves (cur next : Option Nat)
  /-- The sender's uplink of a shelf went down unplanned, or came up again (R261). -/
  | uplink (shelf : Nat) (lost : Bool)
  /-- A wrapped key record of a new generation (R219, R222). -/
  | keyRecord (bytes : List Byte)
deriving DecidableEq, Repr, Inhabited

/-- A controller: its association, the features it was set (Table 2.6), its held event requests, attached namespaces, its grant
(R64: `grant` the GRANT_LIMIT sent, `landed` the write bytes taken in since association), and its properties. -/
structure Ctrl where
  live : Bool := false
  tcp : Bool := false
  session : Nat := 0
  nqs : Nat := 0
  /-- Temperature thresholds set, by THSEL and TMPSEL. -/
  temps : List (Nat × Nat) := []
  aerCfg : Nat := 0
  kato : Nat := 0
  acre : Bool := false
  hostId : Nat := 0
  aers : List CmdId := []
  attached : List Nat := []
  grant : Nat := 0
  landed : Nat := 0
  cc : Nat := 0
  rdy : Bool := false
  shst : Nat := 0
  /-- The node of the endpoint (R41), 0 over NVMe/TCP. -/
  node : Nat := 0
  /-- The association ends when the controller's reset does (Table 2.4). -/
  ending : Bool := false
deriving DecidableEq, Repr, Inhabited

/-- DEDUP_SCOPE of a namespace (R184). -/
inductive Scope where
  | none | array | domain
deriving DecidableEq, Repr

/-- A namespace (R54, R184, R308, R322): its LBAs, its group, its stripe width, compression class, dedup scope and key domain;
`replica` names the source pairing of a target namespace. -/
structure Namespace where
  lbas : Nat := 0
  group : Nat := 0
  width : Nat := 16
  cls : Nat := 2
  scope : Scope := .array
  kd : Nat := 0xFFF
  replica : Bool := false
deriving DecidableEq, Repr, Inhabited

/-- A record of an epoch (Table 11.2). -/
inductive ERec where
  | take (rd isWrite : Bool) (id : CmdId) (wseq : Nat) (sqe : Sqe)
  | cpl (rd reissue noShadowSend : Bool) (id : CmdId) (csn : Nat) (cqe : Cqe)
  | index (more : Bool) (changes : List IndexChange)
  | journal (j : JEntry)
  | strainer (bucket tag op key : Nat)
  | zone (drive zone : Nat) (taken : Bool)
  /-- A queue created or deleted: its SQ and CQ, the CQ of its SQ, and its NVMe/TCP connection, 0 for none. -/
  | queue (cntlid qid depth : Nat) (create sq cq : Bool) (cqid conn : Nat)
  /-- Controller and feature state, and a namespace's, of the QUEUE record. -/
  | ctrl (cntlid : Nat) (c : Ctrl)
  | ns (nsid : Nat) (n : Option Namespace)
  | pmsg (m : PartnerMsg)
  | data (id : CmdId) (bytes : List Byte)
  | handover (groups : List Nat) (toB : Bool)
  | release (wseqs : List Nat)
  /-- A record that a RECORD job places, of a type whose fields the manual does not lay out: its TYPE and its body. -/
  | raw (typ : Nat) (bytes : List Byte)
deriving DecidableEq, Repr, Inhabited

/-- A record with the slot that issued it and its group (R330, R331). -/
structure ERecord where
  slot : Nat := 0
  group : Option Nat := none
  body : ERec := .release []
deriving DecidableEq, Repr, Inhabited

/-- An EPOCH message (R328, Table 11.1). -/
structure EpochMsg where
  crcOk : Bool := true
  mpv : Nat := 4
  number : Nat := 0
  prev : Nat := 0
  ack : Nat := 0
  typesOk : Bool := true
  records : List ERecord := []
deriving DecidableEq, Repr, Inhabited

/-- An entry of a REPLY body (R333). -/
inductive ReplyEntry where
  | pending (epoch index : Nat)
  | held (epoch index : Nat)
  | receipt (id : CmdId) (landed overGrant noBuffer : Bool)
deriving DecidableEq, Repr, Inhabited

/-- A REPLY message (R328, R333). -/
structure ReplyMsg where
  crcOk : Bool := true
  resend : Bool := false
  number : Nat := 0
  ack : Nat := 0
  entries : List ReplyEntry := []
deriving DecidableEq, Repr, Inhabited

/-- The fields of a received health word that the part acts on (Table 11.7). DESIGN CHOICE, unsafe: log 83. -/
structure HealthWord where
  crcOk : Bool := true
  format : Nat := 1
  flags : Nat := 0
  version : Nat := 0x0402
  seq : Nat := 0
  retirement : Nat := 0
deriving DecidableEq, Repr, Inhabited

/-- One region item of a COPY message (R356 step 3). -/
inductive CopyMsg where
  | strainerBucket (bucket : Nat) (overflow : Bool) (tags : List Nat)
  | stash (key : Nat)
  /-- B of the strainer and the DROPPED count of its stash. -/
  | strainer (b dropped : Nat)
  | entry (e : IndexEntry)
  | map (r : MapRec)
  | journal (j : JEntry)
  | dirty (id : CmdId) (wseq : Nat) (sqe : Sqe) (data : List Byte)
  | zone (drive zone : Nat) (taken : Bool)
  | queue (cntlid qid depth nextA nextB : Nat)
  | keyRecord (kd : Nat) (bytes : List Byte)
  | awk (key : List Byte)
  /-- Any other change of an index transaction that the joiner missed. -/
  | change (c : IndexChange)
  | ctrl (cntlid : Nat) (c : Ctrl)
  | ns (nsid : Nat) (n : Option Namespace)
deriving DecidableEq, Repr, Inhabited

/-- A drive's answer to a command: `code` 0 for success, otherwise the code of R243; `lba` the offset that a zone append
was assigned; `data` the bytes read or reported. -/
structure DriveResp where
  code : Nat := 0
  lba : Nat := 0
  data : List Byte := []
deriving DecidableEq, Repr, Inhabited

/-- What the inverted twin of a cipher lane finds (R209): agreement, a mismatch whose retry matched, or a mismatch whose
retry at block `at` mismatched too. -/
inductive Twin where
  | agree
  | retried (n : Nat)
  | failed (block : Nat)
deriving DecidableEq, Repr, Inhabited

/-- What a head reports of a drive to the shelf master (R276, Table 9.1). -/
inductive MemberReport where
  | failing | failed | removedByBoth
deriving DecidableEq, Repr, Inhabited

/-- What an inserted drive offers, for the checks of R238. -/
structure DriveInfo where
  dualPort : Bool := true
  zns : Bool := true
  lbaBytes : Nat := 4096
  metadata : Nat := 0
  appendLimit : Nat := 65536
  maxOpen : Nat := 16
  maxActive : Nat := 16
  zones : Nat := 0
  zoneCap : Nat := 0
  zoneSize : Nat := 0
  capacity : Nat := 0
  appendMBs : Nat := 2000
  volatileCache : Bool := false
deriving DecidableEq, Repr, Inhabited

/-- What the scrub of one row finds (R294, R295, R296): `bad` lists the strip positions that were unreadable, that gave a
corrupt frame, or (P and Q) that disagree; `slow` that a strip read exceeded SCRUB_SLOW_US; `last` that the row is the last of this head's
scrub of the shelf; `hook` what the RETENTION program returns, when the hook is called. DESIGN CHOICE, unsafe: log 83. -/
structure ScrubResult where
  unreadable : List Nat := []
  corrupt : List Nat := []
  mismatch : Bool := false
  slow : Bool := false
  last : Bool := false
  hook : Option Nat := none
deriving DecidableEq, Repr, Inhabited

/-- A Rearn packet (Table 12.2): `crcOk` that the UDP checksum and HCRC pass, `reservedOk` that reserved bytes are 0,
`addr` the source address it came from. -/
structure RrnPkt where
  crcOk : Bool := true
  reservedOk : Bool := true
  addr : Nat := 0
  ver : Nat := 2
  op : Nat := 0
  retx : Bool := false
  more : Bool := false
  path : Nat := 0
  retry : Nat := 0
  pkt : Nat := 3
  src : Nat := 0
  dst : Nat := 0
  msgId : Nat := 1
  totalLen : Nat := 0
  offset : Nat := 0
  window : Nat := 0
  key : Nat := 0
  gen : Nat := 0
  code : Nat := 0
  raddr : Nat := 0
  lease : Nat := 0
  arg : Nat := 0
  value : Nat := 0
  ttl : Nat := 0
  payload : List Byte := []
deriving DecidableEq, Repr, Inhabited

/-- The payload of HELLO and HELLO_REPLY (Table 12.4). -/
structure HelloBody where
  node : Nat := 0
  verMin : Nat := 1
  verMax : Nat := 2
  maxMsg : Nat := 2101248
  pkt : Nat := 3
  withdraw : Bool := false
  conflict : Bool := false
  domain : Nat := 0
  array : Nat := 0
  identity : Digest := 0
deriving DecidableEq, Repr, Inhabited

/-- A WIN_ARM or WIN_DISARM request (Table 12.8): `base`, `len` and `key` 0 keep what the window holds. -/
structure WinReq where
  window : Fin 65536 := 0
  base : Nat := 0
  len : Nat := 0
  key : Nat := 0
deriving DecidableEq, Repr, Inhabited

/-- An event report on its way to the intake (R400, R408); `payload` is padded to 24 bytes. -/
structure EvReport where
  code : Nat := 0
  source : Nat := 0
  inst : Nat := 0
  sev : Nat := 0
  payload : List Byte := []
  fw : Bool := false
deriving DecidableEq, Repr, Inhabited

/-- A key transport message between arrays (R452). `ok` is what the Array Runtime's verifier finds of the certificates
and the report in KEY_CERTS (R449, R451). -/
structure KeyMsg where
  result : Nat := 0
  chip : Nat := 0
  purpose : Nat := 0
  session : Nat := 0
  nonce : List Byte := []
  peerKey : List Byte := []
  ok : Bool := true
  svn : Nat := 0
  ciphertext : List Byte := []
  payload : List Byte := []
deriving DecidableEq, Repr, Inhabited

/-- The settings that the configuration store holds (Table 9.3, R311, R322, R456): the home heads of groups are those that differ from the default. -/
structure Settings where
  rebuildMbS : Nat := 1000
  rebuildCritMbS : Nat := 2000
  rebuildMinMbS : Nat := 250
  rebuildBufs : Nat := 68
  timeoutFails : Nat := 2
  scrubMbS : Nat := 48000
  scrubSlowUs : Nat := 5000
  rewriteAgeD : Nat := 730
  repMbS : Nat := 4000
  homes : List (Nat × Nat) := []
  policySvnMin : Nat := 0
deriving DecidableEq, Repr, Inhabited

/-- What the domain configuration and the configuration store hold when the Array Runtime starts, where it differs from what the state holds
already: the array's number, changed places of HOME and the DIR entries that come with them (R185), the ING_CHUNK_CFG value of the store and of the
domain (R162), the wrapped key records (R166, R222), the chips of the domain's other arrays (R219), the arrays that the domain removed and whether this
one leaves it (R191), the width of the default placement class (R173), and the settings. DESIGN CHOICE, unsafe: log 90. -/
structure DomainCfg where
  array : Option Nat := none
  home : List (Nat × Nat) := []
  dirs : List (Digest × Nat × Nat) := []
  chunkCfg : Option Nat := none
  domainCfg : Option Nat := none
  records : List (List Byte) := []
  chips : Option (List Nat) := none
  removed : List Nat := []
  leave : Bool := false
  /-- Every copy of the pour journal is lost (R252). -/
  journalLost : Bool := false
  width : Option Nat := none
  settings : Option Settings := none
deriving DecidableEq, Repr, Inhabited

/-- What the board gives the part at power-on: the straps and the pins it samples (R511), the broken supply rules it
met (R475), and what the fuses and the boot flash read as. -/
structure PowerOn where
  headSlot : Bool := false
  bootSrc : Fin 4 := 0
  testMode : Bool := false
  seqErr : Bool := false
  earlyPor : Bool := false
  ptnPresent : Bool := false
  ptnPwrgood : Bool := false
  fenceIn : Bool := false
  vaultPresent : Bool := true
  stage1Ok : Bool := true
  runtimeOk : Bool := true
  vaultValid : Bool := false
  /-- The configuration as the Array Runtime finds it; `none` as it stood. -/
  domain : Option DomainCfg := none
deriving DecidableEq, Repr, Inhabited

end Sys2Proof
end

