-- ==== Sys2Proof/Syntax.lean ====
section
/-! DEFINITION. The commands of the block: one constructor for each row of spec/opcode_table.json, in the table's order.
`c` is the core that executes a Dyris instruction and `d`, `a`, `b` the register fields of its word (R111); `who` is the
core that writes a register; the other operands are what the event or message brings from outside the part. -/

namespace Sys2Proof

/-- A command: a Dyris instruction, a register write, an engine step, a host command, a message or an event. -/
inductive Instr where
  /-- REGISTER_WRITE (R11): A write to a register field that has no row of its own stores or ignores the value according to its access class. -/
  | registerWrite (who : CoreId) (addr : Nat) (v : Word)
  /-- MESH_STALL (R16): A stall at an island crossing that lasts beyond 1 ms raises a Fault event and sets the island's bit in CHIP_ISLAND_ERR. -/
  | meshStall (island : Fin 19)
  /-- ADD (R113): ADD writes ga + gb to gd. -/
  | add (c : CoreId) (d a b : Rn)
  /-- SUB (R113): SUB writes ga − gb to gd. -/
  | sub (c : CoreId) (d a b : Rn)
  /-- AND (R113): AND writes the bitwise AND of ga and gb to gd. -/
  | and (c : CoreId) (d a b : Rn)
  /-- OR (R113): OR writes the bitwise OR of ga and gb to gd. -/
  | or (c : CoreId) (d a b : Rn)
  /-- XOR (R113): XOR writes the bitwise XOR of ga and gb to gd. -/
  | xor (c : CoreId) (d a b : Rn)
  /-- SLL (R113): SLL shifts ga left by gb[5:0]. -/
  | sll (c : CoreId) (d a b : Rn)
  /-- SRL (R113): SRL shifts ga right by gb[5:0] with zero fill. -/
  | srl (c : CoreId) (d a b : Rn)
  /-- SRA (R113): SRA shifts ga right by gb[5:0] with sign fill. -/
  | sra (c : CoreId) (d a b : Rn)
  /-- SLT (R113): SLT writes 1 when ga is less than gb as signed values, else 0. -/
  | slt (c : CoreId) (d a b : Rn)
  /-- SLTU (R113): SLTU writes 1 when ga is less than gb as unsigned values, else 0. -/
  | sltu (c : CoreId) (d a b : Rn)
  /-- MUL (R113): MUL writes the low 64 bits of ga × gb. -/
  | mul (c : CoreId) (d a b : Rn)
  /-- MULHU (R113): MULHU writes the high 64 bits of the unsigned product ga × gb. -/
  | mulhu (c : CoreId) (d a b : Rn)
  /-- DIV (R113): DIV writes the signed quotient, rounded toward zero, with defined results for division by zero and overflow. -/
  | div (c : CoreId) (d a b : Rn)
  /-- DIVU (R113): DIVU writes the unsigned quotient, all ones for division by zero. -/
  | divu (c : CoreId) (d a b : Rn)
  /-- REM (R113): REM writes the signed remainder, or ga when gb is zero. -/
  | rem (c : CoreId) (d a b : Rn)
  /-- REMU (R113): REMU writes the unsigned remainder, or ga when gb is zero. -/
  | remu (c : CoreId) (d a b : Rn)
  /-- MIN (R113): MIN writes the signed smaller of ga and gb. -/
  | min (c : CoreId) (d a b : Rn)
  /-- MAX (R113): MAX writes the signed larger of ga and gb. -/
  | max (c : CoreId) (d a b : Rn)
  /-- MINU (R113): MINU writes the unsigned smaller of ga and gb. -/
  | minu (c : CoreId) (d a b : Rn)
  /-- MAXU (R113): MAXU writes the unsigned larger of ga and gb. -/
  | maxu (c : CoreId) (d a b : Rn)
  /-- CLZ (R113): CLZ writes the count of leading zeros of ga. -/
  | clz (c : CoreId) (d a b : Rn)
  /-- CTZ (R113): CTZ writes the count of trailing zeros of ga. -/
  | ctz (c : CoreId) (d a b : Rn)
  /-- POPC (R113): POPC writes the count of set bits of ga. -/
  | popc (c : CoreId) (d a b : Rn)
  /-- BSWAP (R113): BSWAP writes ga with its bytes reversed. -/
  | bswap (c : CoreId) (d a b : Rn)
  /-- ROTR (R113): ROTR writes ga rotated right by gb[5:0]. -/
  | rotr (c : CoreId) (d a b : Rn)
  /-- ANDN (R113): ANDN writes ga AND NOT gb. -/
  | andn (c : CoreId) (d a b : Rn)
  /-- ADDI (R113): ADDI adds the sign-extended immediate to ga. -/
  | addi (c : CoreId) (d a : Rn) (imm : BitVec 16)
  /-- ANDI (R113): ANDI ANDs ga with the zero-extended immediate. -/
  | andi (c : CoreId) (d a : Rn) (imm : BitVec 16)
  /-- ORI (R113): ORI ORs ga with the zero-extended immediate. -/
  | ori (c : CoreId) (d a : Rn) (imm : BitVec 16)
  /-- XORI (R113): XORI XORs ga with the zero-extended immediate. -/
  | xori (c : CoreId) (d a : Rn) (imm : BitVec 16)
  /-- CLTI (R113): CLTI writes 1 when ga is less than the sign-extended immediate. -/
  | clti (c : CoreId) (d a : Rn) (imm : BitVec 16)
  /-- CLTIU (R113): CLTIU writes 1 when ga is less than the zero-extended immediate, unsigned. -/
  | cltiu (c : CoreId) (d a : Rn) (imm : BitVec 16)
  /-- SLLI (R113): SLLI shifts ga left by imm[5:0]. -/
  | slli (c : CoreId) (d a : Rn) (imm : BitVec 16)
  /-- SRLI (R113): SRLI shifts ga right by imm[5:0] with zero fill. -/
  | srli (c : CoreId) (d a : Rn) (imm : BitVec 16)
  /-- SRAI (R113): SRAI shifts ga right by imm[5:0] with sign fill. -/
  | srai (c : CoreId) (d a : Rn) (imm : BitVec 16)
  /-- LMI (R113): LMI replaces bits 31:16 of ga with the immediate and clears bits 63:32. -/
  | lmi (c : CoreId) (d a : Rn) (imm : BitVec 16)
  /-- LHI (R113): LHI replaces bits 47:32 of ga with the immediate and clears bits 63:48. -/
  | lhi (c : CoreId) (d a : Rn) (imm : BitVec 16)
  /-- LXI (R113): LXI replaces bits 63:48 of ga with the immediate. -/
  | lxi (c : CoreId) (d a : Rn) (imm : BitVec 16)
  /-- LB (R113): LB loads a sign-extended byte. -/
  | lb (c : CoreId) (d a : Rn) (imm : BitVec 16)
  /-- LBU (R113): LBU loads a zero-extended byte. -/
  | lbu (c : CoreId) (d a : Rn) (imm : BitVec 16)
  /-- LH (R113): LH loads a sign-extended 16-bit value. -/
  | lh (c : CoreId) (d a : Rn) (imm : BitVec 16)
  /-- LHU (R113): LHU loads a zero-extended 16-bit value. -/
  | lhu (c : CoreId) (d a : Rn) (imm : BitVec 16)
  /-- LW (R113): LW loads a sign-extended 32-bit value. -/
  | lw (c : CoreId) (d a : Rn) (imm : BitVec 16)
  /-- LWU (R113): LWU loads a zero-extended 32-bit value. -/
  | lwu (c : CoreId) (d a : Rn) (imm : BitVec 16)
  /-- LD (R105): LD loads 64 bits from memory or from an aligned control-space register. -/
  | ld (c : CoreId) (d a : Rn) (imm : BitVec 16)
  /-- SB (R113): SB stores the low byte of gd. -/
  | sb (c : CoreId) (d a : Rn) (imm : BitVec 16)
  /-- SH (R113): SH stores the low 2 bytes of gd. -/
  | sh (c : CoreId) (d a : Rn) (imm : BitVec 16)
  /-- SW (R113): SW stores the low 4 bytes of gd. -/
  | sw (c : CoreId) (d a : Rn) (imm : BitVec 16)
  /-- SD (R105): SD stores 8 bytes to memory or to an aligned control-space register. -/
  | sd (c : CoreId) (d a : Rn) (imm : BitVec 16)
  /-- BEQ (R112): BEQ branches when ga equals gb. -/
  | beq (c : CoreId) (a b : Rn) (off : BitVec 16)
  /-- BNE (R112): BNE branches when ga differs from gb. -/
  | bne (c : CoreId) (a b : Rn) (off : BitVec 16)
  /-- BLT (R112): BLT branches on a signed less-than. -/
  | blt (c : CoreId) (a b : Rn) (off : BitVec 16)
  /-- BGE (R112): BGE branches on a signed greater-or-equal. -/
  | bge (c : CoreId) (a b : Rn) (off : BitVec 16)
  /-- BLTU (R112): BLTU branches on an unsigned less-than. -/
  | bltu (c : CoreId) (a b : Rn) (off : BitVec 16)
  /-- BGEU (R112): BGEU branches on an unsigned greater-or-equal. -/
  | bgeu (c : CoreId) (a b : Rn) (off : BitVec 16)
  /-- JALR (R112): JALR writes PC + 4 to gd and jumps to ga + imm. -/
  | jalr (c : CoreId) (d a : Rn) (imm : BitVec 16)
  /-- J (R112): J jumps by the sign-extended 26-bit offset. -/
  | j (c : CoreId) (off : BitVec 26)
  /-- JAL (R112): JAL writes PC + 4 to g31 and jumps. -/
  | jal (c : CoreId) (off : BitVec 26)
  /-- SYNC (R129): SYNC orders all earlier accesses before all later ones. -/
  | sync (c : CoreId) (d a b : Rn)
  /-- SYNC_W (R129): SYNC.W orders earlier stores before later stores. -/
  | syncW (c : CoreId) (d a b : Rn)
  /-- SYNC_R (R129): SYNC.R orders earlier loads before all later accesses. -/
  | syncR (c : CoreId) (d a b : Rn)
  /-- SYNC_I (R120): SYNC.I discards the core's instruction cache after earlier stores are performed. -/
  | syncI (c : CoreId) (d a b : Rn)
  /-- MFS (R100): MFS reads a special register into gd, subject to the level rules. -/
  | mfs (c : CoreId) (d a b : Rn)
  /-- MTS (R100): MTS writes ga to a special register, subject to the level rules. -/
  | mts (c : CoreId) (d a b : Rn)
  /-- TGET (R75): TGET reads a task register of the running slot. -/
  | tget (c : CoreId) (d a b : Rn)
  /-- TDONE (R115): TDONE posts the task's completion, detaches its held tokens and frees the slot. -/
  | tdone (c : CoreId) (d a b : Rn)
  /-- WTOK (R117): WTOK returns a token's status or puts the slot in Waiting until the job ends. -/
  | wtok (c : CoreId) (d a b : Rn)
  /-- JOB (R121): JOB copies up to 8 chained descriptors, checks them, chooses a unit and posts the chain, returning a token. -/
  | job (c : CoreId) (d a b : Rn)
  /-- BGET (R116): BGET takes a buffer from the requested caddy or a larger one of the same set. -/
  | bget (c : CoreId) (d a b : Rn)
  /-- BREF (R146): BREF checks a handle and adds 1 to its buffer's reference count. -/
  | bref (c : CoreId) (d a b : Rn)
  /-- BDROP (R144): BDROP checks a handle, subtracts 1 from its count and frees the buffer at 0. -/
  | bdrop (c : CoreId) (d a b : Rn)
  /-- SEND (R127): SEND copies a Rearn request descriptor and starts the operation, returning a token. -/
  | send (c : CoreId) (d a b : Rn)
  /-- WAITP (R118): WAITP presents the PWR_MODE request, runs the refuser checks and enters or refuses the state. -/
  | waitp (c : CoreId) (d a b : Rn)
  /-- HCALL (R119): HCALL enters the hook sandbox at the target and loads the hook budget. -/
  | hcall (c : CoreId) (d a b : Rn)
  /-- HRET (R119): HRET returns from a hook to U at HEPC. -/
  | hret (c : CoreId) (d a b : Rn)
  /-- ERET (R103): ERET leaves S for the saved level at EPC and restores IE. -/
  | eret (c : CoreId) (d a b : Rn)
  /-- SVC (R119): SVC enters S with cause SVC. -/
  | svc (c : CoreId) (d a b : Rn)
  /-- BRK (R106): BRK raises the BRK exception. -/
  | brk (c : CoreId) (d a b : Rn)
  /-- AMO_SWAP (R114): AMO SWAP writes gb indivisibly and returns the old value. -/
  | amoSwap (c : CoreId) (rsv : BitVec 4) (ord : BitVec 2) (w : Bool) (d a b : Rn)
  /-- AMO_ADD (R114): AMO ADD adds gb indivisibly and returns the old value. -/
  | amoAdd (c : CoreId) (rsv : BitVec 4) (ord : BitVec 2) (w : Bool) (d a b : Rn)
  /-- AMO_AND (R114): AMO AND ANDs gb indivisibly and returns the old value. -/
  | amoAnd (c : CoreId) (rsv : BitVec 4) (ord : BitVec 2) (w : Bool) (d a b : Rn)
  /-- AMO_OR (R114): AMO OR ORs gb indivisibly and returns the old value. -/
  | amoOr (c : CoreId) (rsv : BitVec 4) (ord : BitVec 2) (w : Bool) (d a b : Rn)
  /-- AMO_XOR (R114): AMO XOR XORs gb indivisibly and returns the old value. -/
  | amoXor (c : CoreId) (rsv : BitVec 4) (ord : BitVec 2) (w : Bool) (d a b : Rn)
  /-- AMO_MIN (R114): AMO MIN stores the signed minimum indivisibly and returns the old value. -/
  | amoMin (c : CoreId) (rsv : BitVec 4) (ord : BitVec 2) (w : Bool) (d a b : Rn)
  /-- AMO_MAX (R114): AMO MAX stores the signed maximum indivisibly and returns the old value. -/
  | amoMax (c : CoreId) (rsv : BitVec 4) (ord : BitVec 2) (w : Bool) (d a b : Rn)
  /-- AMO_MINU (R114): AMO MINU stores the unsigned minimum indivisibly and returns the old value. -/
  | amoMinu (c : CoreId) (rsv : BitVec 4) (ord : BitVec 2) (w : Bool) (d a b : Rn)
  /-- AMO_MAXU (R114): AMO MAXU stores the unsigned maximum indivisibly and returns the old value. -/
  | amoMaxu (c : CoreId) (rsv : BitVec 4) (ord : BitVec 2) (w : Bool) (d a b : Rn)
  /-- AMO_CAS (R114): AMO CAS writes gb only when the old value equals gd and returns the old value. -/
  | amoCas (c : CoreId) (rsv : BitVec 4) (ord : BitVec 2) (w : Bool) (d a b : Rn)
  /-- IRQ (R103): An enabled pending IRQ line is taken between instructions on a supervisor pair. -/
  | irq (c : CoreId) (line : Fin 16)
  /-- BUDGET (R94): When the hook budget counter reaches 0 the hook is abandoned with a budget exception to U. -/
  | budget (c : CoreId)
  /-- EN (R132): Setting DPC_CORE_CTL_n.EN releases the core from reset at its START address. -/
  | en (who : CoreId) (n : Fin 64) (v : Word)
  /-- HALT (R132): Setting HALT stops the core at the next instruction boundary. -/
  | halt (who : CoreId) (n : Fin 64) (v : Word)
  /-- STEP (R132): Writing STEP with HALT set executes one instruction. -/
  | step (who : CoreId) (n : Fin 64) (v : Word)
  /-- RETIRE (R132): Writing RETIRE retires the core as the fault counters do. -/
  | retire (who : CoreId) (n : Fin 64) (v : Word)
  /-- DISPATCH_PLACE (R82): The dispatcher places a pending task from its intake queue into a free slot. -/
  | dispatchPlace
  /-- TASK_WATCHDOG (R89): A task not done within LIMIT_MS of its placement sets WATCHDOG and is handled by the Array Runtime. -/
  | taskWatchdog (slot : SlotNo)
  /-- DRAIN (R90): Setting TSK_CTL.DRAIN stops placement from Q1–Q3 and marks every busy slot. -/
  | drain (who : CoreId)
  /-- DRAIN_TIMEOUT (R90): After 100 ms of drain, remaining host commands are handed to the partner and the slots released. -/
  | drainTimeout
  /-- CMD (R40): A host-binding CMD header lands and the command is routed to a task or the shadow ring. -/
  | cmd (m : HbMsg)
  /-- LANDING_TOKEN (R79): The landing token completes when the last write data byte is in network SRAM. -/
  | landingToken (cntlid qid cmdseq : Nat) (ok : Bool)
  /-- CONTROLLER_RESET (R68): Controller reset resets every I/O queue of the controller, then its admin queue. -/
  | controllerReset (cntlid : Nat)
  /-- SHUTDOWN (R68): Shutdown reaches CSTS.SHST = 10b within 100 ms. -/
  | shutdown (cntlid : Nat)
  /-- DISASSOCIATE (R40): A CTRL DISASSOCIATE ends the endpoint's association. -/
  | disassociate (cntlid : Nat)
  /-- FLUSH (R67): Flush completes when every earlier write on the queue has completed. -/
  | flush (slot : SlotNo)
  /-- WRITE (R57): A Write of up to 2 MiB is taken in, mirrored and acknowledged atomically. -/
  | write (slot : SlotNo)
  /-- READ (R21): A Read returns the most recent acknowledged data or completes Namespace Not Ready for a sleeping shelf. -/
  | read (slot : SlotNo)
  /-- WRITE_ZEROES (R57): Write Zeroes of up to 2 MiB is handled atomically like a write. -/
  | writeZeroes (slot : SlotNo)
  /-- DATASET_MANAGEMENT (R58): Dataset Management deallocates ranges in atomic steps of up to 512 LBAs. -/
  | datasetManagement (slot : SlotNo)
  /-- GET_LOG_PAGE (R56): Get Log Page returns one of the supported log pages. -/
  | getLogPage (slot : SlotNo)
  /-- IDENTIFY (R55): Identify returns the controller and namespace data. -/
  | identify (slot : SlotNo)
  /-- ABORT (R68): Abort completes successfully with command not aborted. -/
  | abort (slot : SlotNo)
  /-- SET_FEATURES (R54): Set Features sets a supported feature. -/
  | setFeatures (slot : SlotNo)
  /-- GET_FEATURES (R54): Get Features returns a supported feature. -/
  | getFeatures (slot : SlotNo)
  /-- ASYNCHRONOUS_EVENT_REQUEST (R53): An Asynchronous Event Request is held, up to 8 per controller. -/
  | asynchronousEventRequest (slot : SlotNo)
  /-- NAMESPACE_MANAGEMENT (R322): Namespace Management creates a namespace and assigns it to an ownership group. -/
  | namespaceManagement (slot : SlotNo)
  /-- NAMESPACE_ATTACHMENT (R54): Namespace Attachment attaches or detaches a namespace. -/
  | namespaceAttachment (slot : SlotNo)
  /-- KEEP_ALIVE (R54): Keep Alive is accepted. -/
  | keepAlive (slot : SlotNo)
  /-- FIRMWARE_IMAGE_DOWNLOAD (R461): Firmware Image Download places image data in the head's staging buffer. -/
  | firmwareImageDownload (slot : SlotNo)
  /-- COMMIT_ACTION_000 (R461): Commit action 000b verifies the staged image and writes it to a slot. -/
  | commitAction000 (slot : SlotNo)
  /-- COMMIT_ACTION_001 (R461): Commit action 001b writes the staged image and sets it as trial from the next reset. -/
  | commitAction001 (slot : SlotNo)
  /-- COMMIT_ACTION_010 (R461): Commit action 010b verifies the slot image and sets it as trial. -/
  | commitAction010 (slot : SlotNo)
  /-- COMMIT_ACTION_011 (R69): Commit action 011b activates a Stage 1 or Runtime image by handover, restart and rejoin, or loads a Policy. -/
  | commitAction011 (slot : SlotNo)
  /-- DELETE_IO_SQ (R68): Delete I/O SQ resets the queue and completes with the CSN fences. -/
  | deleteIoSq (slot : SlotNo)
  /-- CREATE_IO_SQ (R53): Create I/O SQ creates a submission queue within the limits. -/
  | createIoSq (slot : SlotNo)
  /-- DELETE_IO_CQ (R53): Delete I/O CQ deletes a completion queue. -/
  | deleteIoCq (slot : SlotNo)
  /-- CREATE_IO_CQ (R53): Create I/O CQ creates a completion queue within the limits. -/
  | createIoCq (slot : SlotNo)
  /-- CONNECT (R53): Fabrics Connect creates a queue on NVMe/TCP or fails beyond the limits. -/
  | connect (cntlid qid sqsize conn : Nat)
  /-- PROPERTY_GET (R54): Property Get returns a controller property. -/
  | propertyGet (slot : SlotNo)
  /-- PROPERTY_SET (R54): Property Set writes a controller property, NSSR having no effect. -/
  | propertySet (slot : SlotNo)
  /-- DISCONNECT (R68): Fabrics Disconnect resets the queue as Delete I/O SQ does. -/
  | disconnect (slot : SlotNo)
  /-- SNAPSHOT_CREATE (R300): Snapshot create gives a snapshot a WSEQ point and writes its catalogue entry. -/
  | snapshotCreate (slot : SlotNo)
  /-- SNAPSHOT_DELETE (R305): Snapshot delete marks the entry DELETING and completes when durable. -/
  | snapshotDelete (slot : SlotNo)
  /-- STAGE (R60): Stage requests shelf wakes, prefetches ranges and holds shelves awake for 600 s. -/
  | stage (slot : SlotNo)
  /-- STAGE_TIMEOUT (R62): A Stage with WAIT not readable within 120 s completes with STAGE_TIMEOUT. -/
  | stageTimeout (id : CmdId)
  /-- STAGE_HOLD_EXPIRY (R60): 600 s after the last Stage naming a shelf its Stage hold ends. -/
  | stageHoldExpiry (shelf : Fin 8)
  /-- REPLICATE_START (R310): Replicate start opens a replication session with the target. -/
  | replicateStart (slot : SlotNo)
  /-- REPLICATE_PAUSE (R310): Replicate pause stops new batches of a session. -/
  | replicatePause (slot : SlotNo)
  /-- REPLICATE_RESUME (R310): Replicate resume reopens a paused session at its resume address. -/
  | replicateResume (slot : SlotNo)
  /-- REPLICATE_CANCEL (R310): Replicate cancel closes a session with no resume. -/
  | replicateCancel (slot : SlotNo)
  /-- REPLICATE_STATUS (R321): Replicate status returns the 4 KiB status record. -/
  | replicateStatus (slot : SlotNo)
  /-- SHELF_CONTROL_REPORT (R266): Shelf Control report returns the shelf state. -/
  | shelfControlReport (slot : SlotNo)
  /-- SHELF_CONTROL_WAKE (R266): Shelf Control wake queues a priority-4 hold on the shelf. -/
  | shelfControlWake (slot : SlotNo)
  /-- SHELF_CONTROL_RELEASE (R266): Shelf Control release removes host wake and Stage holds. -/
  | shelfControlRelease (slot : SlotNo)
  /-- SHELF_CONTROL_PIN (R266): Shelf Control pin places a host pin. -/
  | shelfControlPin (slot : SlotNo)
  /-- SHELF_CONTROL_UNPIN (R266): Shelf Control unpin removes the host pin. -/
  | shelfControlUnpin (slot : SlotNo)
  /-- ATTESTATION_REPORT (R449): Attestation Report builds the selected report or certificate for log page C5h. -/
  | attestationReport (slot : SlotNo)
  /-- EVENT_RECORDER_READ (R413): Event Recorder Read returns snapshots of a range of records. -/
  | eventRecorderRead (slot : SlotNo)
  /-- OWNERSHIP_HANDOVER (R351): Ownership Handover moves a range of groups to the named head by planned handover. -/
  | ownershipHandover (slot : SlotNo)
  /-- AN_RESTART (R33): With no common PHY type the port restarts negotiation every 1 s. -/
  | anRestart (p : Fin 16)
  /-- NET_LINK_CHANGE (R33): An Ethernet port's link comes up after negotiation and training, or goes down. -/
  | netLinkChange (p : Fin 16) (up : Bool) (abil : BitVec 32) (rsFec : Bool)
  /-- PAUSE_FRAME (R35): A received PFC or PAUSE frame is discarded without action. -/
  | pauseFrame (p : Fin 16)
  /-- FRAME_DROP (R36): An oversize frame or one whose VLAN tagging mismatches NET_VLAN_CFG is dropped at the MAC. -/
  | frameDrop (p : Fin 16) (len : Nat) (tag : Option Nat)
  /-- S_EN (R136): Writing S_EN = 1 checks and enables set S. -/
  | sEn (who : CoreId)
  /-- D_EN (R138): Writing D_EN = 1 checks and enables set D, or starts its rebuild when D_KEEP is set. -/
  | dEn (who : CoreId)
  /-- D_REBUILD_DONE (R138): The scan of the set D count table ends and D_REBUILDING clears. -/
  | dRebuildDone
  /-- LW_RESET (R157): Writing LW_RESET loads LOW_WATER with FREE. -/
  | lwReset (who : CoreId) (set : Fin 2) (cls : Fin 5)
  /-- BUFFER_RETRY (R545): Work held for want of a buffer is tried again when a buffer returns or at least every 10 µs. -/
  | bufferRetry (d : Bool)
  /-- COPY (R150): A MOVE COPY job copies IN_LEN bytes from IN to OUT. -/
  | copy (u : Fin 4)
  /-- FILL (R150): A MOVE FILL job writes OUT_LIMIT bytes of the fill byte. -/
  | fill (u : Fin 4)
  /-- COMPARE (R150): A MOVE COMPARE job finds the first difference between two buffers. -/
  | compare (u : Fin 4)
  /-- CUT (R160): A CHUNK CUT job cuts its input into content-defined chunks and writes the chunk list. -/
  | cut (u : Fin 4)
  /-- FP_LIST (R167): An FP_LIST job writes the salted SHA3-256 fingerprint of every chunk in a list. -/
  | fpList (u : Fin 8)
  /-- CHECK (R167): A SHA3 CHECK job compares a digest with an expected fingerprint. -/
  | check (u : Fin 8)
  /-- HASH (R167): A SHA3 HASH job writes the fingerprint of its input. -/
  | hash (u : Fin 8)
  /-- ING_CHUNK_CFG_WRITE (R194): A write to ING_CHUNK_CFG is accepted, refused or counted under its parameter and LOCK rules. -/
  | ingChunkCfgWrite (who : CoreId) (v : Word)
  /-- ING_KAT (R192): Every PERIOD_MS each chunker and SHA3 lane runs its known-answer test between jobs; `out` is what
  the unit produced, `none` the expected result. -/
  | ingKat (u : Fin 12) (out : Option (List Byte))
  /-- RUN_NOW (R195): Writing ING_KAT_CTL.RUN_NOW tests every chunker and lane in service at once. -/
  | runNow (who : CoreId) (failing : List Nat)
  /-- CONFIRM (R182): The slice server settles a fingerprint against the strainer and index, replying HIT or NEW. -/
  | confirm (q : ConfirmReq)
  /-- CONFIRM_RETRY (R180): A confirm that found HOLDS at 0xFFFF tries again after 10 µs. -/
  | confirmRetry (q : ConfirmReq)
  /-- DIR_PROBE (R187): The home array consults its directory for a fingerprint and replies. -/
  | dirProbe (m : DedupMsg)
  /-- DIR_PROBE_TIMEOUT (R187): With no DIR_REPLY after three sends the chunk is stored with no directory entry. -/
  | dirProbeTimeout (fp : Digest) (kd : Nat)
  /-- DIR_REPLY (R187): A DIR_REPLY makes the array the exporter or starts an import. -/
  | dirReply (m : DedupMsg)
  /-- DIR_DROP (R179): A DIR_DROP removes the home array's directory entry. -/
  | dirDrop (m : DedupMsg)
  /-- IMPORT (R187): The exporter serves an IMPORT by adding a reference and an EXT_REF entry, or replies GONE. -/
  | import_ (m : DedupMsg)
  /-- IMPORT_REPLY (R187): An IMPORT_REPLY makes the import LIVE or sends a claiming DIR_PROBE. -/
  | importReply (m : DedupMsg)
  /-- IMPORT_TIMEOUT (R189): An IMPORT unanswered for 2 ms is resent, and abandoned after three sends. -/
  | importTimeout (serial : Nat)
  /-- RELEASE (R188): The exporter serves a RELEASE by removing the matching EXT_REF entry. -/
  | release (m : DedupMsg)
  /-- RELEASE_REPLY (R188): A RELEASE_REPLY lets the importer remove its dead IMPORT entry. -/
  | releaseReply (m : DedupMsg)
  /-- RELEASE_RESEND (R190): An unanswered RELEASE is resent after a wait that doubles up to 1 h. -/
  | releaseResend (serial : Nat)
  /-- FETCH (R190): The exporter reads an imported frame and places it in the importer's window. -/
  | fetch (m : DedupMsg)
  /-- EVICT (R191): An importer stores an evicted chunk and turns its IMPORT entry into a CHUNK entry. -/
  | evict (m : DedupMsg)
  /-- COMPRESS (R200): A COMP job compresses a chunk, verifies it and emits a compressed or raw frame. -/
  | compress (u : Fin 8) (verifyBad : Bool)
  /-- DECOMPRESS (R204): A DECOMP job decompresses one frame and checks its form, length and checksum. -/
  | decompress (u : Fin 8)
  /-- GCM_SEAL (R212): GCM_SEAL takes a nonce and encrypts a frame into a sealed frame. -/
  | gcmSeal (u : Fin 64) (twin : Twin)
  /-- GCM_OPEN (R212): GCM_OPEN checks the header, decrypts and checks the tag. -/
  | gcmOpen (u : Fin 64) (twin : Twin)
  /-- XTS_ENC (R213): XTS_ENC encrypts data units under XTS-AES-256. -/
  | xtsEnc (u : Fin 64) (twin : Twin)
  /-- XTS_DEC (R213): XTS_DEC decrypts data units under XTS-AES-256. -/
  | xtsDec (u : Fin 64) (twin : Twin)
  /-- CBC_ENC (R214): CBC_ENC encrypts and writes back the next IV. -/
  | cbcEnc (u : Fin 64) (twin : Twin)
  /-- CBC_DEC (R214): CBC_DEC decrypts and writes back the next IV. -/
  | cbcDec (u : Fin 64) (twin : Twin)
  /-- CFB_ENC (R214): CFB_ENC encrypts in CFB-128 and writes back the next IV. -/
  | cfbEnc (u : Fin 64) (twin : Twin)
  /-- CFB_DEC (R214): CFB_DEC decrypts in CFB-128 and writes back the next IV. -/
  | cfbDec (u : Fin 64) (twin : Twin)
  /-- CTR (R214): CTR transforms the input under a big-endian counter and writes back the next counter block. -/
  | ctr (u : Fin 64) (twin : Twin)
  /-- CMP_KAT (R225): Every KAT_PERIOD_MS each compressor and read decompressor runs its known-answer test; `out` is what
  the unit produced, `none` the expected result. -/
  | cmpKat (u : Fin 16) (out : Option (List Byte))
  /-- CIP_KAT (R225): Every KAT_PERIOD_MS each cipher lane runs its known-answer test. -/
  | cipKat (u : Fin 64) (fail : Bool)
  /-- KAT_RUN_NOW (R228): Writing CMP_VERIFY_CFG.KAT_RUN_NOW tests every CMP unit in service at once. -/
  | katRunNow (who : CoreId) (failing : List Nat)
  /-- CIP_KAT_RUN_NOW (R230): Writing CIP_CTL.KAT_RUN_NOW tests every lane in service at once. -/
  | cipKatRunNow (who : CoreId) (failing : List Nat)
  /-- LOAD (R223): Key slot LOAD unwraps a load block and installs it in an empty slot. -/
  | load (who : CoreId) (typ : Fin 16) (slot : Fin 4096) (addr : Nat)
  /-- GENERATE (R223): Key slot GENERATE draws key material and writes back a wrapped record. -/
  | generate (who : CoreId) (typ : Fin 16) (slot : Fin 4096) (addr : Nat)
  /-- ZEROIZE (R224): ZEROIZE clears one slot after its running jobs end. -/
  | zeroize (who : CoreId) (slot : Fin 4096)
  /-- QUERY (R223): QUERY writes a 32-byte report of a slot. -/
  | query (who : CoreId) (typ : Fin 16) (slot : Fin 4096) (addr : Nat)
  /-- ZEROIZE_ALL (R223): ZEROIZE_ALL clears every key slot. -/
  | zeroizeAll (who : CoreId)
  /-- NONCE_LIMIT_SET (R217): A CIP_NONCE_LIMIT write with SET = 1 raises a GCM slot's limit or is refused and counted. -/
  | nonceLimitSet (who : CoreId) (v : Word)
  /-- PQ_OPEN (R235): PQ_OPEN clears and takes a parity context. -/
  | pqOpen
  /-- PQ_ADD (R235): PQ_ADD adds a strip to a context as data position IDX. -/
  | pqAdd
  /-- PQ_EMIT (R235): PQ_EMIT writes P and Q and frees the context when every position was added once. -/
  | pqEmit
  /-- PQ_CHECK (R235): PQ_CHECK compares accumulated P and Q with stored ones and frees the context. -/
  | pqCheck
  /-- RECON (R237): RECON rebuilds one or two erased strips from a table. -/
  | recon
  /-- PQ_FREE (R235): PQ_FREE frees a parity context. -/
  | pqFree
  /-- PAR_KAT (R271): Every KAT_PERIOD_MS PAR runs its known-answer test, retiring PAR on failure. -/
  | parKat (fail : Bool)
  /-- PAR_KAT_RUN_NOW (R271): Writing PAR_CTL.KAT_RUN_NOW runs the PAR test at once. -/
  | parKatRunNow (who : CoreId) (fail : Bool)
  /-- NVME_READ (R242): An NVME READ job reads from a drive. -/
  | nvmeRead (drive : DriveNo) (r : DriveResp)
  /-- APPEND (R241): An NVME APPEND job appends a strip by Zone Append, optionally feeding parity, and checks the assigned LBA. -/
  | append (drive : DriveNo) (r : DriveResp)
  /-- NVME_WRITE (R242): An NVME WRITE job writes to an index-tier drive. -/
  | nvmeWrite (drive : DriveNo) (r : DriveResp)
  /-- ZONE_CLOSE (R242): A ZONE_SEND Close closes a zone. -/
  | zoneClose (drive : DriveNo) (r : DriveResp)
  /-- ZONE_FINISH (R242): A ZONE_SEND Finish finishes a zone. -/
  | zoneFinish (drive : DriveNo) (r : DriveResp)
  /-- ZONE_OPEN (R242): A ZONE_SEND Open opens a zone. -/
  | zoneOpen (drive : DriveNo) (r : DriveResp)
  /-- ZONE_RESET (R242): A ZONE_SEND Reset resets a zone. -/
  | zoneReset (drive : DriveNo) (r : DriveResp)
  /-- ZONE_REPORT (R242): A ZONE_REPORT job reads the drive's zone report. -/
  | zoneReport (drive : DriveNo) (r : DriveResp)
  /-- NVME_ADMIN (R242): An NVME ADMIN job sends an admin SQE to a drive. -/
  | nvmeAdmin (drive : DriveNo) (r : DriveResp)
  /-- CMD_TIMEOUT (R243): A drive command outstanding past CMD_TIMEOUT_MS ends with code 0xFFFE and is aborted at the drive. -/
  | cmdTimeout (drive : DriveNo)
  /-- DRIVE_REMOVED (R544): A presence-detect change marks a drive removed, ends its jobs and reports to the shelf master. -/
  | driveRemoved (drive : DriveNo) (both : Bool)
  /-- STEEP_MAX (R246): A steeping stripe open for STEEP_MAX_MS closes and is poured. -/
  | steepMax (group : Fin 256) (cls : Fin 4)
  /-- POUR (R247): The owner pours a closed stripe with its P and Q to a row of a zone set. -/
  | pour (stripe : Nat)
  /-- COMMIT (R249): When all appends are OK the stripe's index transaction sets its entries LIVE and the entry COMMITTED. -/
  | commit (stripe : Nat)
  /-- DIRTY_RELEASE (R250): A write's dirty copy is released when its map commit is durable. -/
  | dirtyRelease (wseq : Nat)
  /-- GC (R254): Garbage collection moves live frames out of a low-occupancy zone set. -/
  | gc (shelf : Fin 8)
  /-- ZONE_SET_RECLAIM (R256): A collected zone set whose readers are done has its zones reset and returned free. -/
  | zoneSetReclaim (zs : Nat)
  /-- NEXT_WRITE_SHELF (R262): When the write shelf's room falls below the threshold the next write shelf is chosen and woken. -/
  | nextWriteShelf (storedRate : Nat)
  /-- SHELF_WAKE_GRANT (R265): The master grants a shelf wake within SHF_BUDGET and both heads set EN_DRIVE. -/
  | shelfWakeGrant
  /-- MIN_OFF (R264): MIN_OFF_S after PG fell a waiting wake may be granted. -/
  | minOff (shelf : Fin 8)
  /-- SHELF_PG_ASSERT (R264): PG rising in POWERING starts uplink training and moves the shelf to LINKING. -/
  | shelfPgAssert (shelf : Fin 8)
  /-- SHELF_PG_TIMEOUT (R264): PG not asserted within PG_TIMEOUT_MS sends the shelf to FAULT. -/
  | shelfPgTimeout (shelf : Fin 8)
  /-- SHELF_LINKED (R264): With both uplinks up and every member ready the shelf becomes AWAKE. -/
  | shelfLinked (shelf : Fin 8)
  /-- SHELF_READY_TIMEOUT (R264): At READY_TIMEOUT_S unready members go to failure handling and the shelf becomes AWAKE. -/
  | shelfReadyTimeout (shelf : Fin 8) (notReady : List Nat)
  /-- SHELF_RELEASE (R264): An AWAKE shelf with no hold and MIN_AWAKE_S elapsed moves to DRAINING. -/
  | shelfRelease (shelf : Fin 8)
  /-- DRAIN_REPORT (R264): A head's report that its work on a DRAINING shelf ended lets the master close zones and set planned-down bits. -/
  | drainReport (shelf : Fin 8) (head : Bool)
  /-- PLANNED_DOWN_REPORT (R264): Both heads' reports that PCI_PLANNED_DOWN is set make both clear EN_DRIVE. -/
  | plannedDownReport (shelf : Fin 8) (head : Bool)
  /-- SHELF_PG_DEASSERT (R264): PG falling in RELEASING starts MIN_OFF_S and moves the shelf to OFF. -/
  | shelfPgDeassert (shelf : Fin 8)
  /-- SHELF_PG_STUCK (R264): PG still asserted PG_TIMEOUT_MS after release sends the shelf to FAULT. -/
  | shelfPgStuck (shelf : Fin 8)
  /-- SHELF_PG_LOST (R264): PG falling while SHELF_EN is asserted sends the shelf to FAULT. -/
  | shelfPgLost (shelf : Fin 8)
  /-- SHELF_FAULT_RETRY (R264): 60 s in FAULT with fewer than 3 retries in an hour queues a wake. -/
  | shelfFaultRetry (shelf : Fin 8)
  /-- PRESENT (R264): Changing a SHF_CTL PRESENT bit moves the shelf to or from ABSENT. -/
  | present (who : CoreId) (mask : BitVec 8)
  /-- SHELF_ALERT (R264): SHELF_ALERT latches ALERT_LATCH, raises IRQ line 7, records SHELF_ALERT and may wake P2. -/
  | shelfAlert (shelf : Fin 8) (level : Bool)
  /-- ALARM (R267): CLK_ALARM is reached, raising IRQ line 8 and waking a part in Retain for a retention wake. -/
  | alarm
  /-- CLK_ALARM (R493): A write to CLK_ALARM sets the alarm and RTC and clears IRQ line 8. -/
  | clkAlarm (who : CoreId) (v : Word)
  /-- PCI_LINK_PLANNED (R260): A link-down on a port marked planned is counted and recorded as Info only. -/
  | pciLinkPlanned (n : Fin 17)
  /-- PCI_LINK_LOST (R261): An unplanned link-down ends the port's jobs and may hand groups to the partner. -/
  | pciLinkLost (n : Fin 17)
  /-- PCI_RETRAIN_RETRY (R261): Training of a lost port is retried every 10 s. -/
  | pciRetrainRetry (n : Fin 17)
  /-- PCI_LINK_STABLE (R261): After the link stays up 60 s the head takes its groups back. -/
  | pciLinkStable (n : Fin 17)
  /-- PCI_LINK_UP (R273): A port trains up and its PCI_PLANNED_DOWN bit is cleared. -/
  | pciLinkUp (n : Fin 17) (gen : Fin 8) (lanes : Fin 32)
  /-- PERST_RELEASE (R507): 100 ms after EN and reference clock present, PCIE_PERSTN is released. -/
  | perstRelease (n : Fin 17)
  /-- SMART_POLL (R274): Every 60 s each member's SMART log is read and a critical warning makes it FAILING. -/
  | smartPoll (drive : DriveNo) (warning : BitVec 8)
  /-- NOT_READY_TIMEOUT (R274): A namespace not ready for 30 s on an AWAKE shelf makes the member FAILED. -/
  | notReadyTimeout (drive : DriveNo)
  /-- UNREACHABLE_TIMEOUT (R274): A member unreachable through one head's port for 10 s becomes FAILED. -/
  | unreachableTimeout (drive : DriveNo)
  /-- MEMBER_REPORT (R276): The shelf master decides a member's new state and records it in one transaction. -/
  | memberReport (drive : DriveNo) (r : MemberReport)
  /-- ZONE_SET_SWITCH (R281): After the last rebuilt row the target zone is finished and replaces the failed member's word. -/
  | zoneSetSwitch (zs : Nat)
  /-- REBUILD_CHECKPOINT (R288): A rebuild checkpoint is written every 1 GiB or 10 s. -/
  | rebuildCheckpoint
  /-- DRIVE_INSERTED (R277): A drive inserted into an ABSENT bay that meets the specification becomes a SPARE. -/
  | driveInserted (drive : DriveNo) (i : DriveInfo)
  /-- SCRUB (R294): During a retention wake each head checks every live row with PQ_CHECK. -/
  | scrub (zs row : Nat) (r : ScrubResult)
  /-- SCRUB_CHECKPOINT (R294): Each head checkpoints its scrub position every 10 s. -/
  | scrubCheckpoint
  /-- SNAPSHOT_SWEEP (R305): The background sweep removes retained records no live snapshot needs. -/
  | snapshotSweep (snapid : Nat)
  /-- REP_SCHEDULE (R309): At each schedule interval a SCHEDULED snapshot is made and a session started. -/
  | repSchedule (nsid : Nat) (choice : Option (Nat × Nat))
  /-- REP_OPEN (R313): The target checks salt probe, base and pairing and answers REP_OPEN. -/
  | repOpen (m : RepMsg)
  /-- REP_OPEN_REPLY (R312): The source records the session as queued, running or failed from the reply. -/
  | repOpenReply (m : RepMsg)
  /-- REP_OPEN_RETRY (R311): An unreachable target is retried with a doubling wait up to 1 h. -/
  | repOpenRetry (session : Nat)
  /-- REP_FPS (R314): The target confirms each entry of a fingerprint batch and returns REP_NEED. -/
  | repFps (m : RepMsg)
  /-- REP_NEED (R315): The source sends each needed chunk as REP_DATA. -/
  | repNeed (m : RepMsg)
  /-- REP_DATA (R315): The target decrypts, checks and seals a received frame into a steeping stripe. -/
  | repData (m : RepMsg)
  /-- REP_BATCH_ACK (R316): The source advances its acknowledged address when a batch is durable at the target. -/
  | repBatchAck (m : RepMsg)
  /-- REP_CHECKPOINT (R318): The source writes a session checkpoint every 1 GiB or 10 s. -/
  | repCheckpoint
  /-- REP_COMMIT (R317): The target makes a REPLICA_POINT snapshot and moves host reads to it. -/
  | repCommit (m : RepMsg)
  /-- REP_COMMIT_REPLY (R311): The source marks the session DONE. -/
  | repCommitReply (m : RepMsg)
  /-- REP_CLOSE (R311): The target ends a cancelled or failed session. -/
  | repClose (m : RepMsg)
  /-- REP_FETCH (R320): A peer ships a lost chunk, replies NOT_READY or GONE. -/
  | repFetch (m : RepMsg)
  /-- REP_FETCH_REPLY (R320): The asking part restores the chunk or tries again after the delay. -/
  | repFetchReply (m : RepMsg)
  /-- EPOCH_CLOSE (R325): At the end of the period the open epoch closes, is sent and the next opens. -/
  | epochClose
  /-- RECORD (R332): An EPOCH RECORD job places a record in the open epoch, closing it early when full. -/
  | record
  /-- BARRIER (R332): An EPOCH BARRIER job completes when every earlier record of the slot is confirmed. -/
  | barrier
  /-- EPOCH (R333): The shadow checks and applies a received epoch, sends allowed CPLs and a REPLY. -/
  | epoch (m : EpochMsg)
  /-- REPLY (R334): A REPLY confirms the epoch's records or, with RESEND, starts a resend round. -/
  | reply (m : ReplyMsg)
  /-- RESEND_ROUND_TIMEOUT (R328): With the partner's ACK unchanged 4 µs after a round, another round is sent. -/
  | resendRoundTimeout
  /-- REPLY_LOST (R328): An ACK past an epoch with no REPLY for 1 µs makes the sender resend that epoch. -/
  | replyLost (epoch : Nat)
  /-- CPL_FORWARD (R336): A CPL pending for FWD_AFTER_US makes the owner forward the write data and CPL again. -/
  | cplForward (epoch index : Nat)
  /-- HEALTH (R354): A received health word updates PNL_PARTNER_HEALTH and may become a partner-message task. -/
  | health (w : HealthWord)
  /-- HEALTH_SEND (R354): Every 100 µs the head sends its health word. -/
  | healthSend
  /-- PARTNER_HEALTH_LOST (R354): No health word for 1 ms with the link up records PARTNER_HEALTH_LOST. -/
  | partnerHealthLost
  /-- IDLE (R341): PNL sends an IDLE message every 250 ns when it has nothing else to send. -/
  | idle
  /-- TEST (R353): A received TEST message is returned, and a mismatched return counts a lane CRC error. -/
  | test (lane : Fin 8) (returned : Bool) (same : Bool)
  /-- TEST_SEND (R353): Every 10 ms a 4 KiB TEST message is sent on the next lane. -/
  | testSend
  /-- LOOPBACK_RUN (R353): Writing LOOPBACK_RUN runs the lane test at once. -/
  | loopbackRun (who : CoreId) (failing : List Nat)
  /-- POWER (R329): A POWER message is matched against AGREE_SEQ during Retain entry. -/
  | power (target agree : Nat)
  /-- STATE_COPY (R356): The joiner applies a COPY message of state from the survivor. -/
  | stateCopy (m : CopyMsg)
  /-- STATE_COPY_DONE (R356): When the copy ends the survivor writes RELEASE and the joiner becomes shadow. -/
  | stateCopyDone
  /-- LANE_RETRAIN (R341): A dropped lane is retrained once per hour. -/
  | laneRetrain (lane : Fin 8) (pass : Bool)
  /-- PARTNER_LINK_LOST (R341): Loss of all lanes or 2 µs without a valid message resolves by head B stopping itself. -/
  | partnerLinkLost
  /-- SEND_PAUSE_END (R341): Head A resumes sending after its 4 µs silence on the partner link. -/
  | sendPauseEnd
  /-- PNL_EN (R340): Setting PNL_EN trains the partner link lanes. -/
  | pnlEn (who : CoreId)
  /-- PARTNER_LINK_UP (R340): The partner link trains and the highest common mirror protocol version is chosen. -/
  | partnerLinkUp (lanes : BitVec 8) (mpvMin mpvMax : Nat) (partnerSlot : Bool) (periodNs : Nat)
  /-- HB_EN (R342): Setting HB_EN makes AON toggle HB_OUT; clearing it stops the heartbeat. -/
  | hbEn (who : CoreId) (on : Bool)
  /-- KICK (R342): Writing KICK restarts the heartbeat watchdog. -/
  | kick (who : CoreId)
  /-- WDOG_TRIP (R342): No KICK within KICK_WINDOW_US stops HB_OUT and sets WDOG_TRIP. -/
  | wdogTrip
  /-- ARMED (R343): After 8 HB_IN edges following a disarm point, loss detection is armed. -/
  | armed
  /-- HB_LOST (R343): No HB_IN edge for LOSS_NS while armed declares the partner lost and asserts FENCE_OUT. -/
  | hbLost
  /-- PWRGOOD_LOST (R343): PTN_PWRGOOD low for 100 ns while armed declares the partner lost. -/
  | pwrgoodLost
  /-- FENCE_IN (R346): FENCE_IN rising holds the part's egress and releases its shelf lines. -/
  | fenceIn (conflict : Bool)
  /-- FENCED (R346): FENCE_IN held beyond 50 ns without own FENCE_OUT makes the part fenced and it restarts toward rejoin. -/
  | fenced
  /-- EGRESS_DISCARD (R346): Traffic held longer than 1 µs is discarded until the hold lifts. -/
  | egressDiscard
  /-- FENCE_IN_FALL (R346): FENCE_IN falling lifts the egress hold and sends held traffic. -/
  | fenceInFall
  /-- FENCE_DONE (R347): 200 ns after own FENCE_OUT rises FENCE_DONE is set and IRQ line 0 raised. -/
  | fenceDone
  /-- ASSERT (R344): Writing ASSERT asserts FENCE_OUT unless the part is itself fenced. -/
  | assert (who : CoreId)
  /-- FENCE_RELEASE (R344): Writing RELEASE deasserts FENCE_OUT. -/
  | fenceRelease (who : CoreId)
  /-- PULSE (R344): Writing PULSE drives FENCE_OUT for 200 ns. -/
  | pulse (who : CoreId)
  /-- SELF_STOP (R361): Writing SELF_STOP stops HB_OUT and holds own egress until reset. -/
  | selfStop (who : CoreId)
  /-- WIRE_TEST (R356): Writing WIRE_TEST clears TEST_SEEN and opens a 10 µs pulse-latching window. -/
  | wireTest (who : CoreId)
  /-- WIRE_TEST_END (R356): At the window's end the survivor checks TEST_SEEN or records FENCE_WIRE_FAULT. -/
  | wireTestEnd (joinerOk : Bool)
  /-- START_ALONE (R355): With no partner or no pair within 120 s the head fences and runs SOLO, or rejoins. -/
  | startAlone
  /-- RRN_WRITE (R385): A Rearn WRITE packet is checked and placed, and the ACK sent when the message completes. -/
  | rrnWrite (p : RrnPkt)
  /-- WRITE_NOTIFY (R385): A WRITE_NOTIFY message is placed, a fabric task queued, a receipt made and ACK sent. -/
  | writeNotify (p : RrnPkt)
  /-- READ_REQ (R387): A READ_REQ is answered with READ_RESP packets from the window. -/
  | readReq (p : RrnPkt)
  /-- READ_RESP (R387): A READ_RESP packet's payload is placed at LOCAL + OFFSET. -/
  | readResp (p : RrnPkt)
  /-- RRN_SEND (R385): A SEND message is reassembled and delivered as a fabric task or host command. -/
  | rrnSend (p : RrnPkt)
  /-- ATOMIC (R385): An ATOMIC performs an AMO in the window and answers with the old value. -/
  | atomic (p : RrnPkt)
  /-- CREDIT_REQ (R376): A CREDIT_REQ is granted a lease or refused with NO_CREDIT. -/
  | creditReq (p : RrnPkt)
  /-- CREDIT_GRANT (R377): A received CREDIT_GRANT gives the initiator a lease. -/
  | creditGrant (p : RrnPkt)
  /-- ACK (R388): An ACK ends the operation OK. -/
  | ack (p : RrnPkt)
  /-- NAK (R388): A NAK ends the operation on a final code or triggers a resend on a transient one. -/
  | nak (p : RrnPkt)
  /-- HELLO (R367): A HELLO binds or refreshes a node and negotiates version, sizes. -/
  | hello (p : RrnPkt) (h : HelloBody)
  /-- HELLO_REPLY (R366): A HELLO_REPLY settles the negotiated values for the entry. -/
  | helloReply (p : RrnPkt) (h : HelloBody)
  /-- HELLO_RETRY (R366): An unanswered HELLO is resent 300 µs later, up to 3 times. -/
  | helloRetry (node : Nat)
  /-- HELLO_REFRESH (R367): Every 10 s a HELLO is sent to every bound node. -/
  | helloRefresh
  /-- BINDING_LAPSE (R367): No packet from a bound node for 30 s ends its binding. -/
  | bindingLapse (node : Nat)
  /-- RTO (R387): With no reply after RTO_US, every packet of the message is retransmitted and the wait doubles. -/
  | rto (msgId : Nat)
  /-- TIMEOUT (R388): With no ACK 1,000 µs after first transmission the operation ends. -/
  | timeout (msgId : Nat)
  /-- LEASE_EXPIRY (R377): At a lease's expiry its uncharged remainder returns to the pool. -/
  | leaseExpiry (lease : Nat)
  /-- RECEIPT_EXPIRY (R380): A receipt entry frees 1,000 µs after it was made. -/
  | receiptExpiry (src msgId : Nat)
  /-- CTX_IDLE (R385): A reassembly context idle for CTX_IDLE is abandoned, its caddy dropped and charge returned. -/
  | ctxIdle (src msgId : Nat)
  /-- WIN_ARM (R373): A WIN_ARM request arms a window, optionally reconfiguring it, and advances GEN. -/
  | winArm (r : WinReq)
  /-- WIN_DISARM (R373): A WIN_DISARM request disarms a window and advances GEN. -/
  | winDisarm (r : WinReq)
  /-- ARM (R373): Writing ARM in window word 2 arms the window and advances GEN. -/
  | arm (who : CoreId)
  /-- DISARM (R373): Writing DISARM in window word 2 disarms the window and advances GEN. -/
  | disarm (who : CoreId)
  /-- EVENT_REPORT (R408): An event report reaches the intake FIFO and is merged, entered or dropped. -/
  | eventReport (r : EvReport)
  /-- RECORD_CLOSE (R409): The open record closes after 1,000 ms without a merge and its program starts. -/
  | recordClose
  /-- RECORD_PROGRAMMED (R409): A record's program completes, it leaves the FIFO and the next entry becomes the open record. -/
  | recordProgrammed
  /-- ERASE_DONE (R405): The erase of the ring sector ahead of the head completes. -/
  | eraseDone
  /-- OPTIME_MARK (R402): With no record committed for 60 s an OPTIME_MARK record is committed. -/
  | optimeMark
  /-- EVT_LOST (R410): When drops are pending and room exists an EVT_LOST entry is placed and PENDING cleared. -/
  | evtLost
  /-- EVR_WIN_SEL (R412): A write of EVR_WIN_SEL takes a snapshot of the selected record and sets STATUS. -/
  | evrWinSel (who : CoreId) (v : Word)
  /-- EVR_WIN_DATA (R412): A read of EVR_WIN_DATA returns a snapshot word and advances WORD. -/
  | evrWinData (c : CoreId) (d : Rn)
  /-- EVR_INJECT (R411): A write of EVR_INJECT raises a firmware event from a 32-byte block. -/
  | evrInject (who : CoreId) (addr : Nat)
  /-- FLT_SLOT_ADVANCE (R415): Each WINDOW_MS / 8 a fault counter moves to its next slot, ageing out old errors. -/
  | fltSlotAdvance (k : Fin 7)
  /-- FLT_CTR_CFG_WRITE (R417): A write of FLT_CTR_CFG_k sets its threshold, and a changed window clears its slots. -/
  | fltCtrCfgWrite (who : CoreId) (k : Fin 7) (v : Word)
  /-- PWR_MODE (R433): A write of PWR_MODE.STATE sets the request latch, absorbing or aborting an entry in progress. -/
  | pwrMode (who : CoreId) (v : Word)
  /-- RETAIN_PROPOSE (R431): A partner's RETAIN_PROPOSE makes the head check its vetoes and answer AGREE or REFUSE. -/
  | retainPropose (agree alarm : Nat)
  /-- AGREE (R431): An AGREE lets the head write PWR_MODE for P2 and execute WAITP. -/
  | agree (agree : Nat)
  /-- REFUSE (R431): A REFUSE makes the other head's entry refused with PARTNER_DISAGREE. -/
  | refuse (agree id : Nat)
  /-- POWER_AGREE_TIMEOUT (R432): No matching POWER message within 1 ms refuses the Retain entry with PARTNER_DISAGREE. -/
  | powerAgreeTimeout
  /-- SMBUS_MATCH (R435): An SMBus address match wakes a part in P2 and may stretch SCL. -/
  | smbusMatch (addr : BitVec 7)
  /-- GPIO_WAKE (R510): An enabled GPIO edge held 1 µs wakes the part from P2. -/
  | gpioWake (n : Fin 8)
  /-- HEARTBEAT_WAKE (R434): 8 HB_IN edges while in P2 wake the part. -/
  | heartbeatWake
  /-- HB_IN_ABSENT (R437): No HB_IN edge within 100 ms of a P2 wake makes the head assert the fence and run SOLO. -/
  | hbInAbsent
  /-- CLOCK_GATE (R426): An island idle for CG_IDLE in P1 is clock-gated. -/
  | clockGate (island : Fin 19)
  /-- POWER_GATE (R426): An AUTO_PG island idle for PG_IDLE_US in P1 is power-gated with retention. -/
  | powerGate (island : Fin 19)
  /-- WAKE (R427): Writing a PWR_ISLAND_GATE WAKE bit wakes a P1-gated island. -/
  | wake (who : CoreId) (mask : BitVec 19)
  /-- FORCE_OFF (R429): Writing FORCE_OFF powers an island fully off, or back on, or is refused. -/
  | forceOff (who : CoreId) (mask : BitVec 19)
  /-- LEVEL (R423): Writing PWR_DVFS_n.LEVEL starts a voltage, bias and PLL change of the island's level. -/
  | level (who : CoreId) (n : Fin 16) (lvl : Fin 4)
  /-- LEVEL_CHANGE_DONE (R423): A level change completes and any held LEVEL write is applied. -/
  | levelChangeDone (n : Fin 16)
  /-- THERMAL_SAMPLE (R525): Every 1 ms the sensors are sampled and DVFS caps applied or lifted. -/
  | thermalSample (temps : List Int) (heldBelow : Nat)
  /-- THERMAL_TRIP (R526): The trip comparator drives THERMTRIPN, stops HB_OUT and power-gates all but AON. -/
  | thermalTrip
  /-- REPORT (R449): The security block builds a signed report or certificate. -/
  | report (who : CoreId) (addr : Nat)
  /-- VERIFY (R456): The security block checks an image under the image checks. -/
  | verify (who : CoreId) (addr : Nat)
  /-- MEASURE (R448): MEASURE writes a measurement slot, setting STAGE for slot 2. -/
  | measure (who : CoreId) (addr : Nat)
  /-- AWK_GENERATE (R450): AWK_GENERATE creates the array wrapping key and returns its sealed blob. -/
  | awkGenerate (who : CoreId) (addr : Nat)
  /-- AWK_UNSEAL (R450): AWK_UNSEAL loads the array wrapping key from its sealed blob. -/
  | awkUnseal (who : CoreId) (addr : Nat)
  /-- SEND_KEY (R451): SEND_KEY encapsulates to a peer's transport key and seals the payload. -/
  | sendKey (who : CoreId) (addr : Nat)
  /-- RECEIVE_KEY (R451): RECEIVE_KEY decapsulates and installs the transported result. -/
  | receiveKey (who : CoreId) (addr : Nat)
  /-- WRITE_SLOT (R461): WRITE_SLOT writes an image to a boot flash slot and reads it back. -/
  | writeSlot (who : CoreId) (addr : Nat)
  /-- SET_DIR (R454): SET_DIR writes the older boot directory copy with the new trial or commit state. -/
  | setDir (who : CoreId) (addr : Nat)
  /-- ADVANCE (R460): Writing SEC_SVN.ADVANCE blows counter fuses, optionally with revocations. -/
  | advance (who : CoreId) (svn : BitVec 8) (revoke : Bool)
  /-- SEC_ID_WIN (R468): A read of SEC_ID_WIN returns a word of the selected object and advances INDEX. -/
  | secIdWin (c : CoreId) (d : Rn)
  /-- KEY_QUERY (R452): A KEY_QUERY asks a part for its certificates and a report on a nonce. -/
  | keyQuery (m : KeyMsg)
  /-- KEY_CERTS (R452): KEY_CERTS delivers certificates and report for verification. -/
  | keyCerts (m : KeyMsg)
  /-- KEY_OFFER (R452): A KEY_OFFER delivers a transport ciphertext and sealed payload. -/
  | keyOffer (m : KeyMsg)
  /-- KEY_ACCEPT (R452): KEY_ACCEPT reports the result of a key transport. -/
  | keyAccept (m : KeyMsg)
  /-- PORN (R480): Power-on reset clears state, samples straps, trains DRAM and runs the boot ROM. -/
  | porn (p : PowerOn)
  /-- RSTN (R479): A low RSTN of 1 µs applies a warm reset. -/
  | rstn
  /-- WARM (R479): Writing CHIP_RESET_CTL.WARM applies a warm reset. -/
  | warm (who : CoreId)
  /-- TRSTN (R479): TRSTN resets the JTAG TAP alone. -/
  | trstn
  /-- BROWNOUT (R475): A core rail below 90 % for 1 µs applies a power-on reset and sets BROWNOUT. -/
  | brownout (rail : Fin 3)
  /-- SRAM_DROP (R475): VDD_SRAM more than 50 mV below VDD_CORE applies a power-on reset. -/
  | sramDrop
  /-- REFCLK_LOST (R478): REFCLK_SYS stopped for 1 µs stops HB_OUT. -/
  | refclkLost
  /-- REFCLK_RETURN (R478): The return of REFCLK_SYS applies a warm reset with cause REFCLK_LOST. -/
  | refclkReturn
  /-- PLL_LOCK_LOST (R477): An island PLL losing lock stops the island's clock. -/
  | pllLockLost (n : Fin 16)
  /-- PLL_RELOCK_RETRY (R477): Relock is tried every 1 ms and the island treated as failed after three failures. -/
  | pllRelockRetry (n : Fin 16) (ok : Bool)
  /-- AVS_FAULT (R472): Three unanswered AVSBus commands set AVS_FAULT and cap every island at L1. -/
  | avsFault
  /-- AVS_RETRY (R472): The regulator is retried every 1 s and AVS_FAULT cleared on an answer. -/
  | avsRetry (answered : Bool)
  /-- INIT_DONE (R483): Background ECC initialisation of all DRAM completes. -/
  | initDone
  /-- POWER_FAIL (R487): PWR_FAILn low for 2 µs starts the destage of acknowledged data to the vault. -/
  | powerFail (partnerFailing : Bool)
  /-- VAULT_DESTAGE_DONE (R488): The vault header is written and the part enters P2. -/
  | vaultDestageDone
  /-- PWR_RESTORE (R489): PWR_FAILn rising wakes the part from P2 and voids the vault image. -/
  | pwrRestore
  /-- QUEUE_CONNECTION_CLOSED (R68): The closing of an NVMe/TCP queue's connection resets the queue as Delete I/O SQ does. -/
  | queueConnectionClosed (cntlid qid : Nat)
  /-- PATROL_SCRUB (R484): MEM reads all of DRAM once per PERIOD_H, counting corrected errors toward counter 0 and recording uncorrectable ones. -/
  | patrolScrub (addr : Nat) (ch : Fin 8) (row : Nat) (uncorr : Bool)
  /-- PCI_CORRECTABLE_ERROR (R272): A PCIe correctable error on a root port counts in fault counter 2 and at threshold retrains the port one generation lower. -/
  | pciCorrectableError (n : Fin 17)
  /-- HB_IN_EDGE (R343): An HB_IN edge restarts the LOSS_NS measure and sets HB_IN_LIVE. -/
  | hbInEdge
  /-- PARTNER_LINK_NOT_UP (R437): When HB_IN toggles after a wake from P2 but the partner link is not up within 1 s, the link-loss rule applies. -/
  | partnerLinkNotUp
  /-- EVR_READY (R402): Within 10 ms of PORn release the recorder finds its head, loads CLK_OPTIME and CLK_POWER_CYCLES, writes BOOT, sets READY and starts taking FIFO entries. -/
  | evrReady
  /-- DRAM_TRAINING_COMPLETE (R482): DRAM training ends within 2 s of power-on reset, mapping out failed channels and setting MEM_TRAIN_STATUS.READY. -/
  | dramTrainingComplete (trained failed : BitVec 8) (speed : Nat) (gib : Nat)
  /-- STRAINER_REBUILD_DONE (R175): The strainer rebuild or resize from the index tier completes, and lookups stop being treated as present or move to the new table. -/
  | strainerRebuildDone
  /-- RTC_HOURLY_RECORD (R493): Every hour the Array Runtime records the latest RTC time in the configuration store. -/
  | rtcHourlyRecord
deriving DecidableEq, Repr

end Sys2Proof
end

