-- ==== Sys2Proof/Decode.lean ====
section
/-! DEFINITION. The Dyris words of Tables 4.7 to 4.13, decoded and encoded (STEP fetches and decodes one, R132), and the host's
`decodeTableWord`. No row of the opcode table gives its command bits, so no word spells a command there. -/

namespace Sys2Proof

/-- Bits [hi:lo] of a word. -/
def fieldOf (w : BitVec 32) (hi lo : Nat) : Nat := w.toNat / 2 ^ lo % 2 ^ (hi + 1 - lo)

/-- A register field. -/
def regField (w : BitVec 32) (lo : Nat) : RegF := Fin.ofNat 32 (fieldOf w (lo + 4) lo)

/-- The instruction a word spells (R111); `none` for an op or fn that no table lists, which raises ILLEGAL. -/
def decodeDyris (w : BitVec 32) : Option DInstr :=
  let op := fieldOf w 31 26
  let d := regField w 21
  let a := regField w 16
  let b := regField w 11
  let fn := fieldOf w 10 0
  let imm := BitVec.ofNat 16 (fieldOf w 15 0)
  if op = 0x00 then (AluOp.every.find? (fun o => o.code == fn)).map (fun o => .alu o d a b)
  else if op = 0x01 then (SysOp.every.find? (fun o => o.code == fn)).map (fun o => .sys o d a b)
  else if op = 0x02 then
    (AmoOp.every.find? (fun o => o.code == fn % 16)).map
      (fun o => .amo o (BitVec.ofNat 4 (fn / 128)) (BitVec.ofNat 2 (fn / 32)) (fn / 16 % 2 == 1) d a b)
  else if op = 0x24 then some (.jalr d a imm)
  else if op = 0x30 ∨ op = 0x31 then some (.jump (op == 0x31) (BitVec.ofNat 26 (fieldOf w 25 0)))
  else match ImmOp.every.find? (fun o => o.code == op) with
    | some o => some (.imm o d a imm)
    | none =>
      match MemOp.every.find? (fun o => o.code == op) with
      | some o => some (.mem o d a imm)
      | none => (BrOp.every.find? (fun o => o.code == op)).map (fun o => .br o d a imm)

/-- The number of a word from its fields, format A (Table 4.7). -/
def wordA (op d a b fn : Nat) : BitVec 32 := BitVec.ofNat 32 (op * 2 ^ 26 + d * 2 ^ 21 + a * 2 ^ 16 + b * 2 ^ 11 + fn)

/-- Formats I, M and B (Table 4.7). -/
def wordI (op d a imm : Nat) : BitVec 32 := BitVec.ofNat 32 (op * 2 ^ 26 + d * 2 ^ 21 + a * 2 ^ 16 + imm)

/-- Format J (Table 4.7). -/
def wordJ (op off : Nat) : BitVec 32 := BitVec.ofNat 32 (op * 2 ^ 26 + off)

/-- The word of an instruction, from the encoding tables (R111, R113). -/
def encodeDyris : DInstr → BitVec 32
  | .alu o d a b => wordA 0x00 d a b o.code
  | .sys o d a b => wordA 0x01 d a b o.code
  | .amo o r ord w d a b => wordA 0x02 d a b (r.toNat * 128 + ord.toNat * 32 + (if w then 16 else 0) + o.code)
  | .imm o d a i => wordI o.code d a i.toNat
  | .mem o d a i => wordI o.code d a i.toNat
  | .br o a b i => wordI o.code a b i.toNat
  | .jalr d a i => wordI 0x24 d a i.toNat
  | .jump l i => wordJ (if l then 0x31 else 0x30) i.toNat

/-- The command that a table word spells: the table gives no row bits, so none does. DESIGN CHOICE, safe: log 4. -/
def decodeTableWord (_nbits _w : Nat) : Option Instr := none

end Sys2Proof
end

