-- ==== Sys2Proof/Config.lean ====
section
/-! DEFINITION. The free values: constants without a body, so that nothing can be proved of a value the spec leaves open.
Each is applied to a counter of the state, or to the data the value depends on. -/

namespace Sys2Proof.Config

/-- The cycles a core spent in stalls when CYCLE or HBUDGET is read; the spec gives latencies as typical only (R113). DESIGN CHOICE, safe: log 10. -/
opaque stallCycles : Nat → Word

/-- The refuser ID of a P2 request turned away while a regulator does not answer (R472): the spec gives it none (log 24). DESIGN CHOICE, safe: log 24. -/
opaque avsRefuser : Nat → BitVec 4

/-- The bytes of the boot ROM, which the manual does not give (Table 4.4). DESIGN CHOICE, safe: log 11. -/
opaque bootRom : Nat → Byte

/-- The DRAM channel an address lies in; the manual gives no interleave. DESIGN CHOICE, safe: log 12. -/
opaque dramChannel : Nat → Nat

/-- The DRAM row of its channel an address lies in; the manual gives no row layout. DESIGN CHOICE, safe: log 12. -/
opaque dramRow : Nat → Nat

/-- The blocks of the compressed frame of an input at a level: fixed for the part, their exact bytes on no rule (R198). DESIGN CHOICE,
safe: log 13. -/
opaque zstdBlocks : Nat → List Byte → List Byte

/-- P_b, the primary index pages of a slice, fixed when the index tier was formatted (R177). DESIGN CHOICE, safe: log 92. -/
opaque indexPages : Nat → Nat

/-- A byte of a frame read again from its members after its first copy failed its checks (R206): the counter of free values and the byte.
DESIGN CHOICE, safe: log 15. -/
opaque rereadByte : Nat → Nat → Byte

/-- The measurement of the configuration store's security section (Table 15.2), whose bytes the manual does not give: of the counter of free values. DESIGN CHOICE, safe: log 92. -/
opaque cfgMeasure : Nat → Digest

/-- Whether a rebuild finds the strip of a zone set, a row and a position unreadable (R285): the counter of free values first. DESIGN CHOICE,
safe: log 92. -/
opaque stripUnread : Nat → Nat → Nat → Nat → Bool

/-- How many rows a rebuild has reached when its checkpoint is written (R288): 10 s at a pace the manual does not fix. DESIGN CHOICE, safe: log 92. -/
opaque rebuiltRows : Nat → Nat

/-- A byte that the manual leaves undefined, fresh for each value of the counter of free values. DESIGN CHOICE, safe: log 14. -/
opaque undefByte : Nat → Byte

/-- What a drive returns for a byte this head has not written: the partner's strips, and what stood there before. DESIGN CHOICE, safe: log 15. -/
opaque driveByte : Nat → Nat → Byte

/-- Random bytes drawn from the security block's entropy source (R223, R449). DESIGN CHOICE, safe: log 16. -/
opaque entropy : Nat → Byte

/-- Where a member's zone split moves to, from the counter of free values and the drive (R240). DESIGN CHOICE, safe: log 17. -/
opaque splitAt : Nat → Nat → Nat

/-- The volume index of a namespace in t10 (Table 3.2); the manual gives no numbering. DESIGN CHOICE, safe: log 18. -/
opaque volumeIndex : Nat → Nat

/-- A byte of an NVMe data structure whose layout and value the manual leaves to the NVMe specifications: the structure, the byte, and the
counter of free values. DESIGN CHOICE, safe: log 19. -/
opaque nvmeByte : Nat → Nat → Nat → Byte

/-- The seconds until a staged range is readable, from the counter of free values; the manual gives no estimate. DESIGN CHOICE, safe: log 20. -/
opaque stageSeconds : Nat → Nat

/-- REASON of a session whose target answered REFUSED; Table 10.2 lists no code for it. DESIGN CHOICE, safe: log 21. -/
opaque refusedReason : Nat → Nat

/-- DEVICE_SEED, which nothing but the derivation unit reads (R444). DESIGN CHOICE, safe: log 22. -/
opaque deviceSeed : Nat → Byte

/-- M0, the measurement of the boot ROM (Table 15.2). DESIGN CHOICE, safe: log 22. -/
opaque romHash : Digest

/-- The SHA3-256 hash of image key KEY_ID: Syhital keys 1 to 4 in the ROM, owner keys 16 and 17 in the fuses (R455). DESIGN CHOICE, safe: log 22. -/
opaque keyHash : Nat → Digest

/-- M4's digest of the fuse summary and straps, whose serialisation the manual does not give (Table 15.2): SVN_F, revocation bits, owner key
hashes, HEAD_SLOT, BOOT_SRC, TEST_MODE. DESIGN CHOICE, safe: log 22. -/
opaque fuseMeas : List Nat → Digest

/-- A byte of the image the board left in a boot flash slot, by class × 2 + slot and offset (Table 15.5). DESIGN CHOICE, safe: log 22. -/
opaque imageByte : Nat → Nat → Byte

/-- The DevID (1) and manufacturing CA (4) certificates of the certificate area (R446). DESIGN CHOICE, safe: log 22. -/
opaque certArea : Nat → List Byte

/-- A certificate the security block builds, from its kind, public key, extension and the signer's seed (R446). DESIGN CHOICE, safe: log 22. -/
opaque certBuild : Nat → List Byte → List Byte → List Byte → List Byte

/-- ML-DSA-44 KeyGen_internal's public key from its seed (FIPS 204, cited by R445). DESIGN CHOICE, safe: log 23. -/
opaque mldsaPub : List Byte → List Byte

/-- An ML-DSA-44 signature: seed, context string, message, random bytes. DESIGN CHOICE, safe: log 23. -/
opaque mldsaSign : List Byte → List Byte → List Byte → List Byte → List Byte

/-- ML-DSA-44 verification: public key, context string, message, signature. DESIGN CHOICE, safe: log 23. -/
opaque mldsaVerify : List Byte → List Byte → List Byte → List Byte → Bool

/-- ML-KEM-768 KeyGen_internal's public key from d and z (FIPS 203). DESIGN CHOICE, safe: log 23. -/
opaque mlkemPub : List Byte → List Byte → List Byte

/-- ML-KEM-768 encapsulation to a public key with random bytes: the ciphertext and the shared secret. DESIGN CHOICE, safe: log 23. -/
opaque mlkemEncaps : List Byte → List Byte → List Byte × List Byte

/-- ML-KEM-768 decapsulation with d and z: the shared secret. DESIGN CHOICE, safe: log 23. -/
opaque mlkemDecaps : List Byte → List Byte → List Byte → List Byte

/-- What a local post's bytes give: 0 the work code, 1 to 4 the arguments (Table 3.2). DESIGN CHOICE, safe: log 25. -/
opaque postWord : List Byte → Nat → Nat

/-- A word of HQ_IND_DATA whose layout the spec leaves open (Table 2.16), from its number and the queue's state. DESIGN CHOICE, safe: log 26. -/
opaque queueWord : Nat → List Nat → Nat

/-- The jobs an engine class's queue holds (R121), which the manual does not give; a queue holds at least one. DESIGN CHOICE, safe: log 87. -/
opaque queueDepth : Nat → Nat

/-- CDW0 of an ADMIN command as the part sends it, from the one given and the counter of free values: Table 8.2 says it is replaced and not by
what. DESIGN CHOICE, safe: log 89. -/
opaque adminCdw0 : Nat → Nat → Nat

/-- The seconds until the drives of a shelf whose links come up are ready, from the shelf and the counter of free values (Table 2.9).
DESIGN CHOICE, safe: log 92. -/
opaque linkSeconds : Nat → Nat → Nat

/-- The hook whose code stands at an entry address, which the loaded policy program lays out (R119). DESIGN CHOICE, safe: log 37. -/
opaque hookAt : Nat → Nat

/-- What the RETENTION program returns at the end of a wake that the partner's scrub ends, from the counter of free values (R92). DESIGN
CHOICE, safe: log 92. -/
opaque retentionDays : Nat → Nat

/-- What the PLACEMENT program returns, shelf and width, from the counter of free values and its arguments: group, NSID and class (R92).
DESIGN CHOICE, safe: log 92. -/
opaque placement : Nat → Nat → Nat → Nat → Nat × Nat

/-- The voltage table fused per part at test (R471), in tenths of a millivolt: of levels 0 to 3, and at 4 the voltage that holds the mesh stage time of
R15. DESIGN CHOICE, safe: log 91. -/
opaque fusedVolt : Nat → Nat

/-- VDD_CORE that the part commands in Retain, of which the manual gives 0.30 V as the most (R471). DESIGN CHOICE, safe: log 91. -/
opaque retainVolt : Nat

end Sys2Proof.Config
end

