-- ==== Sys2Proof/Machine/KMap.lean ====
section
/-! DEFINITION. Sparse tables: a list of key and value pairs with strictly rising keys. Memory (a list of Host.Cell), the
register file and every table of the state that is indexed by a number are held in this one form. -/

namespace Sys2Proof.Machine

/-- A sparse table over keys of type Nat. -/
abbrev KMap (V : Type) := List (Nat × V)

/-- The entry of a key, when the table lists it. -/
def kfind {V : Type} : KMap V → Nat → Option V
  | [], _ => none
  | (a, v) :: m, k => if k = a then some v else if k < a then none else kfind m k

/-- The value at a key; `d` is what an unlisted key reads as. -/
def kget {V : Type} (d : V) (m : KMap V) (k : Nat) : V := (kfind m k).getD d

/-- The table with `v` at key `k`. -/
def kput {V : Type} : KMap V → Nat → V → KMap V
  | [], k, v => [(k, v)]
  | (a, w) :: m, k, v =>
    if k = a then (k, v) :: m else if k < a then (k, v) :: (a, w) :: m else (a, w) :: kput m k v

/-- The table without key `k`. -/
def kdel {V : Type} : KMap V → Nat → KMap V
  | [], _ => []
  | (a, w) :: m, k => if k = a then m else if k < a then (a, w) :: m else (a, w) :: kdel m k

/-- The table with `v` at key `k` in canonical form: no entry equals `d`, what an unlisted key reads as. -/
def kset {V : Type} [DecidableEq V] (d : V) (m : KMap V) (k : Nat) (v : V) : KMap V :=
  if v = d then kdel m k else kput m k v

/-- The table with `f` applied to the value at `k`, an unlisted key counting as `d`. -/
def kmod {V : Type} (d : V) (m : KMap V) (k : Nat) (f : V → V) : KMap V := kput m k (f (kget d m k))

/-- Every listed key is above `lo`, and the keys rise strictly. -/
def ksortedFrom {V : Type} : Option Nat → KMap V → Bool
  | _, [] => true
  | lo, (a, _) :: m => (match lo with | none => true | some b => decide (b < a)) && ksortedFrom (some a) m

/-- The keys rise strictly. -/
def ksorted {V : Type} (m : KMap V) : Bool := ksortedFrom none m

/-- The canonical form of a table whose unlisted keys read as `d`: rising keys, and no entry equal to `d`. -/
def kcanon {V : Type} [DecidableEq V] (d : V) (m : KMap V) : Bool :=
  ksorted m && m.all (fun p => decide (p.2 ≠ d))

/-- A list with `x` in place `i`; a shorter list stays as it is. -/
def listSet {V : Type} : List V → Nat → V → List V
  | [], _, _ => []
  | _ :: l, 0, x => x :: l
  | y :: l, i + 1, x => y :: listSet l i x

end Sys2Proof.Machine
end

