-- ==== Sys2Proof/Machine/ArrState.lean ====
section
/-! DEFINITION. The plain-data parts of the state that the key store, the parity contexts and the Array Runtime's tables hold: keys,
strainer, index, maps, dirty chunks, stripes, zone sets, members, shelves, snapshots and replication sessions. -/

namespace Sys2Proof.Machine

open Sys2Proof

/-! ### Tasks (R75 to R78) -/

/-- A task on its way to a slot or in one: its TYPE and QUEUE, its group, t1 to t14, and for a host command the command itself. -/
structure Task where
  typ : Nat := 0
  queue : Nat := 0
  group : Option Nat := none
  t : List Nat := []
  cmd : Option HbMsg := none
  restarted : Bool := false
  replay : Bool := false
  /-- A placement of it has met a cap, counted once (R83). -/
  capped : Bool := false
  /-- The WSEQ that a replayed write's TAKE record gave it; the shadow reported the write beyond its grant (R337). -/
  wseq : Nat := 0
  refused : Bool := false
  /-- The tick at which a placement of it first found no free slot (Table 3.7). -/
  since : Option Nat := none
  /-- DISPATCH_SEQ of its last placement, for a task that is placed again (R84). -/
  seq : Nat := 0
deriving DecidableEq, Repr

/-! ### Key store (R220 to R224) -/

/-- A key slot (Table 7.6): `mat` its 64 bytes of material. -/
structure KeySlot where
  typ : Nat := 0
  kd : Nat := 0
  gen : Nat := 0
  keyId : Nat := 0
  mat : List Byte := []
  counter : Nat := 0
  limit : Nat := 0
deriving DecidableEq, Repr

/-- A new generation on its way to the parts of the dedup scope (R219): its key domain and generation, the epoch that carries its record to the partner,
and the chips that have not accepted it. -/
structure KeyPend where
  kd : Nat := 0
  gen : Nat := 0
  epoch : Nat := 0
  chips : List Nat := []
deriving DecidableEq, Repr

/-- The key store: the array wrapping key that the security block holds (R222, R450), the slots, and the nonce reservations that the Array Runtime wrote to the configuration store, by KD × 2^16 +
generation (R218). DESIGN CHOICE, unsafe: log 29. -/
structure Keys where
  awk : Option (List Byte) := none
  slots : KMap KeySlot := []
  reserved : KMap Nat := []
  /-- The AWK's sealed blob of this head in the configuration store (R450). -/
  blob : Option (List Byte) := none
  /-- The blob did not unseal at start, and the AWK has not come since (R450). -/
  noAwk : Bool := false
  /-- The wrapped key records of the configuration store (R222), 112 bytes each. -/
  records : List (List Byte) := []
  /-- The generation that seals, by key domain, once one was rotated (R219). -/
  use : KMap Nat := []
  /-- Generations that some part of the dedup scope may not hold yet (R219). -/
  pend : List KeyPend := []
deriving DecidableEq, Repr

/-! ### Parity contexts (R235) -/

/-- A parity context that is taken: K, the strip length in bytes, the sums, and the positions added, in order. -/
structure ParCtx where
  k : Nat := 4
  len : Nat := 65536
  p : List Byte := []
  q : List Byte := []
  added : List Nat := []
deriving DecidableEq, Repr

/-! ### What an engine job was posted for -/

/-- The Array Runtime's own jobs: `cut` the chain that cuts and fingerprints a write (R161), `comp`, `place` and `seal` the compression of a
new chunk, its place in a steeping stripe and its sealing (R202, R212, R244), `strip` an APPEND of a strip position of a pouring stripe, `emit` its PQ_EMIT (R247), `report` a ZONE_REPORT of one zone (R252). A job posted
by Dyris code is `none`. -/
inductive ArWork where
  | none
  | cut (wseq : Nat)
  | comp (id : Nat)
  | place (id : Nat)
  | seal (id : Nat)
  | strip (stripe pos : Nat)
  | emit (stripe : Nat)
  | report (drive zone : Nat)
deriving DecidableEq, Repr

/-- A job of the Array Runtime's own that ended: its status, output bytes, output handle (with offset), and the unit it ran on. -/
structure ArEnd where
  work : ArWork := .none
  status : Nat := 0
  bytes : Nat := 0
  out : Nat := 0
  unit : Nat := 0
deriving DecidableEq, Repr

/-! ### Strainer (R169 to R175) -/

/-- A bucket (Table 6.4). -/
structure Bucket where
  version : Nat := 0
  overflow : Bool := false
  tags : List Nat := []
deriving DecidableEq, Repr

/-- The strainer: B buckets, the stash and its DROPPED count; `rebuilding` while it is rebuilt or resized; `noted` that
STRAINER_SATURATED was recorded in this power-on. -/
structure Strainer where
  b : Nat := 1
  buckets : KMap Bucket := []
  stash : List Nat := []
  dropped : Nat := 0
  rebuilding : Bool := false
  noted : Bool := false
deriving DecidableEq, Repr

/-! ### Deduplication work (R187 to R190) -/

/-- The phase of a NEW chunk under scope DOMAIN: waiting for a DIR_REPLY, with the sends made; for an IMPORT_REPLY; for the reply to
a claim. -/
inductive DomPhase where
  | probe (sends : Nat)
  | importing (serial exporter sends : Nat)
  | claim (exporter sends : Nat)
deriving DecidableEq, Repr

/-- A chunk whose domain steps are not settled. -/
structure DomWork where
  req : ConfirmReq := {}
  phase : DomPhase := .probe 1
deriving DecidableEq, Repr

/-- The answer to a CONFIRM that waits until the epoch with its change is confirmed (R176). -/
structure ConfirmReply where
  req : ConfirmReq := {}
  hit : Bool := false
  epoch : Nat := 0
deriving DecidableEq, Repr

/-- A page of the fingerprint index (R177): its slice, its number, its overflow page or 0, WRITE_SEQ, the entries it holds by their numbers, and its
place, new at each write (R257). -/
structure IndexPage where
  slice : Nat := 0
  page : Nat := 0
  next : Nat := 0
  seq : Nat := 0
  uids : List Nat := []
  place : Nat := 0
deriving DecidableEq, Repr

/-- A page of a namespace's map, or of its retained map (R303): its number, WRITE_SEQ, its records (WSEQ_END 0 in the live map), and its place. -/
structure MapPage where
  nsid : Nat := 0
  kept : Bool := false
  page : Nat := 0
  seq : Nat := 0
  recs : List RetRec := []
  place : Nat := 0
deriving DecidableEq, Repr

/-- A release owed to an exporter: its wait in seconds before the next resend (R190). -/
structure RelWork where
  serial : Nat := 0
  fp : Digest := 0
  kd : Nat := 0
  exporter : Nat := 0
  wait : Nat := 1
deriving DecidableEq, Repr

/-- A read that waits for an imported chunk (R190): the slot of its command. -/
structure FetchWork where
  fp : Digest := 0
  kd : Nat := 0
  exporter : Nat := 0
  slot : Nat := 0
deriving DecidableEq, Repr

/-! ### Dirty data (R65, R249, R250) -/

/-- The kinds of write commands. -/
inductive WKind where
  | write | zeroes | dealloc
deriving DecidableEq, Repr

/-- A chunk of a dirty write: its extent (at offset `coff` of the chunk, when a replica shares a part of one), its fingerprint, whether its confirm is settled, and for a namespace of scope NONE the
place of its frame once that is poured (R184). -/
structure DChunk where
  off : Nat := 0
  coff : Nat := 0
  len : Nat := 0
  fp : Digest := 0
  settled : Bool := false
  loc : Option Loc := none
deriving DecidableEq, Repr

/-- A write that is taken and whose map commit is not durable: `ranges` (address and length in bytes) for zeroes and deallocations, the
set D buffer with its bytes for a write, the chunks cut from it; `own` that this head owns its group, `bytes` the size of the caddy
(R153), `acked` that its completion was confirmed by both heads, so that step 5 of R19 may start, `started` that its chunks are cut or on
their way to it, `committed` that its map records are committed. -/
structure Dirty where
  id : CmdId := {}
  wseq : Nat := 0
  kind : WKind := .write
  nsid : Nat := 0
  addr : Nat := 0
  len : Nat := 0
  ranges : List (Nat × Nat) := []
  handle : Option Nat := none
  group : Nat := 0
  bytes : Nat := 0
  own : Bool := true
  acked : Bool := false
  started : Bool := false
  chunks : List DChunk := []
  committed : Bool := false
  /-- The open epoch in which its map records were placed. -/
  commitEpoch : Nat := 0
  /-- Its chunks are processed again from its dirty copy (R181). -/
  redo : Bool := false
deriving DecidableEq, Repr

/-- A new chunk on its way to flash (R202, R203, R244, R262): where its bytes lie, its placement, `direct` the WSEQ and chunk number of a
scope NONE write, the compressors that failed it, the stripe and offset its frame was given, and whether it still waits for a
write-open shelf. -/
structure PendChunk where
  id : Nat := 0
  fp : Digest := 0
  kd : Nat := 0xFFF
  handle : Nat := 0
  off : Nat := 0
  len : Nat := 0
  nsid : Nat := 0
  group : Nat := 0
  level : Nat := 3
  pcls : Nat := 0
  direct : Option (Nat × Nat) := none
  tried : List Nat := []
  stripe : Nat := 0
  frameOff : Nat := 0
  frameLen : Nat := 0
  frameBuf : Nat := 0
  waiting : Bool := false
deriving DecidableEq, Repr

/-! ### Stripes and zone sets (R232 to R258) -/

/-- A steeping, pouring or landed stripe: its journal entry, its C4 buffer, its frames, whether it is closed and for what (`gc` the zone
set whose frames it moves), its parity context, its P and Q buffers, the strip positions appended OK, and the appends repeated. -/
structure Steep where
  je : JEntry := {}
  handle : Nat := 0
  fill : Nat := 0
  frames : List FrameDir := []
  /-- The write each frame of a scope NONE namespace belongs to: frame number, WSEQ, chunk number. -/
  owners : List (Nat × Nat × Nat) := []
  /-- Frames placed and not yet sealed. -/
  unsealed : Nat := 0
  closed : Bool := false
  gc : Option Nat := none
  ctx : Option Nat := none
  pBuf : Option Nat := none
  qBuf : Option Nat := none
  ok : List Nat := []
  failed : Bool := false
deriving DecidableEq, Repr

/-- A zone set (R233, R239): its members and zones, whether this head opened it, whether it is for collection, whether it is still
open, the next row, the rows of its zones, its readers, the RTC time of its first append, and its weak rows. -/
structure ZoneSet where
  shelf : Nat := 0
  k : Nat := 4
  members : List (Nat × Nat) := []
  own : Bool := true
  gc : Bool := false
  isOpen : Bool := true
  nextRow : Nat := 0
  rows : Nat := 0
  readers : Nat := 0
  /-- It is finished once its outstanding appends have completed (R239). -/
  ending : Bool := false
  firstAppend : Option Nat := none
  weak : List Nat := []
deriving DecidableEq, Repr

/-- A drive (R238, Table 9.2): its state, what it offers, ZONE_SPLIT, the operating seconds of its timeouts, removal seen by this head
and by both, and the zones that it holds beyond its zone sets. -/
structure Member where
  st : MemberState := .absent
  info : DriveInfo := {}
  split : Nat := 0
  timeouts : List Nat := []
  removed : Bool := false
  removedBoth : Bool := false
  /-- The partner has reported the removal to this head as master (R544). -/
  seenThere : Bool := false
deriving DecidableEq, Repr

/-- A pairing of a namespace (R308): a target chip and NSID; of a replica namespace, its source's. -/
structure Pairing where
  chip : Nat := 0
  nsid : Nat := 0
deriving DecidableEq, Repr

/-- States of a session (Table 10.2); the number of each is STATE of Table 10.4. `opening` waits for the first REP_OPEN_REPLY. -/
inductive SessState where
  | queued | running | paused | committing | done | cancelled | failed | opening
deriving DecidableEq, Repr

/-- A source session (Table 10.2, Table 10.4): its batches in flight are numbered with their entries. -/
structure Session where
  num : Nat := 0
  /-- This head runs it; the partner holds its record of the index tier. -/
  mine : Bool := true
  snapid : Nat := 0
  base : Nat := 0
  chip : Nat := 0
  dstNsid : Nat := 0
  st : SessState := .opening
  reason : Nat := 0
  /-- REP_OPENs sent and not answered; 0 once one is answered. -/
  sends : Nat := 1
  retries : Nat := 0
  wait : Nat := 10
  /-- The Replicate start that completes with the first answer. -/
  task : Option Task := none
  winKey : Nat := 0
  winGen : Nat := 0
  /-- Its listing is made, from address `resume` on; the entries still to send. -/
  ready : Bool := false
  resume : Nat := 0
  todo : List RepEntry := []
  batch : Nat := 0
  flight : List (Nat × List RepEntry) := []
  /-- Needed entries whose frame cannot be read yet: batch and index. -/
  owed : List (Nat × Nat) := []
  acked : Nat := 0
  ackedBytes : Nat := 0
  /-- The address of the last checkpoint, and the bytes acknowledged at it. -/
  ckpt : Nat := 0
  ckptBytes : Nat := 0
  dataSeq : Nat := 0
  listed : Nat := 0
  sent : Nat := 0
  sentBytes : Nat := 0
  found : Nat := 0
  started : Nat := 0
  lastAck : Nat := 0
deriving DecidableEq, Repr

/-- A batch at the target: its entries, the indices still needed, those whose chunk another entry of the session brings, and the requests
made of an index beyond the first. -/
structure InBatch where
  batch : Nat := 0
  entries : List RepEntry := []
  need : List Nat := []
  dup : List Nat := []
  tries : KMap Nat := []
  /-- Frames received for a namespace without dedup: index, CHUNK_LEN and the Zstandard frame. -/
  raw : List (Nat × Nat × List Byte) := []
  /-- The WSEQs of its writes, once applied. -/
  wseqs : List Nat := []
  applied : Bool := false
deriving DecidableEq, Repr

/-- A target session: the source's chip and session number, its batches, the highest acknowledged address, the resume address, the frames
received that found no place yet, and the sequence of the frames it ships for REP_FETCH. -/
structure InSession where
  num : Nat := 0
  chip : Nat := 0
  nsid : Nat := 0
  srcNsid : Nat := 0
  snapid : Nat := 0
  base : Nat := 0
  winKey : Nat := 0
  resume : Nat := 0
  top : Nat := 0
  batches : List InBatch := []
  kept : List RepMsg := []
  seq : Nat := 0
  done : Bool := false
deriving DecidableEq, Repr

/-- A peer that a lost chunk is asked of (R320): its chip, its namespace and ours, and the session whose key encrypts, of the chip that numbered
it. -/
structure LostPeer where
  chip : Nat := 0
  dst : Nat := 0
  src : Nat := 0
  session : Nat := 0
  keyChip : Nat := 0
deriving DecidableEq, Repr

/-- A lost chunk (R297): whether it was sought, whether the domain's directory answers first, and the peers still to ask (R298, R320). -/
structure Lost where
  fp : Digest := 0
  kd : Nat := 0
  stripe : Nat := 0
  sought : Bool := false
  domain : Option Nat := none
  peers : List LostPeer := []
deriving DecidableEq, Repr

/-! ### The tables -/

/-- The Array Runtime's tables: the strainer, index and maps; the dirty data's chunks on their way to flash; stripes, zone sets, zones,
strips appended by this head, members and shelves; snapshots, sessions, lost chunks; and the settings of the configuration store. DESIGN CHOICE, unsafe: log 29. -/
structure Arr where
  strainer : Strainer := {}
  index : List IndexEntry := []
  home : KMap Nat := []
  arrayNum : Nat := 0
  importSerial : Nat := 0
  dom : List DomWork := []
  replies : List ConfirmReply := []
  /-- PENDING entries whose chunk's frame was lost on its way, by number: the next write that confirms one pours it (R180, R181). -/
  orphans : List Nat := []
  /-- The table of recent entries (R178), by entry number; the index pages, and how many pages were written. -/
  recent : List Nat := []
  pages : List IndexPage := []
  pageWrites : Nat := 0
  mapPages : List MapPage := []
  /-- The six drives of each 4+2 stripe of pages, in the order of its strips (R257). -/
  tier : KMap (List Nat) := []
  /-- The chips of the domain's other arrays. -/
  chips : List Nat := []
  /-- The width of the default placement class (R173). -/
  width : Nat := 16
  /-- Namespaces of scope DOMAIN fall back to ARRAY (R162); this head serves no group until power-on reset (R162). -/
  noDomain : Bool := false
  noServe : Bool := false
  /-- The configuration that the Array Runtime takes up when it starts. -/
  cfg : Option DomainCfg := none
  /-- The settings of the configuration store. -/
  settings : Settings := {}
  releases : List RelWork := []
  deferredAt : KMap Nat := []
  fetches : List FetchWork := []
  /-- Frames that exporters placed in the fetch window. -/
  fetched : List (Digest × Nat × List Byte) := []
  nextUid : Nat := 0
  maps : List MapRec := []
  retained : List RetRec := []
  dirty : List Dirty := []
  chunks : List PendChunk := []
  chunkId : Nat := 0
  /-- Work held for want of a buffer, a nonce or a key (R218, R545). -/
  held : List ArWork := []
  steeps : List Steep := []
  jseq : Nat := 0
  nextStripe : Nat := 0
  /-- The pour journal: the entries of both heads (R251). -/
  journal : List JEntry := []
  /-- The journal's copies are lost (R252): zones whose write pointers are still to be read, and those read, by drive × 2^26 + zone. -/
  unread : List (Nat × Nat) := []
  pointers : KMap Nat := []
  stripes : List StripeRec := []
  zoneSets : KMap ZoneSet := []
  nextZoneSet : Nat := 0
  /-- Zones taken, by drive × 2^26 + zone. -/
  zones : KMap Bool := []
  /-- Strips this head appended, by (drive × 2^26 + zone) × 2^32 + row. -/
  strips : KMap (List Byte) := []
  members : KMap Member := []
  /-- This head's reports of members on their way to itself as master (R276). -/
  reports : List (Nat × MemberState) := []
  rebuilds : List Rebuild := []
  rebuildList : List Nat := []
  evacuating : List Nat := []
  /-- The zone sets whose rebuild is under way, each with its targets (R281). -/
  rebPos : KMap (List RebTarget) := []
  rebuiltBytes : Nat := 0
  /-- This head's rebuild checkpoint, and the partner's, as the index tier holds them (R288). -/
  rebCkpt : RebCkpt := {}
  rebCkptB : RebCkpt := {}
  scrubPos : Option (Nat × Nat) := none
  scrubCkpt : Option (Nat × Nat) := none
  weakFound : Nat := 0
  rowsScrubbed : Nat := 0
  rowsRewritten : Nat := 0
  shelves : KMap Shelf := []
  requests : List (Nat × HoldKind) := []
  releasing : Option Nat := none
  writeShelf : Option Nat := none
  nextShelf : Option Nat := none
  oldWrite : Bool := false
  snaps : List Snapshot := []
  snapSerial : KMap Nat := []
  pairings : KMap (List Pairing) := []
  schedule : KMap Nat := []
  sessions : List Session := []
  sessNum : Nat := 0
  inSessions : List InSession := []
  lost : List Lost := []
  indexDegraded : Bool := false
  /-- The groups handed over for a link that went down (R261). -/
  handed : List Nat := []
  /-- The value of ING_CHUNK_CFG in the configuration store (R162). -/
  chunkCfg : Nat := 0x0F1040100400
  /-- The frames appended to the index tier's drives by NVME WRITE are outside; the RTC time recorded every hour (R493). -/
  rtcSaved : Nat := 0
  lastRead : List Byte := []
deriving DecidableEq, Repr

end Sys2Proof.Machine
end

