-- ==== Sys2Proof/Machine/Fields.lean ====
section
/-! DEFINITION. The control-space register fields (R9 to R12, R531 to R535): one `Field` for each field row of the
spec's register tables, with the address of its register (Table 19.2), its bits, its access class (Table 0.2) and its reset value for each instance. -/

namespace Sys2Proof.Machine

/-- Field access classes (R11, Table 0.2). -/
inductive Acc where
  | ro | rw | rw1c | wo | rws
deriving DecidableEq, Repr

/-- A register field: the address of instance 0, the number of instances (8 bytes apart; the BPM families at 8 × s + c), its bits,
its access class, and its reset value by instance (the last one stands for every later instance). -/
structure Field where
  addr : Nat
  cnt : Nat
  msb : Nat
  lsb : Nat
  acc : Acc
  rst : List Nat
deriving DecidableEq, Repr

namespace F

/-- NET_PORT_CFG_p.MAX_SPEED (R70). -/
def NET_PORT_CFG_MAX_SPEED : Field := ⟨0x200007000100, 16, 23, 20, .rw, [5]⟩
/-- NET_PORT_CFG_p.WIDTH (R70). -/
def NET_PORT_CFG_WIDTH : Field := ⟨0x200007000100, 16, 19, 18, .rw, [2, 0, 0, 0, 2, 0, 0, 0, 2, 0, 0, 0, 2, 0, 0, 0]⟩
/-- NET_PORT_CFG_p.AN_EN (R70). -/
def NET_PORT_CFG_AN_EN : Field := ⟨0x200007000100, 16, 16, 16, .rw, [1]⟩
/-- NET_PORT_CFG_p.FEC_MODE (R70). -/
def NET_PORT_CFG_FEC_MODE : Field := ⟨0x200007000100, 16, 3, 2, .rw, [0]⟩
/-- NET_PORT_CFG_p.TX_EN (R70). -/
def NET_PORT_CFG_TX_EN : Field := ⟨0x200007000100, 16, 1, 1, .rw, [0]⟩
/-- NET_PORT_CFG_p.PORT_EN (R70). -/
def NET_PORT_CFG_PORT_EN : Field := ⟨0x200007000100, 16, 0, 0, .rw, [0]⟩
/-- NET_PORT_STATUS_p.SPEED (R71). -/
def NET_PORT_STATUS_SPEED : Field := ⟨0x200007000180, 16, 23, 20, .ro, [0]⟩
/-- NET_PORT_STATUS_p.WIDTH (R71). -/
def NET_PORT_STATUS_WIDTH : Field := ⟨0x200007000180, 16, 19, 18, .ro, [0]⟩
/-- NET_PORT_STATUS_p.FEC (R71). -/
def NET_PORT_STATUS_FEC : Field := ⟨0x200007000180, 16, 17, 16, .ro, [0]⟩
/-- NET_PORT_STATUS_p.AN_DONE (R71). -/
def NET_PORT_STATUS_AN_DONE : Field := ⟨0x200007000180, 16, 3, 3, .ro, [0]⟩
/-- NET_PORT_STATUS_p.PCS_LOCK (R71). -/
def NET_PORT_STATUS_PCS_LOCK : Field := ⟨0x200007000180, 16, 2, 2, .ro, [0]⟩
/-- NET_PORT_STATUS_p.LINK_UP (R71). -/
def NET_PORT_STATUS_LINK_UP : Field := ⟨0x200007000180, 16, 1, 1, .ro, [0]⟩
/-- NET_PORT_STATUS_p.FENCE_GATED (R71). -/
def NET_PORT_STATUS_FENCE_GATED : Field := ⟨0x200007000180, 16, 0, 0, .ro, [0]⟩
/-- NET_AN_RESULT_p.PARTNER_ABIL (R71). -/
def NET_AN_RESULT_PARTNER_ABIL : Field := ⟨0x200007000200, 16, 63, 32, .ro, [0]⟩
/-- NET_AN_RESULT_p.AN_RESTARTS (R71). -/
def NET_AN_RESULT_AN_RESTARTS : Field := ⟨0x200007000200, 16, 15, 0, .rw1c, [0]⟩
/-- NET_FEC_CNT_p.UNCORR (R71). -/
def NET_FEC_CNT_UNCORR : Field := ⟨0x200007000280, 16, 63, 32, .rw1c, [0]⟩
/-- NET_FEC_CNT_p.CORR (R71). -/
def NET_FEC_CNT_CORR : Field := ⟨0x200007000280, 16, 31, 0, .rw1c, [0]⟩
/-- NET_VLAN_CFG.DSCP_REPL (R72). -/
def NET_VLAN_CFG_DSCP_REPL : Field := ⟨0x200007000000, 1, 63, 58, .rw, [10]⟩
/-- NET_VLAN_CFG.DSCP_FABRIC (R72). -/
def NET_VLAN_CFG_DSCP_FABRIC : Field := ⟨0x200007000000, 1, 57, 52, .rw, [26]⟩
/-- NET_VLAN_CFG.DSCP_HOST (R72). -/
def NET_VLAN_CFG_DSCP_HOST : Field := ⟨0x200007000000, 1, 51, 46, .rw, [34]⟩
/-- NET_VLAN_CFG.TAG_EN (R72). -/
def NET_VLAN_CFG_TAG_EN : Field := ⟨0x200007000000, 1, 15, 15, .rw, [0]⟩
/-- NET_VLAN_CFG.PCP (R72). -/
def NET_VLAN_CFG_PCP : Field := ⟨0x200007000000, 1, 14, 12, .rw, [0]⟩
/-- NET_VLAN_CFG.VID (R72). -/
def NET_VLAN_CFG_VID : Field := ⟨0x200007000000, 1, 11, 0, .rw, [0]⟩
/-- NET_IP_ADDR_k.ADDR (R72). -/
def NET_IP_ADDR_ADDR : Field := ⟨0x200007000300, 16, 63, 0, .rw, [0]⟩
/-- HQ_CTL.MAX_QP (R73). -/
def HQ_CTL_MAX_QP : Field := ⟨0x200006000000, 1, 31, 16, .rw, [4096]⟩
/-- HQ_CTL.MQES (R73). -/
def HQ_CTL_MQES : Field := ⟨0x200006000000, 1, 14, 4, .ro, [1023]⟩
/-- HQ_CTL.TCP_EN (R73). -/
def HQ_CTL_TCP_EN : Field := ⟨0x200006000000, 1, 2, 2, .rw, [1]⟩
/-- HQ_CTL.REARN_EN (R73). -/
def HQ_CTL_REARN_EN : Field := ⟨0x200006000000, 1, 1, 1, .rw, [1]⟩
/-- HQ_CTL.INTAKE_EN (R73). -/
def HQ_CTL_INTAKE_EN : Field := ⟨0x200006000000, 1, 0, 0, .rw, [0]⟩
/-- HQ_IND_SEL.CNTLID (R73). -/
def HQ_IND_SEL_CNTLID : Field := ⟨0x200006000008, 1, 47, 32, .rw, [0]⟩
/-- HQ_IND_SEL.QID (R73). -/
def HQ_IND_SEL_QID : Field := ⟨0x200006000008, 1, 31, 16, .rw, [0]⟩
/-- HQ_IND_SEL.WORD (R73). -/
def HQ_IND_SEL_WORD : Field := ⟨0x200006000008, 1, 3, 0, .rw, [0]⟩
/-- HQ_IND_DATA.DATA (R73). -/
def HQ_IND_DATA_DATA : Field := ⟨0x200006000010, 1, 63, 0, .ro, [0]⟩
/-- HQ_RESET_FENCE.FENCE_B (R74). -/
def HQ_RESET_FENCE_FENCE_B : Field := ⟨0x200006000018, 1, 63, 32, .ro, [2147483648]⟩
/-- HQ_RESET_FENCE.FENCE_A (R74). -/
def HQ_RESET_FENCE_FENCE_A : Field := ⟨0x200006000018, 1, 31, 0, .ro, [0]⟩
/-- HQ_DUALSEND_CFG.DUP_WINDOW (R74). -/
def HQ_DUALSEND_CFG_DUP_WINDOW : Field := ⟨0x200006000020, 1, 31, 16, .ro, [2048]⟩
/-- HQ_DUALSEND_CFG.READ_RESEND_EPOCHS (R74). -/
def HQ_DUALSEND_CFG_READ_RESEND_EPOCHS : Field := ⟨0x200006000020, 1, 15, 8, .rw, [2]⟩
/-- HQ_DUALSEND_CFG.DUAL_REQUIRED (R74). -/
def HQ_DUALSEND_CFG_DUAL_REQUIRED : Field := ⟨0x200006000020, 1, 0, 0, .rw, [1]⟩
/-- HQ_ATOMIC_UNIT.UNIT_LBAS (R74). -/
def HQ_ATOMIC_UNIT_UNIT_LBAS : Field := ⟨0x200006000028, 1, 31, 16, .ro, [511]⟩
/-- HQ_ATOMIC_UNIT.ALIGN_BYTES (R74). -/
def HQ_ATOMIC_UNIT_ALIGN_BYTES : Field := ⟨0x200006000028, 1, 15, 0, .ro, [4096]⟩
/-- TSK_CTL.WEIGHT_BG (R95). -/
def TSK_CTL_WEIGHT_BG : Field := ⟨0x200005000000, 1, 47, 40, .rw, [1]⟩
/-- TSK_CTL.WEIGHT_FAB (R95). -/
def TSK_CTL_WEIGHT_FAB : Field := ⟨0x200005000000, 1, 39, 32, .rw, [4]⟩
/-- TSK_CTL.WEIGHT_HOST (R95). -/
def TSK_CTL_WEIGHT_HOST : Field := ⟨0x200005000000, 1, 31, 24, .rw, [8]⟩
/-- TSK_CTL.HOST_MAX (R95). -/
def TSK_CTL_HOST_MAX : Field := ⟨0x200005000000, 1, 23, 15, .rw, [384]⟩
/-- TSK_CTL.BG_MAX (R95). -/
def TSK_CTL_BG_MAX : Field := ⟨0x200005000000, 1, 14, 8, .rw, [64]⟩
/-- TSK_CTL.DRAIN (R95). -/
def TSK_CTL_DRAIN : Field := ⟨0x200005000000, 1, 1, 1, .rw, [0]⟩
/-- TSK_CTL.DISPATCH_EN (R95). -/
def TSK_CTL_DISPATCH_EN : Field := ⟨0x200005000000, 1, 0, 0, .rw, [0]⟩
/-- TSK_SLOT_MAP.CORE_EN (R95). -/
def TSK_SLOT_MAP_CORE_EN : Field := ⟨0x200005000008, 1, 63, 0, .rw, [18446744073709551615]⟩
/-- TSK_WATCHDOG.LIMIT_MS (R96). -/
def TSK_WATCHDOG_LIMIT_MS : Field := ⟨0x200005000010, 1, 31, 16, .rw, [50]⟩
/-- TSK_WATCHDOG.EXPIRED (R96). -/
def TSK_WATCHDOG_EXPIRED : Field := ⟨0x200005000010, 1, 15, 0, .rw1c, [0]⟩
/-- TSK_DISPATCH_CNT.COUNT (R96). -/
def TSK_DISPATCH_CNT_COUNT : Field := ⟨0x200005000018, 1, 63, 0, .ro, [0]⟩
/-- TSK_STALL_CNT.SLOT_WAIT (R96). -/
def TSK_STALL_CNT_SLOT_WAIT : Field := ⟨0x200005000020, 1, 63, 32, .rw1c, [0]⟩
/-- TSK_STALL_CNT.CAP_HIT (R96). -/
def TSK_STALL_CNT_CAP_HIT : Field := ⟨0x200005000020, 1, 31, 0, .rw1c, [0]⟩
/-- DPC_HOOK_BUDGET.HOOK_EN (R97). -/
def DPC_HOOK_BUDGET_HOOK_EN : Field := ⟨0x200013000000, 1, 35, 32, .rw, [0]⟩
/-- DPC_HOOK_BUDGET.CYCLES (R97). -/
def DPC_HOOK_BUDGET_CYCLES : Field := ⟨0x200013000000, 1, 31, 0, .rw, [20000]⟩
/-- DPC_CORE_CTL_n.START (R132). -/
def DPC_CORE_CTL_START : Field := ⟨0x200013000100, 64, 57, 16, .rw, [0]⟩
/-- DPC_CORE_CTL_n.RETIRE (R132). -/
def DPC_CORE_CTL_RETIRE : Field := ⟨0x200013000100, 64, 3, 3, .wo, [0]⟩
/-- DPC_CORE_CTL_n.STEP (R132). -/
def DPC_CORE_CTL_STEP : Field := ⟨0x200013000100, 64, 2, 2, .rw, [0]⟩
/-- DPC_CORE_CTL_n.HALT (R132). -/
def DPC_CORE_CTL_HALT : Field := ⟨0x200013000100, 64, 1, 1, .rw, [0]⟩
/-- DPC_CORE_CTL_n.EN (R132). -/
def DPC_CORE_CTL_EN : Field := ⟨0x200013000100, 64, 0, 0, .rw, [0]⟩
/-- DPC_CORE_STATUS_n.PARITY_ERRS (R133). -/
def DPC_CORE_STATUS_PARITY_ERRS : Field := ⟨0x200013000300, 64, 63, 48, .rw1c, [0]⟩
/-- DPC_CORE_STATUS_n.LAST_CAUSE (R133). -/
def DPC_CORE_STATUS_LAST_CAUSE : Field := ⟨0x200013000300, 64, 47, 40, .ro, [0]⟩
/-- DPC_CORE_STATUS_n.BUDGET_HITS (R133). -/
def DPC_CORE_STATUS_BUDGET_HITS : Field := ⟨0x200013000300, 64, 39, 32, .rw1c, [0]⟩
/-- DPC_CORE_STATUS_n.TOKENS_HELD (R133). -/
def DPC_CORE_STATUS_TOKENS_HELD : Field := ⟨0x200013000300, 64, 23, 16, .ro, [0]⟩
/-- DPC_CORE_STATUS_n.SLOTS_BUSY (R133). -/
def DPC_CORE_STATUS_SLOTS_BUSY : Field := ⟨0x200013000300, 64, 15, 8, .ro, [0]⟩
/-- DPC_CORE_STATUS_n.RETIRED (R133). -/
def DPC_CORE_STATUS_RETIRED : Field := ⟨0x200013000300, 64, 2, 2, .ro, [0]⟩
/-- DPC_CORE_STATUS_n.HALTED (R133). -/
def DPC_CORE_STATUS_HALTED : Field := ⟨0x200013000300, 64, 1, 1, .ro, [0]⟩
/-- DPC_CORE_STATUS_n.RUNNING (R133). -/
def DPC_CORE_STATUS_RUNNING : Field := ⟨0x200013000300, 64, 0, 0, .ro, [0]⟩
/-- DPC_CORE_RETIRED.CORES (R133). -/
def DPC_CORE_RETIRED_CORES : Field := ⟨0x200013000008, 1, 63, 0, .ro, [0]⟩
/-- BPM_CTL.D_REBUILDING (R155). -/
def BPM_CTL_D_REBUILDING : Field := ⟨0x200004000000, 1, 3, 3, .ro, [0]⟩
/-- BPM_CTL.D_KEEP (R155). -/
def BPM_CTL_D_KEEP : Field := ⟨0x200004000000, 1, 2, 2, .rw, [0]⟩
/-- BPM_CTL.D_EN (R155). -/
def BPM_CTL_D_EN : Field := ⟨0x200004000000, 1, 1, 1, .rw, [0]⟩
/-- BPM_CTL.S_EN (R155). -/
def BPM_CTL_S_EN : Field := ⟨0x200004000000, 1, 0, 0, .rw, [0]⟩
/-- BPM_SET_BASE_S.BASE (R155). -/
def BPM_SET_BASE_S_BASE : Field := ⟨0x200004000008, 1, 47, 0, .rw, [536870912]⟩
/-- BPM_SET_LIMIT_S.LIMIT (R155). -/
def BPM_SET_LIMIT_S_LIMIT : Field := ⟨0x200004000010, 1, 47, 0, .rw, [603979776]⟩
/-- BPM_SET_BASE_D.BASE (R155). -/
def BPM_SET_BASE_D_BASE : Field := ⟨0x200004000018, 1, 47, 0, .rw, [0]⟩
/-- BPM_SET_LIMIT_D.LIMIT (R155). -/
def BPM_SET_LIMIT_D_LIMIT : Field := ⟨0x200004000020, 1, 47, 0, .rw, [0]⟩
/-- BPM_CLASS_CFG_s_c.FLOOR_HOST (R156). -/
def BPM_CLASS_CFG_FLOOR_HOST : Field := ⟨0x200004000100, 13, 63, 52, .rw, [4095, 512, 96, 12, 2, 0, 0, 0, 0, 0, 0, 0,
  0]⟩
/-- BPM_CLASS_CFG_s_c.FLOOR_FAB (R156). -/
def BPM_CLASS_CFG_FLOOR_FAB : Field := ⟨0x200004000100, 13, 51, 40, .rw, [2048, 256, 48, 6, 1, 0, 0, 0, 0, 0, 0, 0, 0]⟩
/-- BPM_CLASS_CFG_s_c.FLOOR_ENG (R156). -/
def BPM_CLASS_CFG_FLOOR_ENG : Field := ⟨0x200004000100, 13, 39, 28, .rw, [512, 64, 16, 2, 0, 0, 0, 0, 0, 0, 0, 0, 0]⟩
/-- BPM_CLASS_CFG_s_c.COUNT (R156). -/
def BPM_CLASS_CFG_COUNT : Field := ⟨0x200004000100, 13, 27, 0, .rw, [16384, 2048, 384, 48, 8, 0, 0, 0, 0, 0, 0, 0, 0]⟩
/-- BPM_CLASS_FREE_s_c.LW_RESET (R157). -/
def BPM_CLASS_FREE_LW_RESET : Field := ⟨0x200004000200, 13, 63, 63, .wo, [0]⟩
/-- BPM_CLASS_FREE_s_c.LOW_WATER (R157). -/
def BPM_CLASS_FREE_LOW_WATER : Field := ⟨0x200004000200, 13, 59, 32, .ro, [0]⟩
/-- BPM_CLASS_FREE_s_c.FREE (R157). -/
def BPM_CLASS_FREE_FREE : Field := ⟨0x200004000200, 13, 27, 0, .ro, [0]⟩
/-- BPM_FALLBACK_CNT_s_c.FLOOR_DENIED (R157). -/
def BPM_FALLBACK_CNT_FLOOR_DENIED : Field := ⟨0x200004000300, 13, 63, 32, .rw1c, [0]⟩
/-- BPM_FALLBACK_CNT_s_c.FALLBACK (R157). -/
def BPM_FALLBACK_CNT_FALLBACK : Field := ⟨0x200004000300, 13, 31, 0, .rw1c, [0]⟩
/-- BPM_ERR_STATUS.ERR_COUNT (R158). -/
def BPM_ERR_STATUS_ERR_COUNT : Field := ⟨0x200004000028, 1, 63, 48, .rw1c, [0]⟩
/-- BPM_ERR_STATUS.FIRST_SRC (R158). -/
def BPM_ERR_STATUS_FIRST_SRC : Field := ⟨0x200004000028, 1, 47, 40, .ro, [0]⟩
/-- BPM_ERR_STATUS.FIRST_CODE (R158). -/
def BPM_ERR_STATUS_FIRST_CODE : Field := ⟨0x200004000028, 1, 39, 36, .ro, [0]⟩
/-- BPM_ERR_STATUS.CFG_ERR (R158). -/
def BPM_ERR_STATUS_CFG_ERR : Field := ⟨0x200004000028, 1, 7, 7, .rw1c, [0]⟩
/-- BPM_ERR_STATUS.REF_SATURATED (R158). -/
def BPM_ERR_STATUS_REF_SATURATED : Field := ⟨0x200004000028, 1, 6, 6, .rw1c, [0]⟩
/-- BPM_ERR_STATUS.REF_UNDERFLOW (R158). -/
def BPM_ERR_STATUS_REF_UNDERFLOW : Field := ⟨0x200004000028, 1, 5, 5, .rw1c, [0]⟩
/-- BPM_ERR_STATUS.OUT_OF_RANGE (R158). -/
def BPM_ERR_STATUS_OUT_OF_RANGE : Field := ⟨0x200004000028, 1, 4, 4, .rw1c, [0]⟩
/-- BPM_ERR_STATUS.MISALIGNED (R158). -/
def BPM_ERR_STATUS_MISALIGNED : Field := ⟨0x200004000028, 1, 3, 3, .rw1c, [0]⟩
/-- BPM_ERR_STATUS.BAD_HANDLE (R158). -/
def BPM_ERR_STATUS_BAD_HANDLE : Field := ⟨0x200004000028, 1, 2, 2, .rw1c, [0]⟩
/-- BPM_ERR_ADDR.FORM (R158). -/
def BPM_ERR_ADDR_FORM : Field := ⟨0x200004000030, 1, 63, 63, .ro, [0]⟩
/-- BPM_ERR_ADDR.VALUE (R158). -/
def BPM_ERR_ADDR_VALUE : Field := ⟨0x200004000030, 1, 47, 0, .ro, [0]⟩
/-- ING_CHUNK_CFG.LOCK (R194). -/
def ING_CHUNK_CFG_LOCK : Field := ⟨0x20000a000000, 1, 63, 63, .rws, [0]⟩
/-- ING_CHUNK_CFG.GEAR_VER (R194). -/
def ING_CHUNK_CFG_GEAR_VER : Field := ⟨0x20000a000000, 1, 55, 48, .ro, [1]⟩
/-- ING_CHUNK_CFG.L_BITS (R194). -/
def ING_CHUNK_CFG_L_BITS : Field := ⟨0x20000a000000, 1, 47, 40, .rws, [15]⟩
/-- ING_CHUNK_CFG.S_BITS (R194). -/
def ING_CHUNK_CFG_S_BITS : Field := ⟨0x20000a000000, 1, 39, 32, .rws, [16]⟩
/-- ING_CHUNK_CFG.MAX_4K (R194). -/
def ING_CHUNK_CFG_MAX_4K : Field := ⟨0x20000a000000, 1, 31, 24, .rws, [64]⟩
/-- ING_CHUNK_CFG.AVG_4K (R194). -/
def ING_CHUNK_CFG_AVG_4K : Field := ⟨0x20000a000000, 1, 23, 16, .rws, [16]⟩
/-- ING_CHUNK_CFG.MIN_4K (R194). -/
def ING_CHUNK_CFG_MIN_4K : Field := ⟨0x20000a000000, 1, 15, 8, .rws, [4]⟩
/-- ING_ENGINE_STATUS.SHA3_BUSY (R195). -/
def ING_ENGINE_STATUS_SHA3_BUSY : Field := ⟨0x20000a000008, 1, 47, 40, .ro, [0]⟩
/-- ING_ENGINE_STATUS.CHUNK_BUSY (R195). -/
def ING_ENGINE_STATUS_CHUNK_BUSY : Field := ⟨0x20000a000008, 1, 35, 32, .ro, [0]⟩
/-- ING_ENGINE_STATUS.SHA3_RETIRED (R195). -/
def ING_ENGINE_STATUS_SHA3_RETIRED : Field := ⟨0x20000a000008, 1, 23, 16, .ro, [0]⟩
/-- ING_ENGINE_STATUS.CHUNK_RETIRED (R195). -/
def ING_ENGINE_STATUS_CHUNK_RETIRED : Field := ⟨0x20000a000008, 1, 3, 0, .ro, [0]⟩
/-- ING_KAT_CTL.KAT_PASSES (R195). -/
def ING_KAT_CTL_KAT_PASSES : Field := ⟨0x20000a000010, 1, 63, 32, .ro, [0]⟩
/-- ING_KAT_CTL.PERIOD_MS (R195). -/
def ING_KAT_CTL_PERIOD_MS : Field := ⟨0x20000a000010, 1, 31, 16, .rw, [10]⟩
/-- ING_KAT_CTL.RUN_NOW (R195). -/
def ING_KAT_CTL_RUN_NOW : Field := ⟨0x20000a000010, 1, 1, 1, .wo, [0]⟩
/-- ING_KAT_CTL.KAT_EN (R195). -/
def ING_KAT_CTL_KAT_EN : Field := ⟨0x20000a000010, 1, 0, 0, .rw, [1]⟩
/-- ING_ERR_CNT.KAT_FAIL (R195). -/
def ING_ERR_CNT_KAT_FAIL : Field := ⟨0x20000a000018, 1, 63, 48, .rw1c, [0]⟩
/-- ING_ERR_CNT.BAD_DESC (R195). -/
def ING_ERR_CNT_BAD_DESC : Field := ⟨0x20000a000018, 1, 47, 32, .rw1c, [0]⟩
/-- ING_ERR_CNT.BUF_FAULT (R195). -/
def ING_ERR_CNT_BUF_FAULT : Field := ⟨0x20000a000018, 1, 31, 16, .rw1c, [0]⟩
/-- ING_ERR_CNT.CFG_REFUSED (R195). -/
def ING_ERR_CNT_CFG_REFUSED : Field := ⟨0x20000a000018, 1, 15, 0, .rw1c, [0]⟩
/-- CMP_ENGINE_STATUS.DEC_BUSY (R228). -/
def CMP_ENGINE_STATUS_DEC_BUSY : Field := ⟨0x20000b000000, 1, 15, 8, .ro, [0]⟩
/-- CMP_ENGINE_STATUS.COMP_BUSY (R228). -/
def CMP_ENGINE_STATUS_COMP_BUSY : Field := ⟨0x20000b000000, 1, 7, 0, .ro, [0]⟩
/-- CMP_RETIRED.DEC (R228). -/
def CMP_RETIRED_DEC : Field := ⟨0x20000b000018, 1, 15, 8, .ro, [0]⟩
/-- CMP_RETIRED.COMP (R228). -/
def CMP_RETIRED_COMP : Field := ⟨0x20000b000018, 1, 7, 0, .ro, [0]⟩
/-- CMP_VERIFY_CFG.KAT_PASSES (R228). -/
def CMP_VERIFY_CFG_KAT_PASSES : Field := ⟨0x20000b000008, 1, 63, 32, .ro, [0]⟩
/-- CMP_VERIFY_CFG.KAT_PERIOD_MS (R228). -/
def CMP_VERIFY_CFG_KAT_PERIOD_MS : Field := ⟨0x20000b000008, 1, 31, 16, .rw, [10]⟩
/-- CMP_VERIFY_CFG.KAT_RUN_NOW (R228). -/
def CMP_VERIFY_CFG_KAT_RUN_NOW : Field := ⟨0x20000b000008, 1, 3, 3, .wo, [0]⟩
/-- CMP_VERIFY_CFG.KAT_EN (R228). -/
def CMP_VERIFY_CFG_KAT_EN : Field := ⟨0x20000b000008, 1, 2, 2, .rw, [1]⟩
/-- CMP_VERIFY_CFG.VERIFY_EN (R228). -/
def CMP_VERIFY_CFG_VERIFY_EN : Field := ⟨0x20000b000008, 1, 0, 0, .ro, [1]⟩
/-- CMP_ERR_CNT.VERIFY_FAIL (R229). -/
def CMP_ERR_CNT_VERIFY_FAIL : Field := ⟨0x20000b000010, 1, 63, 48, .rw1c, [0]⟩
/-- CMP_ERR_CNT.CHECK_FAIL (R229). -/
def CMP_ERR_CNT_CHECK_FAIL : Field := ⟨0x20000b000010, 1, 47, 32, .rw1c, [0]⟩
/-- CMP_ERR_CNT.OUT_FULL (R229). -/
def CMP_ERR_CNT_OUT_FULL : Field := ⟨0x20000b000010, 1, 31, 16, .rw1c, [0]⟩
/-- CMP_ERR_CNT.BAD_DESC (R229). -/
def CMP_ERR_CNT_BAD_DESC : Field := ⟨0x20000b000010, 1, 15, 8, .rw1c, [0]⟩
/-- CMP_ERR_CNT.KAT_FAIL (R229). -/
def CMP_ERR_CNT_KAT_FAIL : Field := ⟨0x20000b000010, 1, 7, 0, .rw1c, [0]⟩
/-- CIP_CTL.ESTATE_TAG (R230). -/
def CIP_CTL_ESTATE_TAG : Field := ⟨0x20000c000000, 1, 63, 32, .rw, [0]⟩
/-- CIP_CTL.LOCK (R230). -/
def CIP_CTL_LOCK : Field := ⟨0x20000c000000, 1, 31, 31, .rw, [0]⟩
/-- CIP_CTL.KAT_PERIOD_MS (R230). -/
def CIP_CTL_KAT_PERIOD_MS : Field := ⟨0x20000c000000, 1, 19, 4, .rw, [10]⟩
/-- CIP_CTL.KAT_RUN_NOW (R230). -/
def CIP_CTL_KAT_RUN_NOW : Field := ⟨0x20000c000000, 1, 3, 3, .wo, [0]⟩
/-- CIP_CTL.KAT_EN (R230). -/
def CIP_CTL_KAT_EN : Field := ⟨0x20000c000000, 1, 2, 2, .rw, [1]⟩
/-- CIP_LANE_STATUS.RETIRED (R230). -/
def CIP_LANE_STATUS_RETIRED : Field := ⟨0x20000c000020, 1, 63, 0, .ro, [0]⟩
/-- CIP_NONCE_LIMIT.LIMIT (R230). -/
def CIP_NONCE_LIMIT_LIMIT : Field := ⟨0x20000c000018, 1, 63, 16, .rw, [0]⟩
/-- CIP_NONCE_LIMIT.SET (R230). -/
def CIP_NONCE_LIMIT_SET : Field := ⟨0x20000c000018, 1, 15, 15, .wo, [0]⟩
/-- CIP_NONCE_LIMIT.SLOT (R230). -/
def CIP_NONCE_LIMIT_SLOT : Field := ⟨0x20000c000018, 1, 11, 0, .rw, [0]⟩
/-- CIP_KEYSLOT_CMD.OP (R231). -/
def CIP_KEYSLOT_CMD_OP : Field := ⟨0x20000c000008, 1, 63, 60, .wo, [0]⟩
/-- CIP_KEYSLOT_CMD.TYPE (R231). -/
def CIP_KEYSLOT_CMD_TYPE : Field := ⟨0x20000c000008, 1, 59, 56, .wo, [0]⟩
/-- CIP_KEYSLOT_CMD.SLOT (R231). -/
def CIP_KEYSLOT_CMD_SLOT : Field := ⟨0x20000c000008, 1, 53, 42, .wo, [0]⟩
/-- CIP_KEYSLOT_CMD.ADDR (R231). -/
def CIP_KEYSLOT_CMD_ADDR : Field := ⟨0x20000c000008, 1, 41, 0, .wo, [0]⟩
/-- CIP_KEYSLOT_STATUS.SLOTS_LOADED (R231). -/
def CIP_KEYSLOT_STATUS_SLOTS_LOADED : Field := ⟨0x20000c000010, 1, 63, 48, .ro, [0]⟩
/-- CIP_KEYSLOT_STATUS.SLOT (R231). -/
def CIP_KEYSLOT_STATUS_SLOT : Field := ⟨0x20000c000010, 1, 31, 20, .ro, [0]⟩
/-- CIP_KEYSLOT_STATUS.OP (R231). -/
def CIP_KEYSLOT_STATUS_OP : Field := ⟨0x20000c000010, 1, 15, 12, .ro, [0]⟩
/-- CIP_KEYSLOT_STATUS.CMD_DROPPED (R231). -/
def CIP_KEYSLOT_STATUS_CMD_DROPPED : Field := ⟨0x20000c000010, 1, 8, 8, .rw1c, [0]⟩
/-- CIP_KEYSLOT_STATUS.RESULT (R231). -/
def CIP_KEYSLOT_STATUS_RESULT : Field := ⟨0x20000c000010, 1, 7, 4, .ro, [0]⟩
/-- CIP_KEYSLOT_STATUS.BUSY (R231). -/
def CIP_KEYSLOT_STATUS_BUSY : Field := ⟨0x20000c000010, 1, 0, 0, .ro, [0]⟩
/-- CIP_MISMATCH_CNT.MISMATCH (R231). -/
def CIP_MISMATCH_CNT_MISMATCH : Field := ⟨0x20000c000028, 1, 63, 32, .rw1c, [0]⟩
/-- CIP_MISMATCH_CNT.REPEAT (R231). -/
def CIP_MISMATCH_CNT_REPEAT : Field := ⟨0x20000c000028, 1, 31, 16, .rw1c, [0]⟩
/-- CIP_MISMATCH_CNT.LAST_LANE (R231). -/
def CIP_MISMATCH_CNT_LAST_LANE : Field := ⟨0x20000c000028, 1, 15, 10, .ro, [0]⟩
/-- CIP_MISMATCH_CNT.LIMIT_REFUSED (R231). -/
def CIP_MISMATCH_CNT_LIMIT_REFUSED : Field := ⟨0x20000c000028, 1, 7, 4, .rw1c, [0]⟩
/-- CIP_MISMATCH_CNT.KAT_FAIL (R231). -/
def CIP_MISMATCH_CNT_KAT_FAIL : Field := ⟨0x20000c000028, 1, 3, 0, .rw1c, [0]⟩
/-- SHF_CTL.PRESENT (R269). -/
def SHF_CTL_PRESENT : Field := ⟨0x200010000000, 1, 63, 56, .rw, [0]⟩
/-- SHF_CTL.EN_DRIVE (R269). -/
def SHF_CTL_EN_DRIVE : Field := ⟨0x200010000000, 1, 55, 48, .rw, [0]⟩
/-- SHF_CTL.ALERT_EN (R269). -/
def SHF_CTL_ALERT_EN : Field := ⟨0x200010000000, 1, 47, 40, .rw, [0]⟩
/-- SHF_BUDGET.HOST_PINS (R269). -/
def SHF_BUDGET_HOST_PINS : Field := ⟨0x200010000008, 1, 15, 12, .ro, [0]⟩
/-- SHF_BUDGET.AWAKE (R269). -/
def SHF_BUDGET_AWAKE : Field := ⟨0x200010000008, 1, 11, 8, .ro, [0]⟩
/-- SHF_BUDGET.BUDGET (R269). -/
def SHF_BUDGET_BUDGET : Field := ⟨0x200010000008, 1, 3, 0, .rw, [1]⟩
/-- SHF_STATE_n.TIME_IN_STATE (R269). -/
def SHF_STATE_TIME_IN_STATE : Field := ⟨0x200010000100, 8, 63, 32, .ro, [0]⟩
/-- SHF_STATE_n.ALERT_LATCH (R269). -/
def SHF_STATE_ALERT_LATCH : Field := ⟨0x200010000100, 8, 15, 15, .rw1c, [0]⟩
/-- SHF_STATE_n.PG_DROP (R269). -/
def SHF_STATE_PG_DROP : Field := ⟨0x200010000100, 8, 14, 14, .rw1c, [0]⟩
/-- SHF_STATE_n.ALERT (R269). -/
def SHF_STATE_ALERT : Field := ⟨0x200010000100, 8, 13, 13, .ro, [0]⟩
/-- SHF_STATE_n.PG (R269). -/
def SHF_STATE_PG : Field := ⟨0x200010000100, 8, 12, 12, .ro, [0]⟩
/-- SHF_STATE_n.EN_SENSE (R269). -/
def SHF_STATE_EN_SENSE : Field := ⟨0x200010000100, 8, 11, 11, .ro, [0]⟩
/-- SHF_STATE_n.HOLDS (R269). -/
def SHF_STATE_HOLDS : Field := ⟨0x200010000100, 8, 7, 4, .rw, [0]⟩
/-- SHF_STATE_n.STATE (R269). -/
def SHF_STATE_STATE : Field := ⟨0x200010000100, 8, 2, 0, .rw, [7]⟩
/-- SHF_SEQ_CFG.WAKE_AHEAD_S (R270). -/
def SHF_SEQ_CFG_WAKE_AHEAD_S : Field := ⟨0x200010000010, 1, 63, 52, .rw, [120]⟩
/-- SHF_SEQ_CFG.MIN_AWAKE_S (R270). -/
def SHF_SEQ_CFG_MIN_AWAKE_S : Field := ⟨0x200010000010, 1, 51, 40, .rw, [60]⟩
/-- SHF_SEQ_CFG.MIN_OFF_S (R270). -/
def SHF_SEQ_CFG_MIN_OFF_S : Field := ⟨0x200010000010, 1, 39, 34, .rw, [10]⟩
/-- SHF_SEQ_CFG.READY_TIMEOUT_S (R270). -/
def SHF_SEQ_CFG_READY_TIMEOUT_S : Field := ⟨0x200010000010, 1, 33, 27, .rw, [45]⟩
/-- SHF_SEQ_CFG.GC_LIVE_PCT (R270). -/
def SHF_SEQ_CFG_GC_LIVE_PCT : Field := ⟨0x200010000010, 1, 26, 20, .rw, [60]⟩
/-- SHF_SEQ_CFG.STEEP_MAX_100MS (R270). -/
def SHF_SEQ_CFG_STEEP_MAX_100MS : Field := ⟨0x200010000010, 1, 19, 12, .rw, [20]⟩
/-- SHF_SEQ_CFG.PG_TIMEOUT_100MS (R270). -/
def SHF_SEQ_CFG_PG_TIMEOUT_100MS : Field := ⟨0x200010000010, 1, 11, 0, .rw, [50]⟩
/-- SHF_SCRUB_INTERVAL.STAGGER_H (R270). -/
def SHF_SCRUB_INTERVAL_STAGGER_H : Field := ⟨0x200010000018, 1, 23, 16, .rw, [24]⟩
/-- SHF_SCRUB_INTERVAL.DAYS (R270). -/
def SHF_SCRUB_INTERVAL_DAYS : Field := ⟨0x200010000018, 1, 8, 0, .rw, [90]⟩
/-- PAR_CTL.KAT_PERIOD_MS (R271). -/
def PAR_CTL_KAT_PERIOD_MS : Field := ⟨0x20000d000000, 1, 31, 16, .rw, [10]⟩
/-- PAR_CTL.KAT_RUN_NOW (R271). -/
def PAR_CTL_KAT_RUN_NOW : Field := ⟨0x20000d000000, 1, 3, 3, .wo, [0]⟩
/-- PAR_CTL.KAT_EN (R271). -/
def PAR_CTL_KAT_EN : Field := ⟨0x20000d000000, 1, 2, 2, .rw, [1]⟩
/-- PAR_STATUS.RETIRED (R271). -/
def PAR_STATUS_RETIRED : Field := ⟨0x20000d000008, 1, 8, 8, .ro, [0]⟩
/-- PAR_STATUS.CTX_BUSY (R271). -/
def PAR_STATUS_CTX_BUSY : Field := ⟨0x20000d000008, 1, 6, 0, .ro, [0]⟩
/-- PAR_ERR_CNT.CHECK_FAIL (R271). -/
def PAR_ERR_CNT_CHECK_FAIL : Field := ⟨0x20000d000010, 1, 63, 48, .rw1c, [0]⟩
/-- PAR_ERR_CNT.BAD_DESC (R271). -/
def PAR_ERR_CNT_BAD_DESC : Field := ⟨0x20000d000010, 1, 47, 32, .rw1c, [0]⟩
/-- PAR_ERR_CNT.BUF_FAULT (R271). -/
def PAR_ERR_CNT_BUF_FAULT : Field := ⟨0x20000d000010, 1, 31, 16, .rw1c, [0]⟩
/-- PAR_ERR_CNT.KAT_FAIL (R271). -/
def PAR_ERR_CNT_KAT_FAIL : Field := ⟨0x20000d000010, 1, 15, 0, .rw1c, [0]⟩
/-- PCI_PORT_CFG_n.CMD_TIMEOUT_MS (R272). -/
def PCI_PORT_CFG_CMD_TIMEOUT_MS : Field := ⟨0x20000e000100, 17, 63, 48, .rw, [8000]⟩
/-- PCI_PORT_CFG_n.MAX_GEN (R272). -/
def PCI_PORT_CFG_MAX_GEN : Field := ⟨0x20000e000100, 17, 23, 20, .rw, [6, 6, 6, 6, 6, 6, 6, 6, 6, 6, 6, 6, 6, 6, 6, 6,
  5]⟩
/-- PCI_PORT_CFG_n.WIDTH (R272). -/
def PCI_PORT_CFG_WIDTH : Field := ⟨0x20000e000100, 17, 19, 18, .rw, [1, 0, 1, 0, 1, 0, 1, 0, 1, 0, 1, 0, 1, 0, 0, 0, 0]⟩
/-- PCI_PORT_CFG_n.EN (R272). -/
def PCI_PORT_CFG_EN : Field := ⟨0x20000e000100, 17, 0, 0, .rw, [0]⟩
/-- PCI_PORT_STATUS_n.LINK_DOWNS (R272). -/
def PCI_PORT_STATUS_LINK_DOWNS : Field := ⟨0x20000e000200, 17, 63, 48, .rw1c, [0]⟩
/-- PCI_PORT_STATUS_n.PLANNED_DOWNS (R272). -/
def PCI_PORT_STATUS_PLANNED_DOWNS : Field := ⟨0x20000e000200, 17, 47, 32, .rw1c, [0]⟩
/-- PCI_PORT_STATUS_n.LANES (R272). -/
def PCI_PORT_STATUS_LANES : Field := ⟨0x20000e000200, 17, 12, 8, .ro, [0]⟩
/-- PCI_PORT_STATUS_n.GEN (R272). -/
def PCI_PORT_STATUS_GEN : Field := ⟨0x20000e000200, 17, 7, 4, .ro, [0]⟩
/-- PCI_PORT_STATUS_n.FENCE_GATED (R272). -/
def PCI_PORT_STATUS_FENCE_GATED : Field := ⟨0x20000e000200, 17, 2, 2, .ro, [0]⟩
/-- PCI_PORT_STATUS_n.DL_ACTIVE (R272). -/
def PCI_PORT_STATUS_DL_ACTIVE : Field := ⟨0x20000e000200, 17, 1, 1, .ro, [0]⟩
/-- PCI_PORT_STATUS_n.LINK_UP (R272). -/
def PCI_PORT_STATUS_LINK_UP : Field := ⟨0x20000e000200, 17, 0, 0, .ro, [0]⟩
/-- PCI_ERR_CNT_n.UNPLANNED_DOWN (R272). -/
def PCI_ERR_CNT_UNPLANNED_DOWN : Field := ⟨0x20000e000300, 17, 63, 48, .rw1c, [0]⟩
/-- PCI_ERR_CNT_n.UNCORR (R272). -/
def PCI_ERR_CNT_UNCORR : Field := ⟨0x20000e000300, 17, 47, 32, .rw1c, [0]⟩
/-- PCI_ERR_CNT_n.RETRAINS (R272). -/
def PCI_ERR_CNT_RETRAINS : Field := ⟨0x20000e000300, 17, 31, 16, .rw1c, [0]⟩
/-- PCI_ERR_CNT_n.CORR (R272). -/
def PCI_ERR_CNT_CORR : Field := ⟨0x20000e000300, 17, 15, 0, .rw1c, [0]⟩
/-- PCI_PLANNED_DOWN.PLANNED (R273). -/
def PCI_PLANNED_DOWN_PLANNED : Field := ⟨0x20000e000000, 1, 16, 0, .rw, [0]⟩
/-- PNL_CTL.FWD_AFTER_US (R359). -/
def PNL_CTL_FWD_AFTER_US : Field := ⟨0x200009000000, 1, 39, 32, .rw, [20]⟩
/-- PNL_CTL.EPOCH_WINDOW (R359). -/
def PNL_CTL_EPOCH_WINDOW : Field := ⟨0x200009000000, 1, 31, 28, .rw, [8]⟩
/-- PNL_CTL.SOLO_ACK (R359). -/
def PNL_CTL_SOLO_ACK : Field := ⟨0x200009000000, 1, 8, 8, .rw, [1]⟩
/-- PNL_CTL.SOLO (R359). -/
def PNL_CTL_SOLO : Field := ⟨0x200009000000, 1, 7, 7, .ro, [0]⟩
/-- PNL_CTL.LOOPBACK_RUN (R359). -/
def PNL_CTL_LOOPBACK_RUN : Field := ⟨0x200009000000, 1, 2, 2, .wo, [0]⟩
/-- PNL_CTL.MIRROR_EN (R359). -/
def PNL_CTL_MIRROR_EN : Field := ⟨0x200009000000, 1, 1, 1, .rw, [0]⟩
/-- PNL_CTL.PNL_EN (R359). -/
def PNL_CTL_PNL_EN : Field := ⟨0x200009000000, 1, 0, 0, .rw, [0]⟩
/-- PNL_LINK_STATUS.LANE_DROPS (R359). -/
def PNL_LINK_STATUS_LANE_DROPS : Field := ⟨0x200009000008, 1, 63, 48, .rw1c, [0]⟩
/-- PNL_LINK_STATUS.MPV (R359). -/
def PNL_LINK_STATUS_MPV : Field := ⟨0x200009000008, 1, 47, 40, .ro, [0]⟩
/-- PNL_LINK_STATUS.PARTNER_MPV_MAX (R359). -/
def PNL_LINK_STATUS_PARTNER_MPV_MAX : Field := ⟨0x200009000008, 1, 39, 32, .ro, [0]⟩
/-- PNL_LINK_STATUS.LANES_UP (R359). -/
def PNL_LINK_STATUS_LANES_UP : Field := ⟨0x200009000008, 1, 31, 24, .ro, [0]⟩
/-- PNL_LINK_STATUS.LANES_DROPPED (R359). -/
def PNL_LINK_STATUS_LANES_DROPPED : Field := ⟨0x200009000008, 1, 23, 16, .ro, [0]⟩
/-- PNL_LINK_STATUS.PARTNER_SLOT (R359). -/
def PNL_LINK_STATUS_PARTNER_SLOT : Field := ⟨0x200009000008, 1, 3, 3, .ro, [0]⟩
/-- PNL_LINK_STATUS.VERSION_OK (R359). -/
def PNL_LINK_STATUS_VERSION_OK : Field := ⟨0x200009000008, 1, 2, 2, .ro, [0]⟩
/-- PNL_LINK_STATUS.FRAMES_OK (R359). -/
def PNL_LINK_STATUS_FRAMES_OK : Field := ⟨0x200009000008, 1, 1, 1, .ro, [0]⟩
/-- PNL_LINK_STATUS.LINK_UP (R359). -/
def PNL_LINK_STATUS_LINK_UP : Field := ⟨0x200009000008, 1, 0, 0, .ro, [0]⟩
/-- PNL_EPOCH_PERIOD.ACTIVE_NS (R360). -/
def PNL_EPOCH_PERIOD_ACTIVE_NS : Field := ⟨0x200009000010, 1, 47, 32, .ro, [4000]⟩
/-- PNL_EPOCH_PERIOD.MAX_MIB (R360). -/
def PNL_EPOCH_PERIOD_MAX_MIB : Field := ⟨0x200009000010, 1, 23, 16, .rw, [4]⟩
/-- PNL_EPOCH_PERIOD.PERIOD_NS (R360). -/
def PNL_EPOCH_PERIOD_PERIOD_NS : Field := ⟨0x200009000010, 1, 15, 0, .rw, [4000]⟩
/-- PNL_EPOCH_SEQ.NUMBER (R360). -/
def PNL_EPOCH_SEQ_NUMBER : Field := ⟨0x200009000018, 1, 63, 16, .ro, [0]⟩
/-- PNL_EPOCH_SEQ.UNCONFIRMED (R360). -/
def PNL_EPOCH_SEQ_UNCONFIRMED : Field := ⟨0x200009000018, 1, 7, 4, .ro, [0]⟩
/-- PNL_EPOCH_SEQ.HELD_OPEN (R360). -/
def PNL_EPOCH_SEQ_HELD_OPEN : Field := ⟨0x200009000018, 1, 0, 0, .ro, [0]⟩
/-- PNL_HB_CFG.KICK_WINDOW_US (R361). -/
def PNL_HB_CFG_KICK_WINDOW_US : Field := ⟨0x200009000020, 1, 47, 32, .rw, [8]⟩
/-- PNL_HB_CFG.LOSS_NS (R361). -/
def PNL_HB_CFG_LOSS_NS : Field := ⟨0x200009000020, 1, 31, 16, .rw, [2000]⟩
/-- PNL_HB_CFG.WDOG_TRIP (R361). -/
def PNL_HB_CFG_WDOG_TRIP : Field := ⟨0x200009000020, 1, 2, 2, .rw1c, [0]⟩
/-- PNL_HB_CFG.KICK (R361). -/
def PNL_HB_CFG_KICK : Field := ⟨0x200009000020, 1, 1, 1, .wo, [0]⟩
/-- PNL_HB_CFG.HB_EN (R361). -/
def PNL_HB_CFG_HB_EN : Field := ⟨0x200009000020, 1, 0, 0, .rw, [0]⟩
/-- PNL_FENCE_CTL.WIRE_TEST (R361). -/
def PNL_FENCE_CTL_WIRE_TEST : Field := ⟨0x200009000028, 1, 6, 6, .wo, [0]⟩
/-- PNL_FENCE_CTL.PULSE (R361). -/
def PNL_FENCE_CTL_PULSE : Field := ⟨0x200009000028, 1, 5, 5, .wo, [0]⟩
/-- PNL_FENCE_CTL.SELF_STOP (R361). -/
def PNL_FENCE_CTL_SELF_STOP : Field := ⟨0x200009000028, 1, 4, 4, .wo, [0]⟩
/-- PNL_FENCE_CTL.RELEASE (R361). -/
def PNL_FENCE_CTL_RELEASE : Field := ⟨0x200009000028, 1, 3, 3, .wo, [0]⟩
/-- PNL_FENCE_CTL.ASSERT (R361). -/
def PNL_FENCE_CTL_ASSERT : Field := ⟨0x200009000028, 1, 2, 2, .wo, [0]⟩
/-- PNL_FENCE_CTL.AUTO_EN (R361). -/
def PNL_FENCE_CTL_AUTO_EN : Field := ⟨0x200009000028, 1, 1, 1, .rw, [1]⟩
/-- PNL_FENCE_STATUS.FENCE_COUNT (R362). -/
def PNL_FENCE_STATUS_FENCE_COUNT : Field := ⟨0x200009000030, 1, 63, 48, .rws, [0]⟩
/-- PNL_FENCE_STATUS.CAUSE (R362). -/
def PNL_FENCE_STATUS_CAUSE : Field := ⟨0x200009000030, 1, 19, 16, .ro, [0]⟩
/-- PNL_FENCE_STATUS.HB_IN_LIVE (R362). -/
def PNL_FENCE_STATUS_HB_IN_LIVE : Field := ⟨0x200009000030, 1, 15, 15, .ro, [0]⟩
/-- PNL_FENCE_STATUS.ARMED (R362). -/
def PNL_FENCE_STATUS_ARMED : Field := ⟨0x200009000030, 1, 14, 14, .ro, [0]⟩
/-- PNL_FENCE_STATUS.PTN_PRESENT (R362). -/
def PNL_FENCE_STATUS_PTN_PRESENT : Field := ⟨0x200009000030, 1, 13, 13, .ro, [0]⟩
/-- PNL_FENCE_STATUS.PTN_PWRGOOD (R362). -/
def PNL_FENCE_STATUS_PTN_PWRGOOD : Field := ⟨0x200009000030, 1, 12, 12, .ro, [0]⟩
/-- PNL_FENCE_STATUS.FENCE_IN (R362). -/
def PNL_FENCE_STATUS_FENCE_IN : Field := ⟨0x200009000030, 1, 11, 11, .ro, [0]⟩
/-- PNL_FENCE_STATUS.FENCE_OUT (R362). -/
def PNL_FENCE_STATUS_FENCE_OUT : Field := ⟨0x200009000030, 1, 10, 10, .ro, [0]⟩
/-- PNL_FENCE_STATUS.GATED (R362). -/
def PNL_FENCE_STATUS_GATED : Field := ⟨0x200009000030, 1, 9, 9, .ro, [0]⟩
/-- PNL_FENCE_STATUS.ARB_LOST (R362). -/
def PNL_FENCE_STATUS_ARB_LOST : Field := ⟨0x200009000030, 1, 8, 8, .rw1c, [0]⟩
/-- PNL_FENCE_STATUS.HB_LOST (R362). -/
def PNL_FENCE_STATUS_HB_LOST : Field := ⟨0x200009000030, 1, 7, 7, .rw1c, [0]⟩
/-- PNL_FENCE_STATUS.PWRGOOD_LOST (R362). -/
def PNL_FENCE_STATUS_PWRGOOD_LOST : Field := ⟨0x200009000030, 1, 6, 6, .rw1c, [0]⟩
/-- PNL_FENCE_STATUS.FENCE_DONE (R362). -/
def PNL_FENCE_STATUS_FENCE_DONE : Field := ⟨0x200009000030, 1, 5, 5, .ro, [0]⟩
/-- PNL_FENCE_STATUS.SELF_STOPPED (R362). -/
def PNL_FENCE_STATUS_SELF_STOPPED : Field := ⟨0x200009000030, 1, 4, 4, .ro, [0]⟩
/-- PNL_FENCE_STATUS.TEST_SEEN (R362). -/
def PNL_FENCE_STATUS_TEST_SEEN : Field := ⟨0x200009000030, 1, 3, 3, .rw1c, [0]⟩
/-- PNL_PARTNER_HEALTH.SEQ (R363). -/
def PNL_PARTNER_HEALTH_SEQ : Field := ⟨0x200009000038, 1, 63, 32, .ro, [0]⟩
/-- PNL_PARTNER_HEALTH.VERSION (R363). -/
def PNL_PARTNER_HEALTH_VERSION : Field := ⟨0x200009000038, 1, 31, 16, .ro, [0]⟩
/-- PNL_PARTNER_HEALTH.FLAGS (R363). -/
def PNL_PARTNER_HEALTH_FLAGS : Field := ⟨0x200009000038, 1, 15, 8, .ro, [0]⟩
/-- PNL_PARTNER_HEALTH.FORMAT (R363). -/
def PNL_PARTNER_HEALTH_FORMAT : Field := ⟨0x200009000038, 1, 7, 0, .ro, [0]⟩
/-- PNL_OWN_MAP_k.OWNER (R363). -/
def PNL_OWN_MAP_OWNER : Field := ⟨0x200009000040, 4, 63, 0, .rw, [0, 0, 18446744073709551615, 18446744073709551615]⟩
/-- RRN_CTL.UDP_PORT (R395). -/
def RRN_CTL_UDP_PORT : Field := ⟨0x200008000000, 1, 63, 48, .rw, [29712]⟩
/-- RRN_CTL.VER_MAX (R395). -/
def RRN_CTL_VER_MAX : Field := ⟨0x200008000000, 1, 47, 40, .ro, [2]⟩
/-- RRN_CTL.VER_MIN (R395). -/
def RRN_CTL_VER_MIN : Field := ⟨0x200008000000, 1, 39, 32, .ro, [1]⟩
/-- RRN_CTL.READ_MAX_MIB (R395). -/
def RRN_CTL_READ_MAX_MIB : Field := ⟨0x200008000000, 1, 31, 24, .rw, [16]⟩
/-- RRN_CTL.PKT (R395). -/
def RRN_CTL_PKT : Field := ⟨0x200008000000, 1, 17, 16, .rw, [3]⟩
/-- RRN_CTL.EN (R395). -/
def RRN_CTL_EN : Field := ⟨0x200008000000, 1, 0, 0, .rw, [0]⟩
/-- RRN_CHIP_NUM.CONFLICT (R395). -/
def RRN_CHIP_NUM_CONFLICT : Field := ⟨0x200008000008, 1, 31, 31, .rw1c, [0]⟩
/-- RRN_CHIP_NUM.DOMAIN (R395). -/
def RRN_CHIP_NUM_DOMAIN : Field := ⟨0x200008000008, 1, 29, 24, .rw, [0]⟩
/-- RRN_CHIP_NUM.ARRAY (R395). -/
def RRN_CHIP_NUM_ARRAY : Field := ⟨0x200008000008, 1, 20, 16, .rw, [0]⟩
/-- RRN_CHIP_NUM.NUM (R395). -/
def RRN_CHIP_NUM_NUM : Field := ⟨0x200008000008, 1, 9, 0, .ro, [0]⟩
/-- RRN_WIN_SEL.WINDOW (R396). -/
def RRN_WIN_SEL_WINDOW : Field := ⟨0x200008000010, 1, 31, 16, .rw, [0]⟩
/-- RRN_WIN_SEL.WORD (R396). -/
def RRN_WIN_SEL_WORD : Field := ⟨0x200008000010, 1, 1, 0, .rw, [0]⟩
/-- RRN_WIN_CFG.DATA (R396). -/
def RRN_WIN_CFG_DATA : Field := ⟨0x200008000018, 1, 63, 0, .rw, [0]⟩
/-- RRN_CREDIT_POOL.RMA_4K (R397). -/
def RRN_CREDIT_POOL_RMA_4K : Field := ⟨0x200008000020, 1, 59, 40, .rw, [16384]⟩
/-- RRN_CREDIT_POOL.HOST_4K (R397). -/
def RRN_CREDIT_POOL_HOST_4K : Field := ⟨0x200008000020, 1, 39, 20, .rw, [12288]⟩
/-- RRN_CREDIT_POOL.FAB_4K (R397). -/
def RRN_CREDIT_POOL_FAB_4K : Field := ⟨0x200008000020, 1, 19, 0, .rw, [2047]⟩
/-- RRN_LEASE_TTL.LEASES_OUT (R397). -/
def RRN_LEASE_TTL_LEASES_OUT : Field := ⟨0x200008000028, 1, 63, 48, .ro, [0]⟩
/-- RRN_LEASE_TTL.NO_CREDIT (R397). -/
def RRN_LEASE_TTL_NO_CREDIT : Field := ⟨0x200008000028, 1, 47, 32, .rw1c, [0]⟩
/-- RRN_LEASE_TTL.LEASE_MAX_64K (R397). -/
def RRN_LEASE_TTL_LEASE_MAX_64K : Field := ⟨0x200008000028, 1, 31, 24, .rw, [64]⟩
/-- RRN_LEASE_TTL.TTL_US (R397). -/
def RRN_LEASE_TTL_TTL_US : Field := ⟨0x200008000028, 1, 15, 0, .rw, [200]⟩
/-- RRN_RECEIPT_CFG.FULL_REFUSED (R398). -/
def RRN_RECEIPT_CFG_FULL_REFUSED : Field := ⟨0x200008000030, 1, 63, 48, .rw1c, [0]⟩
/-- RRN_RECEIPT_CFG.HITS (R398). -/
def RRN_RECEIPT_CFG_HITS : Field := ⟨0x200008000030, 1, 47, 32, .rw1c, [0]⟩
/-- RRN_RECEIPT_CFG.IN_USE (R398). -/
def RRN_RECEIPT_CFG_IN_USE : Field := ⟨0x200008000030, 1, 31, 16, .ro, [0]⟩
/-- RRN_RECEIPT_CFG.LIFETIME_US (R398). -/
def RRN_RECEIPT_CFG_LIFETIME_US : Field := ⟨0x200008000030, 1, 15, 0, .ro, [1000]⟩
/-- RRN_PATH_CFG.PORT_3 (R398). -/
def RRN_PATH_CFG_PORT_3 : Field := ⟨0x200008000038, 1, 63, 60, .rw, [12]⟩
/-- RRN_PATH_CFG.PORT_2 (R398). -/
def RRN_PATH_CFG_PORT_2 : Field := ⟨0x200008000038, 1, 59, 56, .rw, [8]⟩
/-- RRN_PATH_CFG.PORT_1 (R398). -/
def RRN_PATH_CFG_PORT_1 : Field := ⟨0x200008000038, 1, 55, 52, .rw, [4]⟩
/-- RRN_PATH_CFG.PORT_0 (R398). -/
def RRN_PATH_CFG_PORT_0 : Field := ⟨0x200008000038, 1, 51, 48, .rw, [0]⟩
/-- RRN_PATH_CFG.ENTROPY (R398). -/
def RRN_PATH_CFG_ENTROPY : Field := ⟨0x200008000038, 1, 31, 20, .rw, [0]⟩
/-- RRN_PATH_CFG.PATHS (R398). -/
def RRN_PATH_CFG_PATHS : Field := ⟨0x200008000038, 1, 17, 16, .rw, [3]⟩
/-- RRN_PATH_CFG.RTO_US (R398). -/
def RRN_PATH_CFG_RTO_US : Field := ⟨0x200008000038, 1, 15, 8, .rw, [50]⟩
/-- RRN_PATH_CFG.CTX_IDLE_10US (R398). -/
def RRN_PATH_CFG_CTX_IDLE_10US : Field := ⟨0x200008000038, 1, 7, 0, .rw, [10]⟩
/-- RRN_VIOL_STATUS.VIOLATIONS (R399). -/
def RRN_VIOL_STATUS_VIOLATIONS : Field := ⟨0x200008000040, 1, 63, 48, .rw1c, [0]⟩
/-- RRN_VIOL_STATUS.GEN_STALE (R399). -/
def RRN_VIOL_STATUS_GEN_STALE : Field := ⟨0x200008000040, 1, 47, 32, .rw1c, [0]⟩
/-- RRN_VIOL_STATUS.BAD_HDR (R399). -/
def RRN_VIOL_STATUS_BAD_HDR : Field := ⟨0x200008000040, 1, 31, 16, .rw1c, [0]⟩
/-- RRN_VIOL_STATUS.TOO_OLD (R399). -/
def RRN_VIOL_STATUS_TOO_OLD : Field := ⟨0x200008000040, 1, 15, 8, .rw1c, [0]⟩
/-- RRN_VIOL_STATUS.FIRST_CODE (R399). -/
def RRN_VIOL_STATUS_FIRST_CODE : Field := ⟨0x200008000040, 1, 7, 4, .ro, [0]⟩
/-- RRN_VIOL_STATUS.CAPTURED (R399). -/
def RRN_VIOL_STATUS_CAPTURED : Field := ⟨0x200008000040, 1, 0, 0, .rw1c, [0]⟩
/-- RRN_VIOL_INFO.SRC (R399). -/
def RRN_VIOL_INFO_SRC : Field := ⟨0x200008000048, 1, 63, 48, .ro, [0]⟩
/-- RRN_VIOL_INFO.WINDOW (R399). -/
def RRN_VIOL_INFO_WINDOW : Field := ⟨0x200008000048, 1, 47, 32, .ro, [0]⟩
/-- RRN_VIOL_INFO.MSG_ID (R399). -/
def RRN_VIOL_INFO_MSG_ID : Field := ⟨0x200008000048, 1, 31, 0, .ro, [0]⟩
/-- EVR_STATUS.CRIT_LOST (R418). -/
def EVR_STATUS_CRIT_LOST : Field := ⟨0x200003000000, 1, 63, 63, .ro, [0]⟩
/-- EVR_STATUS.READY (R418). -/
def EVR_STATUS_READY : Field := ⟨0x200003000000, 1, 62, 62, .ro, [0]⟩
/-- EVR_STATUS.BIRTH_LOCKED (R418). -/
def EVR_STATUS_BIRTH_LOCKED : Field := ⟨0x200003000000, 1, 61, 61, .ro, [0]⟩
/-- EVR_STATUS.WEAR_LIMITED (R418). -/
def EVR_STATUS_WEAR_LIMITED : Field := ⟨0x200003000000, 1, 60, 60, .ro, [0]⟩
/-- EVR_STATUS.FLASH_ERR (R418). -/
def EVR_STATUS_FLASH_ERR : Field := ⟨0x200003000000, 1, 59, 59, .rw1c, [0]⟩
/-- EVR_STATUS.ERASE_BUSY (R418). -/
def EVR_STATUS_ERASE_BUSY : Field := ⟨0x200003000000, 1, 58, 58, .ro, [0]⟩
/-- EVR_STATUS.OPEN (R418). -/
def EVR_STATUS_OPEN : Field := ⟨0x200003000000, 1, 57, 57, .ro, [0]⟩
/-- EVR_STATUS.RESERVE_USED (R418). -/
def EVR_STATUS_RESERVE_USED : Field := ⟨0x200003000000, 1, 23, 16, .ro, [0]⟩
/-- EVR_STATUS.FIFO_LEVEL (R418). -/
def EVR_STATUS_FIFO_LEVEL : Field := ⟨0x200003000000, 1, 8, 0, .ro, [0]⟩
/-- EVR_HEAD_SEQ.SEQ (R418). -/
def EVR_HEAD_SEQ_SEQ : Field := ⟨0x200003000008, 1, 63, 0, .ro, [0]⟩
/-- EVR_TAIL_SEQ.SEQ (R418). -/
def EVR_TAIL_SEQ_SEQ : Field := ⟨0x200003000010, 1, 63, 0, .ro, [16384]⟩
/-- EVR_BIRTH_COUNT.LOCKED (R418). -/
def EVR_BIRTH_COUNT_LOCKED : Field := ⟨0x200003000030, 1, 63, 63, .ro, [0]⟩
/-- EVR_BIRTH_COUNT.COUNT (R418). -/
def EVR_BIRTH_COUNT_COUNT : Field := ⟨0x200003000030, 1, 14, 0, .ro, [0]⟩
/-- EVR_WIN_SEL.STATUS (R419). -/
def EVR_WIN_SEL_STATUS : Field := ⟨0x200003000018, 1, 63, 62, .ro, [0]⟩
/-- EVR_WIN_SEL.SEQ (R419). -/
def EVR_WIN_SEL_SEQ : Field := ⟨0x200003000018, 1, 47, 8, .rw, [0]⟩
/-- EVR_WIN_SEL.WORD (R419). -/
def EVR_WIN_SEL_WORD : Field := ⟨0x200003000018, 1, 2, 0, .rw, [0]⟩
/-- EVR_WIN_DATA.DATA (R419). -/
def EVR_WIN_DATA_DATA : Field := ⟨0x200003000020, 1, 63, 0, .ro, [0]⟩
/-- EVR_LOST_n.TOTAL (R419). -/
def EVR_LOST_TOTAL : Field := ⟨0x200003000040, 4, 63, 32, .ro, [0]⟩
/-- EVR_LOST_n.PENDING (R419). -/
def EVR_LOST_PENDING : Field := ⟨0x200003000040, 4, 31, 0, .ro, [0]⟩
/-- EVR_INJECT.RESULT (R419). -/
def EVR_INJECT_RESULT : Field := ⟨0x200003000028, 1, 63, 62, .ro, [0]⟩
/-- EVR_INJECT.ADDR (R419). -/
def EVR_INJECT_ADDR : Field := ⟨0x200003000028, 1, 47, 0, .wo, [0]⟩
/-- FLT_CTR_CFG_k.ACT_EN (R420). -/
def FLT_CTR_CFG_ACT_EN : Field := ⟨0x200012000100, 7, 63, 63, .rw, [1]⟩
/-- FLT_CTR_CFG_k.THRESHOLD (R420). -/
def FLT_CTR_CFG_THRESHOLD : Field := ⟨0x200012000100, 7, 47, 32, .rw, [4, 16, 32, 8, 2, 3, 2]⟩
/-- FLT_CTR_CFG_k.WINDOW_MS (R420). -/
def FLT_CTR_CFG_WINDOW_MS : Field := ⟨0x200012000100, 7, 31, 0, .rw, [86400000, 3600000, 600000, 1000, 3600000,
  3600000, 3600000]⟩
/-- FLT_CTR_VAL_k.INSTANCE (R420). -/
def FLT_CTR_VAL_INSTANCE : Field := ⟨0x200012000180, 7, 63, 48, .rw, [0]⟩
/-- FLT_CTR_VAL_k.PEAK (R420). -/
def FLT_CTR_VAL_PEAK : Field := ⟨0x200012000180, 7, 31, 16, .ro, [0]⟩
/-- FLT_CTR_VAL_k.COUNT (R420). -/
def FLT_CTR_VAL_COUNT : Field := ⟨0x200012000180, 7, 15, 0, .ro, [0]⟩
/-- FLT_CTR_STATE.EVICTIONS (R420). -/
def FLT_CTR_STATE_EVICTIONS : Field := ⟨0x200012000000, 1, 63, 48, .rw1c, [0]⟩
/-- FLT_CTR_STATE.ACTIONS (R420). -/
def FLT_CTR_STATE_ACTIONS : Field := ⟨0x200012000000, 1, 47, 16, .rw1c, [0]⟩
/-- FLT_CTR_STATE.TRIPPED (R420). -/
def FLT_CTR_STATE_TRIPPED : Field := ⟨0x200012000000, 1, 6, 0, .rw1c, [0]⟩
/-- PWR_MODE.VETO (R440). -/
def PWR_MODE_VETO : Field := ⟨0x200001000000, 1, 63, 48, .rw, [0]⟩
/-- PWR_MODE.PG_IDLE_US (R440). -/
def PWR_MODE_PG_IDLE_US : Field := ⟨0x200001000000, 1, 47, 32, .rw, [1000]⟩
/-- PWR_MODE.CG_IDLE_10NS (R440). -/
def PWR_MODE_CG_IDLE_10NS : Field := ⟨0x200001000000, 1, 31, 24, .rw, [20]⟩
/-- PWR_MODE.AGREE_SEQ (R440). -/
def PWR_MODE_AGREE_SEQ : Field := ⟨0x200001000000, 1, 23, 8, .rw, [0]⟩
/-- PWR_MODE.STATE (R440). -/
def PWR_MODE_STATE : Field := ⟨0x200001000000, 1, 1, 0, .rw, [0]⟩
/-- PWR_STATUS.STATE (R440). -/
def PWR_STATUS_STATE : Field := ⟨0x200001000008, 1, 63, 62, .ro, [0]⟩
/-- PWR_STATUS.TARGET (R440). -/
def PWR_STATUS_TARGET : Field := ⟨0x200001000008, 1, 61, 60, .ro, [0]⟩
/-- PWR_STATUS.STEP (R440). -/
def PWR_STATUS_STEP : Field := ⟨0x200001000008, 1, 59, 56, .ro, [0]⟩
/-- PWR_STATUS.AGREED (R440). -/
def PWR_STATUS_AGREED : Field := ⟨0x200001000008, 1, 55, 55, .ro, [0]⟩
/-- PWR_STATUS.BUSY (R440). -/
def PWR_STATUS_BUSY : Field := ⟨0x200001000008, 1, 54, 54, .ro, [0]⟩
/-- PWR_STATUS.THROTTLE (R440). -/
def PWR_STATUS_THROTTLE : Field := ⟨0x200001000008, 1, 53, 53, .ro, [0]⟩
/-- PWR_STATUS.PG (R440). -/
def PWR_STATUS_PG : Field := ⟨0x200001000008, 1, 37, 19, .ro, [0]⟩
/-- PWR_STATUS.CG (R440). -/
def PWR_STATUS_CG : Field := ⟨0x200001000008, 1, 18, 0, .ro, [0]⟩
/-- PWR_ISLAND_GATE.REFUSED (R441). -/
def PWR_ISLAND_GATE_REFUSED : Field := ⟨0x200001000010, 1, 57, 57, .rw1c, [0]⟩
/-- PWR_ISLAND_GATE.WAKE (R441). -/
def PWR_ISLAND_GATE_WAKE : Field := ⟨0x200001000010, 1, 56, 38, .wo, [0]⟩
/-- PWR_ISLAND_GATE.AUTO_PG (R441). -/
def PWR_ISLAND_GATE_AUTO_PG : Field := ⟨0x200001000010, 1, 37, 19, .rw, [31736]⟩
/-- PWR_ISLAND_GATE.FORCE_OFF (R441). -/
def PWR_ISLAND_GATE_FORCE_OFF : Field := ⟨0x200001000010, 1, 18, 0, .rw, [0]⟩
/-- PWR_DVFS_n.MHZ (R441). -/
def PWR_DVFS_MHZ : Field := ⟨0x200001000100, 16, 47, 32, .ro, [1500, 1600, 1600, 1600, 1600, 1600, 1600, 1600, 1600,
  1600, 1280, 1280, 1280, 1280, 1000, 1600]⟩
/-- PWR_DVFS_n.CAP (R441). -/
def PWR_DVFS_CAP : Field := ⟨0x200001000100, 16, 9, 8, .ro, [0]⟩
/-- PWR_DVFS_n.CHANGING (R441). -/
def PWR_DVFS_CHANGING : Field := ⟨0x200001000100, 16, 4, 4, .ro, [0]⟩
/-- PWR_DVFS_n.CUR_LEVEL (R441). -/
def PWR_DVFS_CUR_LEVEL : Field := ⟨0x200001000100, 16, 3, 2, .ro, [1]⟩
/-- PWR_DVFS_n.LEVEL (R441). -/
def PWR_DVFS_LEVEL : Field := ⟨0x200001000100, 16, 1, 0, .rw, [1]⟩
/-- PWR_BIAS_CFG.BLF_EN (R441). -/
def PWR_BIAS_CFG_BLF_EN : Field := ⟨0x200001000018, 1, 35, 35, .rw, [1]⟩
/-- PWR_BIAS_CFG.WLUD_EN (R441). -/
def PWR_BIAS_CFG_WLUD_EN : Field := ⟨0x200001000018, 1, 34, 34, .rw, [1]⟩
/-- PWR_BIAS_CFG.RBB_EN (R441). -/
def PWR_BIAS_CFG_RBB_EN : Field := ⟨0x200001000018, 1, 33, 33, .rw, [1]⟩
/-- PWR_BIAS_CFG.FBB_EN (R441). -/
def PWR_BIAS_CFG_FBB_EN : Field := ⟨0x200001000018, 1, 32, 32, .rw, [1]⟩
/-- PWR_BIAS_CFG.WLUD_MV (R441). -/
def PWR_BIAS_CFG_WLUD_MV : Field := ⟨0x200001000018, 1, 23, 16, .rw, [40]⟩
/-- PWR_BIAS_CFG.RBB_MV (R441). -/
def PWR_BIAS_CFG_RBB_MV : Field := ⟨0x200001000018, 1, 15, 8, .rw, [200]⟩
/-- PWR_BIAS_CFG.FBB_MV (R441). -/
def PWR_BIAS_CFG_FBB_MV : Field := ⟨0x200001000018, 1, 7, 0, .rw, [150]⟩
/-- PWR_WAKE_EN.GPIO (R442). -/
def PWR_WAKE_EN_GPIO : Field := ⟨0x200001000020, 1, 23, 16, .rw, [0]⟩
/-- PWR_WAKE_EN.SHELF (R442). -/
def PWR_WAKE_EN_SHELF : Field := ⟨0x200001000020, 1, 15, 8, .rw, [0]⟩
/-- PWR_WAKE_EN.PWR_RESTORE (R442). -/
def PWR_WAKE_EN_PWR_RESTORE : Field := ⟨0x200001000020, 1, 3, 3, .rw, [1]⟩
/-- PWR_WAKE_EN.HEARTBEAT (R442). -/
def PWR_WAKE_EN_HEARTBEAT : Field := ⟨0x200001000020, 1, 2, 2, .rw, [1]⟩
/-- PWR_WAKE_EN.RTC (R442). -/
def PWR_WAKE_EN_RTC : Field := ⟨0x200001000020, 1, 1, 1, .rw, [1]⟩
/-- PWR_WAKE_EN.SMBUS (R442). -/
def PWR_WAKE_EN_SMBUS : Field := ⟨0x200001000020, 1, 0, 0, .rw, [1]⟩
/-- PWR_LAST_WAKE.TICK (R442). -/
def PWR_LAST_WAKE_TICK : Field := ⟨0x200001000028, 1, 63, 16, .ro, [0]⟩
/-- PWR_LAST_WAKE.INSTANCE (R442). -/
def PWR_LAST_WAKE_INSTANCE : Field := ⟨0x200001000028, 1, 15, 8, .ro, [0]⟩
/-- PWR_LAST_WAKE.SOURCE (R442). -/
def PWR_LAST_WAKE_SOURCE : Field := ⟨0x200001000028, 1, 7, 0, .ro, [0]⟩
/-- PWR_SMB_WAKE_ADDR.MATCHES (R442). -/
def PWR_SMB_WAKE_ADDR_MATCHES : Field := ⟨0x200001000038, 1, 31, 24, .rw1c, [0]⟩
/-- PWR_SMB_WAKE_ADDR.STRETCH (R442). -/
def PWR_SMB_WAKE_ADDR_STRETCH : Field := ⟨0x200001000038, 1, 16, 16, .rw, [1]⟩
/-- PWR_SMB_WAKE_ADDR.MASK (R442). -/
def PWR_SMB_WAKE_ADDR_MASK : Field := ⟨0x200001000038, 1, 14, 8, .rw, [127]⟩
/-- PWR_SMB_WAKE_ADDR.ADDR (R442). -/
def PWR_SMB_WAKE_ADDR_ADDR : Field := ⟨0x200001000038, 1, 6, 0, .rw, [90]⟩
/-- PWR_REFUSE_CNT_i.COUNT (R443). -/
def PWR_REFUSE_CNT_COUNT : Field := ⟨0x200001000200, 16, 31, 0, .rw1c, [0]⟩
/-- PWR_LAST_REFUSE.FOUND (R443). -/
def PWR_LAST_REFUSE_FOUND : Field := ⟨0x200001000030, 1, 63, 48, .ro, [0]⟩
/-- PWR_LAST_REFUSE.TARGET (R443). -/
def PWR_LAST_REFUSE_TARGET : Field := ⟨0x200001000030, 1, 11, 10, .ro, [0]⟩
/-- PWR_LAST_REFUSE.ID (R443). -/
def PWR_LAST_REFUSE_ID : Field := ⟨0x200001000030, 1, 3, 0, .ro, [0]⟩
/-- SEC_STATUS.STAGE (R467). -/
def SEC_STATUS_STAGE : Field := ⟨0x200011000000, 1, 63, 60, .ro, [0]⟩
/-- SEC_STATUS.TEST (R467). -/
def SEC_STATUS_TEST : Field := ⟨0x200011000000, 1, 59, 59, .ro, [0]⟩
/-- SEC_STATUS.STRAP_BAD (R467). -/
def SEC_STATUS_STRAP_BAD : Field := ⟨0x200011000000, 1, 58, 58, .ro, [0]⟩
/-- SEC_STATUS.DEVID_READY (R467). -/
def SEC_STATUS_DEVID_READY : Field := ⟨0x200011000000, 1, 57, 57, .ro, [0]⟩
/-- SEC_STATUS.ALIAS_READY (R467). -/
def SEC_STATUS_ALIAS_READY : Field := ⟨0x200011000000, 1, 56, 56, .ro, [0]⟩
/-- SEC_STATUS.AWK_LOADED (R467). -/
def SEC_STATUS_AWK_LOADED : Field := ⟨0x200011000000, 1, 55, 55, .ro, [0]⟩
/-- SEC_STATUS.TRIAL (R467). -/
def SEC_STATUS_TRIAL : Field := ⟨0x200011000000, 1, 54, 54, .ro, [0]⟩
/-- SEC_STATUS.LAST_REFUSE (R467). -/
def SEC_STATUS_LAST_REFUSE : Field := ⟨0x200011000000, 1, 47, 40, .ro, [0]⟩
/-- SEC_STATUS.REFUSALS (R467). -/
def SEC_STATUS_REFUSALS : Field := ⟨0x200011000000, 1, 39, 32, .ro, [0]⟩
/-- SEC_SVN.ADVANCE (R467). -/
def SEC_SVN_ADVANCE : Field := ⟨0x200011000008, 1, 63, 56, .wo, [0]⟩
/-- SEC_SVN.APPLY_REVOKE (R467). -/
def SEC_SVN_APPLY_REVOKE : Field := ⟨0x200011000008, 1, 48, 48, .wo, [0]⟩
/-- SEC_SVN.RT_SVN (R467). -/
def SEC_SVN_RT_SVN : Field := ⟨0x200011000008, 1, 47, 40, .ro, [0]⟩
/-- SEC_SVN.S1_SVN (R467). -/
def SEC_SVN_S1_SVN : Field := ⟨0x200011000008, 1, 39, 32, .ro, [0]⟩
/-- SEC_SVN.FUSED (R467). -/
def SEC_SVN_FUSED : Field := ⟨0x200011000008, 1, 7, 0, .ro, [0]⟩
/-- SEC_ATTEST_CTL.OP (R468). -/
def SEC_ATTEST_CTL_OP : Field := ⟨0x200011000018, 1, 63, 60, .wo, [0]⟩
/-- SEC_ATTEST_CTL.BUSY (R468). -/
def SEC_ATTEST_CTL_BUSY : Field := ⟨0x200011000018, 1, 59, 59, .ro, [0]⟩
/-- SEC_ATTEST_CTL.RESULT (R468). -/
def SEC_ATTEST_CTL_RESULT : Field := ⟨0x200011000018, 1, 58, 55, .ro, [0]⟩
/-- SEC_ATTEST_CTL.OBJ (R468). -/
def SEC_ATTEST_CTL_OBJ : Field := ⟨0x200011000018, 1, 54, 52, .rw, [0]⟩
/-- SEC_ATTEST_CTL.INDEX (R468). -/
def SEC_ATTEST_CTL_INDEX : Field := ⟨0x200011000018, 1, 51, 42, .rw, [0]⟩
/-- SEC_ATTEST_CTL.ADDR (R468). -/
def SEC_ATTEST_CTL_ADDR : Field := ⟨0x200011000018, 1, 41, 0, .wo, [0]⟩
/-- SEC_ID_WIN.DATA (R468). -/
def SEC_ID_WIN_DATA : Field := ⟨0x200011000010, 1, 63, 0, .ro, [0]⟩
/-- SEC_FUSE_STATUS.FUSE_ECC_ERR (R469). -/
def SEC_FUSE_STATUS_FUSE_ECC_ERR : Field := ⟨0x200011000020, 1, 23, 23, .ro, [0]⟩
/-- SEC_FUSE_STATUS.OWNER_KEY (R469). -/
def SEC_FUSE_STATUS_OWNER_KEY : Field := ⟨0x200011000020, 1, 17, 16, .ro, [0]⟩
/-- SEC_FUSE_STATUS.SYH_REVOKED (R469). -/
def SEC_FUSE_STATUS_SYH_REVOKED : Field := ⟨0x200011000020, 1, 11, 8, .ro, [0]⟩
/-- SEC_FUSE_STATUS.SEED_OK (R469). -/
def SEC_FUSE_STATUS_SEED_OK : Field := ⟨0x200011000020, 1, 1, 1, .ro, [0]⟩
/-- SEC_FUSE_STATUS.MFG_LOCKED (R469). -/
def SEC_FUSE_STATUS_MFG_LOCKED : Field := ⟨0x200011000020, 1, 0, 0, .ro, [0]⟩
/-- SEC_IMAGE_SLOT.DIR_SEQ (R469). -/
def SEC_IMAGE_SLOT_DIR_SEQ : Field := ⟨0x200011000028, 1, 63, 32, .ro, [0]⟩
/-- SEC_IMAGE_SLOT.POLICY (R469). -/
def SEC_IMAGE_SLOT_POLICY : Field := ⟨0x200011000028, 1, 23, 16, .ro, [0]⟩
/-- SEC_IMAGE_SLOT.RUNTIME (R469). -/
def SEC_IMAGE_SLOT_RUNTIME : Field := ⟨0x200011000028, 1, 15, 8, .ro, [0]⟩
/-- SEC_IMAGE_SLOT.STAGE1 (R469). -/
def SEC_IMAGE_SLOT_STAGE1 : Field := ⟨0x200011000028, 1, 7, 0, .ro, [0]⟩
/-- CHIP_RESET_CTL.DRAM_KEEP (R491). -/
def CHIP_RESET_CTL_DRAM_KEEP : Field := ⟨0x200000000020, 1, 1, 1, .rws, [0]⟩
/-- CHIP_RESET_CTL.WARM (R491). -/
def CHIP_RESET_CTL_WARM : Field := ⟨0x200000000020, 1, 0, 0, .wo, [0]⟩
/-- CHIP_RESET_CAUSE.WARM_COUNT (R491). -/
def CHIP_RESET_CAUSE_WARM_COUNT : Field := ⟨0x200000000028, 1, 63, 48, .rws, [0]⟩
/-- CHIP_RESET_CAUSE.BROWNOUT_RAIL (R491). -/
def CHIP_RESET_CAUSE_BROWNOUT_RAIL : Field := ⟨0x200000000028, 1, 19, 16, .ro, [0]⟩
/-- CHIP_RESET_CAUSE.POR_PIN (R491). -/
def CHIP_RESET_CAUSE_POR_PIN : Field := ⟨0x200000000028, 1, 15, 15, .ro, [1]⟩
/-- CHIP_RESET_CAUSE.BROWNOUT (R491). -/
def CHIP_RESET_CAUSE_BROWNOUT : Field := ⟨0x200000000028, 1, 14, 14, .ro, [0]⟩
/-- CHIP_RESET_CAUSE.SEQ_ERR (R491). -/
def CHIP_RESET_CAUSE_SEQ_ERR : Field := ⟨0x200000000028, 1, 13, 13, .ro, [0]⟩
/-- CHIP_RESET_CAUSE.EARLY_POR (R491). -/
def CHIP_RESET_CAUSE_EARLY_POR : Field := ⟨0x200000000028, 1, 12, 12, .ro, [0]⟩
/-- CHIP_RESET_CAUSE.SRAM_DROP (R491). -/
def CHIP_RESET_CAUSE_SRAM_DROP : Field := ⟨0x200000000028, 1, 11, 11, .ro, [0]⟩
/-- CHIP_RESET_CAUSE.PF_DESTAGED (R491). -/
def CHIP_RESET_CAUSE_PF_DESTAGED : Field := ⟨0x200000000028, 1, 10, 10, .ro, [0]⟩
/-- CHIP_RESET_CAUSE.PF_INCOMPLETE (R491). -/
def CHIP_RESET_CAUSE_PF_INCOMPLETE : Field := ⟨0x200000000028, 1, 9, 9, .ro, [0]⟩
/-- CHIP_RESET_CAUSE.THERMAL (R491). -/
def CHIP_RESET_CAUSE_THERMAL : Field := ⟨0x200000000028, 1, 8, 8, .ro, [0]⟩
/-- CHIP_RESET_CAUSE.WARM_SW (R491). -/
def CHIP_RESET_CAUSE_WARM_SW : Field := ⟨0x200000000028, 1, 4, 4, .ro, [0]⟩
/-- CHIP_RESET_CAUSE.WARM_PIN (R491). -/
def CHIP_RESET_CAUSE_WARM_PIN : Field := ⟨0x200000000028, 1, 3, 3, .ro, [0]⟩
/-- CHIP_RESET_CAUSE.REFCLK_LOST (R491). -/
def CHIP_RESET_CAUSE_REFCLK_LOST : Field := ⟨0x200000000028, 1, 2, 2, .ro, [0]⟩
/-- CHIP_RESET_CAUSE.ACTIVATION (R491). -/
def CHIP_RESET_CAUSE_ACTIVATION : Field := ⟨0x200000000028, 1, 1, 1, .ro, [0]⟩
/-- CHIP_RESET_CAUSE.DRAM_KEPT (R491). -/
def CHIP_RESET_CAUSE_DRAM_KEPT : Field := ⟨0x200000000028, 1, 0, 0, .ro, [0]⟩
/-- CLK_ISLAND_FREQ_n.L0_MHZ (R492). -/
def CLK_ISLAND_FREQ_L0_MHZ : Field := ⟨0x200002000100, 16, 47, 32, .ro, [1500, 2000, 2000, 2000, 2000, 2000, 2000,
  2000, 2000, 2000, 1600, 1600, 1600, 1600, 1000, 1600]⟩
/-- CLK_ISLAND_FREQ_n.RELOCKS (R492). -/
def CLK_ISLAND_FREQ_RELOCKS : Field := ⟨0x200002000100, 16, 31, 16, .rw1c, [0]⟩
/-- CLK_ISLAND_FREQ_n.MHZ (R492). -/
def CLK_ISLAND_FREQ_MHZ : Field := ⟨0x200002000100, 16, 15, 0, .ro, [0]⟩
/-- CLK_PLL_STATUS.AVS_FAULT (R492). -/
def CLK_PLL_STATUS_AVS_FAULT : Field := ⟨0x200002000000, 1, 41, 41, .ro, [0]⟩
/-- CLK_PLL_STATUS.PNL_REF_OK (R492). -/
def CLK_PLL_STATUS_PNL_REF_OK : Field := ⟨0x200002000000, 1, 40, 40, .ro, [0]⟩
/-- CLK_PLL_STATUS.ETH_REF_OK (R492). -/
def CLK_PLL_STATUS_ETH_REF_OK : Field := ⟨0x200002000000, 1, 39, 38, .ro, [0]⟩
/-- CLK_PLL_STATUS.PCIE_REF_OK (R492). -/
def CLK_PLL_STATUS_PCIE_REF_OK : Field := ⟨0x200002000000, 1, 37, 34, .ro, [0]⟩
/-- CLK_PLL_STATUS.REFSYS_OK (R492). -/
def CLK_PLL_STATUS_REFSYS_OK : Field := ⟨0x200002000000, 1, 33, 33, .ro, [0]⟩
/-- CLK_PLL_STATUS.RTC_OK (R492). -/
def CLK_PLL_STATUS_RTC_OK : Field := ⟨0x200002000000, 1, 32, 32, .ro, [0]⟩
/-- CLK_PLL_STATUS.LOCK_FAIL (R492). -/
def CLK_PLL_STATUS_LOCK_FAIL : Field := ⟨0x200002000000, 1, 31, 16, .rw1c, [0]⟩
/-- CLK_PLL_STATUS.LOCKED (R492). -/
def CLK_PLL_STATUS_LOCKED : Field := ⟨0x200002000000, 1, 15, 0, .ro, [0]⟩
/-- CLK_REF_SEL.PCIE_SRIS (R492). -/
def CLK_REF_SEL_PCIE_SRIS : Field := ⟨0x200002000008, 1, 3, 0, .rw, [0]⟩
/-- CLK_TICK.TICK (R493). -/
def CLK_TICK_TICK : Field := ⟨0x200002000020, 1, 47, 0, .ro, [0]⟩
/-- CLK_OPTIME.OPSEC (R493). -/
def CLK_OPTIME_OPSEC : Field := ⟨0x200002000010, 1, 39, 0, .ro, [0]⟩
/-- CLK_POWER_CYCLES.COUNT (R493). -/
def CLK_POWER_CYCLES_COUNT : Field := ⟨0x200002000018, 1, 23, 0, .ro, [0]⟩
/-- CLK_ALARM.ALARM (R493). -/
def CLK_ALARM_ALARM : Field := ⟨0x200002000028, 1, 63, 32, .rw, [0]⟩
/-- CLK_ALARM.RTC_SEC (R493). -/
def CLK_ALARM_RTC_SEC : Field := ⟨0x200002000028, 1, 31, 0, .rw, [0]⟩
/-- MEM_CFG.CH_EN (R494). -/
def MEM_CFG_CH_EN : Field := ⟨0x20000f000000, 1, 15, 8, .rws, [255]⟩
/-- MEM_CFG.SPEED_MAX (R494). -/
def MEM_CFG_SPEED_MAX : Field := ⟨0x20000f000000, 1, 3, 0, .rws, [4]⟩
/-- MEM_TRAIN_STATUS.CH_TRAINED (R494). -/
def MEM_TRAIN_STATUS_CH_TRAINED : Field := ⟨0x20000f000008, 1, 63, 56, .ro, [0]⟩
/-- MEM_TRAIN_STATUS.CH_FAILED (R494). -/
def MEM_TRAIN_STATUS_CH_FAILED : Field := ⟨0x20000f000008, 1, 55, 48, .ro, [0]⟩
/-- MEM_TRAIN_STATUS.SPEED (R494). -/
def MEM_TRAIN_STATUS_SPEED : Field := ⟨0x20000f000008, 1, 47, 44, .ro, [0]⟩
/-- MEM_TRAIN_STATUS.CAPACITY_GIB (R494). -/
def MEM_TRAIN_STATUS_CAPACITY_GIB : Field := ⟨0x20000f000008, 1, 23, 8, .ro, [0]⟩
/-- MEM_TRAIN_STATUS.INIT_DONE (R494). -/
def MEM_TRAIN_STATUS_INIT_DONE : Field := ⟨0x20000f000008, 1, 1, 1, .ro, [0]⟩
/-- MEM_TRAIN_STATUS.READY (R494). -/
def MEM_TRAIN_STATUS_READY : Field := ⟨0x20000f000008, 1, 0, 0, .ro, [0]⟩
/-- MEM_PATROL_CFG.PERIOD_H (R494). -/
def MEM_PATROL_CFG_PERIOD_H : Field := ⟨0x20000f000028, 1, 31, 16, .rw, [24]⟩
/-- MEM_PATROL_CFG.EN (R494). -/
def MEM_PATROL_CFG_EN : Field := ⟨0x20000f000028, 1, 0, 0, .rw, [1]⟩
/-- MEM_CE_CNT.TOTAL (R495). -/
def MEM_CE_CNT_TOTAL : Field := ⟨0x20000f000010, 1, 63, 32, .rw1c, [0]⟩
/-- MEM_CE_CNT.PATROL (R495). -/
def MEM_CE_CNT_PATROL : Field := ⟨0x20000f000010, 1, 31, 0, .rw1c, [0]⟩
/-- MEM_UE_STATUS.VALID (R495). -/
def MEM_UE_STATUS_VALID : Field := ⟨0x20000f000018, 1, 63, 63, .rw1c, [0]⟩
/-- MEM_UE_STATUS.CH (R495). -/
def MEM_UE_STATUS_CH : Field := ⟨0x20000f000018, 1, 50, 48, .ro, [0]⟩
/-- MEM_UE_STATUS.ADDR (R495). -/
def MEM_UE_STATUS_ADDR : Field := ⟨0x20000f000018, 1, 47, 0, .ro, [0]⟩
/-- MEM_RETIRE_CNT.NO_SPARE (R495). -/
def MEM_RETIRE_CNT_NO_SPARE : Field := ⟨0x20000f000020, 1, 63, 56, .ro, [0]⟩
/-- MEM_RETIRE_CNT.ROWS (R495). -/
def MEM_RETIRE_CNT_ROWS : Field := ⟨0x20000f000020, 1, 15, 0, .ro, [0]⟩
/-- CHIP_STRAPS.GPIO_IN (R513). -/
def CHIP_STRAPS_GPIO_IN : Field := ⟨0x200000000010, 1, 23, 16, .ro, [0]⟩
/-- CHIP_STRAPS.TEST_MODE_PIN (R513). -/
def CHIP_STRAPS_TEST_MODE_PIN : Field := ⟨0x200000000010, 1, 11, 11, .ro, [0]⟩
/-- CHIP_STRAPS.BOOT_SRC_PIN (R513). -/
def CHIP_STRAPS_BOOT_SRC_PIN : Field := ⟨0x200000000010, 1, 10, 9, .ro, [0]⟩
/-- CHIP_STRAPS.HEAD_SLOT_PIN (R513). -/
def CHIP_STRAPS_HEAD_SLOT_PIN : Field := ⟨0x200000000010, 1, 8, 8, .ro, [0]⟩
/-- CHIP_STRAPS.TEST_MODE (R513). -/
def CHIP_STRAPS_TEST_MODE : Field := ⟨0x200000000010, 1, 3, 3, .ro, [0]⟩
/-- CHIP_STRAPS.BOOT_SRC (R513). -/
def CHIP_STRAPS_BOOT_SRC : Field := ⟨0x200000000010, 1, 2, 1, .ro, [0]⟩
/-- CHIP_STRAPS.HEAD_SLOT (R513). -/
def CHIP_STRAPS_HEAD_SLOT : Field := ⟨0x200000000010, 1, 0, 0, .ro, [0]⟩
/-- CHIP_ID.SERIAL (R535). -/
def CHIP_ID_SERIAL : Field := ⟨0x200000000000, 1, 63, 0, .ro, [0]⟩
/-- CHIP_STEPPING.PART_ID (R535). -/
def CHIP_STEPPING_PART_ID : Field := ⟨0x200000000008, 1, 63, 48, .ro, [29712]⟩
/-- CHIP_STEPPING.BASE (R535). -/
def CHIP_STEPPING_BASE : Field := ⟨0x200000000008, 1, 15, 8, .ro, [66]⟩
/-- CHIP_STEPPING.METAL (R535). -/
def CHIP_STEPPING_METAL : Field := ⟨0x200000000008, 1, 7, 0, .ro, [1]⟩
/-- CHIP_ESTATE_NUM.NUM (R535). -/
def CHIP_ESTATE_NUM_NUM : Field := ⟨0x200000000018, 1, 9, 0, .rw, [0]⟩
/-- CHIP_ISLAND_ERR.STALL (R535). -/
def CHIP_ISLAND_ERR_STALL : Field := ⟨0x200000000030, 1, 18, 0, .rw1c, [0]⟩
/-- CHIP_SCRATCH0–3.DATA (R535). -/
def CHIP_SCRATCH_DATA : Field := ⟨0x200000000040, 4, 63, 0, .rws, [0]⟩

/-- The fields of block NET, in the order of the spec's tables. -/
def allNET0 : List Field := [NET_PORT_CFG_MAX_SPEED, NET_PORT_CFG_WIDTH, NET_PORT_CFG_AN_EN, NET_PORT_CFG_FEC_MODE,
  NET_PORT_CFG_TX_EN, NET_PORT_CFG_PORT_EN, NET_PORT_STATUS_SPEED, NET_PORT_STATUS_WIDTH, NET_PORT_STATUS_FEC,
  NET_PORT_STATUS_AN_DONE, NET_PORT_STATUS_PCS_LOCK, NET_PORT_STATUS_LINK_UP, NET_PORT_STATUS_FENCE_GATED,
  NET_AN_RESULT_PARTNER_ABIL, NET_AN_RESULT_AN_RESTARTS, NET_FEC_CNT_UNCORR, NET_FEC_CNT_CORR, NET_VLAN_CFG_DSCP_REPL,
  NET_VLAN_CFG_DSCP_FABRIC, NET_VLAN_CFG_DSCP_HOST]
/-- Fields of block NET, part 2. -/
def allNET1 : List Field := [NET_VLAN_CFG_TAG_EN, NET_VLAN_CFG_PCP, NET_VLAN_CFG_VID, NET_IP_ADDR_ADDR]
/-- All fields of block NET. -/
def allNET : List Field := allNET0 ++ allNET1
/-- The fields of block HQ, in the order of the spec's tables. -/
def allHQ : List Field := [HQ_CTL_MAX_QP, HQ_CTL_MQES, HQ_CTL_TCP_EN, HQ_CTL_REARN_EN, HQ_CTL_INTAKE_EN,
  HQ_IND_SEL_CNTLID, HQ_IND_SEL_QID, HQ_IND_SEL_WORD, HQ_IND_DATA_DATA, HQ_RESET_FENCE_FENCE_B,
  HQ_RESET_FENCE_FENCE_A, HQ_DUALSEND_CFG_DUP_WINDOW, HQ_DUALSEND_CFG_READ_RESEND_EPOCHS,
  HQ_DUALSEND_CFG_DUAL_REQUIRED, HQ_ATOMIC_UNIT_UNIT_LBAS, HQ_ATOMIC_UNIT_ALIGN_BYTES]
/-- The fields of block TSK, in the order of the spec's tables. -/
def allTSK : List Field := [TSK_CTL_WEIGHT_BG, TSK_CTL_WEIGHT_FAB, TSK_CTL_WEIGHT_HOST, TSK_CTL_HOST_MAX,
  TSK_CTL_BG_MAX, TSK_CTL_DRAIN, TSK_CTL_DISPATCH_EN, TSK_SLOT_MAP_CORE_EN, TSK_WATCHDOG_LIMIT_MS,
  TSK_WATCHDOG_EXPIRED, TSK_DISPATCH_CNT_COUNT, TSK_STALL_CNT_SLOT_WAIT, TSK_STALL_CNT_CAP_HIT]
/-- The fields of block DPC, in the order of the spec's tables. -/
def allDPC : List Field := [DPC_HOOK_BUDGET_HOOK_EN, DPC_HOOK_BUDGET_CYCLES, DPC_CORE_CTL_START, DPC_CORE_CTL_RETIRE,
  DPC_CORE_CTL_STEP, DPC_CORE_CTL_HALT, DPC_CORE_CTL_EN, DPC_CORE_STATUS_PARITY_ERRS, DPC_CORE_STATUS_LAST_CAUSE,
  DPC_CORE_STATUS_BUDGET_HITS, DPC_CORE_STATUS_TOKENS_HELD, DPC_CORE_STATUS_SLOTS_BUSY, DPC_CORE_STATUS_RETIRED,
  DPC_CORE_STATUS_HALTED, DPC_CORE_STATUS_RUNNING, DPC_CORE_RETIRED_CORES]
/-- The fields of block BPM, in the order of the spec's tables. -/
def allBPM0 : List Field := [BPM_CTL_D_REBUILDING, BPM_CTL_D_KEEP, BPM_CTL_D_EN, BPM_CTL_S_EN, BPM_SET_BASE_S_BASE,
  BPM_SET_LIMIT_S_LIMIT, BPM_SET_BASE_D_BASE, BPM_SET_LIMIT_D_LIMIT, BPM_CLASS_CFG_FLOOR_HOST,
  BPM_CLASS_CFG_FLOOR_FAB, BPM_CLASS_CFG_FLOOR_ENG, BPM_CLASS_CFG_COUNT, BPM_CLASS_FREE_LW_RESET,
  BPM_CLASS_FREE_LOW_WATER, BPM_CLASS_FREE_FREE, BPM_FALLBACK_CNT_FLOOR_DENIED, BPM_FALLBACK_CNT_FALLBACK,
  BPM_ERR_STATUS_ERR_COUNT, BPM_ERR_STATUS_FIRST_SRC, BPM_ERR_STATUS_FIRST_CODE]
/-- Fields of block BPM, part 2. -/
def allBPM1 : List Field := [BPM_ERR_STATUS_CFG_ERR, BPM_ERR_STATUS_REF_SATURATED, BPM_ERR_STATUS_REF_UNDERFLOW,
  BPM_ERR_STATUS_OUT_OF_RANGE, BPM_ERR_STATUS_MISALIGNED, BPM_ERR_STATUS_BAD_HANDLE, BPM_ERR_ADDR_FORM,
  BPM_ERR_ADDR_VALUE]
/-- All fields of block BPM. -/
def allBPM : List Field := allBPM0 ++ allBPM1
/-- The fields of block ING, in the order of the spec's tables. -/
def allING : List Field := [ING_CHUNK_CFG_LOCK, ING_CHUNK_CFG_GEAR_VER, ING_CHUNK_CFG_L_BITS, ING_CHUNK_CFG_S_BITS,
  ING_CHUNK_CFG_MAX_4K, ING_CHUNK_CFG_AVG_4K, ING_CHUNK_CFG_MIN_4K, ING_ENGINE_STATUS_SHA3_BUSY,
  ING_ENGINE_STATUS_CHUNK_BUSY, ING_ENGINE_STATUS_SHA3_RETIRED, ING_ENGINE_STATUS_CHUNK_RETIRED,
  ING_KAT_CTL_KAT_PASSES, ING_KAT_CTL_PERIOD_MS, ING_KAT_CTL_RUN_NOW, ING_KAT_CTL_KAT_EN, ING_ERR_CNT_KAT_FAIL,
  ING_ERR_CNT_BAD_DESC, ING_ERR_CNT_BUF_FAULT, ING_ERR_CNT_CFG_REFUSED]
/-- The fields of block CMP, in the order of the spec's tables. -/
def allCMP : List Field := [CMP_ENGINE_STATUS_DEC_BUSY, CMP_ENGINE_STATUS_COMP_BUSY, CMP_RETIRED_DEC,
  CMP_RETIRED_COMP, CMP_VERIFY_CFG_KAT_PASSES, CMP_VERIFY_CFG_KAT_PERIOD_MS, CMP_VERIFY_CFG_KAT_RUN_NOW,
  CMP_VERIFY_CFG_KAT_EN, CMP_VERIFY_CFG_VERIFY_EN, CMP_ERR_CNT_VERIFY_FAIL, CMP_ERR_CNT_CHECK_FAIL,
  CMP_ERR_CNT_OUT_FULL, CMP_ERR_CNT_BAD_DESC, CMP_ERR_CNT_KAT_FAIL]
/-- The fields of block CIP, in the order of the spec's tables. -/
def allCIP0 : List Field := [CIP_CTL_ESTATE_TAG, CIP_CTL_LOCK, CIP_CTL_KAT_PERIOD_MS, CIP_CTL_KAT_RUN_NOW,
  CIP_CTL_KAT_EN, CIP_LANE_STATUS_RETIRED, CIP_NONCE_LIMIT_LIMIT, CIP_NONCE_LIMIT_SET, CIP_NONCE_LIMIT_SLOT,
  CIP_KEYSLOT_CMD_OP, CIP_KEYSLOT_CMD_TYPE, CIP_KEYSLOT_CMD_SLOT, CIP_KEYSLOT_CMD_ADDR,
  CIP_KEYSLOT_STATUS_SLOTS_LOADED, CIP_KEYSLOT_STATUS_SLOT, CIP_KEYSLOT_STATUS_OP, CIP_KEYSLOT_STATUS_CMD_DROPPED,
  CIP_KEYSLOT_STATUS_RESULT, CIP_KEYSLOT_STATUS_BUSY, CIP_MISMATCH_CNT_MISMATCH]
/-- Fields of block CIP, part 2. -/
def allCIP1 : List Field := [CIP_MISMATCH_CNT_REPEAT, CIP_MISMATCH_CNT_LAST_LANE, CIP_MISMATCH_CNT_LIMIT_REFUSED,
  CIP_MISMATCH_CNT_KAT_FAIL]
/-- All fields of block CIP. -/
def allCIP : List Field := allCIP0 ++ allCIP1
/-- The fields of block SHF, in the order of the spec's tables. -/
def allSHF0 : List Field := [SHF_CTL_PRESENT, SHF_CTL_EN_DRIVE, SHF_CTL_ALERT_EN, SHF_BUDGET_HOST_PINS,
  SHF_BUDGET_AWAKE, SHF_BUDGET_BUDGET, SHF_STATE_TIME_IN_STATE, SHF_STATE_ALERT_LATCH, SHF_STATE_PG_DROP,
  SHF_STATE_ALERT, SHF_STATE_PG, SHF_STATE_EN_SENSE, SHF_STATE_HOLDS, SHF_STATE_STATE, SHF_SEQ_CFG_WAKE_AHEAD_S,
  SHF_SEQ_CFG_MIN_AWAKE_S, SHF_SEQ_CFG_MIN_OFF_S, SHF_SEQ_CFG_READY_TIMEOUT_S, SHF_SEQ_CFG_GC_LIVE_PCT,
  SHF_SEQ_CFG_STEEP_MAX_100MS]
/-- Fields of block SHF, part 2. -/
def allSHF1 : List Field := [SHF_SEQ_CFG_PG_TIMEOUT_100MS, SHF_SCRUB_INTERVAL_STAGGER_H, SHF_SCRUB_INTERVAL_DAYS]
/-- All fields of block SHF. -/
def allSHF : List Field := allSHF0 ++ allSHF1
/-- The fields of block PAR, in the order of the spec's tables. -/
def allPAR : List Field := [PAR_CTL_KAT_PERIOD_MS, PAR_CTL_KAT_RUN_NOW, PAR_CTL_KAT_EN, PAR_STATUS_RETIRED,
  PAR_STATUS_CTX_BUSY, PAR_ERR_CNT_CHECK_FAIL, PAR_ERR_CNT_BAD_DESC, PAR_ERR_CNT_BUF_FAULT, PAR_ERR_CNT_KAT_FAIL]
/-- The fields of block PCI, in the order of the spec's tables. -/
def allPCI : List Field := [PCI_PORT_CFG_CMD_TIMEOUT_MS, PCI_PORT_CFG_MAX_GEN, PCI_PORT_CFG_WIDTH, PCI_PORT_CFG_EN,
  PCI_PORT_STATUS_LINK_DOWNS, PCI_PORT_STATUS_PLANNED_DOWNS, PCI_PORT_STATUS_LANES, PCI_PORT_STATUS_GEN,
  PCI_PORT_STATUS_FENCE_GATED, PCI_PORT_STATUS_DL_ACTIVE, PCI_PORT_STATUS_LINK_UP, PCI_ERR_CNT_UNPLANNED_DOWN,
  PCI_ERR_CNT_UNCORR, PCI_ERR_CNT_RETRAINS, PCI_ERR_CNT_CORR, PCI_PLANNED_DOWN_PLANNED]
/-- The fields of block PNL, in the order of the spec's tables. -/
def allPNL0 : List Field := [PNL_CTL_FWD_AFTER_US, PNL_CTL_EPOCH_WINDOW, PNL_CTL_SOLO_ACK, PNL_CTL_SOLO,
  PNL_CTL_LOOPBACK_RUN, PNL_CTL_MIRROR_EN, PNL_CTL_PNL_EN, PNL_LINK_STATUS_LANE_DROPS, PNL_LINK_STATUS_MPV,
  PNL_LINK_STATUS_PARTNER_MPV_MAX, PNL_LINK_STATUS_LANES_UP, PNL_LINK_STATUS_LANES_DROPPED,
  PNL_LINK_STATUS_PARTNER_SLOT, PNL_LINK_STATUS_VERSION_OK, PNL_LINK_STATUS_FRAMES_OK, PNL_LINK_STATUS_LINK_UP,
  PNL_EPOCH_PERIOD_ACTIVE_NS, PNL_EPOCH_PERIOD_MAX_MIB, PNL_EPOCH_PERIOD_PERIOD_NS, PNL_EPOCH_SEQ_NUMBER]
/-- Fields of block PNL, part 2. -/
def allPNL1 : List Field := [PNL_EPOCH_SEQ_UNCONFIRMED, PNL_EPOCH_SEQ_HELD_OPEN, PNL_HB_CFG_KICK_WINDOW_US,
  PNL_HB_CFG_LOSS_NS, PNL_HB_CFG_WDOG_TRIP, PNL_HB_CFG_KICK, PNL_HB_CFG_HB_EN, PNL_FENCE_CTL_WIRE_TEST,
  PNL_FENCE_CTL_PULSE, PNL_FENCE_CTL_SELF_STOP, PNL_FENCE_CTL_RELEASE, PNL_FENCE_CTL_ASSERT, PNL_FENCE_CTL_AUTO_EN,
  PNL_FENCE_STATUS_FENCE_COUNT, PNL_FENCE_STATUS_CAUSE, PNL_FENCE_STATUS_HB_IN_LIVE, PNL_FENCE_STATUS_ARMED,
  PNL_FENCE_STATUS_PTN_PRESENT, PNL_FENCE_STATUS_PTN_PWRGOOD, PNL_FENCE_STATUS_FENCE_IN]
/-- Fields of block PNL, part 3. -/
def allPNL2 : List Field := [PNL_FENCE_STATUS_FENCE_OUT, PNL_FENCE_STATUS_GATED, PNL_FENCE_STATUS_ARB_LOST,
  PNL_FENCE_STATUS_HB_LOST, PNL_FENCE_STATUS_PWRGOOD_LOST, PNL_FENCE_STATUS_FENCE_DONE, PNL_FENCE_STATUS_SELF_STOPPED,
  PNL_FENCE_STATUS_TEST_SEEN, PNL_PARTNER_HEALTH_SEQ, PNL_PARTNER_HEALTH_VERSION, PNL_PARTNER_HEALTH_FLAGS,
  PNL_PARTNER_HEALTH_FORMAT, PNL_OWN_MAP_OWNER]
/-- All fields of block PNL. -/
def allPNL : List Field := allPNL0 ++ allPNL1 ++ allPNL2
/-- The fields of block RRN, in the order of the spec's tables. -/
def allRRN0 : List Field := [RRN_CTL_UDP_PORT, RRN_CTL_VER_MAX, RRN_CTL_VER_MIN, RRN_CTL_READ_MAX_MIB, RRN_CTL_PKT,
  RRN_CTL_EN, RRN_CHIP_NUM_CONFLICT, RRN_CHIP_NUM_DOMAIN, RRN_CHIP_NUM_ARRAY, RRN_CHIP_NUM_NUM, RRN_WIN_SEL_WINDOW,
  RRN_WIN_SEL_WORD, RRN_WIN_CFG_DATA, RRN_CREDIT_POOL_RMA_4K, RRN_CREDIT_POOL_HOST_4K, RRN_CREDIT_POOL_FAB_4K,
  RRN_LEASE_TTL_LEASES_OUT, RRN_LEASE_TTL_NO_CREDIT, RRN_LEASE_TTL_LEASE_MAX_64K, RRN_LEASE_TTL_TTL_US]
/-- Fields of block RRN, part 2. -/
def allRRN1 : List Field := [RRN_RECEIPT_CFG_FULL_REFUSED, RRN_RECEIPT_CFG_HITS, RRN_RECEIPT_CFG_IN_USE,
  RRN_RECEIPT_CFG_LIFETIME_US, RRN_PATH_CFG_PORT_3, RRN_PATH_CFG_PORT_2, RRN_PATH_CFG_PORT_1, RRN_PATH_CFG_PORT_0,
  RRN_PATH_CFG_ENTROPY, RRN_PATH_CFG_PATHS, RRN_PATH_CFG_RTO_US, RRN_PATH_CFG_CTX_IDLE_10US,
  RRN_VIOL_STATUS_VIOLATIONS, RRN_VIOL_STATUS_GEN_STALE, RRN_VIOL_STATUS_BAD_HDR, RRN_VIOL_STATUS_TOO_OLD,
  RRN_VIOL_STATUS_FIRST_CODE, RRN_VIOL_STATUS_CAPTURED, RRN_VIOL_INFO_SRC, RRN_VIOL_INFO_WINDOW]
/-- Fields of block RRN, part 3. -/
def allRRN2 : List Field := [RRN_VIOL_INFO_MSG_ID]
/-- All fields of block RRN. -/
def allRRN : List Field := allRRN0 ++ allRRN1 ++ allRRN2
/-- The fields of block EVR, in the order of the spec's tables. -/
def allEVR0 : List Field := [EVR_STATUS_CRIT_LOST, EVR_STATUS_READY, EVR_STATUS_BIRTH_LOCKED, EVR_STATUS_WEAR_LIMITED,
  EVR_STATUS_FLASH_ERR, EVR_STATUS_ERASE_BUSY, EVR_STATUS_OPEN, EVR_STATUS_RESERVE_USED, EVR_STATUS_FIFO_LEVEL,
  EVR_HEAD_SEQ_SEQ, EVR_TAIL_SEQ_SEQ, EVR_BIRTH_COUNT_LOCKED, EVR_BIRTH_COUNT_COUNT, EVR_WIN_SEL_STATUS,
  EVR_WIN_SEL_SEQ, EVR_WIN_SEL_WORD, EVR_WIN_DATA_DATA, EVR_LOST_TOTAL, EVR_LOST_PENDING, EVR_INJECT_RESULT]
/-- Fields of block EVR, part 2. -/
def allEVR1 : List Field := [EVR_INJECT_ADDR]
/-- All fields of block EVR. -/
def allEVR : List Field := allEVR0 ++ allEVR1
/-- The fields of block FLT, in the order of the spec's tables. -/
def allFLT : List Field := [FLT_CTR_CFG_ACT_EN, FLT_CTR_CFG_THRESHOLD, FLT_CTR_CFG_WINDOW_MS, FLT_CTR_VAL_INSTANCE,
  FLT_CTR_VAL_PEAK, FLT_CTR_VAL_COUNT, FLT_CTR_STATE_EVICTIONS, FLT_CTR_STATE_ACTIONS, FLT_CTR_STATE_TRIPPED]
/-- The fields of block PWR, in the order of the spec's tables. -/
def allPWR0 : List Field := [PWR_MODE_VETO, PWR_MODE_PG_IDLE_US, PWR_MODE_CG_IDLE_10NS, PWR_MODE_AGREE_SEQ,
  PWR_MODE_STATE, PWR_STATUS_STATE, PWR_STATUS_TARGET, PWR_STATUS_STEP, PWR_STATUS_AGREED, PWR_STATUS_BUSY,
  PWR_STATUS_THROTTLE, PWR_STATUS_PG, PWR_STATUS_CG, PWR_ISLAND_GATE_REFUSED, PWR_ISLAND_GATE_WAKE,
  PWR_ISLAND_GATE_AUTO_PG, PWR_ISLAND_GATE_FORCE_OFF, PWR_DVFS_MHZ, PWR_DVFS_CAP, PWR_DVFS_CHANGING]
/-- Fields of block PWR, part 2. -/
def allPWR1 : List Field := [PWR_DVFS_CUR_LEVEL, PWR_DVFS_LEVEL, PWR_BIAS_CFG_BLF_EN, PWR_BIAS_CFG_WLUD_EN,
  PWR_BIAS_CFG_RBB_EN, PWR_BIAS_CFG_FBB_EN, PWR_BIAS_CFG_WLUD_MV, PWR_BIAS_CFG_RBB_MV, PWR_BIAS_CFG_FBB_MV,
  PWR_WAKE_EN_GPIO, PWR_WAKE_EN_SHELF, PWR_WAKE_EN_PWR_RESTORE, PWR_WAKE_EN_HEARTBEAT, PWR_WAKE_EN_RTC,
  PWR_WAKE_EN_SMBUS, PWR_LAST_WAKE_TICK, PWR_LAST_WAKE_INSTANCE, PWR_LAST_WAKE_SOURCE, PWR_SMB_WAKE_ADDR_MATCHES,
  PWR_SMB_WAKE_ADDR_STRETCH]
/-- Fields of block PWR, part 3. -/
def allPWR2 : List Field := [PWR_SMB_WAKE_ADDR_MASK, PWR_SMB_WAKE_ADDR_ADDR, PWR_REFUSE_CNT_COUNT,
  PWR_LAST_REFUSE_FOUND, PWR_LAST_REFUSE_TARGET, PWR_LAST_REFUSE_ID]
/-- All fields of block PWR. -/
def allPWR : List Field := allPWR0 ++ allPWR1 ++ allPWR2
/-- The fields of block SEC, in the order of the spec's tables. -/
def allSEC0 : List Field := [SEC_STATUS_STAGE, SEC_STATUS_TEST, SEC_STATUS_STRAP_BAD, SEC_STATUS_DEVID_READY,
  SEC_STATUS_ALIAS_READY, SEC_STATUS_AWK_LOADED, SEC_STATUS_TRIAL, SEC_STATUS_LAST_REFUSE, SEC_STATUS_REFUSALS,
  SEC_SVN_ADVANCE, SEC_SVN_APPLY_REVOKE, SEC_SVN_RT_SVN, SEC_SVN_S1_SVN, SEC_SVN_FUSED, SEC_ATTEST_CTL_OP,
  SEC_ATTEST_CTL_BUSY, SEC_ATTEST_CTL_RESULT, SEC_ATTEST_CTL_OBJ, SEC_ATTEST_CTL_INDEX, SEC_ATTEST_CTL_ADDR]
/-- Fields of block SEC, part 2. -/
def allSEC1 : List Field := [SEC_ID_WIN_DATA, SEC_FUSE_STATUS_FUSE_ECC_ERR, SEC_FUSE_STATUS_OWNER_KEY,
  SEC_FUSE_STATUS_SYH_REVOKED, SEC_FUSE_STATUS_SEED_OK, SEC_FUSE_STATUS_MFG_LOCKED, SEC_IMAGE_SLOT_DIR_SEQ,
  SEC_IMAGE_SLOT_POLICY, SEC_IMAGE_SLOT_RUNTIME, SEC_IMAGE_SLOT_STAGE1]
/-- All fields of block SEC. -/
def allSEC : List Field := allSEC0 ++ allSEC1
/-- The fields of block CHIP, in the order of the spec's tables. -/
def allCHIP0 : List Field := [CHIP_RESET_CTL_DRAM_KEEP, CHIP_RESET_CTL_WARM, CHIP_RESET_CAUSE_WARM_COUNT,
  CHIP_RESET_CAUSE_BROWNOUT_RAIL, CHIP_RESET_CAUSE_POR_PIN, CHIP_RESET_CAUSE_BROWNOUT, CHIP_RESET_CAUSE_SEQ_ERR,
  CHIP_RESET_CAUSE_EARLY_POR, CHIP_RESET_CAUSE_SRAM_DROP, CHIP_RESET_CAUSE_PF_DESTAGED,
  CHIP_RESET_CAUSE_PF_INCOMPLETE, CHIP_RESET_CAUSE_THERMAL, CHIP_RESET_CAUSE_WARM_SW, CHIP_RESET_CAUSE_WARM_PIN,
  CHIP_RESET_CAUSE_REFCLK_LOST, CHIP_RESET_CAUSE_ACTIVATION, CHIP_RESET_CAUSE_DRAM_KEPT, CHIP_STRAPS_GPIO_IN,
  CHIP_STRAPS_TEST_MODE_PIN, CHIP_STRAPS_BOOT_SRC_PIN]
/-- Fields of block CHIP, part 2. -/
def allCHIP1 : List Field := [CHIP_STRAPS_HEAD_SLOT_PIN, CHIP_STRAPS_TEST_MODE, CHIP_STRAPS_BOOT_SRC,
  CHIP_STRAPS_HEAD_SLOT, CHIP_ID_SERIAL, CHIP_STEPPING_PART_ID, CHIP_STEPPING_BASE, CHIP_STEPPING_METAL,
  CHIP_ESTATE_NUM_NUM, CHIP_ISLAND_ERR_STALL, CHIP_SCRATCH_DATA]
/-- All fields of block CHIP. -/
def allCHIP : List Field := allCHIP0 ++ allCHIP1
/-- The fields of block CLK, in the order of the spec's tables. -/
def allCLK : List Field := [CLK_ISLAND_FREQ_L0_MHZ, CLK_ISLAND_FREQ_RELOCKS, CLK_ISLAND_FREQ_MHZ,
  CLK_PLL_STATUS_AVS_FAULT, CLK_PLL_STATUS_PNL_REF_OK, CLK_PLL_STATUS_ETH_REF_OK, CLK_PLL_STATUS_PCIE_REF_OK,
  CLK_PLL_STATUS_REFSYS_OK, CLK_PLL_STATUS_RTC_OK, CLK_PLL_STATUS_LOCK_FAIL, CLK_PLL_STATUS_LOCKED,
  CLK_REF_SEL_PCIE_SRIS, CLK_TICK_TICK, CLK_OPTIME_OPSEC, CLK_POWER_CYCLES_COUNT, CLK_ALARM_ALARM, CLK_ALARM_RTC_SEC]
/-- The fields of block MEM, in the order of the spec's tables. -/
def allMEM : List Field := [MEM_CFG_CH_EN, MEM_CFG_SPEED_MAX, MEM_TRAIN_STATUS_CH_TRAINED, MEM_TRAIN_STATUS_CH_FAILED,
  MEM_TRAIN_STATUS_SPEED, MEM_TRAIN_STATUS_CAPACITY_GIB, MEM_TRAIN_STATUS_INIT_DONE, MEM_TRAIN_STATUS_READY,
  MEM_PATROL_CFG_PERIOD_H, MEM_PATROL_CFG_EN, MEM_CE_CNT_TOTAL, MEM_CE_CNT_PATROL, MEM_UE_STATUS_VALID,
  MEM_UE_STATUS_CH, MEM_UE_STATUS_ADDR, MEM_RETIRE_CNT_NO_SPARE, MEM_RETIRE_CNT_ROWS]
/-- The fields of a block, by its number (Table 19.1). -/
def ofBlock : Nat → List Field
  | 0 => allCHIP
  | 1 => allPWR
  | 2 => allCLK
  | 3 => allEVR
  | 4 => allBPM
  | 5 => allTSK
  | 6 => allHQ
  | 7 => allNET
  | 8 => allRRN
  | 9 => allPNL
  | 10 => allING
  | 11 => allCMP
  | 12 => allCIP
  | 13 => allPAR
  | 14 => allPCI
  | 15 => allMEM
  | 16 => allSHF
  | 17 => allSEC
  | 18 => allFLT
  | 19 => allDPC
  | _ => []

end F

end Sys2Proof.Machine
end

