-- ==== Sys2Proof/Machine/State.lean ====
section
/-! DEFINITION. The state of one part ("this head"): every register, bank, slot, queue, table and pin the spec gives it, with the
tables of its firmware, as plain data; the queue of waiting commands; and the record of what the part sends out. -/

namespace Sys2Proof.Machine

open Sys2Proof

/-- A fault: no command of this model ends in one. The one constructor is held for a machine state that the spec rules out. -/
inductive Fault where
  /-- Raised by no meaning (safe: the step stops where the spec gives nothing). -/
  | impossible
deriving DecidableEq, Repr

/-- A refusal, by name. -/
inductive Refusal where
  /-- Raised by an arm of `exec` for a command that has no meaning yet (safe: the step stops). -/
  | notModelled (mnemonic : String)
deriving DecidableEq, Repr

/-! ### Cores (R98 to R103) -/

/-- A register bank (R98): one for each task slot, one for each supervisor pair. `g` holds g1 to g31; bit r of `badParity` says that
the parity bit of register r does not match it (R99, R109). DESIGN CHOICE, unsafe: log 5. DESIGN CHOICE, safe: log 42. -/
structure Bank where
  g : List Word := List.replicate 31 0
  pc : Word := 0
  priv : Nat := 0
  ppriv : Nat := 0
  pie : Bool := false
  ie : Bool := false
  badParity : Nat := 0
deriving DecidableEq, Repr

/-- A token entry (R124). Free when neither held nor detached; `status` is `none` while the job runs. DESIGN CHOICE, unsafe: log 5. -/
structure TokEntry where
  held : Bool := false
  detached : Bool := false
  serial : Nat := 0
  status : Option Nat := none
deriving DecidableEq, Repr

/-- What a core holds beside its banks (Table 4.1): the special registers that are not in a bank, and where it runs.
`cur` is the running slot (0–7) of a data-path core; `start` says that the core runs its start code (R132). DESIGN CHOICE, unsafe: log 5. DESIGN CHOICE, safe: log 37. -/
structure Core where
  cur : Option Nat := none
  start : Bool := false
  rr : Nat := 7
  lockHalt : Bool := false
  /-- The hook the Array Runtime last called on the core (its own note; R94 needs it). -/
  hook : Nat := 0
  /-- The next fetch is the first one of the start code (R132). -/
  first : Bool := false
  epc : Word := 0
  ecause : Word := 0
  eaddr : Word := 0
  evec : Word := 0
  sscratch : Word := 0
  imask : Word := 0
  hepc : Word := 0
  hxvec : Word := 0
  hcause : Word := 0
  hfpc : Word := 0
  haddr : Word := 0
  hbudget : Nat := 0
  hrg : List Word := List.replicate 8 0
  tentry : Word := 0
  cycle : Word := 0
  instret : Word := 0
deriving DecidableEq, Repr

/-- The cores' part of the state. Banks are keyed by context: 0–511 for the slots, 512 and 513 for the pairs (R124). DESIGN CHOICE, safe: log 42. -/
structure Cpu where
  cores : KMap Core := []
  banks : KMap Bank := []
  /-- Token entry e of context x stands at 16 × x + e. -/
  toks : KMap TokEntry := []
  /-- Latched IRQ lines, bit i for line i (Table 4.6); lines 2, 3, 4, 8 and 10 are read from their sources. -/
  irq : Nat := 0
  /-- Mismatches the next compared instruction of pair 0 and of pair 1 meets, 0 to 2 (R131). -/
  mismatch : List Nat := [0, 0]
deriving DecidableEq, Repr

/-! ### Tasks (R75 to R96) -/

/-- A state of Table 3.3. -/
inductive SlotState where
  | free | loaded | running | waiting | ready | hook
deriving DecidableEq, Repr

/-- A task slot (R75, R85). `live` is t15; `wait` the token entry and destination register of the WTOK it waits in; `resume` the
register and status it takes when it runs again; `passed` that its command is past its cancellation point (R88). DESIGN CHOICE, unsafe: log 5. -/
structure Slot where
  st : SlotState := .free
  task : Task := {}
  t0 : Nat := 0
  live : Nat := 0
  wait : Option (Nat × Nat) := none
  resume : Option (Nat × Nat) := none
  passed : Bool := false
  fired : Bool := false
deriving DecidableEq, Repr

/-- The dispatcher and the slots. -/
structure TaskSt where
  slots : KMap Slot := []
  /-- The intake queues Q0 to Q3, oldest first. -/
  q : List (List Task) := [[], [], [], []]
  /-- The weighted round robin of R80: which of Q1 to Q3 has the turn, and the placements it has left in it. -/
  turn : Nat := 1
  credit : Nat := 8
  /-- The host queue the round robin of Q1 stands at, and the commands placed in this visit (R80). -/
  visit : Nat × Nat := (0, 0)
  visited : Nat := 0
  /-- Overruns and faults of the hooks, with the operating second of each (R94). -/
  hookErrs : List (Nat × Nat) := []
  /-- The hooks the loaded policy supplies, and its image version. -/
  policyHooks : Nat := 0
deriving DecidableEq, Repr

/-! ### Engines and the buffer pool (R121 to R158) -/

/-- A job descriptor (Table 4.14), with the address it was copied from. -/
structure Desc where
  at_ : Nat := 0
  engine : Nat := 0
  op : Nat := 0
  flags : Nat := 0
  unit : Nat := 0
  rsv : Nat := 0
  inn : Nat := 0
  inLen : Nat := 0
  outLimit : Nat := 0
  out : Nat := 0
  next : Nat := 0
  aux : Nat := 0
  tag : Nat := 0
  param : Nat := 0
deriving DecidableEq, Repr

/-- A chain on an engine's queue: its token (context, entry, serial), the descriptors still to run, what the last job produced
(handle and byte offset, length), the buffers OUT_ALLOC took in it, NOTIFY and TAG of its first descriptor. -/
structure Chain where
  ctx : Nat := 0
  entry : Nat := 0
  serial : Nat := 0
  descs : List Desc := []
  prevOut : Nat := 0
  prevLen : Nat := 0
  allocs : List Nat := []
  notify : Bool := false
  tag : Nat := 0
  ar : ArWork := .none
deriving DecidableEq, Repr

/-- The engines' queues, keyed by ENGINE × 1024 + unit (drive for NVME), and the Array Runtime's jobs that have ended. -/
structure Eng where
  q : KMap (List Chain) := []
  ended : List ArEnd := []
deriving DecidableEq, Repr

/-- A buffer (R144). -/
structure Buf where
  cnt : Nat := 0
  fill : Nat := 0
deriving DecidableEq, Repr

/-- The buffer pool. Caddy c of set s is key 8 × s + c; buffer i of it is key (8 × s + c) × 2^28 + i. A caddy's free list is the
buffers freed and not yet handed out again, newest first, above the buffers never handed out, `fresh` onward. -/
structure Bpm where
  bufs : KMap Buf := []
  freed : KMap (List Nat) := []
  fresh : KMap Nat := []
deriving DecidableEq, Repr

/-! ### Recorder and fault counters (R400 to R420) -/

/-- An entry of the intake FIFO, and a record (Table 13.1). -/
structure EvEntry where
  code : Nat := 0
  source : Nat := 0
  inst : Nat := 0
  sev : Nat := 0
  fw : Bool := false
  satCont : Bool := false
  payload : List Byte := []
  tick : Nat := 0
  lastTick : Nat := 0
  rept : Nat := 0
  closed : Bool := false
  seq : Option Nat := none
  opsec : Nat := 0
  pcycle : Nat := 0
deriving DecidableEq, Repr

/-- The recorder: the intake FIFO (oldest first), the entry that entered last, the flash and its lock, the erase ahead, the
snapshot buffer, and the commits of each operating second (R406). -/
structure Evr where
  fifo : List EvEntry := []
  last : Option EvEntry := none
  next : Nat := 0
  flash : KMap EvEntry := []
  locked : Bool := false
  erasing : Option Nat := none
  snap : List Word := List.replicate 8 0
  commits : KMap Nat := []
  wearAt : Option Nat := none
  dropTick : Nat := 0
deriving DecidableEq, Repr

/-- A row that counter 0 tracks (Table 13.4). -/
structure RowTrk where
  row : Nat := 0
  lastErr : Nat := 0
deriving DecidableEq, Repr

/-- The fault counters: slot lists (current slot first) keyed by k × 65536 + instance, counter 0's rows keyed by
channel × 256 + entry, the rows retired in each channel with the operating second of the last, and the known-answer test failures since
power-on. -/
structure Flt where
  slots : KMap (List Nat) := []
  rows : KMap RowTrk := []
  retired : KMap (List Nat) := []
  retiredAt : KMap Nat := []
  katFails : Nat := 0
deriving DecidableEq, Repr

/-! ### Physical conditions -/

/-- What the memory cells hold beside their bytes: for a 64-byte line (address / 64), an uncorrectable (true) or a corrected (false)
error that its next read meets (R484). DESIGN CHOICE, safe: log 42. -/
structure Phys where
  lineErr : KMap Bool := []
deriving DecidableEq, Repr

/-! ### Hosts (R32 to R74) -/

/-- A queue of a controller, I/O or admin. `nextA`, `nextB` are the next CSNs of its two spaces, 0x80000000 standing for the wrap to 1 (R45); `placed` the CMDSEQ placed
last, `done` the highest CMDSEQ completed (R43); `closing` that its reset has begun (R68); `rs` the Delete that waits for it. -/
structure HQueue where
  sq : Bool := false
  cq : Bool := false
  cqid : Nat := 0
  depth : Nat := 32
  tcp : Bool := false
  conn : Nat := 0
  nextA : Nat := 1
  nextB : Nat := 1
  placed : Nat := 0
  /-- The CMDSEQs beyond `placed` that take no slot here: landed in the shadow ring, taken by the partner, or refused; and whether `placed`
  is known, which it is not at a head that joined (R81). -/
  ahead : List Nat := []
  synced : Bool := true
  done : Nat := 0
  closing : Bool := false
  open_ : List Nat := []
  fenceA : Nat := 0
  fenceB : Nat := 0x80000000
deriving DecidableEq, Repr

/-- A command that landed in the shadow ring or stands in an applied TAKE record (R333): `sqeHeld` and `dataHeld` as R333 step 2
counts them; `take` its WSEQ once a TAKE record is applied; `cpl` that its CPL record is applied. -/
structure RingCmd where
  m : HbMsg := {}
  sqeHeld : Bool := true
  dataHeld : Bool := true
  take : Option Nat := none
  cpl : Bool := false
  handle : Option Nat := none
deriving DecidableEq, Repr

/-- A Stage that waits (R60, R62), and the ranges of the stage cache, oldest first. -/
structure StageReq where
  id : CmdId := {}
  task : Option Task := none
  ranges : List (Nat × Nat × Nat) := []
  shelves : List Nat := []
  /-- The LBAs of the stage cache that this Stage may still fill. -/
  room : Nat := 0x1000000
deriving DecidableEq, Repr

/-- An entry of the error log (R56): its number, the queue and command, the status field, the namespace. -/
structure ErrEntry where
  count : Nat := 0
  qid : Nat := 0
  cid : Nat := 0
  status : Nat := 0
  nsid : Nat := 0
deriving DecidableEq, Repr

/-- Hosts, queues, the shadow ring and the write cache. DESIGN CHOICE, unsafe: log 29. -/
structure HostSt where
  ctrls : KMap Ctrl := []
  /-- Queue q of controller n stands at 512 × n + q. -/
  queues : KMap HQueue := []
  ns : KMap Namespace := []
  ring : List RingCmd := []
  /-- Stage cache: nsid, first LBA, LBAs; oldest first. -/
  stage : List (Nat × Nat × Nat) := []
  stageWait : List StageReq := []
  /-- The Delete I/O SQ and controller resets whose queues still hold commands: controller, queue, and the task that completes. -/
  resets : List (Nat × Nat × Option Task) := []
  /-- Flushes that wait: the CMDSEQs they wait for. -/
  flushes : List (Task × List Nat) := []
  /-- NVMe/TCP write commands whose ready-to-transfer PDU is withheld (R151). -/
  noR2t : List HbMsg := []
  /-- Data still landing for commands that ended before it was in: the command, its landing token, the buffer that is kept until then (R86). -/
  lateLand : List (CmdId × Nat × Nat) := []
  changedNs : List Nat := []
  errorLog : List ErrEntry := []
  staged : List Byte := []
  /-- The item the last Attestation Report of a controller built (R449). -/
  attest : KMap (List Byte) := []
  /-- Snapshot creates passed to the partner, by their request number (R300). -/
  snapWait : List (Nat × Task) := []
  snapReq : Nat := 0
deriving DecidableEq, Repr

/-! ### Two heads (R322 to R363) -/

/-- An epoch this head closed and sent: its records, and once its REPLY is in, the indices it listed PENDING (R333, R334). -/
structure EpochSt where
  num : Nat := 0
  prev : Nat := 0
  recs : List ERecord := []
deriving DecidableEq, Repr

/-- A BARRIER or RECORD job that waits (R327, R332). -/
structure EpochWait where
  chain : Chain := {}
  slot : Nat := 0
  upto : Nat := 0
deriving DecidableEq, Repr

/-- The mirror. `opened` the records of the open epoch; `prev` the number of the last epoch closed; `sent` the epochs sent and not
replied to, oldest first; `await` the owner's CPL records that a REPLY listed PENDING, with the epoch and index of each; `applied` the
partner epochs applied, newest first, at most EPOCH_WINDOW or READ_RESEND_EPOCHS of them; `recvMax` the highest partner number;
`parts` the INDEX parts kept (R334); `shadowPend` the partner's CPL records still PENDING here; `receipts` the entries for the next
REPLY; `journal` the SOLO epochs in the journal ring; `moving` the planned handovers this head started, each with its epoch (0 when the partner places the record) and command. -/
structure Mir where
  opened : List ERecord := []
  isOpen : Bool := true
  takes : Nat := 0
  prev : Nat := 0
  sent : List EpochSt := []
  await : List (Nat × Nat × ERecord) := []
  applied : List EpochSt := []
  lastApplied : Nat := 0
  recvMax : Nat := 0
  /-- The highest ACK seen in a partner message (R328). -/
  ackSeen : Nat := 0
  parts : List (Nat × List IndexChange) := []
  shadowPend : List (Nat × Nat × ERecord) := []
  receipts : List ReplyEntry := []
  /-- The commands the shadow's RECEIPT entries reported landed, for mirror protocol version 3 (R337). -/
  seen : List CmdId := []
  /-- The writes the shadow's RECEIPT entries reported refused for their credit before this head's own copy came (R66). -/
  overSeen : List CmdId := []
  journal : List EpochSt := []
  barriers : List EpochWait := []
  roundFrom : Option Nat := none
  /-- The tick at which the last resend round began (R328). -/
  roundAt : Nat := 0
  moving : List (Nat × List Nat × Bool × Option Task) := []
  seqEnd : Bool := false
  copying : Bool := false
  copyDone : Bool := false
  joiner : Bool := false
  partnerShadow : Bool := false
  healthSeq : Nat := 0
  healthLast : HealthWord := {}
  /-- One more than the tick of the last failed known-answer test, 0 with none (bit 6 of Table 11.7). -/
  healthTest : Nat := 0
  laneTest : Nat := 0
  sendPaused : Bool := false
  attempts : List Nat := []
  refused : Bool := false
  activating : Bool := false
  partnerFirm : Bool := false
deriving DecidableEq, Repr

/-- The host-binding header of a message from the part (Table 2.3): VER is 1, DUAL and LOCAL are 0, SRC_HEAD names the head that sends it
(`true` for head B). RDGEN 0 and the reserved bits 0. DESIGN CHOICE, unsafe: log 94. -/
structure HbHead where
  typ : Nat := 2
  id : CmdId := {}
  srcHead : Bool := false
  reissue : Bool := false
  csn : Nat := 0
  dlen : Nat := 16
  session : Nat := 0
deriving DecidableEq, Repr

/-- Where read data goes (R42): the endpoint's node, the offset in its window, that window's key, and the generation of RDGEN. -/
structure RmaDest where
  node : Nat := 0
  offset : Nat := 0
  key : Nat := 0
  gen : Nat := 0
deriving DecidableEq, Repr

/-- What the part sends or drives, newest last (the model's own record of its outputs). DESIGN CHOICE, safe: log 1. DESIGN CHOICE, safe: log 28. DESIGN CHOICE, safe: log 82. -/
inductive Output where
  /-- A completion: a CPL with its header to the endpoint (Table 2.3), or the CQE alone on the NVMe/TCP connection. -/
  | hostCpl (h : HbHead) (tcp : Bool) (cqe : Cqe)
  /-- A CREDIT message: its header, GRANT_LIMIT and CMDSEQ_LIMIT (Table 2.4). -/
  | credit (h : HbHead) (grant cmdseqLimit : Nat)
  /-- A NOTICE message: its header and code (Table 2.4). -/
  | notice (h : HbHead) (code : Nat)
  /-- Data of a command: an RMA WRITE to the host's window (R42), or data PDUs on its NVMe/TCP connection. -/
  | readData (id : CmdId) (tcp : Bool) (dest : RmaDest) (data : List Byte)
  /-- A NAK for a host-binding message (R151). -/
  | hostNak (id : CmdId) (code : Nat)
  /-- An asynchronous event to a controller (R51, R53). -/
  | asyncEvent (id : CmdId) (kind : Nat)
  /-- The ready-to-transfer PDU of an NVMe/TCP command for all of its data, of that many bytes: the one outstanding (R50, R64, R151). -/
  | r2t (id : CmdId) (bytes : Nat)
  /-- An EPOCH message on the partner link (Table 11.1). -/
  | epoch (m : EpochMsg)
  /-- A REPLY message. -/
  | reply (m : ReplyMsg)
  /-- A HEALTH message: the 64 bytes of its word (Table 11.7). -/
  | health (word : List Byte)
  /-- A COPY message. -/
  | copy (m : CopyMsg)
  /-- An IDLE message. -/
  | idle
  /-- A TEST message on a lane, sent or returned. -/
  | test (lane : Nat) (returned : Bool)
  /-- A POWER message (R329). -/
  | power (agree : Nat)
  /-- A command sent to a drive (R242): OP, SLBA or zone and offset, whether Force Unit Access is set (R238), and the data written. -/
  | drive (drive op arg : Nat) (fua : Bool) (data : List Byte)
  /-- A Rearn packet sent (Table 12.2). -/
  | rearn (p : RrnPkt)
  /-- A HELLO or HELLO_REPLY (Table 12.4). -/
  | hello (dst msgId : Nat) (reply : Bool) (h : HelloBody)
  /-- A dedup message to an array: its TYPE and its body (Table 6.7). -/
  | dedup (array typ : Nat) (m : DedupMsg)
  /-- An index page written to the index tier (R177, R257): how many were written before it, its slice and number, and its bytes under XTS. -/
  | indexPage (place slice page : Nat) (bytes : List Byte)
  /-- A map page of a namespace, or of its retained map, written to the index tier (R257, R303). -/
  | mapPage (place nsid page : Nat) (kept : Bool) (bytes : List Byte)
  /-- A pour journal entry written to the journal ring (R251, Table 8.4). -/
  | pourEntry (bytes : List Byte)
  /-- A CONFIRM, or a dedup message of a TYPE, sent to the partner as the server of its slice (R176). -/
  | askSlice (q : ConfirmReq)
  | passSlice (typ : Nat) (m : DedupMsg)
  /-- A DIR entry moved to its new home array (R185). -/
  | dirMove (array : Nat) (fp : Digest) (kd names : Nat)
  /-- The answer to a CONFIRM: HIT or NEW (R182). -/
  | confirm (fp : Digest) (kd : Nat) (hit : Bool)
  /-- A replication message to a chip: its TYPE and what it carries (Table 10.3). -/
  | rep (chip typ : Nat) (m : RepMsg)
  /-- A key transport message (R452). -/
  | key (chip typ : Nat) (m : KeyMsg)
  /-- A level driven on a pin: its name and its level. -/
  | pin (name : String) (level : Bool) (n : Nat := 0)
  /-- An AVSBus command (R471): the rail, 0 VDD_CORE or 1 VDD_SRAM, and the voltage in tenths of a millivolt. -/
  | avs (rail tenths : Nat)
deriving DecidableEq, Repr

/-- An output as it left: an Ethernet frame's 802.1Q tag (VID and PCP) and DSCP (R36), both `none` for what is no Ethernet frame. DESIGN CHOICE, safe: log 28. -/
structure Sent where
  tag : Option (Nat × Nat) := none
  dscp : Option Nat := none
  out : Output
deriving DecidableEq, Repr

/-- The heartbeat and fence logic of AON beside its registers (R342 to R347): HB_OUT toggling, a stop that lasts until reset, HB_IN
edges since the last disarm point, the egress held and whether it is now discarded, the WIRE_TEST window; the tick at which the KICK watchdog
last started; and why the Array Runtime wrote ASSERT: 0 not at all, 1 to start alone (R355), 2 after a wake without a heartbeat (R437). -/
structure Fence where
  hbOut : Bool := false
  hbStopped : Bool := false
  edges : Nat := 0
  held : List Output := []
  discard : Bool := false
  window : Bool := false
  kickAt : Nat := 0
  why : Nat := 0
  /-- FENCE_IN has made the part fenced since it rose (R346). -/
  fenced : Bool := false
deriving DecidableEq, Repr

/-! ### Rearn (R364 to R399) -/

/-- A window (Table 12.5); PERM_R, PERM_W, PERM_NOTIFY and PERM_ATOMIC are bits 0 to 3 of `perm`. -/
structure Window where
  base : Nat := 0
  perm : Nat := 0
  key : Nat := 0
  len : Nat := 0
  armed : Bool := false
  gen : Nat := 0
deriving DecidableEq, Repr

/-- A lease that this part granted (R376): its number, node, pool (0 FAB, 1 HOST, 2 RMA), bytes, and the bytes charged to it. -/
structure LeaseIn where
  num : Nat := 0
  node : Nat := 0
  pool : Nat := 0
  bytes : Nat := 0
  charged : Nat := 0
deriving DecidableEq, Repr

/-- A lease that this part holds (R377): the part that granted it, its pool and bytes, the first-transmission bytes sent under it, and the
tick its life ends at, counted from the request. -/
structure LeaseOut where
  num : Nat := 0
  node : Nat := 0
  pool : Nat := 0
  bytes : Nat := 0
  used : Nat := 0
  till : Nat := 0
deriving DecidableEq, Repr

/-- A reassembly context (R384): what it recorded, the slots filled, the bytes placed and charged, the caddy of a fabric message, the bytes of
a host-binding message. -/
structure RCtx where
  first : RrnPkt := {}
  op : Nat := 0
  slots : List Nat := []
  placed : Nat := 0
  charged : Nat := 0
  handle : Option Nat := none
  data : List (Nat × List Byte) := []
deriving DecidableEq, Repr

/-- A receipt entry (R380): reserved while its message is open, live with the reply once it executed. -/
structure Receipt where
  src : Nat := 0
  msgId : Nat := 0
  live : Bool := false
  op : Nat := 0
  reply : RrnPkt := {}
deriving DecidableEq, Repr

/-- A directory entry (R366): addresses, identity, negotiated version (0 before), message size and packet size, BOUND; the HELLOs sent that
wait for an answer and their MSG_ID. -/
structure RNode where
  addrs : List Nat := []
  identity : Digest := 0
  ver : Nat := 0
  maxMsg : Nat := 0
  pkt : Nat := 0
  bound : Bool := false
  sends : Nat := 0
  helloId : Nat := 0
deriving DecidableEq, Repr

/-- A request descriptor (Table 12.8). -/
structure RrnReq where
  op : Nat := 0
  atop : Nat := 0
  dst : Nat := 0
  window : Nat := 0
  gen : Nat := 0
  key : Nat := 0
  length : Nat := 0
  raddr : Nat := 0
  local_ : Nat := 0
  notify : Nat := 0
  flags : Nat := 0
  rsv : Nat := 0
  operand : Nat := 0
  compare : Nat := 0
  tag : Nat := 0
deriving DecidableEq, Repr

/-- Where an operation of this part stands: waiting for the node's HELLO_REPLY, for room (a lease of its own or READ_MAX_MIB), for a lease
asked for, or sent. -/
inductive RPhase where
  | hello | room | lease | sent
deriving DecidableEq, Repr

/-- An operation of this part (R388): its token (context, entry, serial), the lease it uses, the CREDIT_REQ sent for it and its tick, the
transmissions made, the tick of the first, the last transient code, and the response slots of a READ. -/
structure ROp where
  msgId : Nat := 0
  req : RrnReq := {}
  ctx : Nat := 0
  entry : Nat := 0
  serial : Nat := 0
  addr : Nat := 0
  phase : RPhase := .hello
  lease : Nat := 0
  asked : Nat := 0
  askedAt : Nat := 0
  sends : Nat := 0
  firstAt : Option Nat := none
  waits : Nat := 0
  transient : Option Nat := none
  slots : List Nat := []
deriving DecidableEq, Repr

/-- NET's Rearn state: windows, leases granted (by table entry) with the issue counter, leases held, contexts, receipts, the directory, the
MSG_ID counter and the operations outstanding. -/
structure Rrn where
  windows : KMap Window := []
  leases : KMap LeaseIn := []
  issue : Nat := 0
  held : List LeaseOut := []
  ctxs : List RCtx := []
  receipts : List Receipt := []
  nodes : KMap RNode := []
  lastMsg : Nat := 0
  ops : List ROp := []
deriving DecidableEq, Repr

/-! ### Power (R421 to R443) -/

/-- The body bias of an island, in mV (Table 14.3). -/
inductive Bias where
  | none
  | forward (mv : Nat)
  | reverse (mv : Nat)
deriving DecidableEq, Repr

/-- The SRAM assist of an island (Table 14.3). -/
inductive Assist where
  | none
  | underdrive (mv : Nat)
  | float
deriving DecidableEq, Repr

/-- Bias, assist and array supply of an island as last set (R425), the supply in tenths of a millivolt. -/
structure IslandElec where
  bias : Bias := .none
  assist : Assist := .none
  array : Nat := 8500
deriving DecidableEq, Repr

/-- The power controller beside its registers: the state in force before the request; the register that a WAITP of pair 0 which has not
returned will write; the agreement number of the POWER message that came; DISPATCH_EN and INTAKE_EN as they were; whether only PWR_RESTORE
wakes (R438); HB_IN edges in P2; P3 reached; the units whose known-answer test fell due while gated (R428); Tj; the trip latched; the level each running change leads to (R423). DESIGN CHOICE, unsafe: log 8. -/
structure Pwr where
  before : Nat := 0
  waitp : Option Nat := none
  offered : Option Nat := none
  dispatchWas : Bool := false
  intakeWas : Bool := false
  restoreOnly : Bool := false
  edges : Nat := 0
  off : Bool := false
  katDue : List (Nat × Nat) := []
  tj : Int := 0
  tripped : Bool := false
  target : KMap Nat := []
  /-- PCI_PLANNED_DOWN as it was before step 4 of Table 14.6. -/
  plannedWas : Nat := 0
  /-- VDD_CORE as last commanded, in tenths of a millivolt; the regulator's default of 0.80 V before any command (R471). -/
  core : Nat := 8000
  /-- Bias and assist of the islands (R425), by SOURCE number. -/
  elec : KMap IslandElec := []
deriving DecidableEq, Repr

/-! ### Security block (R444 to R469) -/

/-- A copy of the boot directory (R454): SEQ, and COMMITTED, TRIAL and TRIES of Stage 1, Runtime and Policy. -/
structure BootDir where
  seq : Nat := 0
  committed : List Nat := [0, 0, 0]
  trial : List (Option Nat) := [none, none, none]
  tries : List Nat := [0, 0, 0]
deriving DecidableEq, Repr

/-- The security block: M0 to M5 and the counts of writes to M3 and M5; the two directory copies; the images in the boot flash, class × 2 +
slot for class 0 Stage 1, 1 Runtime, 2 Policy, an unlisted slot holding what the board put there and an empty one marked invalid; the headers
of the running Stage 1 and Runtime; FORMAT and GEN of the two copies of the configuration store; whether the staged image has a gap or overlap. -/
structure Sec where
  meas : List Digest := List.replicate 6 0
  m3 : Nat := 0
  m5 : Nat := 0
  dirs : List BootDir := [{ seq := 1 }, {}]
  images : KMap (List Byte) := []
  s1 : List Byte := []
  rt : List Byte := []
  cfg : List (Nat × Nat) := [(12, 1), (0, 0)]
  badStage : Bool := false
  /-- The operating seconds at the last firmware commit (R460). -/
  commitAt : Nat := 0
deriving DecidableEq, Repr

/-! ### Supplies, clocks and reset (R470 to R495) -/

/-- A vault image (R488): the dirty data with its bytes, the epochs that were not durable, controllers, queues and CSN state, the power
cycle, the highest epoch made and applied. -/
structure Vault where
  dirty : List (Dirty × List Byte) := []
  epochs : List EpochSt := []
  queues : KMap HQueue := []
  ctrls : KMap Ctrl := []
  /-- The part's serial and the bytes of buffers and records, as the header carries them. -/
  serial : Nat := 0
  bytes : Nat := 0
  pcycle : Nat := 0
  made : Nat := 0
  applied : Nat := 0
deriving DecidableEq, Repr

/-- What AON and the board keep: relock tries of each PLL that lost lock (absent while locked), REFCLK_SYS stopped, PWR_FAILn low, a destage
running; the vault SSD's image, whether it is fitted, whether its image is to be replayed, and the WSEQs replayed (R490); the resume mark of an
activation (R462: the last partner epoch applied) and its Commit that waits; whether the
boot ended in recovery or in a Runtime that refused itself; equal straps seen (R512); MEM_CFG as the last
power-on took it (R494); whether the board's own Stage 1 and Runtime images pass their checks. -/
structure Chip where
  plls : KMap Nat := []
  refLost : Bool := false
  pfLow : Bool := false
  destaging : Bool := false
  vault : Option Vault := none
  vaultFitted : Bool := true
  replayDue : Bool := false
  replaying : List Nat := []
  mark : Option Nat := none
  /-- The Commit that waits, with the class and slot it activates. -/
  commit : Option (Task × Nat × Nat) := none
  recovery : Bool := false
  noPair : Bool := false
  memCh : Nat := 0xFF
  memSpeed : Nat := 4
  stage1Ok : Bool := true
  runtimeOk : Bool := true
  /-- DRAM trained with fewer than 4 channels, or of less than 512 GiB (R482). -/
  lowMem : Bool := false
deriving DecidableEq, Repr

/-- The whole state. DESIGN CHOICE, safe: log 1. -/
structure State where
  /-- Control-space register fields, keyed by register address × 64 + lsb; an unlisted field holds its reset value. -/
  regs : KMap Nat := []
  /-- Memory, keyed by `physKey` (Ops.lean), in canonical form: an unlisted byte reads as 0. -/
  mem : List Host.Cell := []
  /-- The commands that wait, first in, first out. -/
  pending : List Instr := []
  /-- What the part has sent (the model's own). -/
  outbox : List Sent := []
  /-- The counter of free values (the model's own). -/
  freeCtr : Nat := 0
  cpu : Cpu := {}
  task : TaskSt := {}
  eng : Eng := {}
  bpm : Bpm := {}
  keys : Keys := {}
  par : KMap ParCtx := []
  arr : Arr := {}
  evr : Evr := {}
  flt : Flt := {}
  phys : Phys := {}
  host : HostSt := {}
  mir : Mir := {}
  fence : Fence := {}
  rrn : Rrn := {}
  pwr : Pwr := {}
  sec : Sec := {}
  chip : Chip := {}
deriving DecidableEq, Repr

/-- The machine right after power-on reset: every field at the value its declaration gives; supervisor pair 0 stands at the start of the
boot ROM in S (R457, Table 4.4). DESIGN CHOICE, unsafe: log 5. DEDUCED, unsafe: log 7. DESIGN CHOICE, unsafe: log 8. -/
def State.reset : State := { cpu := { banks := [(512, { pc := 0x300000000000 }), (513, { pc := 0x300000000000 })] } }

end Sys2Proof.Machine
end

