-- ==== Sys2Proof/Machine/Ops.lean ====
section
/-! DEFINITION. The named operations over the register file, memory, the cores' banks and the outputs, and the level changes of
Table 4.3 (taking an exception and returning from one). -/

namespace Sys2Proof.Machine

open Sys2Proof

/-! ### Register fields (R9 to R12) -/

/-- The number of bits of a field. -/
def Field.width (f : Field) : Nat := f.msb + 1 - f.lsb

/-- The reset value of instance `i`; the last value of the list stands for every later instance. -/
def Field.reset (f : Field) (i : Nat) : Nat := f.rst.getD i (f.rst.getLastD 0)

/-- The key of instance `i` in the register file. -/
def Field.key (f : Field) (i : Nat) : Nat := (f.addr + 8 * i) * 64 + f.lsb

/-- The value of a field. -/
def rget (f : Field) (s : State) (i : Nat := 0) : Nat := kget (f.reset i) s.regs (f.key i)

/-- A one-bit field as a Bool. -/
def rbit (f : Field) (s : State) (i : Nat := 0) : Bool := rget f s i != 0

/-- The state with a field holding `v`, cut to the field's width. -/
def rset (f : Field) (v : Nat) (s : State) (i : Nat := 0) : State :=
  { s with regs := kset (f.reset i) s.regs (f.key i) (v % 2 ^ f.width) }

/-- A field counted up by `n`, holding its maximum (R96: counters that saturate hold their maximum value). -/
def rinc (f : Field) (n : Nat) (s : State) (i : Nat := 0) : State :=
  rset f (min (rget f s i + n) (2 ^ f.width - 1)) s i

/-- A one-bit field set or cleared. -/
def rflag (f : Field) (b : Bool) (s : State) (i : Nat := 0) : State := rset f (if b then 1 else 0) s i

/-- Bit `b` of a field. -/
def rtest (f : Field) (b : Nat) (s : State) (i : Nat := 0) : Bool := (rget f s i).testBit b

/-- Bit `b` of a field set to `v`. -/
def rputBit (f : Field) (b : Nat) (v : Bool) (s : State) (i : Nat := 0) : State :=
  let x := rget f s i
  rset f (if v then x ||| 2 ^ b else if x.testBit b then x - 2 ^ b else x) s i

/-- Several steps in turn over a list. -/
def forEach {α : Type} (l : List α) (f : α → State → State) (s : State) : State := l.foldl (fun s x => f x s) s

/-! ### Numbers and bytes -/

/-- Bits `hi` down to `lo` of a number. -/
def bits (x hi lo : Nat) : Nat := x / 2 ^ lo % 2 ^ (hi + 1 - lo)

/-- The low `n` bytes of `x`, least significant first (R8). -/
def leBytes : Nat → Nat → List Byte
  | 0, _ => []
  | n + 1, x => BitVec.ofNat 8 x :: leBytes n (x / 256)

/-- The number that bytes spell, least significant first (R8). -/
def ofLe : List Byte → Nat
  | [] => 0
  | b :: l => b.toNat + 256 * ofLe l

/-- The number that bytes spell, most significant first. -/
def ofBe (l : List Byte) : Nat := l.foldl (fun n b => n * 256 + b.toNat) 0

/-- The low `n` bytes of `x`, most significant first. -/
def beBytes (n x : Nat) : List Byte := (leBytes n x).reverse

/-- `l` cut or filled with 0 to `n` bytes. -/
def padTo (n : Nat) (l : List Byte) : List Byte := l.take n ++ List.replicate (n - l.length) 0

/-- One bit of CRC32C (polynomial 0x1EDC6F41, reflected). -/
def crcBit (c : Nat) : Nat := if c % 2 = 1 then (c / 2) ^^^ 0x82F63B78 else c / 2

/-- CRC32C of bytes. -/
def crc32c (l : List Byte) : Nat :=
  (l.foldl (fun c b => crcBit (crcBit (crcBit (crcBit (crcBit (crcBit (crcBit (crcBit (c ^^^ b.toNat)))))))))
    0xFFFFFFFF) ^^^ 0xFFFFFFFF

/-- The lowest number below `n` that `p` holds of. -/
def lowestFrom (p : Nat → Bool) : Nat → Nat → Option Nat
  | 0, _ => none
  | n + 1, i => if p i then some i else lowestFrom p n (i + 1)

/-- The lowest number below `n` that `p` holds of. -/
def lowest (n : Nat) (p : Nat → Bool) : Option Nat := lowestFrom p n 0

/-- How many numbers below `n` satisfy `p`. -/
def countBelow : Nat → (Nat → Bool) → Nat
  | 0, _ => 0
  | n + 1, p => countBelow n p + (if p n then 1 else 0)

/-! ### Outputs and free values -/

/-- The DSCP that NET_VLAN_CFG gives an output on Ethernet (R36, Table 2.15): host-binding and NVMe/TCP traffic, replication, and other Rearn
traffic; `none` for what leaves by another way. -/
def dscpOf (o : Output) (s : State) : Option Nat :=
  match o with
  | .hostCpl .. | .credit .. | .notice .. | .readData .. | .hostNak .. | .asyncEvent .. | .r2t .. => some (rget F.NET_VLAN_CFG_DSCP_HOST s)
  | .rep .. => some (rget F.NET_VLAN_CFG_DSCP_REPL s)
  | .rearn _ | .hello .. | .dedup .. | .dirMove .. | .askSlice _ | .passSlice .. | .key .. => some (rget F.NET_VLAN_CFG_DSCP_FABRIC s)
  | .epoch _ | .reply _ | .health _ | .copy _ | .idle | .test .. | .power _ | .drive .. | .indexPage .. | .mapPage .. | .pourEntry _ | .confirm .. | .pin .. | .avs .. => none

/-- An output as it leaves (R36): with TAG_EN each Ethernet frame carries one tag of VID and PCP. -/
def wireOf (o : Output) (s : State) : Sent :=
  let d := dscpOf o s
  { tag := if d.isSome && rbit F.NET_VLAN_CFG_TAG_EN s then some (rget F.NET_VLAN_CFG_VID s, rget F.NET_VLAN_CFG_PCP s) else none,
    dscp := d, out := o }

/-- The state with an output appended. DESIGN CHOICE, safe: log 1. DESIGN CHOICE, safe: log 28. -/
def emit (o : Output) (s : State) : State := { s with outbox := s.outbox ++ [wireOf o s] }

/-- The state with the counter of free values advanced. -/
def tickFree (s : State) : State := { s with freeCtr := s.freeCtr + 1 }

/-! ### The address map (Table 4.4) -/

/-- The rows of Table 4.4. -/
inductive Region where
  | coreLocal | pairSram | cluster | netbuf | dram | control | rom
deriving DecidableEq, Repr

/-- Whether a core is a supervisor pair. -/
def isPair (c : CoreId) : Bool := decide (64 ≤ c.val)

/-- The bytes of installed DRAM (Table 4.4, MEM_TRAIN_STATUS.CAPACITY_GIB). -/
def dramBytes (s : State) : Nat := if rbit F.MEM_TRAIN_STATUS_READY s then rget F.MEM_TRAIN_STATUS_CAPACITY_GIB s * 2 ^ 30 else 0

/-- The row of Table 4.4 that an address of core `c` lies in. -/
def regionOf (c : CoreId) (addr : Nat) (s : State) : Option Region :=
  if isPair c ∧ addr < 0x200000 then some .pairSram
  else if ¬ isPair c ∧ addr < 0x80000 then some .coreLocal
  else if 0x10000000 ≤ addr ∧ addr < 0x14000000 then some .cluster
  else if 0x20000000 ≤ addr ∧ addr < 0x24000000 then some .netbuf
  else if 0x100000000000 ≤ addr ∧ addr < 0x100000000000 + dramBytes s then some .dram
  else if 0x200000000000 ≤ addr ∧ addr < 0x200014000000 then some .control
  else if 0x300000000000 ≤ addr ∧ addr < 0x300000040000 then some .rom
  else none

/-- The key of a byte in `State.mem`: core-local and pair SRAM lie in a space of their core's own, above the 48-bit addresses. -/
def physKey (c : CoreId) (addr : Nat) : Nat :=
  if isPair c ∧ addr < 0x200000 then 2 ^ 48 * (65 + (c.val - 64)) + addr
  else if ¬ isPair c ∧ addr < 0x80000 then 2 ^ 48 * (c.val + 1) + addr
  else addr

/-- The byte at a key of `State.mem`. DESIGN CHOICE, unsafe: log 6. -/
def memByte (s : State) (k : Nat) : Byte := kget 0 s.mem k

/-- `n` bytes from key `k` up. DESIGN CHOICE, unsafe: log 6. -/
def memRead (s : State) : Nat → Nat → List Byte
  | _, 0 => []
  | k, n + 1 => memByte s k :: memRead s (k + 1) n

/-- Bytes written from key `k` up. -/
def memWriteCells (m : List Host.Cell) : Nat → List Byte → List Host.Cell
  | _, [] => m
  | k, b :: l => memWriteCells (kset 0 m k b) (k + 1) l

/-- The state with bytes written from key `k` up. DESIGN CHOICE, unsafe: log 6. -/
def memWrite (k : Nat) (l : List Byte) (s : State) : State := { s with mem := memWriteCells s.mem k l }

/-- The canonical form of memory: addresses strictly rising, no entry equal to what an unlisted byte reads as. DESIGN CHOICE, unsafe: log 6. -/
abbrev Memory.wf (m : List Host.Cell) : Bool := kcanon 0 m

/-! ### Cores and banks (R98 to R103) -/

/-- A core's state. -/
def coreOf (s : State) (c : CoreId) : Core := kget {} s.cpu.cores c.val

/-- The state with a core's state replaced. -/
def setCore (c : CoreId) (x : Core) (s : State) : State := { s with cpu := { s.cpu with cores := kput s.cpu.cores c.val x } }

/-- The context a core executes: its running slot, or 512 and 513 for the pairs (R124). Start code runs in slot 0's bank. -/
def ctxOf (s : State) (c : CoreId) : Nat :=
  if isPair c then 512 + (c.val - 64) else 8 * c.val + ((coreOf s c).cur.getD 0)

/-- A context's bank. -/
def bankOf (s : State) (x : Nat) : Bank := kget {} s.cpu.banks x

/-- The state with a context's bank replaced. -/
def setBank (x : Nat) (b : Bank) (s : State) : State := { s with cpu := { s.cpu with banks := kput s.cpu.banks x b } }

/-- The DPC island of a core: 2 to 9, SUP for a pair (SOURCE of Table 13.1). -/
def coreIsland (c : CoreId) : Nat := if isPair c then 1 else 2 + c.val / 8

/-- The island's clock runs: the part is not in P2 or beyond, the island is not power-gated or forced off, and its PLL has not lost lock (R421,
R429, R477; islands 1 to 16 have PLLs 0 to 15 in the order of Table 1.2). -/
def islandRuns (i : Nat) (s : State) : Bool :=
  decide (rget F.PWR_STATUS_STATE s < 2) && !rtest F.PWR_STATUS_PG i s && !s.pwr.off && !s.pwr.tripped && (kfind s.chip.plls (i - 1)).isNone

/-- SUP, PCI and MEM take no level (R422). -/
def fixedLevel (n : Nat) : Bool := n == 0 || n == 14 || n == 15

/-- Bias, assist and array supply of an island in the state it is in (Table 14.3), under PWR_BIAS_CFG as it stands. DESIGN CHOICE, unsafe: log 57. -/
def elecOf (i : Nat) (s : State) : IslandElec :=
  if rtest F.PWR_ISLAND_GATE_FORCE_OFF i s then { array := 0 }
  else if rtest F.PWR_STATUS_PG i s then
    { bias := if rbit F.PWR_BIAS_CFG_RBB_EN s then .reverse (min 400 (rget F.PWR_BIAS_CFG_RBB_MV s)) else .none
      assist := if rbit F.PWR_BIAS_CFG_BLF_EN s then .float else .none
      array := 6000 }
  else if rtest F.PWR_STATUS_CG i s || i == 0 || decide (16 < i) || fixedLevel (i - 1) || rget F.PWR_DVFS_CUR_LEVEL s (i - 1) != 0 then {}
  else
    { bias := if rbit F.PWR_BIAS_CFG_FBB_EN s then .forward (min 200 (rget F.PWR_BIAS_CFG_FBB_MV s)) else .none
      assist := if rbit F.PWR_BIAS_CFG_WLUD_EN s then .underdrive (min 80 (rget F.PWR_BIAS_CFG_WLUD_MV s)) else .none }

/-- Bias and assist of an island follow its state (R425). -/
def setElec (i : Nat) (s : State) : State := { s with pwr := { s.pwr with elec := kset {} s.pwr.elec i (elecOf i s) } }

/-- A gated island runs again (R427): its clock, and its power unless it is held off. -/
def ungateIsland (i : Nat) (s : State) : State :=
  setElec i (rputBit F.PWR_STATUS_CG i false (if rtest F.PWR_ISLAND_GATE_FORCE_OFF i s then s else rputBit F.PWR_STATUS_PG i false s))

/-- A clock-gated island's clock runs again (R108, R427). -/
def ungateClock (i : Nat) (s : State) : State := setElec i (rputBit F.PWR_STATUS_CG i false s)

/-- The core released by EN and not halted or retired (DPC_CORE_STATUS.RUNNING); a pair runs unless lockstep halted it (R131) or the boot
ended in recovery (R459), and pair 0 does not while its WAITP has not returned (R118). -/
def coreRunning (s : State) (c : CoreId) : Bool :=
  islandRuns (coreIsland c) s &&
  (if isPair c then !s.chip.recovery && !(coreOf s c).lockHalt && !(c.val == 64 && s.pwr.waitp.isSome)
   else rbit F.DPC_CORE_CTL_EN s c.val && !rbit F.DPC_CORE_CTL_HALT s c.val && !rtest F.DPC_CORE_RETIRED_CORES c.val s)

/-- The core has an instruction stream: a running slot, its start code, or a pair's own. -/
def hasStream (s : State) (c : CoreId) : Bool := isPair c || (coreOf s c).start || (coreOf s c).cur.isSome

/-- The core executes the instruction that a command gives it. -/
def executes (s : State) (c : CoreId) : Bool := coreRunning s c && hasStream s c

/-- A general register; g0 reads as 0 (R99). -/
def greg (b : Bank) (r : Rn) : Word := if r.val = 0 then 0 else b.g.getD (r.val - 1) 0

/-- A bank with a general register written; a write to g0 is discarded (R99). A write stores the register's parity anew. -/
def gput (r : Rn) (v : Word) (b : Bank) : Bank :=
  if r.val = 0 then b
  else { b with g := listSet b.g (r.val - 1) v,
                badParity := if b.badParity.testBit r.val then b.badParity - 2 ^ r.val else b.badParity }

/-- The general register of the running context of core `c`. -/
def rd (s : State) (c : CoreId) (r : Rn) : Word := greg (bankOf s (ctxOf s c)) r

/-- The running context's general register written. -/
def wr (c : CoreId) (r : Rn) (v : Word) (s : State) : State := setBank (ctxOf s c) (gput r v (bankOf s (ctxOf s c))) s

/-- The PC of the running context. -/
def pcOf (s : State) (c : CoreId) : Word := (bankOf s (ctxOf s c)).pc

/-- The PC of the running context set. -/
def setPc (c : CoreId) (v : Word) (s : State) : State := setBank (ctxOf s c) { bankOf s (ctxOf s c) with pc := v } s

/-- The privilege level of the running context: 0 S, 1 U, 2 H (Table 4.2). -/
def privOf (s : State) (c : CoreId) : Nat := (bankOf s (ctxOf s c)).priv

/-! ### Level changes (Table 4.3) -/

/-- An exception: cause and subcode of Table 4.5, EADDR, and DONE (R106). -/
structure Exc where
  cause : Nat
  sub : Nat := 0
  addr : Word := 0
  done : Bool := false
deriving DecidableEq, Repr

/-- ECAUSE and HCAUSE as Table 4.1 lays them out. -/
def causeWord (e : Exc) (fromH : Bool) : Word :=
  BitVec.ofNat 64 (e.cause % 256 + 256 * (e.sub % 256) + (if e.done then 0x10000 else 0) + (if fromH then 0x20000 else 0))

/-- U or S to S (Table 4.3, third row): EPC, ECAUSE, EADDR written; PPRIV ← PRIV; PIE ← IE; IE ← 0; PC ← `target`. -/
def enterS (c : CoreId) (e : Exc) (epc target : Word) (fromH : Bool) (s : State) : State :=
  let x := ctxOf s c
  let b := bankOf s x
  let k := coreOf s c
  let s := setCore c { k with epc := epc, ecause := causeWord e fromH, eaddr := e.addr } s
  let s := setBank x { b with pc := target, priv := 0, ppriv := b.priv, pie := b.ie, ie := false } s
  if isPair c then s else rset F.DPC_CORE_STATUS_LAST_CAUSE e.cause s c.val

/-- H to U on any exception but PARITY (Table 4.3): HFPC, HCAUSE, HADDR written; FROM_H = 1; PC ← HXVEC. The slot leaves Hook. -/
def leaveH (c : CoreId) (e : Exc) (fpc : Word) (s : State) : State :=
  let x := ctxOf s c
  let b := bankOf s x
  let k := coreOf s c
  let s := setCore c { k with hfpc := fpc, hcause := causeWord e true, haddr := e.addr } s
  let s := setBank x { b with pc := k.hxvec, priv := 1 } s
  if isPair c then s
  else { s with task := { s.task with slots := kmod {} s.task.slots x (fun t => { t with st := if t.st = .hook then .running else t.st }) } }

/-- Taking an exception (R103, R106): from H to U, except PARITY, which goes to S (R103); from U or S to S at EVEC.
EPC or HFPC is the address of the instruction. -/
def takeException (c : CoreId) (e : Exc) (s : State) : State :=
  let pc := pcOf s c
  if privOf s c = 2 ∧ e.cause ≠ 0x0B then
    let s := leaveH c e pc s
    if e.cause = 0x08 ∧ ¬ isPair c then rinc F.DPC_CORE_STATUS_BUDGET_HITS 1 s c.val else s
  else enterS c e pc (coreOf s c).evec (decide (privOf s c = 2)) s

/-- Taking IRQ line `l` between two instructions: EPC names the next instruction, PC ← EVEC + 0x100 (Table 4.3). -/
def takeIrq (c : CoreId) (l : Nat) (s : State) : State :=
  enterS c { cause := 0x0E, sub := l } (pcOf s c) ((coreOf s c).evec + 0x100) false s

/-- ERET: leave S for PPRIV; PC ← EPC; IE ← PIE (Table 4.3). -/
def returnS (c : CoreId) (s : State) : State :=
  let x := ctxOf s c
  let b := bankOf s x
  setBank x { b with pc := (coreOf s c).epc, priv := b.ppriv, ie := b.pie } s

/-! ### Latched interrupt lines (R110, Table 4.6) -/

/-- An IRQ line latched pending. DESIGN CHOICE, unsafe: log 32. -/
def raiseIrq (l : Nat) (s : State) : State := { s with cpu := { s.cpu with irq := s.cpu.irq ||| 2 ^ l } }

/-- A latched IRQ line serviced. DESIGN CHOICE, unsafe: log 32. -/
def clearIrq (l : Nat) (s : State) : State :=
  { s with cpu := { s.cpu with irq := if s.cpu.irq.testBit l then s.cpu.irq - 2 ^ l else s.cpu.irq } }

end Sys2Proof.Machine
end

