-- ==== Sys2Proof/Machine/EventCodes.lean ====
section
/-! DEFINITION. The event codes and severities of Table 13.3 (R414): I 0, N 1, F 2, C 3. -/

namespace Sys2Proof.Machine

namespace Ev

/-- BOOT (Table 13.3). -/
def BOOT : Nat := 0x0001
/-- OPTIME_MARK (Table 13.3). -/
def OPTIME_MARK : Nat := 0x0002
/-- EVT_LOST (Table 13.3). -/
def EVT_LOST : Nat := 0x0003
/-- EVR_WEAR_LIMIT (Table 13.3). -/
def EVR_WEAR_LIMIT : Nat := 0x0004
/-- EVR_FLASH_ERR (Table 13.3). -/
def EVR_FLASH_ERR : Nat := 0x0005
/-- BIRTH_LOCKED (Table 13.3). -/
def BIRTH_LOCKED : Nat := 0x0006
/-- MESH_STALL (Table 13.3). -/
def MESH_STALL : Nat := 0x1001
/-- ISLAND_ACCESS_OFF (Table 13.3). -/
def ISLAND_ACCESS_OFF : Nat := 0x1002
/-- LOCKSTEP_RETRY (Table 13.3). -/
def LOCKSTEP_RETRY : Nat := 0x1003
/-- LOCKSTEP_HALT (Table 13.3). -/
def LOCKSTEP_HALT : Nat := 0x1004
/-- THERMAL_THROTTLE (Table 13.3). -/
def THERMAL_THROTTLE : Nat := 0x1005
/-- THERMAL_TRIP (Table 13.3). -/
def THERMAL_TRIP : Nat := 0x1006
/-- PWR_STATE (Table 13.3). -/
def PWR_STATE : Nat := 0x2001
/-- PWR_WAKE (Table 13.3). -/
def PWR_WAKE : Nat := 0x2002
/-- PWR_REFUSED (Table 13.3). -/
def PWR_REFUSED : Nat := 0x2003
/-- POWER_FAIL (Table 13.3). -/
def POWER_FAIL : Nat := 0x2004
/-- VAULT_DESTAGE_DONE (Table 13.3). -/
def VAULT_DESTAGE_DONE : Nat := 0x2005
/-- VAULT_DESTAGE_FAIL (Table 13.3). -/
def VAULT_DESTAGE_FAIL : Nat := 0x2006
/-- VAULT_REPLAY (Table 13.3). -/
def VAULT_REPLAY : Nat := 0x2007
/-- TASK_WATCHDOG (Table 13.3). -/
def TASK_WATCHDOG : Nat := 0x3001
/-- HOOK_OVERRUN (Table 13.3). -/
def HOOK_OVERRUN : Nat := 0x3002
/-- HOOK_FAULT (Table 13.3). -/
def HOOK_FAULT : Nat := 0x3003
/-- HOOK_DISABLED (Table 13.3). -/
def HOOK_DISABLED : Nat := 0x3004
/-- CORE_RETIRED (Table 13.3). -/
def CORE_RETIRED : Nat := 0x3005
/-- BPM_CHECK_FAIL (Table 13.3). -/
def BPM_CHECK_FAIL : Nat := 0x4001
/-- BPM_CFG_REFUSED (Table 13.3). -/
def BPM_CFG_REFUSED : Nat := 0x4002
/-- HB_MSG_DISCARDED (Table 13.3). -/
def HB_MSG_DISCARDED : Nat := 0x5001
/-- NET_LINK_CHANGE (Table 13.3). -/
def NET_LINK_CHANGE : Nat := 0x5002
/-- GEN_STALE_SEEN (Table 13.3). -/
def GEN_STALE_SEEN : Nat := 0x6001
/-- WIN_VIOLATION (Table 13.3). -/
def WIN_VIOLATION : Nat := 0x6002
/-- CHIP_NUM_CONFLICT (Table 13.3). -/
def CHIP_NUM_CONFLICT : Nat := 0x6003
/-- RRN_WIN_CFG_REFUSED (Table 13.3). -/
def RRN_WIN_CFG_REFUSED : Nat := 0x6004
/-- FENCE_ASSERTED (Table 13.3). -/
def FENCE_ASSERTED : Nat := 0x7001
/-- FENCE_ARB_LOST (Table 13.3). -/
def FENCE_ARB_LOST : Nat := 0x7002
/-- TAKEOVER (Table 13.3). -/
def TAKEOVER : Nat := 0x7003
/-- PARTNER_LINK_LOST (Table 13.3). -/
def PARTNER_LINK_LOST : Nat := 0x7004
/-- PARTNER_HEALTH_LOST (Table 13.3). -/
def PARTNER_HEALTH_LOST : Nat := 0x7005
/-- PARTNER_VERSION_REFUSED (Table 13.3). -/
def PARTNER_VERSION_REFUSED : Nat := 0x7006
/-- FENCE_WIRE_FAULT (Table 13.3). -/
def FENCE_WIRE_FAULT : Nat := 0x7007
/-- REJOIN_REFUSED (Table 13.3). -/
def REJOIN_REFUSED : Nat := 0x7008
/-- EPOCH_SEQ_END (Table 13.3). -/
def EPOCH_SEQ_END : Nat := 0x7009
/-- PNL_LANE_DROPPED (Table 13.3). -/
def PNL_LANE_DROPPED : Nat := 0x700A
/-- HANDOVER (Table 13.3). -/
def HANDOVER : Nat := 0x700B
/-- FENCED (Table 13.3). -/
def FENCED : Nat := 0x700C
/-- KAT_FAIL (Table 13.3). -/
def KAT_FAIL : Nat := 0x8001
/-- LANE_RETIRED (Table 13.3). -/
def LANE_RETIRED : Nat := 0x8002
/-- CMP_VERIFY_FAIL (Table 13.3). -/
def CMP_VERIFY_FAIL : Nat := 0x8003
/-- FRAME_CHECK_FAIL (Table 13.3). -/
def FRAME_CHECK_FAIL : Nat := 0x8004
/-- CIP_MISMATCH (Table 13.3). -/
def CIP_MISMATCH : Nat := 0x8005
/-- ENGINE_EXHAUSTED (Table 13.3). -/
def ENGINE_EXHAUSTED : Nat := 0x8006
/-- DEDUP_SCOPE_REFUSED (Table 13.3). -/
def DEDUP_SCOPE_REFUSED : Nat := 0x9001
/-- STRAINER_SATURATED (Table 13.3). -/
def STRAINER_SATURATED : Nat := 0x9002
/-- MEMBER_REFUSED_DRAM (Table 13.3). -/
def MEMBER_REFUSED_DRAM : Nat := 0x9003
/-- IMPORT_RELEASE_DEFERRED (Table 13.3). -/
def IMPORT_RELEASE_DEFERRED : Nat := 0x9004
/-- IMPORT_LOST (Table 13.3). -/
def IMPORT_LOST : Nat := 0x9005
/-- KEY_ROTATED (Table 13.3). -/
def KEY_ROTATED : Nat := 0x9006
/-- KEY_SLOTS_FULL (Table 13.3). -/
def KEY_SLOTS_FULL : Nat := 0x9007
/-- PCI_LINK_LOST (Table 13.3). -/
def PCI_LINK_LOST : Nat := 0xA001
/-- PCI_LINK_PLANNED (Table 13.3). -/
def PCI_LINK_PLANNED : Nat := 0xA002
/-- PCI_RETRAIN (Table 13.3). -/
def PCI_RETRAIN : Nat := 0xA003
/-- SHELF_PG_TIMEOUT (Table 13.3). -/
def SHELF_PG_TIMEOUT : Nat := 0xA004
/-- SHELF_READY_TIMEOUT (Table 13.3). -/
def SHELF_READY_TIMEOUT : Nat := 0xA005
/-- SHELF_PG_STUCK (Table 13.3). -/
def SHELF_PG_STUCK : Nat := 0xA006
/-- SHELF_PG_LOST (Table 13.3). -/
def SHELF_PG_LOST : Nat := 0xA007
/-- SHELF_ALERT (Table 13.3). -/
def SHELF_ALERT : Nat := 0xA008
/-- ZONE_SPLIT_MOVED (Table 13.3). -/
def ZONE_SPLIT_MOVED : Nat := 0xA009
/-- MEMBER_REFUSED_SPEC (Table 13.3). -/
def MEMBER_REFUSED_SPEC : Nat := 0xA00A
/-- MEMBER_FAILING (Table 13.3). -/
def MEMBER_FAILING : Nat := 0xB001
/-- MEMBER_FAILED (Table 13.3). -/
def MEMBER_FAILED : Nat := 0xB002
/-- SPARE_TAKEN (Table 13.3). -/
def SPARE_TAKEN : Nat := 0xB003
/-- REBUILD_DONE (Table 13.3). -/
def REBUILD_DONE : Nat := 0xB004
/-- REBUILD_RESUMED (Table 13.3). -/
def REBUILD_RESUMED : Nat := 0xB005
/-- REBUILD_NO_SPARE (Table 13.3). -/
def REBUILD_NO_SPARE : Nat := 0xB006
/-- SCRUB_MISMATCH (Table 13.3). -/
def SCRUB_MISMATCH : Nat := 0xB007
/-- STRIPE_LOSS (Table 13.3). -/
def STRIPE_LOSS : Nat := 0xB008
/-- LOSS_RECOVERED (Table 13.3). -/
def LOSS_RECOVERED : Nat := 0xB009
/-- INDEX_PAGE_LOST (Table 13.3). -/
def INDEX_PAGE_LOST : Nat := 0xC001
/-- INDEX_TIER_DEGRADED (Table 13.3). -/
def INDEX_TIER_DEGRADED : Nat := 0xC002
/-- REPL_SKIPPED (Table 13.3). -/
def REPL_SKIPPED : Nat := 0xC003
/-- MEM_CE (Table 13.3). -/
def MEM_CE : Nat := 0xD001
/-- MEM_ROW_RETIRED (Table 13.3). -/
def MEM_ROW_RETIRED : Nat := 0xD002
/-- MEM_UE (Table 13.3). -/
def MEM_UE : Nat := 0xD003
/-- IMAGE_REFUSED (Table 13.3). -/
def IMAGE_REFUSED : Nat := 0xE001
/-- IMAGE_ACTIVATED (Table 13.3). -/
def IMAGE_ACTIVATED : Nat := 0xE002
/-- SVN_ADVANCED (Table 13.3). -/
def SVN_ADVANCED : Nat := 0xE003

end Ev

/-- The severity of a code of Table 13.3; `none` for a code it does not list (R414). -/
def eventSeverity : Nat → Option Nat
  | 0x0001 => some 0
  | 0x0002 => some 0
  | 0x0003 => some 1
  | 0x0004 => some 1
  | 0x0005 => some 2
  | 0x0006 => some 1
  | 0x1001 => some 2
  | 0x1002 => some 1
  | 0x1003 => some 2
  | 0x1004 => some 3
  | 0x1005 => some 1
  | 0x1006 => some 3
  | 0x2001 => some 0
  | 0x2002 => some 0
  | 0x2003 => some 1
  | 0x2004 => some 3
  | 0x2005 => some 1
  | 0x2006 => some 3
  | 0x2007 => some 1
  | 0x3001 => some 2
  | 0x3002 => some 1
  | 0x3003 => some 1
  | 0x3004 => some 1
  | 0x3005 => some 2
  | 0x4001 => some 2
  | 0x4002 => some 2
  | 0x5001 => some 1
  | 0x5002 => some 0
  | 0x6001 => some 1
  | 0x6002 => some 2
  | 0x6003 => some 2
  | 0x6004 => some 1
  | 0x7001 => some 2
  | 0x7002 => some 2
  | 0x7003 => some 2
  | 0x7004 => some 2
  | 0x7005 => some 2
  | 0x7006 => some 2
  | 0x7007 => some 3
  | 0x7008 => some 3
  | 0x7009 => some 3
  | 0x700A => some 2
  | 0x700B => some 1
  | 0x700C => some 2
  | 0x8001 => some 2
  | 0x8002 => some 2
  | 0x8003 => some 2
  | 0x8004 => some 2
  | 0x8005 => some 2
  | 0x8006 => some 3
  | 0x9001 => some 2
  | 0x9002 => some 1
  | 0x9003 => some 1
  | 0x9004 => some 1
  | 0x9005 => some 2
  | 0x9006 => some 1
  | 0x9007 => some 1
  | 0xA001 => some 2
  | 0xA002 => some 0
  | 0xA003 => some 1
  | 0xA004 => some 2
  | 0xA005 => some 2
  | 0xA006 => some 2
  | 0xA007 => some 2
  | 0xA008 => some 1
  | 0xA009 => some 0
  | 0xA00A => some 1
  | 0xB001 => some 2
  | 0xB002 => some 2
  | 0xB003 => some 1
  | 0xB004 => some 1
  | 0xB005 => some 1
  | 0xB006 => some 1
  | 0xB007 => some 2
  | 0xB008 => some 3
  | 0xB009 => some 1
  | 0xC001 => some 3
  | 0xC002 => some 3
  | 0xC003 => some 1
  | 0xD001 => some 0
  | 0xD002 => some 1
  | 0xD003 => some 3
  | 0xE001 => some 2
  | 0xE002 => some 1
  | 0xE003 => some 1
  | _ => none

end Sys2Proof.Machine
end

