-- ==== Sys2Proof/Machine/Recorder.lean ====
section
/-! DEFINITION. The event recorder and the fault counters (chapter "Event recorder and fault counters", R400 to R420). -/

namespace Sys2Proof.Machine

open Sys2Proof

/-! ### Intake and merging (R407 to R410) -/

/-- Two reports are identical when CODE, SOURCE, INSTANCE and severity are equal, and the CRC32C of their payloads (R408). -/
def evSame (a b : EvEntry) : Bool :=
  a.code == b.code && a.source == b.source && a.inst == b.inst && a.sev == b.sev &&
    crc32c (padTo 24 a.payload) == crc32c (padTo 24 b.payload)

/-- The entry at the head becomes the open record (R409): it takes its SEQ, and OPSEC and PCYCLE of that moment; a Critical record,
one with another entry behind it, one whose REPEAT is 0xFFFF, and any while PWR_FAILn is low close at once. Nothing opens before READY (R402). -/
def openHead (s : State) : State :=
  if !rbit F.EVR_STATUS_READY s then s else
  match s.evr.fifo with
  | [] => rflag F.EVR_STATUS_OPEN false s
  | e :: rest =>
    match e.seq with
    | some _ =>
      let e := { e with closed := e.closed || e.sev == 3 || !rest.isEmpty || e.rept == 0xFFFF || s.chip.pfLow }
      rflag F.EVR_STATUS_OPEN (!e.closed) { s with evr := { s.evr with fifo := e :: rest } }
    | none =>
      let e := { e with seq := some s.evr.next, opsec := rget F.CLK_OPTIME_OPSEC s,
                        pcycle := rget F.CLK_POWER_CYCLES_COUNT s,
                        closed := e.sev == 3 || !rest.isEmpty || e.rept == 0xFFFF || s.chip.pfLow }
      let s := rset F.EVR_HEAD_SEQ_SEQ s.evr.next s
      rflag F.EVR_STATUS_OPEN (!e.closed) { s with evr := { s.evr with fifo := e :: rest, next := s.evr.next + 1 } }

/-- The ring records committed in the last 24 h, by operating second (R406). -/
def ringCommits (s : State) : Nat :=
  let now := rget F.CLK_OPTIME_OPSEC s
  (s.evr.commits.filter (fun p => decide (now < p.1 + 86400))).foldl (fun n p => n + p.2) 0

/-- The budget of R406 is reached. -/
def wearLimited (s : State) : Bool := decide (14000000 ≤ ringCommits s)

/-- What became of a report: RESULT of EVR_INJECT (Table 13.6). -/
inductive Intake where
  | entered | merged | dropped
deriving DecidableEq, Repr

/-- FIFO_LEVEL and RESERVE_USED follow the FIFO (R418). -/
def syncFifo (s : State) : State :=
  rset F.EVR_STATUS_RESERVE_USED (s.evr.fifo.length - 224) (rset F.EVR_STATUS_FIFO_LEVEL s.evr.fifo.length s)

/-- A dropped report: PENDING and TOTAL of its severity gain 1; CRIT_LOST for a Critical one (R407). -/
def dropReport (e : EvEntry) (s : State) : State :=
  let first := countBelow 4 (fun n => rget F.EVR_LOST_PENDING s n != 0) == 0
  let s := if first then { s with evr := { s.evr with dropTick := e.tick } } else s
  let s := rinc F.EVR_LOST_TOTAL 1 (rinc F.EVR_LOST_PENDING 1 s e.sev) e.sev
  if e.sev = 3 then rflag F.EVR_STATUS_CRIT_LOST true s else s

/-- The newest FIFO entry with the report merged into it (R408). -/
def mergeLast (tick : Nat) : List EvEntry → List EvEntry
  | [] => []
  | [e] => [{ e with rept := e.rept + 1, lastTick := tick }]
  | e :: l => e :: mergeLast tick l

/-- An entry placed at the FIFO's end; SAT_CONT when it is identical to the entry that entered before it and that one's REPEAT
reached 0xFFFF (R408). -/
def enterFifo (e : EvEntry) (s : State) : State :=
  let sat := match s.evr.last with
    | some l => evSame l e && l.rept == 0xFFFF
    | none => false
  let e := { e with satCont := sat }
  syncFifo (openHead { s with evr := { s.evr with fifo := s.evr.fifo ++ [e], last := some e } })

/-- The intake of one report (R406 to R408): it is merged, entered or dropped. -/
def intake (e : EvEntry) (s : State) : Intake × State :=
  match s.evr.fifo.getLast? with
  | some n =>
    if evSame n e ∧ n.closed = false ∧ n.rept < 0xFFFF then
      let s := { s with evr := { s.evr with fifo := mergeLast e.tick s.evr.fifo,
                                            last := some { n with rept := n.rept + 1, lastTick := e.tick } } }
      (.merged, syncFifo (openHead s))
    else if s.evr.fifo.length < (if e.sev = 3 then 256 else 224) ∧ ¬ (e.sev < 2 ∧ wearLimited s) then (.entered, enterFifo e s)
    else (.dropped, dropReport e s)
  | none =>
    if e.sev < 2 ∧ wearLimited s then (.dropped, dropReport e s) else (.entered, enterFifo e s)

/-- The entry that a report makes; its tick is the one at intake (R18). -/
def entryOf (r : EvReport) (s : State) : EvEntry :=
  { code := r.code, source := r.source, inst := r.inst, sev := r.sev % 4, fw := r.fw, payload := padTo 24 r.payload,
    tick := rget F.CLK_TICK_TICK s, lastTick := rget F.CLK_TICK_TICK s }

/-- EVENT_REPORT (R408): a report reaches the intake FIFO. -/
def opEventReport (r : EvReport) (s : State) : State := (intake (entryOf r s) s).2

/-- The islands by their number (SOURCE of Table 13.1, Table 1.2 order). -/
def srcAON := 0
def srcSUP := 1
def srcBPM := 10
def srcING := 11
def srcCMP := 12
def srcCIP := 13
def srcPAR := 14
def srcPCI := 15
def srcMEM := 16
def srcNET := 17
def srcPNL := 18

/-- The island of a core: SUP for a pair, DPC0 to DPC7 as 2 to 9. -/
def coreSource (c : CoreId) : Nat := if isPair c then 1 else 2 + c.val / 8

/-- An event of Table 13.3 raised by the silicon or recorded by a rule. DEDUCED, unsafe: log 40. -/
def record (code source inst : Nat) (payload : List Byte) (s : State) : State :=
  opEventReport { code := code, source := source, inst := inst, sev := (eventSeverity code).getD 0, payload := payload } s

/-- An event the Array Runtime records: raised through EVR_INJECT, with FW = 1 (R411). -/
def recordFw (code source inst : Nat) (payload : List Byte) (s : State) : State :=
  opEventReport { code := code, source := source, inst := inst, sev := (eventSeverity code).getD 0, payload := payload, fw := true } s

/-- RECORD_CLOSE (R409): the open record closes after 1,000 ms with no merge. -/
def opRecordClose (s : State) : State :=
  match s.evr.fifo with
  | [] => s
  | e :: rest =>
    if e.seq.isSome then rflag F.EVR_STATUS_OPEN false { s with evr := { s.evr with fifo := { e with closed := true } :: rest } } else s

/-- The flash slot of a record (R403). -/
def flashSlot (seq : Nat) : Nat := if seq < 16384 then seq else 16384 + (seq - 16384) % 1032192

/-- The ring sector after `h`, wrapping from 1023 to 16 (R405). -/
def nextRingSector (h : Nat) : Nat := if h = 1023 then 16 else h + 1

/-- A record written to its flash slot, with what that does: the birth count, and on record 16,383 the lock of sectors 0–15 (R404);
in the ring the commit count, and on entering a sector the erase of the next one (R405). -/
def commitRecord (e : EvEntry) (s : State) : State :=
  match e.seq with
  | none => s
  | some q =>
    let s := { s with evr := { s.evr with flash := kput s.evr.flash (flashSlot q) e } }
    if q < 16384 then
      let s := rset F.EVR_BIRTH_COUNT_COUNT (q + 1) s
      if q = 16383 then
        let s := { s with evr := { s.evr with locked := true } }
        rflag F.EVR_BIRTH_COUNT_LOCKED true (rflag F.EVR_STATUS_BIRTH_LOCKED true s)
      else s
    else
      let now := rget F.CLK_OPTIME_OPSEC s
      let s := { s with evr := { s.evr with commits := kmod 0 s.evr.commits now (· + 1) } }
      let s := rflag F.EVR_STATUS_WEAR_LIMITED (wearLimited s) s
      if (q - 16384) % 1024 = 0 then
        rflag F.EVR_STATUS_ERASE_BUSY true
          { s with evr := { s.evr with erasing := some (nextRingSector (flashSlot q / 1024)) } }
      else s

/-- RECORD_PROGRAMMED (R409): the closed head record is committed and leaves, and the next entry opens at once. A commit into the
sector whose erase still runs waits (R405). -/
def opRecordProgrammed (s : State) : State :=
  match s.evr.fifo with
  | [] => s
  | e :: rest =>
    match e.seq with
    | none => s
    | some q =>
      if e.closed = false ∨ (16384 ≤ q ∧ s.evr.erasing = some (flashSlot q / 1024)) then s else
      let was := wearLimited s
      let s := commitRecord e s
      let s := syncFifo (openHead { s with evr := { s.evr with fifo := rest } })
      let s := if q = 16383 then record Ev.BIRTH_LOCKED srcAON 0 [] s else s
      let now := rget F.CLK_OPTIME_OPSEC s
      let due := match s.evr.wearAt with
        | none => true
        | some t => decide (t + 86400 ≤ now)
      if !was && wearLimited s && due then
        let ev := { entryOf { code := Ev.EVR_WEAR_LIMIT, sev := 1 } s with seq := none }
        enterFifo ev { s with evr := { s.evr with wearAt := some now } }
      else s

/-- Every FIFO entry committed, as the recorder has done within 250 ms of PWR_FAILn (R409). -/
def drainFifo (s : State) : State := forEach (List.range s.evr.fifo.length) (fun _ s => opRecordProgrammed s) s

/-- ERASE_DONE (R405): the sector ahead of the head is erased, and EVR_TAIL_SEQ moves past its records. DEDUCED, unsafe: log 40. -/
def opEraseDone (s : State) : State :=
  match s.evr.erasing with
  | none => s
  | some h =>
    let s := { s with evr := { s.evr with erasing := none,
                                          flash := s.evr.flash.filter (fun p => decide (p.1 / 1024 ≠ h)) } }
    let s := rflag F.EVR_STATUS_ERASE_BUSY false s
    let gone := (s.evr.next - 1 - 16384) / 1024 * 1024 + 16384 + 2048 - 1032192
    rset F.EVR_TAIL_SEQ_SEQ (max (rget F.EVR_TAIL_SEQ_SEQ s) gone) s

/-- OPTIME_MARK (R402): 60 s with no record committed. -/
def opOptimeMark (s : State) : State := if rbit F.EVR_STATUS_READY s then record Ev.OPTIME_MARK srcAON 0 [] s else s

/-- EVT_LOST (R410): with drops pending and fewer than 224 entries, an EVT_LOST entry carries the counts, which are then cleared. DEDUCED, unsafe: log 40. -/
def opEvtLost (s : State) : State :=
  let p := (List.range 4).map (fun n => rget F.EVR_LOST_PENDING s n)
  if p.all (· == 0) || decide (224 ≤ s.evr.fifo.length) then s else
  let pay := (p.map (leBytes 4)).flatten ++ leBytes 8 s.evr.dropTick
  let s := enterFifo (entryOf { code := Ev.EVT_LOST, sev := 1, payload := pay } s) s
  forEach (List.range 4) (fun n s => rset F.EVR_LOST_PENDING 0 s n) s

/-- FLAGS of Table 13.1. -/
def evFlags (e : EvEntry) (opened : Bool) : Nat :=
  e.sev + (if e.fw then 4 else 0) + (if e.satCont then 8 else 0) + (if opened then 16 else 0)

/-- The 64 bytes of a record (Table 13.1, R400); `opened` sets FLAGS.OPEN (R412). -/
def recordBytes (e : EvEntry) (opened : Bool) : List Byte :=
  let p := padTo 24 e.payload
  let body := leBytes 8 (e.seq.getD 0) ++ (leBytes 5 e.opsec ++ leBytes 3 e.pcycle) ++ (leBytes 6 e.tick ++ leBytes 2 e.rept)
    ++ (leBytes 6 e.lastTick ++ leBytes 2 e.code) ++ (p.take 4 ++ leBytes 1 e.source ++ leBytes 1 (evFlags e opened) ++ leBytes 2 e.inst)
    ++ p.drop 4
  body ++ leBytes 4 (crc32c body)

/-- The eight words of 64 bytes. -/
def wordsOf : Nat → List Byte → List Word
  | 0, _ => []
  | n + 1, l => BitVec.ofNat 64 (ofLe (l.take 8)) :: wordsOf n (l.drop 8)

/-- The record that a sequence number names, with its STATUS of Table 13.6. -/
def selectRecord (q : Nat) (s : State) : Nat × Option EvEntry :=
  if s.evr.next ≤ q then (3, none) else
  match s.evr.fifo.find? (fun e => e.seq == some q) with
  | some e => (if e.closed then 0 else 1, some e)
  | none =>
    if 16384 ≤ q ∧ (q < rget F.EVR_TAIL_SEQ_SEQ s ∨ s.evr.erasing = some (flashSlot q / 1024)) then (2, none)
    else match kfind s.evr.flash (flashSlot q) with
      | some e => if e.seq = some q then (0, some e) else (2, none)
      | none => (2, none)

/-- EVR_WIN_SEL (R412): a write copies the record into the snapshot buffer, sets WORD and STATUS. -/
def opEvrWinSel (v : Word) (s : State) : State :=
  let q := bits v.toNat 47 8
  let (st, e) := selectRecord q s
  let s := rset F.EVR_WIN_SEL_SEQ q (rset F.EVR_WIN_SEL_WORD v.toNat (rset F.EVR_WIN_SEL_STATUS st s))
  let snap := match e with
    | some e => wordsOf 8 (recordBytes e (st == 1))
    | none => List.replicate 8 0
  { s with evr := { s.evr with snap := snap } }

/-- A read of EVR_WIN_DATA (R412): snapshot word WORD, and WORD advances by 1 modulo 8. -/
def readWinData (s : State) : Word × State :=
  let w := rget F.EVR_WIN_SEL_WORD s
  (s.evr.snap.getD w 0, rset F.EVR_WIN_SEL_WORD (w + 1) s)

/-- The event block of EVR_INJECT, 32 bytes (R411), raised by core `c`; RESULT shows what became of it. A code that Table 13.3 does
not list, outside group 0xF, is refused with RESULT 3 (R414). DESIGN CHOICE, unsafe: log 34. -/
def injectBlock (c : CoreId) (b : List Byte) (s : State) : State :=
  let code := ofLe (b.take 2)
  let sev := if code / 0x1000 = 0xF then some ((ofLe ((b.drop 2).take 1)) % 4) else eventSeverity code
  match sev with
  | none => rset F.EVR_INJECT_RESULT 3 s
  | some sv =>
    let (r, s) := intake (entryOf { code := code, source := coreSource c, inst := ofLe ((b.drop 4).take 2), sev := sv,
                                    payload := (b.drop 8).take 24, fw := true } s) s
    rset F.EVR_INJECT_RESULT (match r with | .entered => 0 | .merged => 1 | .dropped => 2) s

/-- The newest BOOT record committed or waiting gives PCYCLE; the newest record gives OPSEC (R402). -/
def newestBy (p : EvEntry → Bool) (s : State) : Option EvEntry :=
  (s.evr.flash.map (·.2)).foldl (fun best e => if p e && decide ((best.map (fun b => b.seq.getD 0)).getD 0 ≤ e.seq.getD 0) then some e else best) none

/-- The CHIP_RESET_CAUSE word that a BOOT record carries (R402). DEDUCED, unsafe: log 40. -/
def resetCauseWord (s : State) : Nat :=
  F.allCHIP.foldl (fun n f => if f.addr = F.CHIP_RESET_CAUSE_WARM_COUNT.addr then n + rget f s * 2 ^ f.lsb else n) 0

/-- The BOOT record: the power-cycle count and CHIP_RESET_CAUSE (R402). -/
def recordBoot (s : State) : State :=
  record Ev.BOOT srcAON 0 (leBytes 4 (rget F.CLK_POWER_CYCLES_COUNT s) ++ leBytes 4 0 ++ leBytes 8 (resetCauseWord s)) s

/-- EVR_READY (R402): the head is found, CLK_OPTIME and CLK_POWER_CYCLES are loaded, BOOT is written and READY set. -/
def opEvrReady (s : State) : State :=
  if rbit F.EVR_STATUS_READY s then s else
  let newest := newestBy (fun _ => true) s
  let boot := newestBy (fun e => e.code == Ev.BOOT) s
  let s := rset F.CLK_OPTIME_OPSEC ((newest.map (·.opsec)).getD 0) s
  let s := rset F.CLK_POWER_CYCLES_COUNT (min ((boot.map (fun e => ofLe (e.payload.take 4) + 1)).getD 1) 0xFFFFFF) s
  let next := (newest.map (fun e => e.seq.getD 0 + 1)).getD 0
  let s := { s with evr := { s.evr with next := next } }
  let s := rset F.EVR_HEAD_SEQ_SEQ (next - 1) s
  let s := rset F.EVR_TAIL_SEQ_SEQ (if next ≤ 16384 then 16384 else max 16384 ((next - 1 - 16384) / 1024 * 1024 + 16384 + 2048 - 1032192)) s
  let s := rset F.EVR_BIRTH_COUNT_COUNT (min next 16384) s
  let s := rflag F.EVR_BIRTH_COUNT_LOCKED s.evr.locked (rflag F.EVR_STATUS_BIRTH_LOCKED s.evr.locked s)
  let s := recordBoot s
  openHead (rflag F.EVR_STATUS_READY true s)

/-! ### Fault counters (R415 to R420) -/

/-- An instance's eight slots, current first. -/
def fltSlots (k inst : Nat) (s : State) : List Nat := kget (List.replicate 8 0) s.flt.slots (k * 65536 + inst)

/-- An instance's count: the sum of its slots (R415). -/
def fltCount (k inst : Nat) (s : State) : Nat := (fltSlots k inst s).foldl (· + ·) 0

/-- One error of an instance (R415): the current slot gains 1; at THRESHOLD (0 acts as 1, R420) TRIPPED and ACTIONS are set and the
slots cleared. Answers whether the threshold was reached. Kind 1 is the Array Runtime's and has no PEAK in silicon (R416). DESIGN CHOICE, unsafe: log 41. -/
def fltError (k inst : Nat) (s : State) : Bool × State :=
  let l := fltSlots k inst s
  let l := match l with | [] => [1] | x :: r => (x + 1) :: r
  let n := l.foldl (· + ·) 0
  let s := if k = 1 then s else rset F.FLT_CTR_VAL_PEAK (max (rget F.FLT_CTR_VAL_PEAK s k) (min n 0xFFFF)) s k
  if max 1 (rget F.FLT_CTR_CFG_THRESHOLD s k) ≤ n then
    let s := { s with flt := { s.flt with slots := kput s.flt.slots (k * 65536 + inst) (List.replicate 8 0) } }
    (true, rinc F.FLT_CTR_STATE_ACTIONS 1 (rputBit F.FLT_CTR_STATE_TRIPPED k true s))
  else (false, { s with flt := { s.flt with slots := kput s.flt.slots (k * 65536 + inst) l } })

/-- Whether counter `k` takes its action (R415). -/
def fltActs (k : Nat) (s : State) : Bool := rbit F.FLT_CTR_CFG_ACT_EN s k

/-- FLT_SLOT_ADVANCE (R415): every instance of counter `k` moves to its next slot, and the oldest ages out. -/
def opFltSlotAdvance (k : Fin 7) (s : State) : State :=
  { s with flt := { s.flt with slots := s.flt.slots.map (fun p =>
      if p.1 / 65536 = k.val then (p.1, 0 :: p.2.take 7) else p) } }

/-- WINDOW_MS as it acts (R420). DESIGN CHOICE, unsafe: log 41. -/
def fltWindow (k : Nat) (s : State) : Nat := min 604800000 (max 100 (rget F.FLT_CTR_CFG_WINDOW_MS s k))

/-- FLT_CTR_CFG_WRITE (R417): the settings are stored, and a changed WINDOW_MS clears the counter's slots. -/
def opFltCtrCfgWrite (k : Fin 7) (v : Word) (s : State) : State :=
  let old := rget F.FLT_CTR_CFG_WINDOW_MS s k.val
  let s := rset F.FLT_CTR_CFG_WINDOW_MS (bits v.toNat 31 0) s k.val
  let s := rset F.FLT_CTR_CFG_THRESHOLD (bits v.toNat 47 32) s k.val
  let s := rset F.FLT_CTR_CFG_ACT_EN (bits v.toNat 63 63) s k.val
  if old = bits v.toNat 31 0 then s
  else { s with flt := { s.flt with slots := s.flt.slots.filter (fun p => decide (p.1 / 65536 ≠ k.val)) } }

/-! ### Hooks (R93, R94) -/

/-- A hook overran, faulted or gave a result out of range (R93, R94): the Array Runtime records HOOK_FAULT or HOOK_OVERRUN, and after 1,024 of them
within 60 s clears the hook's HOOK_EN bit and records HOOK_DISABLED. -/
def hookErr (src hook : Nat) (overrun : Bool) (s : State) : State :=
let now := rget F.CLK_OPTIME_OPSEC s
  let s := recordFw (if overrun then Ev.HOOK_OVERRUN else Ev.HOOK_FAULT) src hook [] s
  let l := (s.task.hookErrs ++ [(hook, now)]).filter (fun p => p.1 != hook || decide (now < p.2 + 60))
  let s := { s with task := { s.task with hookErrs := l } }
  if 1024 ≤ (l.filter (fun p => p.1 == hook)).length ∧ rtest F.DPC_HOOK_BUDGET_HOOK_EN hook s then
    let s := { s with task := { s.task with hookErrs := l.filter (fun p => p.1 != hook) } }
    recordFw Ev.HOOK_DISABLED src hook [] (rputBit F.DPC_HOOK_BUDGET_HOOK_EN hook false s)
  else s

/-- A hook of the loaded policy program is called: supplied by it, with its HOOK_EN bit set (R92). -/
def hookOn (n : Nat) (s : State) : Bool := s.task.policyHooks.testBit n && rtest F.DPC_HOOK_BUDGET_HOOK_EN n s

end Sys2Proof.Machine
end

