-- ==== Sys2Proof/Machine/Dram.lean ====
section
/-! DEFINITION. DRAM errors: uncorrectable and corrected reads, row tracking and retirement (R415 counter 0, R417, R483, R484, R495). -/

namespace Sys2Proof.Machine

open Sys2Proof

/-- Payload fields in the order a rule names them, each in the smallest of 1, 2, 4 or 8 bytes that holds its kind, aligned to its
size (R401). A field is its size and its value. -/
def pack (l : List (Nat × Nat)) : List Byte :=
  l.foldl (fun acc p => padTo ((acc.length + p.1 - 1) / p.1 * p.1) acc ++ leBytes p.1 p.2) []

/-- The key of an address is one of DRAM's. -/
def isDramKey (k : Nat) : Bool := decide (0x100000000000 ≤ k) && decide (k < 0x200000000000)

/-- An uncorrectable DRAM read (R484): MEM_UE recorded and the first address latched. DESIGN CHOICE, safe: log 12. -/
def memUe (addr : Nat) (ch : Nat) (s : State) : State :=
  let s := record Ev.MEM_UE srcMEM 0 (pack [(8, addr)]) s
  if rbit F.MEM_UE_STATUS_VALID s then s
  else rset F.MEM_UE_STATUS_ADDR addr (rset F.MEM_UE_STATUS_CH ch (rflag F.MEM_UE_STATUS_VALID true s))

/-- The entry of counter 0 that tracks a row, taking a free one, or the one whose last error is oldest with EVICTIONS + 1 (R417). DESIGN CHOICE, unsafe: log 41. -/
def rowEntry (ch row : Nat) (s : State) : Nat × State :=
  let now := rget F.CLK_TICK_TICK s
  let key := fun e => ch * 256 + e
  let put := fun e (s : State) => { s with flt := { s.flt with rows := kput s.flt.rows (key e) { row := row, lastErr := now } } }
  match lowest 256 (fun e => (kfind s.flt.rows (key e)).map (·.row) == some row) with
  | some e => (e, put e s)
  | none =>
    match lowest 256 (fun e => (kfind s.flt.rows (key e)).isNone) with
    | some e => (e, put e s)
    | none =>
      let t := fun e => (kget {} s.flt.rows (key e)).lastErr
      let e := (List.range 256).foldl (fun b e => if t e < t b then e else b) 0
      let s := { s with flt := { s.flt with slots := kdel s.flt.slots (key e) } }
      (e, put e (rinc F.FLT_CTR_STATE_EVICTIONS 1 s))

/-- MEM_ROW_RETIRED (R417): the row takes a spare row of its channel; with none left it stays, and the record carries NO_SPARE. -/
def retireRow (ch row : Nat) (s : State) : State :=
  let used := kget [] s.flt.retired ch
  if used.length < 256 then
    let s := if fltActs 0 s then
        let s := { s with flt := { s.flt with
          retired := kput s.flt.retired ch (row :: used)
          retiredAt := kput s.flt.retiredAt ch (rget F.CLK_OPTIME_OPSEC s) } }
        let s := rinc F.MEM_RETIRE_CNT_ROWS 1 s
        if used.length = 255 then rputBit F.MEM_RETIRE_CNT_NO_SPARE ch true s else s
      else s
    record Ev.MEM_ROW_RETIRED srcMEM ch (pack [(1, 0)]) s
  else record Ev.MEM_ROW_RETIRED srcMEM ch (pack [(1, 1)]) s

/-- A corrected DRAM error (R415 counter 0): counted, recorded, and at the threshold its row is retired. Errors against a retired row
are not counted. -/
def memCe (ch row : Nat) (patrol : Bool) (s : State) : State :=
  let s := rinc F.MEM_CE_CNT_TOTAL 1 s
  let s := if patrol then rinc F.MEM_CE_CNT_PATROL 1 s else s
  let s := record Ev.MEM_CE srcMEM ch (pack [(4, row)]) s
  if (kget [] s.flt.retired ch).contains row then s else
  let (e, s) := rowEntry ch row s
  let (hit, s) := fltError 0 (ch * 256 + e) s
  if hit then retireRow ch row s else s

/-- The lines of 64 bytes from line `l` up, `n` of them, read: answers whether one met an uncorrectable error (R484). DESIGN CHOICE, safe: log 12. -/
def touchLines : Nat → Nat → State → Bool × State
  | _, 0, s => (false, s)
  | l, n + 1, s =>
    let (bad, s) := match kfind s.phys.lineErr l with
      | some true => (true, memUe (64 * l) (Config.dramChannel (64 * l) % 8) s)
      | some false => (false, memCe (Config.dramChannel (64 * l) % 8) (Config.dramRow (64 * l)) false s)
      | none => (false, s)
    let (b, s) := touchLines (l + 1) n s
    (bad || b, s)

/-- A read of `n` bytes at key `k`: `none` when DRAM gives an uncorrectable error (R484). DESIGN CHOICE, safe: log 14. DESIGN CHOICE, safe: log 42. -/
def readMem (k n : Nat) (s : State) : Option (List Byte) × State :=
  if isDramKey k ∧ n ≠ 0 ∧ s.phys.lineErr ≠ [] then
    let (bad, s) := touchLines (k / 64) ((k + n - 1) / 64 - k / 64 + 1) s
    (if bad then none else some (memRead s k n), s)
  else (some (memRead s k n), s)

end Sys2Proof.Machine
end

