-- ==== Sys2Proof/Machine/Bpm.lean ====
section
/-! DEFINITION. The buffer pool manager (chapter "Buffer pool manager", R134 to R158): sets, caddies, handles, allocation, checks. -/

namespace Sys2Proof.Machine

open Sys2Proof

/-- The buffer size of a caddy (Table 5.1). -/
def caddySize (c : Nat) : Nat := [256, 4096, 65536, 262144, 2097152].getD c 0

/-- The index of caddy `c` of set `d` (0 S, 1 D) in the BPM register families: 8 × s + c (Table 19.2). -/
def cadIx (d c : Nat) : Nat := 8 * d + c

/-- A caddy's COUNT. -/
def cadCount (d c : Nat) (s : State) : Nat := rget F.BPM_CLASS_CFG_COUNT s (cadIx d c)

/-- The buffers of a set. -/
def setCount (d : Nat) (s : State) : Nat := (List.range 5).foldl (fun n c => n + cadCount d c s) 0

/-- A set's base and limit; bits [20:0] read as 0 (R155). -/
def setBase (d : Nat) (s : State) : Nat := rget (if d = 0 then F.BPM_SET_BASE_S_BASE else F.BPM_SET_BASE_D_BASE) s
/-- First byte above a set. -/
def setLimit (d : Nat) (s : State) : Nat := rget (if d = 0 then F.BPM_SET_LIMIT_S_LIMIT else F.BPM_SET_LIMIT_D_LIMIT) s

/-- The bytes of the count table at the head of a set: 8 per buffer rounded up to 2 MiB in set D, none in set S (R135). -/
def tableBytes (d : Nat) (s : State) : Nat :=
  if d = 0 then 0 else (8 * setCount d s + 0x1FFFFF) / 0x200000 * 0x200000

/-- ClassBase(s, c) (R135): the caddies follow the count table in the order C4 to C0. -/
def classBase (d c : Nat) (s : State) : Nat :=
  setBase d s + tableBytes d s + (List.range 5).foldl (fun n x => if c < x then n + cadCount d x s * caddySize x else n) 0

/-- First byte after the caddies. -/
def classEnd (d : Nat) (s : State) : Nat := classBase d 0 s + cadCount d 0 s * caddySize 0

/-- The enable bit of a set. -/
def setOn (d : Nat) (s : State) : Bool := if d = 0 then rbit F.BPM_CTL_S_EN s else rbit F.BPM_CTL_D_EN s

/-! ### Handles (R139, R140) -/

/-- The set, caddy and index a handle names (R139). -/
def hSet (h : Nat) : Nat := bits h 31 31
/-- The caddy of a handle. -/
def hCad (h : Nat) : Nat := bits h 30 28
/-- The index of a handle. -/
def hIdx (h : Nat) : Nat := bits h 27 0

/-- The handle of buffer `i` of caddy `c` of set `d`. -/
def mkHandle (d c i : Nat) : Nat := d * 2 ^ 31 + c * 2 ^ 28 + i

/-- The first byte of a handle's buffer. -/
def bufAddr (h : Nat) (s : State) : Nat := classBase (hSet h) (hCad h) s + hIdx h * caddySize (hCad h)

/-- The key of a handle's buffer in `Bpm.bufs`. -/
def bufKey (h : Nat) : Nat := cadIx (hSet h) (hCad h) * 2 ^ 28 + hIdx h

/-- A handle's buffer. -/
def bufOf (h : Nat) (s : State) : Buf := kget {} s.bpm.bufs (bufKey h)

/-- A handle's buffer replaced. -/
def setBuf (h : Nat) (b : Buf) (s : State) : State := { s with bpm := { s.bpm with bufs := kput s.bpm.bufs (bufKey h) b } }

/-- A buffer's fill length set (R144). -/
def setFill (h n : Nat) (s : State) : State := setBuf h { bufOf h s with fill := n % 2 ^ 22 } s

/-! ### Allocation (R141 to R143) -/

/-- The requesters of R141. -/
inductive Req where
  | host | fab | eng | core
deriving DecidableEq, Repr

/-- The floor a requester is held by (R141). -/
def floorOf (r : Req) (d c : Nat) (s : State) : Nat :=
  match r with
  | .host => rget F.BPM_CLASS_CFG_FLOOR_HOST s (cadIx d c)
  | .fab => rget F.BPM_CLASS_CFG_FLOOR_FAB s (cadIx d c)
  | .eng => rget F.BPM_CLASS_CFG_FLOOR_ENG s (cadIx d c)
  | .core => 0

/-- FREE of a caddy. -/
def cadFree (d c : Nat) (s : State) : Nat := rget F.BPM_CLASS_FREE_FREE s (cadIx d c)

/-- FREE of a caddy set; LOW_WATER follows it down (Table 5.5). -/
def setFree (d c n : Nat) (s : State) : State :=
  let s := rset F.BPM_CLASS_FREE_FREE n s (cadIx d c)
  if n < rget F.BPM_CLASS_FREE_LOW_WATER s (cadIx d c) then rset F.BPM_CLASS_FREE_LOW_WATER n s (cadIx d c) else s

/-- The next buffer of a caddy's free list (R142): the one freed last, else the lowest one never handed out. -/
def popFree (d c : Nat) (s : State) : Nat × State :=
  let k := cadIx d c
  match kget [] s.bpm.freed k with
  | i :: rest => (i, { s with bpm := { s.bpm with freed := kput s.bpm.freed k rest } })
  | [] => (kget 0 s.bpm.fresh k, { s with bpm := { s.bpm with fresh := kmod 0 s.bpm.fresh k (· + 1) } })

/-- A buffer taken from caddy `c` upward, `n` caddies to try: the handle, or `none` for EMPTY (R141, R143). -/
def takeFrom (r : Req) (d : Nat) : Nat → Nat → State → Option Nat × State
  | 0, _, s => (none, s)
  | n + 1, c, s =>
    if floorOf r d c s < cadFree d c s then
      let (i, s) := popFree d c s
      let s := setFree d c (cadFree d c s - 1) s
      let h := mkHandle d c i
      (some h, setBuf h { cnt := 1, fill := 0 } s)
    else
      let s := if cadFree d c s ≠ 0 then rinc F.BPM_FALLBACK_CNT_FLOOR_DENIED 1 s (cadIx d c) else s
      takeFrom r d n (c + 1) (rinc F.BPM_FALLBACK_CNT_FALLBACK 1 s (cadIx d c))

/-- An allocation (R141). A set whose enable bit is 0, and set D while it is rebuilt (R138), give EMPTY at once. -/
def bpmAlloc (r : Req) (d c : Nat) (s : State) : Option Nat × State :=
  if !setOn d s || (d == 1 && rbit F.BPM_CTL_D_REBUILDING s) then (none, s) else takeFrom r d (5 - c) c s

/-- The smallest caddy that holds `n` bytes; 5 when none does. -/
def caddyFor (n : Nat) : Nat := (lowest 5 (fun c => decide (n ≤ caddySize c))).getD 5

/-- One reference less; at 0 the buffer goes to the front of its own caddy's free list in the same step (R142, R144). -/
def dropRef (h : Nat) (s : State) : State :=
  let b := bufOf h s
  let s := setBuf h { b with cnt := b.cnt - 1 } s
  if b.cnt = 1 then
    let k := cadIx (hSet h) (hCad h)
    let s := { s with bpm := { s.bpm with freed := kmod [] s.bpm.freed k (hIdx h :: ·) } }
    setFree (hSet h) (hCad h) (cadFree (hSet h) (hCad h) s + 1) s
  else s

/-! ### Checks (Table 5.2) -/

/-- The operations the checks apply to. -/
inductive HUse where
  | bref | bdrop | engine
deriving DecidableEq, Repr

/-- Checks 1 to 3: form, range and alignment. Answers the handle, or the error code of R111 (2 BAD_HANDLE, 3 MISALIGNED,
4 OUT_OF_RANGE). -/
def resolve (g : Nat) (s : State) : Except Nat Nat :=
  if 2 ^ 63 ≤ g then
    if bits g 62 48 ≠ 0 then .error 2 else
    let a := bits g 47 0
    match (List.range 2).find? (fun d => setOn d s && decide (classBase d 4 s ≤ a) && decide (a < classEnd d s)) with
    | none => .error 4
    | some d =>
      match (List.range 5).find? (fun c => decide (classBase d c s ≤ a) && decide (a < classBase d c s + cadCount d c s * caddySize c)) with
      | none => .error 4
      | some c => if (a - classBase d c s) % caddySize c = 0 then .ok (mkHandle d c ((a - classBase d c s) / caddySize c)) else .error 3
  else if bits g 62 32 ≠ 0 ∨ 5 ≤ hCad g then .error 2
  else if !setOn (hSet g) s || decide (cadCount (hSet g) (hCad g) s ≤ hIdx g) then .error 4
  else .ok g

/-- All checks on a handle or address, first failure only (R145). `ext` is, for engine use, the byte offset plus the bytes read or written. -/
def checkHandle (u : HUse) (g ext : Nat) (s : State) : Except Nat Nat :=
  match resolve g s with
  | .error e => .error e
  | .ok h =>
    let n := (bufOf h s).cnt
    if n = 0 then .error (if u = .bdrop then 5 else 2)
    else if u = .bref ∧ n = 0xFFFF then .error 6
    else if u = .engine ∧ caddySize (hCad h) < ext then .error 4
    else .ok h

/-- A check failure reported (R149): the error's bit, ERR_COUNT, the first failure captured, and BPM_CHECK_FAIL recorded. `src` is
FIRST_SRC's encoding; `g` the handle, address or request word, `form` that it is an address. -/
def bpmFailAs (form : Bool) (src code g : Nat) (s : State) : State :=
  let any := rbit F.BPM_ERR_STATUS_BAD_HANDLE s || rbit F.BPM_ERR_STATUS_MISALIGNED s || rbit F.BPM_ERR_STATUS_OUT_OF_RANGE s ||
    rbit F.BPM_ERR_STATUS_REF_UNDERFLOW s || rbit F.BPM_ERR_STATUS_REF_SATURATED s
  let s := if any then s else
    rset F.BPM_ERR_ADDR_VALUE (if form then bits g 47 0 else bits g 31 0) (rflag F.BPM_ERR_ADDR_FORM form
      (rset F.BPM_ERR_STATUS_FIRST_CODE code (rset F.BPM_ERR_STATUS_FIRST_SRC src s)))
  let s := match code with
    | 2 => rflag F.BPM_ERR_STATUS_BAD_HANDLE true s
    | 3 => rflag F.BPM_ERR_STATUS_MISALIGNED true s
    | 4 => rflag F.BPM_ERR_STATUS_OUT_OF_RANGE true s
    | 5 => rflag F.BPM_ERR_STATUS_REF_UNDERFLOW true s
    | 6 => rflag F.BPM_ERR_STATUS_REF_SATURATED true s
    | _ => s
  let s := rinc F.BPM_ERR_STATUS_ERR_COUNT 1 s
  record Ev.BPM_CHECK_FAIL srcBPM 0 (pack [(1, src), (1, code), (if 2 ^ 32 ≤ g then 8 else 4, g)]) s

/-- A check failure of a handle or address (R149): a word with bit 63 set is an address (R140). -/
def bpmFail (src code g : Nat) (s : State) : State := bpmFailAs (decide (2 ^ 63 ≤ g)) src code g s

/-- Any error bit of BPM_ERR_STATUS: IRQ line 4 (R149). -/
def bpmErrAny (s : State) : Bool :=
  rbit F.BPM_ERR_STATUS_CFG_ERR s || rbit F.BPM_ERR_STATUS_BAD_HANDLE s || rbit F.BPM_ERR_STATUS_MISALIGNED s ||
  rbit F.BPM_ERR_STATUS_OUT_OF_RANGE s || rbit F.BPM_ERR_STATUS_REF_UNDERFLOW s || rbit F.BPM_ERR_STATUS_REF_SATURATED s

/-! ### Enabling the sets (R136, R138) -/

/-- The configuration checks of R136. -/
def cfgOk (d : Nat) (s : State) : Bool :=
  decide (setBase d s % 0x200000 = 0) && decide (classEnd d s ≤ setLimit d s) &&
  (if d = 0 then decide (0x20000000 ≤ setBase d s) && decide (setLimit d s ≤ 0x24000000) && decide (setCount d s ≤ 65536)
   else decide (0x100000000000 ≤ setBase d s) && decide (setLimit d s ≤ 0x100000000000 + dramBytes s)) &&
  (List.range 5).all (fun c =>
    decide (rget F.BPM_CLASS_CFG_FLOOR_FAB s (cadIx d c) ≤ rget F.BPM_CLASS_CFG_FLOOR_HOST s (cadIx d c)) &&
    decide (rget F.BPM_CLASS_CFG_FLOOR_ENG s (cadIx d c) ≤ rget F.BPM_CLASS_CFG_FLOOR_FAB s (cadIx d c)))

/-- CFG_ERR set, with BPM_CFG_REFUSED (R136, R138). -/
def cfgRefused (payload : List Byte) (s : State) : State :=
  record Ev.BPM_CFG_REFUSED srcBPM 0 payload (rflag F.BPM_ERR_STATUS_CFG_ERR true s)

/-- A set's tables without any buffer. -/
def clearSet (d : Nat) (s : State) : State :=
  let keep := fun (k : Nat) => decide (k / 8 ≠ d)
  { s with bpm := { bufs := s.bpm.bufs.filter (fun p => keep (p.1 / 2 ^ 28)),
                    freed := s.bpm.freed.filter (fun p => keep p.1),
                    fresh := s.bpm.fresh.filter (fun p => keep p.1) } }

/-- A set emptied: every buffer free, handed out in ascending order; FREE and LOW_WATER load COUNT (R142, Table 5.5). -/
def emptySet (d : Nat) (s : State) : State :=
  forEach (List.range 5) (fun c s =>
    let n := cadCount d c s
    rset F.BPM_CLASS_FREE_LOW_WATER n (rset F.BPM_CLASS_FREE_FREE n s (cadIx d c)) (cadIx d c)) (clearSet d s)

/-- S_EN (R136, R142): with a good configuration set S is enabled with every buffer free; otherwise CFG_ERR and BPM_CFG_REFUSED.
A write when the bit is already 1 has no effect. -/
def enableS (s : State) : State :=
  if rbit F.BPM_CTL_S_EN s then s
  else if cfgOk 0 s then rflag F.BPM_CTL_S_EN true (emptySet 0 s)
  else cfgRefused [] s

/-! ### The count table of set D (R135, R138) -/

/-- The place of a set D buffer's entry in the count table: the caddies in the order of the set, C4 first, each in index order. DESIGN CHOICE, unsafe:
log 85. DESIGN CHOICE, unsafe: log 85. -/
def tableIx (c i : Nat) (s : State) : Nat :=
  (List.range 5).foldl (fun n x => if c < x then n + cadCount 1 x s else n) 0 + i

/-- The buffer whose entry stands at a place of the table: its caddy and index. -/
def tableBuf (e : Nat) (s : State) : Option (Nat × Nat) :=
  [4, 3, 2, 1, 0].findSome? (fun c =>
    let a := tableIx c 0 s
    if a ≤ e ∧ e < a + cadCount 1 c s then some (c, e - a) else none)

/-- The 8 bytes of an entry: the count in [15:0], the fill length in [37:16] (R138). -/
def tableEntry (b : Buf) : List Byte := leBytes 8 (b.cnt % 2 ^ 16 + b.fill % 2 ^ 22 * 2 ^ 16)

/-- The count table as it stands in DRAM when a reset keeps DRAM: an entry for each buffer that is allocated, 0 for every other. -/
def layTable (s : State) : State :=
  if !setOn 1 s then s else
  let base := setBase 1 s
  let s := { s with mem := s.mem.filter (fun p => !(decide (base ≤ p.1) && decide (p.1 < base + 8 * setCount 1 s))) }
  forEach (s.bpm.bufs.filter (fun p => p.1 / 2 ^ 28 / 8 == 1 && p.2.cnt != 0)) (fun p s =>
    memWrite (base + 8 * tableIx (p.1 / 2 ^ 28 % 8) (p.1 % 2 ^ 28) s) (tableEntry p.2) s) s

/-- The entries of the table that are not 0, read through the BASE and COUNTs now written: the buffer's key, and its entry. -/
def readTable (s : State) : List (Nat × Nat) :=
  let base := setBase 1 s
  let here := (s.mem.filter (fun p => decide (base ≤ p.1) && decide (p.1 < base + 8 * setCount 1 s))).map (fun p => (p.1 - base) / 8)
  here.eraseDups.filterMap (fun e => (tableBuf e s).map (fun b => (cadIx 1 b.1 * 2 ^ 28 + b.2, ofLe (memRead s (base + 8 * e) 8))))

/-- An entry whose reserved bits are not 0, or whose fill length exceeds its buffer's size (R138). -/
def badEntry (p : Nat × Nat) : Bool := decide (2 ^ 38 ≤ p.2) || decide (caddySize (p.1 / 2 ^ 28 % 8) < bits p.2 37 16)

/-- The caddies of set D rebuilt from the count table (R138): a buffer whose count is not 0 stays, with its count and fill length; every other one,
and that of a bad entry, is free and handed out in ascending order. Answers how many bad entries there are. -/
def rebuildD (s : State) : Nat × State :=
  let table := readTable s
  let bad := table.filter badEntry
  let kept := table.filter (fun p => !badEntry p && bits p.2 15 0 != 0)
  let s := clearSet 1 s
  let s := { s with bpm := { s.bpm with bufs := kept.foldl (fun m p => kput m p.1 { cnt := bits p.2 15 0, fill := bits p.2 37 16 }) s.bpm.bufs } }
  let s := forEach (List.range 5) (fun c s =>
    let k := cadIx 1 c
    let used := (kept.filter (fun p => decide (p.1 / 2 ^ 28 = k))).map (fun p => p.1 % 2 ^ 28)
    let top := used.foldl (fun m i => max m (i + 1)) 0
    let free := (List.range top).filter (fun i => !used.contains i)
    let s := { s with bpm := { s.bpm with freed := kput s.bpm.freed k free, fresh := kput s.bpm.fresh k top } }
    let n := cadCount 1 c s - used.length
    rset F.BPM_CLASS_FREE_LOW_WATER n (rset F.BPM_CLASS_FREE_FREE n s k) k) s
  (bad.length, s)

/-- D_EN (R136, R138): with D_KEEP = 0 set D is emptied; with D_KEEP = 1 its rebuild from the count table starts. -/
def enableD (s : State) : State :=
  if rbit F.BPM_CTL_D_EN s then s
  else if cfgOk 1 s then
    if rbit F.BPM_CTL_D_KEEP s then
      let (bad, s) := rebuildD s
      let s := rflag F.BPM_CTL_D_REBUILDING true (rflag F.BPM_CTL_D_EN true s)
      if bad = 0 then s else cfgRefused (pack [(4, bad)]) s
    else rflag F.BPM_CTL_D_EN true (emptySet 1 s)
  else cfgRefused [] s

/-- LW_RESET (R157): LOW_WATER loads FREE. -/
def lwResetAt (d c : Nat) (s : State) : State := rset F.BPM_CLASS_FREE_LOW_WATER (cadFree d c s) s (cadIx d c)

/-- A write of BPM_CLASS_CFG (R136): while the set is enabled a write that would change COUNT leaves the whole field as it is and sets
CFG_ERR; the floors are stored with a write that carries the COUNT held. DESIGN CHOICE, unsafe: log 85. -/
def writeClassCfg (i : Nat) (v : Word) (s : State) : State :=
  let n := v.toNat
  let floors := fun (s : State) => rset F.BPM_CLASS_CFG_FLOOR_HOST (bits n 63 52) (rset F.BPM_CLASS_CFG_FLOOR_FAB (bits n 51 40)
    (rset F.BPM_CLASS_CFG_FLOOR_ENG (bits n 39 28) s i) i) i
  if setOn (i / 8) s then
    if bits n 27 0 = rget F.BPM_CLASS_CFG_COUNT s i then floors s
    else rflag F.BPM_ERR_STATUS_CFG_ERR true s
  else floors (rset F.BPM_CLASS_CFG_COUNT (bits n 27 0) s i)

/-- A write of a BASE or LIMIT (R136, R155): bits [20:0] are ignored; on an enabled set a change is ignored and sets CFG_ERR. -/
def writeSetBound (f : Field) (d : Nat) (v : Word) (s : State) : State :=
  let n := bits v.toNat 47 21 * 0x200000
  if n = rget f s then s
  else if setOn d s then rflag F.BPM_ERR_STATUS_CFG_ERR true s
  else rset f n s

/-- A write of BPM_CTL: D_KEEP is stored, then S_EN and D_EN act (R155). -/
def writeBpmCtl (v : Word) (s : State) : State :=
  let s := rflag F.BPM_CTL_D_KEEP (v.toNat.testBit 2) s
  let s := if v.toNat.testBit 0 then enableS s else s
  if v.toNat.testBit 1 then enableD s else s

/-- References to buffers given up (R144, R148). -/
def dropAll (l : List Nat) (s : State) : State := forEach l (fun h s => if (bufOf h s).cnt = 0 then s else dropRef h s) s

/-- Every reference to a buffer given up. -/
def freeBuf (h : Nat) (s : State) : State := dropAll [h] (setBuf h { bufOf h s with cnt := min 1 (bufOf h s).cnt } s)

/-- D_REBUILD_DONE (R138): the scan ends and D_REBUILDING clears; every kept buffer that no dirty write, which is the kept state, names is released. -/
def opDRebuildDone (s : State) : State :=
  if !rbit F.BPM_CTL_D_REBUILDING s then s else
  let s := rflag F.BPM_CTL_D_REBUILDING false s
  let named := s.arr.dirty.filterMap (·.handle)
  let kept := (s.bpm.bufs.filter (fun p => p.1 / 2 ^ 28 / 8 == 1 && p.2.cnt != 0)).map (fun p => mkHandle 1 (p.1 / 2 ^ 28 % 8) (p.1 % 2 ^ 28))
  forEach (kept.filter (fun h => !named.contains h)) freeBuf s

/-- Up to `n` buffers of a caddy of set S taken by the Array Runtime, as many as are free. -/
def takeBufs (n c : Nat) (s : State) : List Nat × State :=
  (List.range n).foldl (fun (acc : List Nat × State) _ =>
    let (h, s) := bpmAlloc .core 0 c acc.2
    (acc.1 ++ h.toList, s)) ([], s)

/-- `n` buffers of a caddy of set S held by the Array Runtime while `f` runs, and given back; with too few of them free the work waits (R545). -/
def withBufs (n c : Nat) (f : State → State) (s : State) : State :=
  let (hs, t) := takeBufs n c s
  dropAll hs (if hs.length = n then f t else t)

end Sys2Proof.Machine
end

