-- ==== Sys2Proof/Machine/Tasks.lean ====
section
/-! DEFINITION. Task slots, token entries and the dispatcher (R75 to R90, R124 to R126): what the silicon does to a slot, to a token
and in placing a task. -/

namespace Sys2Proof.Machine

open Sys2Proof

/-! ### Slots -/

/-- A slot. -/
def slotOf (s : State) (i : Nat) : Slot := kget {} s.task.slots i

/-- A slot replaced. -/
def setSlot (i : Nat) (x : Slot) (s : State) : State := { s with task := { s.task with slots := kput s.task.slots i x } }

/-- A slot is not Free. -/
def slotBusy (s : State) (i : Nat) : Bool := (slotOf s i).st != .free

/-- t15 bits (R78). -/
def liveCancel := 0
def liveWatchdog := 1
def liveDrain := 2
def liveRestarted := 3

/-- A bit of a slot's t15 set. -/
def setLive (i b : Nat) (s : State) : State := setSlot i { slotOf s i with live := (slotOf s i).live ||| 2 ^ b } s

/-- An intake queue replaced. -/
def setQ (i : Nat) (l : List Task) (s : State) : State := { s with task := { s.task with q := listSet s.task.q i l } }

/-- A task placed at the end of an intake queue (R80, R83: no task is dropped for want of a slot). -/
def enqueueTask (t : Task) (s : State) : State := setQ t.queue (s.task.q.getD t.queue [] ++ [t]) s

/-- The tick at intake, in t11 (Table 3.2). -/
def intakeTick (s : State) : Nat := rget F.CLK_TICK_TICK s

/-! ### Token entries (R124 to R126) -/

/-- Entry `e` of context `x`. -/
def tokOf (s : State) (x e : Nat) : TokEntry := kget {} s.cpu.toks (16 * x + e)

/-- An entry replaced. -/
def setTok (x e : Nat) (t : TokEntry) (s : State) : State := { s with cpu := { s.cpu with toks := kput s.cpu.toks (16 * x + e) t } }

/-- An entry that is neither held nor detached. -/
def tokFree (t : TokEntry) : Bool := !t.held && !t.detached

/-- The token of an entry (R124). -/
def mkToken (x e serial : Nat) : Nat := x * 2 ^ 22 + e * 2 ^ 18 + serial

/-- SERIAL counts posts from 1 and wraps from 0x3FFFF to 1 (R124). -/
def nextSerial (n : Nat) : Nat := if n = 0x3FFFF then 1 else n + 1

/-- What taking a token entry gives: an entry with its serial, TOKEN with subcode 1 when all 16 are held, or a stall. -/
inductive TakeTok where
  | ok (e serial : Nat)
  | full
  | stall
deriving DecidableEq, Repr

/-- The entry a post would take: the lowest free one (R124). -/
def tokChoice (s : State) (x : Nat) : TakeTok :=
  match lowest 16 (fun e => tokFree (tokOf s x e)) with
  | some e => .ok e (nextSerial (tokOf s x e).serial)
  | none => if countBelow 16 (fun e => (tokOf s x e).held) = 16 then .full else .stall

/-- The state with entry `e` posted; `detach` when d is g0 (R124). -/
def tokPost (x e serial : Nat) (detach : Bool) (s : State) : State :=
  setTok x e { held := !detach, detached := detach, serial := serial, status := none } s

/-! ### Slot selection (R85) -/

/-- A data-path core with nothing running takes its next Loaded or Ready slot in round robin: a Loaded slot starts at
TENTRY + 64 × TYPE in U, a Ready slot resumes after its WTOK with the token status. -/
def selectNext (c : Nat) (s : State) : State :=
  if h : c < 64 then
    let cid : CoreId := ⟨c, by omega⟩
    let k := coreOf s cid
    if k.cur.isSome || k.start || !coreRunning s cid then s else
    match lowest 8 (fun i => let j := (k.rr + 1 + i) % 8
                             (slotOf s (8 * c + j)).st == .loaded || (slotOf s (8 * c + j)).st == .ready) with
    | none => s
    | some i =>
      let j := (k.rr + 1 + i) % 8
      let x := 8 * c + j
      let sl := slotOf s x
      let s := setCore cid { k with cur := some j, rr := j } s
      let b := bankOf s x
      if sl.st = .loaded then
        setSlot x { sl with st := .running } (setBank x { b with pc := k.tentry + BitVec.ofNat 64 (64 * sl.task.typ), priv := 1 } s)
      else
        let b := match sl.resume with
          | some (d, v) => gput (Fin.ofNat 32 d) (BitVec.ofNat 64 v) { b with pc := b.pc + 4 }
          | none => b
        setSlot x { sl with st := .running, resume := none } (setBank x b s)
  else s

/-- The running slot of a core is left (Waiting, Free): the core takes its next one (R85). -/
def leaveSlot (c : Nat) (s : State) : State :=
  if h : c < 64 then
    let cid : CoreId := ⟨c, by omega⟩
    selectNext c (setCore cid { coreOf s cid with cur := none } s)
  else s

/-- The buffer of a task's write data (t8). -/
def taskHandle (t : Task) : Option Nat :=
  let x := t.t.getD 7 0
  if x / 2 ^ 32 = 0 then none else some (x % 2 ^ 32)

/-- A command that ends lets go of the buffer of its write data; while the data still lands, the buffer is kept until the landing token gets its
status (R86). -/
def giveUpBuffer (t : Task) (s : State) : State :=
  match taskHandle t, t.cmd with
  | some h, some m =>
    if m.landed then dropAll [h] s
    else { s with host := { s.host with lateLand := s.host.lateLand ++ [(m.id, t.t.getD 12 0, h)] } }
  | some h, none => dropAll [h] s
  | none, _ => s

/-- A command that ends waits for nothing any more: earlier writes, a queue's reset, a handover, imported chunks (R67, R68, R190, R351). -/
def dropWaits (i : Nat) (s : State) : State :=
  match (slotOf s i).task.cmd with
  | none => s
  | some m =>
    let is := fun (t : Task) => (t.cmd.map (·.id)) == some m.id
    let off := fun (t : Option Task) => t.filter (fun t => !is t)
    let fetches := s.arr.fetches.filter (·.slot != i)
    { s with
      host := { s.host with flushes := s.host.flushes.filter (fun p => !is p.1), resets := s.host.resets.map (fun r => (r.1, r.2.1, off r.2.2)) },
      mir := { s.mir with moving := s.mir.moving.map (fun x => (x.1, x.2.1, x.2.2.1, off x.2.2.2)) },
      arr := { s.arr with fetches := fetches, fetched := if fetches.isEmpty ∧ !s.arr.fetches.isEmpty then [] else s.arr.fetched } }

/-- The task of a slot waits for work that stands in no token entry, its slot in Waiting. -/
def waitSlot (i : Nat) (s : State) : State :=
  let s := setSlot i { slotOf s i with st := .waiting } s
  if i < 512 ∧ (kget {} s.cpu.cores (i / 8)).cur = some (i % 8) then leaveSlot (i / 8) s else s

/-- A slot released: Free, every token entry it still holds detached (R115); an entry whose job has ended is free at once. -/
def freeSlot (i : Nat) (s : State) : State :=
  let s := dropWaits i s
  let s := forEach (List.range 16) (fun e s =>
    let t := tokOf s i e
    if t.held then setTok i e { t with held := false, detached := t.status.isNone } s else s) s
  let s := setSlot i {} s
  if i < 512 ∧ (kget {} s.cpu.cores (i / 8)).cur = some (i % 8) then leaveSlot (i / 8) s else s

/-- A completed job's particulars, for a TYPE 3 task (R123, Table 3.2). -/
structure JobEnd where
  engine : Nat := 0
  outBytes : Nat := 0
  status : Nat := 0
  descAddr : Nat := 0
  outHandle : Nat := 0
  tag : Nat := 0
  notify : Bool := false

/-- The TYPE 3 task of a completion (R125). DEDUCED, unsafe: log 36. -/
def completionTask (tok : Nat) (j : JobEnd) (s : State) : Task :=
  { typ := 3, queue := 2,
    t := [tok, j.engine * 2 ^ 56 + (j.outBytes % 2 ^ 32) * 2 ^ 16 + j.status, j.descAddr, j.outHandle, j.tag, 0, 0, 0, 0, 0, intakeTick s] }

/-- A token completes (R123, R125): a held entry takes the status, and a slot that waits on it becomes Ready with that status, its
entry released; a detached one frees itself. With NOTIFY, or detached with a status not OK, a TYPE 3 task is made. -/
def tokComplete (x e serial : Nat) (j : JobEnd) (s : State) : State :=
  let t := tokOf s x e
  if tokFree t || t.serial != serial || t.status.isSome then s else
  let s := if j.notify || (t.detached && j.status != 0) then enqueueTask (completionTask (mkToken x e serial) j s) s else s
  if t.detached then setTok x e { t with detached := false } s
  else
    let sl := slotOf s x
    match sl.wait with
    | some (we, d) =>
      if x < 512 ∧ sl.st = .waiting ∧ we = e then
        let s := setTok x e { t with held := false } s
        selectNext (x / 8) (setSlot x { sl with st := .ready, wait := none, resume := some (d, j.status) } s)
      else setTok x e { t with status := some j.status } s
    | none => setTok x e { t with status := some j.status } s

/-! ### Dispatch (R80 to R84) -/

/-- The queue key of a host-command task. -/
def taskQKey (t : Task) : Nat :=
  match t.cmd with
  | some m => 512 * m.id.cntlid + m.id.qid
  | none => 0

/-- CMDSEQ after `n` (R43). -/
def nextCmdseq (n : Nat) : Nat := if n = 0xFFFFFFFF then 1 else n + 1

/-- A host queue's state. -/
def hqOf (s : State) (k : Nat) : HQueue := kget {} s.host.queues k

/-- A host queue replaced. -/
def setHq (k : Nat) (q : HQueue) (s : State) : State := { s with host := { s.host with queues := kput s.host.queues k q } }

/-- CMDSEQ `a` comes before `b`, with the wrap (R43). -/
def seqBefore (a b : Nat) : Bool := a != b && decide ((b + 2 ^ 32 - a) % 2 ^ 32 < 2 ^ 31)

/-- The CMDSEQs next to `placed` that need no slot here are passed over, `n` of them at most. -/
def advanceSeq : Nat → HQueue → HQueue
  | 0, q => q
  | n + 1, q =>
    let c := nextCmdseq q.placed
    if q.ahead.contains c then advanceSeq n { q with placed := c, ahead := q.ahead.filter (· != c) } else q

/-- A CMDSEQ of a queue is placed, or needs no slot here (R81). -/
def passSeq (k c : Nat) (s : State) : State :=
  let q := hqOf s k
  if q.synced && !seqBefore q.placed c then s else
  let q := if q.synced then { q with ahead := q.ahead ++ [c] } else { q with placed := c, synced := true }
  setHq k (advanceSeq q.ahead.length q) s

/-- A task keeps its place in the CMDSEQ order of its queue: not one on NVMe/TCP, placed again, replayed or LOCAL. -/
def inOrder (t : Task) : Bool :=
  match t.cmd with
  | some m => !(m.tcp || t.restarted || t.replay || m.loc)
  | none => false

/-- A host command may be placed next: in CMDSEQ order on the Rearn binding, in arrival order on NVMe/TCP (R81). Where this head need
not receive every CMDSEQ (the admin queue with its LOCAL commands, single-sent commands, a queue it joined), and for a command that stood in the shadow ring
until a planned handover, the lowest it holds is next. -/
def hostMayPlace (s : State) (t : Task) : Bool :=
  match t.cmd with
  | none => true
  | some m =>
    let k := taskQKey t
    let q := hqOf s k
    let passed : Bool := !seqBefore q.placed m.id.cmdseq || q.ahead.contains m.id.cmdseq
    !inOrder t ||
    (if m.id.qid = 0 ∨ q.synced = false ∨ rbit F.HQ_DUALSEND_CFG_DUAL_REQUIRED s = false ∨ passed = true then
      (s.task.q.getD 1 []).all (fun x => !(inOrder x && taskQKey x == k &&
        (match x.cmd with | some y => seqBefore y.id.cmdseq m.id.cmdseq | none => false)))
     else m.id.cmdseq == nextCmdseq q.placed)

/-- Busy slots whose task has TYPE `typ`. -/
def busyOf (s : State) (typ : Nat) : Nat := countBelow 512 (fun i => slotBusy s i && (slotOf s i).task.typ == typ)

/-- HOST_MAX as the dispatcher uses it (R83). -/
def hostMax (s : State) : Nat :=
  let h := rget F.TSK_CTL_HOST_MAX s
  let b := rget F.TSK_CTL_BG_MAX s
  if 480 < h + b then 480 - b else h

/-- A queue whose cap is reached (R83). -/
def capHit (s : State) (q : Nat) : Bool :=
  (q == 1 && decide (hostMax s ≤ busyOf s 1)) || (q == 3 && decide (rget F.TSK_CTL_BG_MAX s ≤ busyOf s 4))

/-- The weight of a queue; 0 acts as 1 (Table 3.6). -/
def weightOf (s : State) (q : Nat) : Nat :=
  max 1 (match q with | 1 => rget F.TSK_CTL_WEIGHT_HOST s | 2 => rget F.TSK_CTL_WEIGHT_FAB s | _ => rget F.TSK_CTL_WEIGHT_BG s)

/-- The tasks of Q1 that may be placed now. -/
def hostReady (s : State) : List Task := (s.task.q.getD 1 []).filter (hostMayPlace s)

/-- Of Q1: the host queue visited in round robin, at most 4 commands a visit, and its first command (R80). -/
def hostPick (s : State) : Option (Task × (Nat × Nat) × Nat) :=
  let l := hostReady s
  let key := 512 * s.task.visit.1 + s.task.visit.2
  match (if s.task.visited < 4 then l.find? (fun t => taskQKey t == key) else none) with
  | some t => some (t, s.task.visit, s.task.visited + 1)
  | none =>
    let nextKey := (l.map taskQKey).foldl (fun b k => match b with
      | none => some k
      | some b => some (if (k ≤ key) == (b ≤ key) then min k b else if b ≤ key then k else b)) (none : Option Nat)
    match nextKey with
    | none => none
    | some k => (l.find? (fun t => taskQKey t == k)).map (fun t => (t, (k / 512, k % 512), 1))

/-- The head of a queue that the dispatcher may place. -/
def queueHead (s : State) (q : Nat) : Option Task :=
  if q = 1 then (hostPick s).map (·.1) else (s.task.q.getD q []).head?

/-- Weighted round robin over Q1 to Q3 (R80): the queue whose turn it is, giving up its turn when it has nothing to place. -/
def pickQueue (s : State) : Nat → Nat → Nat → Option (Nat × Nat)
  | 0, _, _ => none
  | n + 1, q, credit =>
    if credit ≠ 0 ∧ (queueHead s q).isSome ∧ ¬ capHit s q then some (q, credit - 1)
    else pickQueue s n (if q = 3 then 1 else q + 1) (weightOf s (if q = 3 then 1 else q + 1))

/-- A free slot on the enabled core of a cluster with the most free slots; lowest core, lowest slot on a tie (R82). -/
def clusterSlot (s : State) (cl : Nat) : Option Nat :=
  let free := fun c => countBelow 8 (fun j => !slotBusy s (8 * c + j))
  let best := (List.range 8).foldl (fun b i =>
    let c := 8 * cl + i
    if rtest F.TSK_SLOT_MAP_CORE_EN c s && decide (b.2 < free c) then (c, free c) else b) (0, 0)
  if best.2 = 0 then none else (lowest 8 (fun j => !slotBusy s (8 * best.1 + j))).map (8 * best.1 + ·)

/-- The slot for a task: its home cluster, group mod 8 or DPC0, then the clusters after it (R82). -/
def chooseSlot (s : State) (g : Option Nat) : Option Nat :=
  let home := (g.getD 0) % 8
  (List.range 8).foldl (fun r i => match r with | some x => some x | none => clusterSlot s ((home + i) % 8)) none

/-- t0 (R78). -/
def t0Of (t : Task) (slot seq : Nat) : Nat :=
  t.typ * 2 ^ 60 + t.queue * 2 ^ 58 + slot * 2 ^ 49 +
    (match t.group with | some g => 2 ^ 48 + (g % 256) * 2 ^ 40 | none => 0) + seq % 2 ^ 32

/-- A task written into a slot (R75, R85): t0 to t14 by the dispatcher, t15 to 0 but RESTARTED; the slot is Loaded. A host command with
write data takes the lowest free token entry for its landing token (R79, R124). DEDUCED, unsafe: log 36. -/
def loadSlot (i : Nat) (t : Task) (s : State) : State :=
  let s := rset F.TSK_DISPATCH_CNT_COUNT ((rget F.TSK_DISPATCH_CNT_COUNT s + 1) % 2 ^ 64) s
  let needTok := match t.cmd with | some m => decide (64 < m.dlen) | none => false
  let landed := match t.cmd with | some m => m.landed | none => true
  let xferOk := match t.cmd with | some m => m.xferOk | none => true
  let e := (lowest 16 (fun e => tokFree (tokOf s i e))).getD 0
  let (tok, s) := if needTok then
      let n := nextSerial (tokOf s i e).serial
      (mkToken i e n, setTok i e { held := true, serial := n, status := if landed then some (if xferOk then 0 else 8) else none } s)
    else (0, s)
  let regs := if needTok then listSet t.t 12 tok else t.t
  setSlot i { st := .loaded, task := { t with t := regs, capped := false, since := none },
              t0 := t0Of t i (rget F.TSK_DISPATCH_CNT_COUNT s), live := if t.restarted then 2 ^ liveRestarted else 0 } s

/-- The first occurrence of a task taken out of a queue. DEDUCED, unsafe: log 36. -/
def takeTask (t : Task) : List Task → List Task
  | [] => []
  | x :: l => if x = t then l else x :: takeTask t l

/-- The waits of capped queues counted, once a task (R83, Table 3.7). DEDUCED, unsafe: log 36. -/
def countCaps (s : State) : State :=
  forEach [1, 3] (fun qi s =>
    if capHit s qi then
      match s.task.q.getD qi [] with
      | t :: rest => if t.capped then s else
        rinc F.TSK_STALL_CNT_CAP_HIT 1 (setQ qi ({ t with capped := true } :: rest) s)
      | [] => s
    else s) s

/-- A host command with write data, which needs a landing token (R79). -/
def lands (t : Task) : Bool := match t.cmd with | some m => decide (64 < m.dlen) | none => false

/-- A task of queue `qi` placed in a slot, or kept waiting when none is free, or when the slot has no token entry free for its landing token. -/
def placeFrom (qi : Nat) (t : Task) (s : State) : State :=
  match chooseSlot s t.group with
  | none =>
    match t.since with
    | some _ => s
    | none => setQ qi ((s.task.q.getD qi []).map (fun x => if x = t then { x with since := some (intakeTick s) } else x)) s
  | some i =>
    if lands t && !(List.range 16).any (fun e => tokFree (tokOf s i e)) then s else
    let s := setQ qi (takeTask t (s.task.q.getD qi [])) s
    let s := match t.since with
      | some k => if k + 10 ≤ intakeTick s then rinc F.TSK_STALL_CNT_SLOT_WAIT 1 s else s
      | none => s
    let s := match t.cmd with
      | some m => if inOrder t then passSeq (taskQKey t) m.id.cmdseq s else s
      | none => s
    -- placing a task wakes a power-gated cluster (R427)
    let s := ungateIsland (2 + i / 64) s
    selectNext (i / 8) (loadSlot i t s)

/-- DISPATCH_PLACE (R80 to R83): the dispatcher places one task. Q0 has strict priority; with DRAIN set nothing else is placed (R90). -/
def opDispatchPlace (s : State) : State :=
  if !rbit F.TSK_CTL_DISPATCH_EN s then s else
  match s.task.q.getD 0 [] with
  | t :: _ => placeFrom 0 t s
  | [] =>
    if rbit F.TSK_CTL_DRAIN s then s else
    let s := countCaps s
    match pickQueue s 4 s.task.turn s.task.credit with
    | none => s
    | some (q, credit) =>
      -- a placement that finds no free slot uses up no turn
      if q = 1 then
        match hostPick s with
        | some (t, v, n) =>
          placeFrom 1 t (if (chooseSlot s t.group).isNone then s else
            { s with task := { s.task with turn := q, credit := credit, visit := v, visited := n } })
        | none => s
      else
        match s.task.q.getD q [] with
        | t :: _ => placeFrom q t (if (chooseSlot s t.group).isNone then s else { s with task := { s.task with turn := q, credit := credit } })
        | [] => s

/-! ### Retirement (R84, R133) -/

/-- DISPATCH_SEQ of a slot's task (t0 [31:0]). -/
def slotSeq (x : Slot) : Nat := x.t0 % 2 ^ 32

/-- DISPATCH_SEQ `a` was given before `b`, with the wrap. -/
def dispatchedBefore (a b : Nat) : Bool := a != b && decide ((b + 2 ^ 32 - a) % 2 ^ 32 < 2 ^ 31)

/-- A slot's task placed again from its start (R84): with RESTARTED, ahead of what its queue holds, after the tasks placed again that were
dispatched before it (R81). -/
def placeAgain (x : Slot) (s : State) : State :=
  let t := { x.task with restarted := true, seq := slotSeq x }
  let l := s.task.q.getD t.queue []
  let before := fun (y : Task) => y.restarted && dispatchedBefore y.seq t.seq
  setQ t.queue (l.takeWhile before ++ t :: l.dropWhile before) s

/-- The tasks of a retired core's slots placed again (R84): from the start, with RESTARTED. Answers the host commands past their
cancellation point, which complete with Command Interrupted. -/
def releaseCore (c : Nat) (s : State) : List Slot × State :=
  let past := ((List.range 8).map (fun j => slotOf s (8 * c + j))).filter (fun x => x.st != .free && x.task.typ == 1 && x.passed)
  let s := forEach (List.range 8) (fun j s =>
    let i := 8 * c + j
    let x := slotOf s i
    if x.st = .free then s else
    let s := if x.task.typ = 1 ∧ x.passed then dropWaits i s else s
    let s := setSlot i {} (forEach (List.range 16) (fun e s =>
      let t := tokOf s i e
      if t.held then setTok i e { t with held := false, detached := t.status.isNone } s else s) s)
    if x.task.typ = 1 ∧ x.passed then s
    else placeAgain x s) s
  let k := kget {} s.cpu.cores c
  (past, { s with cpu := { s.cpu with cores := kput s.cpu.cores c { k with cur := none, start := false } } })

end Sys2Proof.Machine
end

