-- ==== Sys2Proof/Machine/MirrorBase.lean ====
section
/-! DEFINITION. What every family needs of the mirror and the hosts: who owns a group, egress under the fence, records in the open epoch,
closing and confirming an epoch, completing a host command (R45, R65, R68, R87, R322 to R338, R346). -/

namespace Sys2Proof.Machine

open Sys2Proof

/-! ### Ownership (R322, R323) -/

/-- The configuration copy in force of a format: its GEN (R465). -/
def cfgGen (fmt : Nat) (s : State) : Option Nat :=
  ((s.sec.cfg.filter (fun p => p.1 == fmt && p.2 != 0)).map (·.2)).max?

/-- The format in use: CFG_FMT of the running Runtime, 12 where its header is not known. -/
def cfgInUse (s : State) : Nat := if s.sec.rt = [] then 12 else ofLe ((s.sec.rt.drop 28).take 2)

/-- The configuration store changed: the copy in use is written again with GEN + 1 (R465, R466). DESIGN CHOICE, unsafe: log 29. -/
def cfgChanged (s : State) : State :=
  let f := cfgInUse s
  match cfgGen f s with
  | some g => { s with sec := { s.sec with cfg := s.sec.cfg.map (fun p => if p = (f, g) then (f, g + 1) else p) } }
  | none => s

/-- HEAD_SLOT: 0 head A, 1 head B. -/
def headSlot (s : State) : Nat := rget F.CHIP_STRAPS_HEAD_SLOT s

/-- The owner a group's map bit names (R323). -/
def ownerOf (g : Nat) (s : State) : Nat := if rtest F.PNL_OWN_MAP_OWNER (g % 64) s (g / 64) then 1 else 0

/-- This head serves no group: its chunk parameters stand against it (R162), the AWK's blob did not unseal and the AWK has not come (R450), too little
DRAM was trained (R482), or no vault SSD is fitted (R507). DESIGN CHOICE, unsafe: log 86. -/
def servesNone (s : State) : Bool := s.arr.noServe || s.keys.noAwk || s.chip.lowMem || !s.chip.vaultFitted

/-- This head owns the group (R324), unless it serves no group (R162). -/
def owns (g : Nat) (s : State) : Bool := ownerOf g s == headSlot s && !servesNone s

/-- A group's map bit set to name head `h`. -/
def setOwner (g h : Nat) (s : State) : State := rputBit F.PNL_OWN_MAP_OWNER (g % 64) (h == 1) s (g / 64)

/-- The head runs SOLO (R338). -/
def solo (s : State) : Bool := rbit F.PNL_CTL_SOLO s

/-! ### Egress (R346) -/

/-- Traffic to a host, a drive or the fabric: sent, or held while the part's egress is gated, or discarded once the hold has
lasted beyond 1 µs (R346). DESIGN CHOICE, safe: log 1. DESIGN CHOICE, safe: log 28. -/
def egress (o : Output) (s : State) : State :=
  if rbit F.PNL_FENCE_STATUS_GATED s then
    if s.fence.discard then s else { s with fence := { s.fence with held := s.fence.held ++ [o] } }
  else emit o s

/-- A controller. -/
def ctrlOf (s : State) (n : Nat) : Ctrl := kget {} s.host.ctrls n

/-- A controller replaced. -/
def setCtrl (n : Nat) (c : Ctrl) (s : State) : State := { s with host := { s.host with ctrls := kput s.host.ctrls n c } }

/-- The header of a host-binding message of this head (R39, R47): TYPE, the queue and command it is about, SRC_HEAD, and SESSION of the
association. -/
def hbHead (typ : Nat) (id : CmdId) (s : State) : HbHead :=
  { typ := typ, id := id, srcHead := headSlot s == 1, session := (ctrlOf s id.cntlid).session }

/-- The 32 bytes of such a header (Table 2.3): VER 1, TYPE, QID, CNTLID, FLAGS with SRC_HEAD and REISSUE, CMDSEQ, CSN, RDGEN 0, DLEN, SESSION. -/
def hbBytes (h : HbHead) : List Byte :=
  let b := fun (x : Bool) (n : Nat) => if x then n else 0
  leBytes 1 1 ++ leBytes 1 h.typ ++ leBytes 2 h.id.qid ++ leBytes 2 h.id.cntlid ++ leBytes 2 (b h.srcHead 4 + b h.reissue 8) ++
    leBytes 4 h.id.cmdseq ++ leBytes 4 h.csn ++ leBytes 4 0 ++ leBytes 4 h.dlen ++ leBytes 8 h.session

/-- A completion sent by this head (R47): its header's TYPE 2, REISSUE and CSN, and the CQE. -/
def sendCpl (id : CmdId) (tcp reissue : Bool) (csn : Nat) (cqe : Cqe) (s : State) : State :=
  egress (.hostCpl { hbHead 2 id s with reissue := reissue, csn := csn } tcp cqe) s

/-- Where the data of a command goes (R42): the window offset and key of its Keyed SGL Data Block descriptor, at the generation of RDGEN. The
number of the window at the endpoint, which no field of the command gives, is left to the key. DESIGN CHOICE, unsafe: log 94. -/
def rmaOf (m : HbMsg) (s : State) : RmaDest :=
  { node := (ctrlOf s m.id.cntlid).node, offset := m.sqe.sglAddr, key := m.sqe.sglKey, gen := m.rdgen }

/-- Data placed in the host's window, or sent on its connection (R42). -/
def sendData (m : HbMsg) (l : List Byte) (s : State) : State := egress (.readData m.id m.tcp (rmaOf m s) l) s

/-! ### The open epoch (R325 to R331) -/

/-- The bytes of a record in an epoch body (Table 11.2); a kind whose length the table does not give counts 64 bytes. -/
def recBytes (r : ERec) : Nat :=
  match r with
  | .take .. => 96
  | .cpl .. => 48
  | .index _ cs => 16 + 64 * cs.length
  | .journal _ => 272
  | .strainer .. => 48
  | .zone .. => 32
  | .queue .. => 32
  | .ctrl .. => 64
  | .ns .. => 64
  | .pmsg _ => 64
  | .data _ b => 32 + (b.length + 15) / 16 * 16
  | .handover .. => 64
  | .release l => 16 + (8 * l.length + 15) / 16 * 16
  | .raw _ b => 16 + (b.length + 15) / 16 * 16

/-- A write TAKE record (R331) carries a WSEQ other than 0. -/
def isWriteTake (r : ERec) : Bool := match r with | .take _ w _ _ _ => w | _ => false

/-- The epochs that may be sent and not confirmed: EPOCH_WINDOW, 0 acting as 1 (R327). -/
def epochWindow (s : State) : Nat := max 1 (rget F.PNL_CTL_EPOCH_WINDOW s)

/-- MAX_MIB in bytes: 0 acts as 1, above 16 as 16 (Table 11.10). -/
def epochMaxBytes (s : State) : Nat := min 16 (max 1 (rget F.PNL_EPOCH_PERIOD_MAX_MIB s)) * 2 ^ 20

/-- The bytes of the open epoch. -/
def openBytes (s : State) : Nat := (s.mir.opened.map (fun r => recBytes r.body)).foldl (· + ·) 0

/-- A write's completion stands confirmed at both heads: its dirty data may go on to step 5 of R19. -/
def ackWrite (id : CmdId) (s : State) : State :=
  { s with arr := { s.arr with dirty := s.arr.dirty.map (fun d => if d.id = id then { d with acked := true } else d) } }

/-- A confirmed CPL record releases the owner's copy of the completion (R334, R47), and with it the write's data to the steps that follow (R19). -/
def confirmRec (r : ERecord) (s : State) : State :=
  match r.body with
  | .cpl _ reissue noSh id csn cqe => sendCpl id noSh reissue csn cqe (ackWrite id s)
  | _ => s

/-- An epoch is closed and confirmed: by the partner's REPLY, or in SOLO once it is in the journal ring. -/
def epochConfirmed (n : Nat) (s : State) : Bool := decide (n < rget F.PNL_EPOCH_SEQ_NUMBER s) && s.mir.sent.all (fun e => decide (n < e.num))

/-- The records of a slot that are not confirmed, up to epoch `n` (R332 BARRIER). -/
def slotUnconfirmed (slot n : Nat) (s : State) : Bool :=
  s.mir.sent.any (fun e => decide (e.num ≤ n) && e.recs.any (fun r => r.slot == slot)) ||
  s.mir.await.any (fun p => decide (p.1 ≤ n) && p.2.2.slot == slot) ||
  (decide (rget F.PNL_EPOCH_SEQ_NUMBER s ≤ n) && s.mir.opened.any (fun r => r.slot == slot))

/-- BARRIER jobs whose earlier records are all confirmed complete (R332). -/
def settleBarriers (s : State) : State :=
  let (done, left) := s.mir.barriers.partition (fun b => !slotUnconfirmed b.slot b.upto s)
  forEach done (fun b s => tokComplete b.chain.ctx b.chain.entry b.chain.serial
      { engine := 8, descAddr := (b.chain.descs.head?.map (·.at_)).getD 0, tag := b.chain.tag, notify := b.chain.notify } s)
    { s with mir := { s.mir with barriers := left } }

/-- UNCONFIRMED of PNL_EPOCH_SEQ follows the epochs sent. -/
def syncSent (s : State) : State := rset F.PNL_EPOCH_SEQ_UNCONFIRMED (min 15 s.mir.sent.length) s

/-- A task abandoned without a completion (R351 step 1): its slot is freed, its buffer let go. -/
def abandonSlot (i : Nat) (s : State) : State := freeSlot i (giveUpBuffer (slotOf s i).task s)

/-- The Array Runtime's tables when groups leave (R351 step 4): their steeping stripes close; the holds of their chunks not yet placed in
a stripe are given up; their dirty writes are the new owner's to commit. -/
def handoverTables (gs : List Nat) (a : Arr) : Arr :=
  let gone := a.chunks.filter (fun p => gs.contains p.group && p.frameLen == 0)
  let less := fun (e : IndexEntry) => (gone.filter (fun p => p.fp == e.fp && p.kd == e.kd && !e.sealed_)).length
  { a with steeps := a.steeps.map (fun x => if gs.contains x.je.group ∧ x.je.state = .steeping then { x with closed := true } else x),
           chunks := a.chunks.filter (fun p => !(gs.contains p.group && p.frameLen == 0)),
           index := a.index.map (fun e => { e with holds := e.holds - less e }),
           dirty := a.dirty.map (fun d => if gs.contains d.group then { d with own := false, started := false } else d) }

/-- At the close of the epoch with a HANDOVER record the owner clears the groups' bits in its own map and abandons the host-command
tasks of those groups that have not passed their cancellation point (R351 step 1). -/
def handoverClose (gs : List Nat) (toB : Bool) (s : State) : State :=
  let s := forEach gs (fun g s => setOwner g (if toB then 1 else 0) s) s
  let s := { s with arr := handoverTables gs s.arr }
  let mine := fun (t : Task) => match t.group with | some g => gs.contains g | none => false
  let s := forEach (List.range 512) (fun i s =>
    let x := slotOf s i
    if x.st != .free && x.task.typ == 1 && mine x.task && !x.passed then abandonSlot i s else s) s
  forEach ((s.task.q.getD 1 []).filter mine) giveUpBuffer (setQ 1 ((s.task.q.getD 1 []).filter (fun t => !mine t)) s)

/-- What an epoch's close does for its HANDOVER records. -/
def closeRec (r : ERecord) (s : State) : State :=
  match r.body with
  | .handover gs toB => handoverClose gs toB s
  | _ => s

/-- A journaled epoch still has a write whose dirty copy stands, so that no durable commit shows it complete (R338, R355). DEDUCED, unsafe: log 52. -/
def journalNeeded (s : State) (e : EpochSt) : Bool :=
  e.recs.any (fun r => match r.body with
    | .take _ true _ w _ => s.arr.dirty.any (fun d => d.wseq == w)
    | _ => false)

/-- While NUMBER is at or above 2^47 a period below 4,000 ns acts as 4,000 ns (R326). -/
def longPeriod (s : State) : State :=
  if 2 ^ 47 ≤ rget F.PNL_EPOCH_SEQ_NUMBER s then rset F.PNL_EPOCH_PERIOD_ACTIVE_NS (max 4000 (rget F.PNL_EPOCH_PERIOD_ACTIVE_NS s)) s else s

/-- The open epoch closes and the next opens (R325, R326, R338): with the window full it stays open past its period (R327); in SOLO it
is written to the journal ring and its records are confirmed; otherwise it is sent and waits for its REPLY. A number that would pass
its maximum is held, no further epoch opens, and EPOCH_SEQ_END is recorded. DEDUCED, unsafe: log 52. -/
def closeEpoch (s : State) : State :=
  if s.mir.seqEnd then s
  else if !solo s && decide (epochWindow s ≤ s.mir.sent.length) then rflag F.PNL_EPOCH_SEQ_HELD_OPEN true s
  else if !solo s && !rbit F.PNL_CTL_MIRROR_EN s then s
  else
    let num := rget F.PNL_EPOCH_SEQ_NUMBER s
    let e : EpochSt := { num := num, prev := s.mir.prev, recs := s.mir.opened }
    let nxt := max (num + 1) (s.mir.recvMax + 1)
    let s := { s with mir := { s.mir with opened := [], takes := 0, prev := num } }
    let s := if 0xFFFFFFFFFFFF < nxt then
        record Ev.EPOCH_SEQ_END srcPNL 0 [] { s with mir := { s.mir with seqEnd := true } }
      else longPeriod (rset F.PNL_EPOCH_SEQ_NUMBER nxt s)
    let s := rflag F.PNL_EPOCH_SEQ_HELD_OPEN false s
    let s := forEach e.recs closeRec s
    let s := if (solo s && !s.mir.copying) || s.mir.sendPaused then s
      else emit (.epoch { mpv := rget F.PNL_LINK_STATUS_MPV s, number := num, prev := e.prev, ack := s.mir.lastApplied, records := e.recs }) s
    if solo s then settleBarriers (forEach e.recs confirmRec { s with mir := { s.mir with journal := s.mir.journal.filter (journalNeeded s) ++ [e] } })
    else syncSent { s with mir := { s.mir with sent := s.mir.sent ++ [e] } }

/-- A record placed in the open epoch (R325, R331). A write TAKE record takes WSEQ: the epoch's number × 65,536 + its position; an
epoch that would take a 65,537th closes first, and one whose bytes reach MAX_MIB closes. Answers the WSEQ. -/
def addRec (slot : Nat) (group : Option Nat) (r : ERec) (s : State) : Nat × State :=
  let s := if isWriteTake r ∧ 65536 ≤ s.mir.takes then closeEpoch s else s
  let num := rget F.PNL_EPOCH_SEQ_NUMBER s
  let (w, r, s) := match r with
    | .take rd' true id w q =>
      let w := if w = 0 then num * 65536 + s.mir.takes else w
      (w, ERec.take rd' true id w q, { s with mir := { s.mir with takes := s.mir.takes + 1 } })
    | r => (0, r, s)
  let s := { s with mir := { s.mir with opened := s.mir.opened ++ [{ slot := slot, group := group, body := r }] } }
  (w, if epochMaxBytes s ≤ openBytes s then closeEpoch s else s)

/-- The slot number that stands for records made outside a task slot. -/
def noSlot : Nat := 512

/-- A record placed by the Array Runtime outside any host command. -/
def addRec' (group : Option Nat) (r : ERec) (s : State) : State := (addRec noSlot group r s).2

/-! ### Credits (R43, R64, R65) -/

/-- The bytes of set D caddies that hold own or shadow dirty data (R153). -/
def dirtyBytes (own : Bool) (s : State) : Nat :=
  (s.arr.dirty.filter (fun d => d.own == own)).foldl (fun n d => n + d.bytes) 0

/-- The grants outstanding on all controllers. -/
def grantsOut (s : State) : Nat := s.host.ctrls.foldl (fun n p => n + (p.2.grant - p.2.landed)) 0

/-- D of R65. -/
def measureD (s : State) : Nat := max (dirtyBytes true s) (dirtyBytes false s) + grantsOut s

/-- The ceiling C of R65. -/
def ceilingC (d : Nat) : Nat :=
  let g := 2 ^ 30
  if d ≤ 12 * g then 4 * 2 ^ 20
  else if d < 16 * g then 4 * 2 ^ 20 * (16 * g - d) / (4 * g) / 4096 * 4096
  else 0

/-- CMDSEQ_LIMIT of a queue: the highest CMDSEQ completed plus the depth, in the numbers 1 to 0xFFFFFFFF that a CMDSEQ runs through (R43). -/
def cmdseqLimit (k : Nat) (s : State) : Nat := ((hqOf s k).done + (hqOf s k).depth - 1) % (2 ^ 32 - 1) + 1

/-- What a controller may be granted beyond its present grant: the ceiling C on its own outstanding grant, 48 MiB on the sum of all, and 16 GiB on
D (R65). -/
def creditRoom (n : Nat) (s : State) : Nat :=
  let c := ctrlOf s n
  min (ceilingC (measureD s) - (c.grant - c.landed)) (min (48 * 2 ^ 20 - grantsOut s) (16 * 2 ^ 30 - measureD s))

/-- A CREDIT message of a queue: its controller's GRANT_LIMIT and its own CMDSEQ_LIMIT. -/
def sendCredit (n qid : Nat) (s : State) : State :=
  egress (.credit (hbHead 3 { cntlid := n, qid := qid } s) (ctrlOf s n).grant (cmdseqLimit (512 * n + qid) s)) s

/-- GRANT_LIMIT of a controller of the Rearn binding raised as far as the ceilings allow, in steps of 4 KiB (R65). DESIGN CHOICE, unsafe: log 50. -/
def raiseGrant (n : Nat) (s : State) : State :=
  let c := ctrlOf s n
  if c.live && !c.tcp then setCtrl n { c with grant := c.grant + creditRoom n s / 4096 * 4096 } s else s

/-- CREDIT (R65): GRANT_LIMIT raised, and sent on a queue when it rose. DESIGN CHOICE, unsafe: log 50. -/
def grantCredit (n qid : Nat) (s : State) : State :=
  let t := raiseGrant n s
  if (ctrlOf t n).grant = (ctrlOf s n).grant then s else sendCredit n qid t

/-- CREDITs to every live controller (R65). The queue that such a CREDIT names is queue 1. DESIGN CHOICE, unsafe: log 50. -/
def grantAll (s : State) : State := forEach (s.host.ctrls.map (·.1)) (fun n s => grantCredit n 1 s) s

/-! ### Completing a host command (R45, R47, R87) -/

/-- The next CSN of a space, as its counter stands: 0x7FFFFFFF + 1 stands for the wrap to 1 (R45). -/
def nextCsn (n : Nat) : Nat := if 0x80000000 ≤ n then 1 else n

/-- The next CSN of this head's space, bit 31 naming it, and the queue with it issued (R45). -/
def takeCsn (s : State) (q : HQueue) : Nat × HQueue :=
  if headSlot s = 0 then (nextCsn q.nextA, { q with nextA := nextCsn q.nextA + 1 })
  else (0x80000000 + nextCsn q.nextB, { q with nextB := nextCsn q.nextB + 1 })

/-- The CSN issued before `next`, 0 when none was. -/
def lastCsn (next : Nat) : Nat := next - 1

/-- A command leaves its queue: it is no longer open, and CMDSEQ_LIMIT rises with the highest CMDSEQ completed (R43); a CREDIT carries the new
limit on the Rearn binding. -/
def closeCmd (id : CmdId) (s : State) : State :=
  let k := 512 * id.cntlid + id.qid
  let q := hqOf s k
  let up : Bool := seqBefore q.done id.cmdseq
  let s := setHq k { q with open_ := q.open_.filter (· != id.cmdseq), done := if up then id.cmdseq else q.done } s
  if up && !q.tcp && (ctrlOf s id.cntlid).live then sendCredit id.cntlid id.qid s else s

/-- The NVMe status field of a completion (R115). -/
def statusField (c : Cqe) : Nat := c.sc + 256 * c.sct + 2048 * c.crd + (if c.more then 2 ^ 13 else 0) + (if c.dnr then 2 ^ 14 else 0)

/-- A command that failed stands in the error log (R56), the 64 newest first. DESIGN CHOICE, unsafe: log 49. -/
def noteError (m : HbMsg) (cqe : Cqe) (s : State) : State :=
  if statusField cqe = 0 then s else
  let n := ((s.host.errorLog.head?).map (·.count)).getD 0 + 1
  let e : ErrEntry := { count := n, qid := m.id.qid, cid := m.sqe.cid, status := statusField cqe, nsid := m.sqe.nsid }
  { s with host := { s.host with errorLog := (e :: s.host.errorLog).take 64 } }

/-- A completion posted (R45, R46, R87): a LOCAL command's leaves at once with CSN 0; a mirrored one takes its CSN and a CPL record in
the open epoch, and PNL holds it until the record is confirmed. READ marks a read's, REISSUE a replayed one's; an NVMe/TCP one is not
sent by the shadow (R335). -/
def postCpl (slot : Nat) (t : Task) (cqe : Cqe) (mirror : Bool) (s : State) : State :=
  match t.cmd with
  | none => s
  | some m =>
    let k := 512 * m.id.cntlid + m.id.qid
    let s := noteError m cqe s
    if m.loc || !mirror then sendCpl m.id m.tcp false 0 cqe (closeCmd m.id s)
    else
      let (csn, q) := takeCsn s (hqOf s k)
      let s := closeCmd m.id (setHq k q s)
      (addRec slot t.group (.cpl (m.sqe.opc == 2 && m.id.qid != 0) t.replay m.tcp m.id csn cqe) s).2

/-- The slot that a waiting command keeps. -/
def slotHolding (t : Task) (s : State) : Option Nat :=
  if t.cmd.isNone then none else
  lowest 512 (fun i => slotBusy s i && (slotOf s i).task.typ == 1 && ((slotOf s i).task.cmd.map (·.id)) == t.cmd.map (·.id))

/-- A command that waited ends: it completes from its slot, which is released, or, holding none, by itself. -/
def endTask (t : Task) (cqe : Cqe) (s : State) : State :=
  match slotHolding t s with
  | some i => freeSlot i (postCpl i (slotOf s i).task cqe true s)
  | none => postCpl noSlot t cqe true s

/-- Whether a queue still has a command without a CSN, of those listed. -/
def anyOpen (k : Nat) (l : List Nat) (s : State) : Bool := l.any (fun c => (hqOf s k).open_.contains c)

/-- The fences of a queue's reset: the last CSN issued in each space (R68 step 4). -/
def captureFence (k : Nat) (s : State) : State :=
  let q := hqOf s k
  setHq k { q with fenceA := lastCsn q.nextA, fenceB := 0x80000000 + lastCsn q.nextB, sq := false } s

/-- A successful status. -/
def stOk : Cqe := {}

/-- Command Sequence Error. -/
def stSeqErr : Cqe := { sc := 0x0C }

/-- The end of a queue's reset: its fences are captured and the Delete completes with them (R68 step 4); after the admin queue's, which
waits for those of the controller's I/O queues, CSTS.RDY reads 0, and an association that was to end is gone. -/
def endReset (r : Nat × Nat × Option Task) (s : State) : State :=
  let k := 512 * r.1 + r.2.1
  let s := captureFence k s
  match r.2.2 with
  | some t => endTask t { dw0 := (hqOf s k).fenceA, dw1 := (hqOf s k).fenceB } s
  | none =>
    let c := ctrlOf s r.1
    if r.2.1 = 0 then setCtrl r.1 { c with rdy := false, live := c.live && !c.ending, ending := false } s else s

/-- A QUEUE record that stops a queue's intake has not reached the shadow yet, so that a command which only the shadow took in may still be
unknown here (R68 steps 1 and 2). -/
def stopUnknown (n qid : Nat) (s : State) : Bool :=
  let is := fun (r : ERecord) => match r.body with | .queue n' q' _ false _ _ _ _ => n' == n && q' == qid | _ => false
  !solo s && (s.mir.opened.any is || s.mir.sent.any (fun e => e.recs.any is))

/-- Flushes whose earlier writes have completed complete (R67); the resets of queues with no command left, here or at the shadow, end (R68
step 4). -/
def settleQueues (s : State) : State :=
  let (doneF, leftF) := s.host.flushes.partition (fun p => !anyOpen (taskQKey p.1) p.2 s)
  let s := forEach doneF (fun p s => endTask p.1 stOk s) { s with host := { s.host with flushes := leftF } }
  let step := fun (r : Nat × Nat × Option Task) (s : State) =>
    let k := 512 * r.1 + r.2.1
    let waits : Bool := r.2.1 == 0 && s.host.resets.any (fun x => x.1 == r.1 && x.2.1 != 0)
    if (hqOf s k).open_.isEmpty ∧ waits = false ∧ stopUnknown r.1 r.2.1 s = false then
      endReset r { s with host := { s.host with resets := s.host.resets.filter (fun x => !(x.1 == r.1 && x.2.1 == r.2.1)) } }
    else s
  forEach (s.host.resets.filter (fun r => r.2.1 == 0)) step (forEach (s.host.resets.filter (fun r => r.2.1 != 0)) step s)

/-- A host command in a slot completes: the completion is posted, the slot released, and what waited for it settled. -/
def completeSlot (i : Nat) (cqe : Cqe) (s : State) : State :=
  settleQueues (freeSlot i (postCpl i (slotOf s i).task cqe true s))

/-- A host command that waited, or that never had a slot, completes. -/
def completeTask (t : Task) (cqe : Cqe) (s : State) : State := settleQueues (endTask t cqe s)

/-- A status of Table 2.11. PRESUMED, unsafe: log 46. -/
def status (sct sc : Nat) : Cqe := { sct := sct, sc := sc }

def stAborted : Cqe := status 0 0x08
def stInterrupted : Cqe := status 0 0x21
/-- PRESUMED, unsafe: log 46. -/
def stXferErr : Cqe := status 0 0x04
def stInvalidOpcode : Cqe := { sc := 0x01 }
/-- PRESUMED, unsafe: log 46. -/
def stInvalidField : Cqe := { sc := 0x02 }
def stInvalidNs : Cqe := { sc := 0x0B }
def stLbaRange : Cqe := { sc := 0x80 }
def stCapacity : Cqe := status 0 0x81
def stNotReady : Cqe := status 0 0x82
def stWriteProtected : Cqe := { sc := 0x20 }
def stUnrecovered : Cqe := status 2 0x81
def stAnaInaccessible : Cqe := status 3 0x02
def stAnaTransition : Cqe := status 3 0x03
def stBudgetFull : Cqe := status 7 0x80
def stStageTimeout : Cqe := status 7 0x81
def stHandoverRefused : Cqe := status 7 0x82
def stPartnerNotReady : Cqe := status 7 0x83
def stUnreachable : Cqe := status 7 0x84
def stCreditExceeded : Cqe := status 7 0x85
def stSnapLimit : Cqe := status 7 0x86
def stLocalRequired : Cqe := status 7 0x87
def stInvalidImage : Cqe := { sct := 1, sc := 0x07 }
def stActivationProhibited : Cqe := { sct := 1, sc := 0x13 }
def stInvalidLog : Cqe := { sct := 1, sc := 0x09 }
def stInvalidQid : Cqe := { sct := 1, sc := 0x01 }
def stInvalidQsize : Cqe := { sct := 1, sc := 0x02 }
def stInvalidCq : Cqe := { sct := 1, sc := 0x00 }
def stAerLimit : Cqe := { sct := 1, sc := 0x05 }
def stInvalidSlot : Cqe := { sct := 1, sc := 0x06 }

/-! ### What hosts are told of a change (R40, R49, R51, R351) -/

/-- NOTICE on every controller of the Rearn binding that exists (R49). -/
def noticeAll (code : Nat) (s : State) : State :=
  forEach (s.host.ctrls.map (·.1)) (fun n s =>
    if (ctrlOf s n).live && !(ctrlOf s n).tcp then egress (.notice (hbHead 4 { cntlid := n } s) code) s else s) s

/-- A task that stands for a command known by its name alone. -/
def bareTask (id : CmdId) (tcp : Bool) : Task := { typ := 1, group := some 0, cmd := some { id := id, tcp := tcp } }

/-- An asynchronous event of a controller: its oldest held request completes with it. -/
def asyncEvent (n kind : Nat) (s : State) : State :=
  let c := ctrlOf s n
  match c.aers with
  | [] => s
  | id :: rest => completeTask (bareTask id c.tcp) { dw0 := kind } (setCtrl n { c with aers := rest } s)

/-- DW0 of an ANA change notice. PRESUMED, unsafe: log 46. -/
def noticeAna : Nat := 0x0C0302

/-- An ANA change event on every NVMe/TCP controller (R51). -/
def anaChanged (s : State) : State :=
  forEach (s.host.ctrls.map (·.1)) (fun n s => if (ctrlOf s n).live && (ctrlOf s n).tcp then asyncEvent n noticeAna s else s) s

/-- A group moves by planned handover: one asked for, or in a HANDOVER record that is not applied and replied to (R351). -/
def movingGroup (g : Nat) (s : State) : Bool :=
  let is := fun (r : ERecord) => match r.body with | .handover gs _ => gs.contains g | _ => false
  s.mir.moving.any (fun x => x.2.1.contains g) || s.mir.opened.any is || s.mir.sent.any (fun e => e.recs.any is)

/-- A planned handover begins at O (R351 step 1): the HANDOVER record in the open epoch, the move noted with the command that asked for it, the
groups in ANA Transition (R51), NOTICE HANDOVER_START (R40). DESIGN CHOICE, unsafe: log 96. -/
def startMove (gs : List Nat) (toB : Bool) (t : Option Task) (s : State) : State :=
  let num := rget F.PNL_EPOCH_SEQ_NUMBER s
  let s := addRec' none (.handover gs toB) s
  noticeAll 3 (anaChanged { s with mir := { s.mir with moving := s.mir.moving ++ [(num, gs, toB, t)] } })

end Sys2Proof.Machine
end

