-- ==== Sys2Proof/Machine/Jobs.lean ====
section
/-! DEFINITION. Job descriptors, chains and tokens (R121 to R126, R141, R144, R148, R543): posting a chain, choosing a unit, running
the job at the head of a unit's queue, and what its end does. -/

namespace Sys2Proof.Machine

open Sys2Proof

/-! ### Engine classes (Table 4.15) -/

/-- The island of an engine class. -/
def engIsland (e : Nat) : Nat :=
  match e with
  | 1 => 10 | 2 => 11 | 3 => 11 | 4 => 12 | 5 => 12 | 6 => 13 | 7 => 14 | 8 => 18 | _ => 15

/-- The units of a class with several (R543); 0 for the others. -/
def engUnits (e : Nat) : Nat :=
  match e with
  | 1 => 4 | 2 => 4 | 3 => 8 | 4 => 8 | 5 => 8 | 6 => 64 | _ => 0

/-- The OP codes of a class are 0 up to this, exclusive (the engine chapters' tables). -/
def engOps (e : Nat) : Nat :=
  match e with
  | 1 => 3 | 2 => 1 | 3 => 3 | 4 => 1 | 5 => 1 | 6 => 9 | 7 => 6 | 8 => 2 | 9 => 6 | _ => 0

/-- A unit retired (R193, R209, R226, R271). -/
def unitRetired (e u : Nat) (s : State) : Bool :=
  match e with
  | 2 => rtest F.ING_ENGINE_STATUS_CHUNK_RETIRED u s
  | 3 => rtest F.ING_ENGINE_STATUS_SHA3_RETIRED u s
  | 4 => rtest F.CMP_RETIRED_COMP u s
  | 5 => rtest F.CMP_RETIRED_DEC u s
  | 6 => rtest F.CIP_LANE_STATUS_RETIRED u s
  | 7 => rbit F.PAR_STATUS_RETIRED s
  | _ => false

/-- An island powered off: power-gated, or held off by FORCE_OFF (R108, R429). -/
def islandOff (i : Nat) (s : State) : Bool := rtest F.PWR_STATUS_PG i s || rtest F.PWR_ISLAND_GATE_FORCE_OFF i s

/-- The island that holds an address, when it can be gated: a cluster's SRAM (R108). -/
def dataIsland (x : Nat) : Option Nat :=
  if 0x10000000 ≤ x ∧ x < 0x14000000 then some (2 + (x - 0x10000000) / 0x800000) else none

/-- A NET or engine access to the SRAM of an island that P1 gated wakes it (R427). -/
def wakeAt (x : Nat) (s : State) : State :=
  match dataIsland x with
  | some i => ungateIsland i s
  | none => s

/-- The islands that `n` bytes touch woken. -/
def wakeRange (x n : Nat) (s : State) : State := wakeAt x (wakeAt (x + (n - 1)) s)

/-- The place that a job names by address beside its buffers. -/
def jobPlace (d : Desc) : Option Nat :=
  match d.engine, d.op with
  | 3, 1 => some (d.aux / 65536)
  | 6, 0 | 6, 1 => none
  | 6, _ => some (d.aux / 65536)
  | 7, 4 | 8, 0 | 9, 5 => some d.aux
  | _, _ => none

/-- The queue of a unit. -/
def engQueue (e u : Nat) (s : State) : List Chain := kget [] s.eng.q (1024 * e + u)

/-- The queue of a unit replaced. -/
def setEngQueue (e u : Nat) (l : List Chain) (s : State) : State := { s with eng := { s.eng with q := kput s.eng.q (1024 * e + u) l } }

/-! ### Descriptors (Table 4.14) -/

/-- FLAGS bits. -/
def fNotify := 0
def fChain := 1
def fDropIn := 2
def fInPrev := 3
def fOutSet := 4
def fOutAlloc := 5

/-- A flag of a descriptor. -/
def Desc.flag (d : Desc) (b : Nat) : Bool := d.flags.testBit b

/-- A descriptor from its 64 bytes. -/
def parseDesc (at_ : Nat) (l : List Byte) : Desc :=
  let f := fun o n => ofLe ((l.drop o).take n)
  { at_ := at_, engine := f 0 1, op := f 1 1, flags := f 2 2, unit := f 4 1, rsv := f 5 3, inn := f 8 8, inLen := f 16 4,
    outLimit := f 20 4, out := f 24 8, next := f 32 8, aux := f 40 8, tag := f 48 8, param := f 56 8 }

/-- The drive of an NVME job (R242). -/
def nvmeDrive (d : Desc) : Nat := if d.op = 5 then bits d.param 9 0 else bits d.aux 9 0

/-- An NVME job names a drive and, for ZONE_SEND, an action (R242). -/
def nvmeOk (d : Desc) : Bool :=
  (decide (nvmeDrive d < 416) || (decide (512 ≤ nvmeDrive d) && decide (nvmeDrive d < 536))) &&
    (d.op != 3 || (decide (1 ≤ bits d.param 35 32) && decide (bits d.param 35 32 ≤ 4)))

/-- A length that a COMP or CIPHER operation allows (R199, Table 7.5). -/
def lenOk (e op n : Nat) : Bool :=
  match e, op with
  | 4, _ => n != 0 && decide (n ≤ 262144)
  | 6, 0 => decide (14 ≤ n) && decide (n ≤ 262163)
  | 6, 1 => decide (62 ≤ n) && decide (n ≤ 262211)
  | 6, 2 | 6, 3 => n % 4096 == 0 && decide (n ≤ 0x200000)
  | 6, 4 | 6, 5 => n % 16 == 0 && decide (n ≤ 0x200000)
  | 6, _ => n != 0 && decide (n ≤ 0x200000)
  | _, _ => true

/-- The bits that a mask names are the only ones set. -/
def onlyBits (v mask : Nat) : Bool := v &&& mask == v

/-- The input fields are 0, in an operation that has no input. -/
def noIn (d : Desc) : Bool := d.inn == 0 && d.inLen == 0 && !d.flag fInPrev

/-- The output fields are 0, in an operation that has no output. -/
def noOut (d : Desc) : Bool := d.out == 0 && d.outLimit == 0 && !d.flag fOutAlloc

/-- The fields an operation does not use are 0, and those it uses lie in their ranges (R122): MOVE R150, CHUNK R163, SHA3 R167, COMP R199,
DECOMP R204, CIPHER R211, PARITY R235, EPOCH R332, NVME R242. DEDUCED, unsafe: log 38. -/
def bodyOk (d : Desc) : Bool :=
  match d.engine with
  | 1 =>
    (match d.op with
      | 0 => d.aux == 0 && d.param == 0
      | 1 => d.aux == 0 && d.inn == 0 && decide (d.param < 256)
      | _ => decide (d.aux < 2 ^ 32) && d.param == 0)
  | 2 => d.aux == 0 && decide (d.param < 2)
  | 3 => bits d.aux 15 12 == 0 && d.param == 0 &&
    (match d.op with
      | 0 => decide (d.aux < 65536) && d.out == 0
      | 1 => d.aux / 65536 % 32 == 0
      | _ => decide (d.aux < 65536))
  | 4 => d.aux == 0 && decide (d.param % 16 ≤ 9) &&
    d.param == d.param % 16 + (if d.param.testBit 8 then 256 else 0) + bits d.param 31 16 * 65536
  | 5 => d.aux == 0 && decide (d.param < 2 ^ 32)
  | 6 => bits d.aux 15 12 == 0 &&
    (match d.op with
      | 0 => decide (d.aux < 65536) && decide (d.param < 2 ^ 32)
      | 1 => decide (d.aux < 65536) && d.param == 0
      | _ => bits d.aux 19 16 == 0 && d.param == 0)
  | 7 =>
    (match d.op with
      | 0 => onlyBits d.param 0x1F3F003F && d.aux == 0 && noIn d && noOut d
      | 1 => onlyBits d.param 0x1F3F && d.aux == 0 && noOut d
      | 2 => onlyBits d.param 0x3F && decide (d.aux < 2 ^ 32) && noIn d
      | 3 => onlyBits d.param 0x3F && decide (d.aux < 2 ^ 32) && noOut d
      | 4 => d.param == 0 && decide (d.aux < 2 ^ 48) && d.aux % 64 == 0 && noIn d && noOut d
      | _ => onlyBits d.param 0x3F && d.aux == 0 && noIn d && noOut d)
  | 8 => d.op != 0 ||
    (decide (d.aux < 2 ^ 48) && d.aux % 16 == 0 && decide (d.param < 2 ^ 33) && decide (16 ≤ d.param % 2 ^ 32) && decide (d.param % 2 ^ 32 ≤ 4096))
  | 9 =>
    (match d.op with
      | 0 | 2 => decide (d.aux < 1024) && decide (d.param < 2 ^ 48)
      | 1 => onlyBits d.aux 0x1F3F0103FF
      | 3 => decide (d.aux < 1024) && decide (d.param < 2 ^ 36)
      | 4 => decide (d.aux < 1024) && decide (d.param < 2 ^ 32)
      | _ => decide (d.aux < 2 ^ 48) && decide (d.param < 1024))
  | _ => true

/-- What a job's body gives to check at post (R122, R207): its fields, and the length where IN_LEN gives it. -/
def codecOk (d : Desc) : Bool := bodyOk d && (d.flag fInPrev || d.inLen == 0 || lenOk d.engine d.op d.inLen)

/-- The checks of one descriptor at post (R122, R207, R543). -/
def descOk (first : Bool) (d : Desc) : Bool :=
  decide (d.op < engOps d.engine) && d.rsv == 0 && decide (d.flags < 64) &&
  (d.flag fChain == (d.next != 0)) && !(first && d.flag fInPrev) && !(d.flag fOutAlloc && d.outLimit == 0) &&
  (engUnits d.engine == 0 || d.unit == 0xFF || decide (d.unit < engUnits d.engine)) && (d.engine != 9 || nvmeOk d) && codecOk d

/-- The checks of a chain at post (R122): every descriptor, at most 8, and the last one ends the chain. -/
def chainOk : List Desc → Bool
  | [] => false
  | d :: l => descOk true d && l.all (descOk false) && decide (l.length < 8) && !((d :: l).getLastD d).flag fChain

/-! ### How a job ends (R126) -/

/-- How a job ended. -/
structure JobRes where
  status : Nat := 0
  outBytes : Nat := 0
  /-- The output buffer and offset written, for a job that wrote one. -/
  outHandle : Option Nat := none
  /-- The buffer this job took under OUT_ALLOC. -/
  alloc : Option Nat := none
  /-- The unit it ran on. -/
  unit : Nat := 0

/-- Status codes (R126). -/
def jOk := 0x00
def jOutFull := 0x01
def jCheckFail := 0x02
def jVerifyFail := 0x03
def jKeyInvalid := 0x04
def jNonceEnd := 0x05
def jLaneRetired := 0x06
def jBadDesc := 0x07
def jBufFault := 0x08

/-- The error counters of the engine islands (R195, R229, R272): a job that ended with a status they count. -/
def countJob (e st : Nat) (s : State) : State :=
  match e with
  | 2 | 3 =>
    if st = jBadDesc then rinc F.ING_ERR_CNT_BAD_DESC 1 s else if st = jBufFault then rinc F.ING_ERR_CNT_BUF_FAULT 1 s else s
  | 4 | 5 =>
    if st = jBadDesc then rinc F.CMP_ERR_CNT_BAD_DESC 1 s
    else if st = jOutFull then rinc F.CMP_ERR_CNT_OUT_FULL 1 s
    else if st = jVerifyFail ∧ e = 4 then rinc F.CMP_ERR_CNT_VERIFY_FAIL 1 s
    else if st = jCheckFail ∧ e = 5 then rinc F.CMP_ERR_CNT_CHECK_FAIL 1 s else s
  | 7 =>
    if st = jBadDesc then rinc F.PAR_ERR_CNT_BAD_DESC 1 s
    else if st = jCheckFail then rinc F.PAR_ERR_CNT_CHECK_FAIL 1 s
    else if st = jBufFault then rinc F.PAR_ERR_CNT_BUF_FAULT 1 s else s
  | _ => s

/-! ### Inputs and outputs of a job -/

/-- The handle, offset and length a job reads: the previous job's output under IN_PREV, else IN, whose length 0 means the fill length
from the offset (Table 4.14). -/
def inputOf (c : Chain) (d : Desc) (s : State) : Nat × Nat × Nat :=
  if d.flag fInPrev then (c.prevOut % 2 ^ 32, c.prevOut / 2 ^ 32, c.prevLen)
  else
    let h := d.inn % 2 ^ 32
    let o := d.inn / 2 ^ 32
    (h, o, if d.inLen = 0 then (bufOf h s).fill - o else d.inLen)

/-- FIRST_SRC of an engine (Table 5.6). -/
def engSrc (d : Desc) : Nat := 0x80 + d.engine

/-- `n` bytes at an offset of a handle's buffer, checked (R145); `none` is BUF_FAULT. -/
def readBuf (d : Desc) (h o n : Nat) (s : State) : Option (List Byte) × State :=
  match checkHandle .engine h (o + n) s with
  | .error e => (none, bpmFail (engSrc d) e h s)
  | .ok h => readMem (bufAddr h s + o) n s

/-- The output buffer of a job: its handle, offset and the bytes it may take; under OUT_ALLOC it is taken from the smallest caddy of
OUT_SET that holds OUT_LIMIT (R122). `none` is BUF_FAULT. DEDUCED, unsafe: log 38. -/
def outBuf (d : Desc) (s : State) : Option (Nat × Nat × Nat × Bool) × State :=
  if d.flag fOutAlloc then
    if 5 ≤ caddyFor d.outLimit then (none, s) else
    match bpmAlloc .eng (if d.flag fOutSet then 1 else 0) (caddyFor d.outLimit) s with
    | (none, s) => (none, s)
    | (some h, s) => (some (h, 0, d.outLimit, true), s)
  else
    let h := d.out % 2 ^ 32
    let o := d.out / 2 ^ 32
    let cap := if d.outLimit = 0 then caddySize (hCad h) - o else d.outLimit
    match checkHandle .engine h (o + cap) s with
    | .error e => (none, bpmFail (engSrc d) e h s)
    | .ok h => (some (h, o, cap, false), s)

/-- Bytes written to a buffer; its fill length becomes the offset plus the bytes written (R144). -/
def writeBuf (h o : Nat) (l : List Byte) (s : State) : State := setFill h (o + l.length) (memWrite (bufAddr h s + o) l s)

/-- A job that reads IN whole and writes bytes to OUT: the input read, the output buffer found, `f` applied. `f` answers a status and
what to write; a status other than OK writes nothing, and more bytes than OUT takes give OUT_FULL. -/
def runInOut (c : Chain) (d : Desc) (f : List Byte → State → Nat × List Byte × State) (s : State) : JobRes × State :=
  let (h, o, n) := inputOf c d s
  match readBuf d h o n s with
  | (none, s) => ({ status := jBufFault }, s)
  | (some data, s) =>
    match outBuf d s with
    | (none, s) => ({ status := jBufFault }, s)
    | (some (oh, oo, cap, al), s) =>
      let (st, res, s) := f data s
      let alloc := if al then some oh else none
      if st ≠ jOk then ({ status := st, alloc := alloc }, s)
      else if cap < res.length then ({ status := jOutFull, alloc := alloc }, s)
      else ({ outBytes := res.length, outHandle := some (oo * 2 ^ 32 + oh), alloc := alloc }, writeBuf oh oo res s)

/-! ### Sending a chain to a unit (R543, R108) -/

/-- The bytes of a job that is queued: its input as resolved (R121), or what a FILL writes. DEDUCED, unsafe: log 38. -/
def jobBytes (c : Chain) (s : State) : Nat :=
  match c.descs with
  | [] => 0
  | d :: _ => if d.engine = 1 ∧ d.op = 1 then d.outLimit else (inputOf c d s).2.2

/-- The bytes queued on a unit: those of the job of each chain that waits there; a chain's later jobs are queued when their turn comes (R123). -/
def queuedBytes (e u : Nat) (s : State) : Nat := (engQueue e u s).foldl (fun n c => n + jobBytes c s) 0

/-- The unit a job goes to; `none` for LANE_RETIRED. -/
def chooseUnit (d : Desc) (s : State) : Option Nat :=
  let n := engUnits d.engine
  if n = 0 then if unitRetired d.engine 0 s then none else some (if d.engine = 9 then nvmeDrive d else 0)
  else if d.unit ≠ 0xFF then if unitRetired d.engine d.unit s then none else some d.unit
  else (List.range n).foldl (fun b u =>
    if unitRetired d.engine u s then b else
    match b with
    | none => some u
    | some w => if queuedBytes d.engine u s < queuedBytes d.engine w s then some u else b) none

/-- The queue a job would go to has no room (R121); its depth, which the spec does not give, is a free value of at least 1. DESIGN CHOICE, safe:
log 87. DESIGN CHOICE, safe: log 87. -/
def engineFull (d : Desc) (s : State) : Bool :=
  !rtest F.PWR_ISLAND_GATE_FORCE_OFF (engIsland d.engine) s &&
  (match chooseUnit d s with
    | some u => decide (max 1 (Config.queueDepth d.engine) ≤ (engQueue d.engine u s).length)
    | none => false)

/-- OUT of a COMP, DECOMP or CIPHER job that failed: its fill length becomes the job's output offset (R207), where OUT names a live buffer. -/
def clearOut (d : Desc) (s : State) : State :=
  if d.engine < 4 ∨ 6 < d.engine ∨ d.flag fOutAlloc then s else
  match checkHandle .engine (d.out % 2 ^ 32) 0 s with
  | .ok h => setFill h (d.out / 2 ^ 32) s
  | .error _ => s

/-- The end of a chain whose last job run is `d` (R123, R148): its OUT_ALLOC buffers are dropped, but for the output of a last job that
ended OK, and the token completes; a job of the Array Runtime's own is noted with how it ended. -/
def endChain (c : Chain) (d : Desc) (r : JobRes) (s : State) : State :=
  let keep := if r.status = jOk then c.allocs.filter (fun h => some h != r.outHandle.map (· % 2 ^ 32)) else c.allocs
  let s := countJob d.engine r.status (dropAll keep (if r.status = jOk then s else clearOut d s))
  if c.ar ≠ .none then
    { s with eng := { s.eng with ended := s.eng.ended ++ [{ work := c.ar, status := r.status, bytes := r.outBytes, out := r.outHandle.getD 0, unit := r.unit }] } }
  else
    tokComplete c.ctx c.entry c.serial
      { engine := d.engine, outBytes := r.outBytes, status := r.status, descAddr := d.at_,
        outHandle := if r.status ≠ jOk ∧ r.alloc.isSome then 0 else r.outHandle.getD 0 % 2 ^ 32, tag := c.tag, notify := c.notify } s

/-- ISLAND_ACCESS_OFF (R108). -/
def recordAccessOff (island addr : Nat) (s : State) : State := record Ev.ISLAND_ACCESS_OFF island 0 (pack [(8, addr)]) s

/-- A chain stops at a job that did not end OK: the buffer the job took is dropped (R148). -/
def stopChain (c : Chain) (d : Desc) (r : JobRes) (s : State) : State := endChain c d r (dropAll r.alloc.toList s)

/-- How a job ends that no unit takes: LANE_RETIRED, after the checks that R207 puts before it. -/
def noUnit (c : Chain) (d : Desc) (s : State) : JobRes × State :=
  if d.engine < 4 ∨ 6 < d.engine then ({ status := jLaneRetired }, s) else
  let (h, o, n) := inputOf c d s
  match checkHandle .engine h (o + n) s with
  | .error e => ({ status := jBufFault }, bpmFail (engSrc d) e h s)
  | .ok _ =>
    match outBuf d s with
    | (none, s) => ({ status := jBufFault }, s)
    | (some (oh, _, _, al), s) =>
      ({ status := if lenOk d.engine d.op n then jLaneRetired else jBadDesc, alloc := if al then some oh else none }, s)

/-- A job that no unit takes ends its chain. -/
def endNoUnit (c : Chain) (d : Desc) (s : State) : State := let (r, s) := noUnit c d s; stopChain c d r s

/-- A chain sent to its next job's unit: LANE_RETIRED when it is retired or its island is held off; a P1-gated island wakes (R108). -/
def postChain (c : Chain) (s : State) : State :=
  match c.descs with
  | [] => s
  | d :: _ =>
    let i := engIsland d.engine
    if rtest F.PWR_ISLAND_GATE_FORCE_OFF i s then endNoUnit c d (recordAccessOff i d.at_ s)
    else match chooseUnit d s with
      | none => endNoUnit c d s
      | some u =>
        let s := if 2 ≤ i then ungateIsland i s else s
        setEngQueue d.engine u (engQueue d.engine u s ++ [c]) s

/-- A unit retires (R543): every job queued on it that has not started ends with LANE_RETIRED. -/
def flushUnit (e u : Nat) (s : State) : State :=
  let l := engQueue e u s
  forEach l (fun c s => match c.descs with | d :: _ => endNoUnit c d s | [] => s) (setEngQueue e u [] s)

/-! ### The end of a job -/

/-- DROP_IN (R123, R145, R149): the input handle is dropped; a check that fails is reported, and answered with `false`. -/
def dropIn (d : Desc) (h : Nat) (s : State) : Bool × State :=
  match checkHandle .bdrop h 0 s with
  | .error e => (false, bpmFail (engSrc d) e h s)
  | .ok h => (true, dropRef h s)

/-- A job of a chain has ended (R123, R148, R149): on a status other than OK the chain stops; on OK DROP_IN acts, whose failed check makes the
status BUF_FAULT, and the next descriptor is sent on, or the chain ends. DEDUCED, unsafe: log 38. -/
def finishJob (c : Chain) (d : Desc) (r : JobRes) (s : State) : State :=
  if r.status ≠ jOk then stopChain c d r s
  else
    let inH := (inputOf c d s).1
    let (dropped, s) := if d.flag fDropIn then dropIn d inH s else (true, s)
    if !dropped then stopChain c d { r with status := jBufFault } s else
    let allocs := (if d.flag fDropIn then c.allocs.filter (· != inH) else c.allocs) ++ r.alloc.toList
    let c := { c with allocs := allocs, prevOut := r.outHandle.getD 0, prevLen := r.outBytes, descs := c.descs.drop 1 }
    if c.descs.isEmpty then endChain c d r s else postChain c s

/-- A job taken from the head of its unit's queue: the island of a place that it names is woken (R427). -/
def takeJob (e u : Nat) (rest : List Chain) (d : Desc) (s : State) : State := forEach (jobPlace d).toList wakeAt (setEngQueue e u rest s)

/-- The job at the head of a unit's queue runs when it is one that `p` names; otherwise the command finds no such job and changes
nothing. A unit on a powered-off island runs none. DESIGN CHOICE, safe: log 27. DEDUCED, unsafe: log 38. -/
def runUnit (e u : Nat) (p : Desc → Bool) (f : Chain → Desc → State → JobRes × State) (s : State) : State :=
  if islandOff (engIsland e) s then s else
  match engQueue e u s with
  | [] => s
  | c :: rest =>
    match c.descs with
    | [] => setEngQueue e u rest s
    | d :: _ =>
      if p d then
        let (r, s) := f c d (takeJob e u rest d s)
        finishJob c d { r with unit := u } s
      else s

/-! ### Places a job or a command names by address -/

/-- The core of a context (R124). -/
def ctxCore (x : Nat) : CoreId := if x < 512 then Fin.ofNat 66 (x / 8) else Fin.ofNat 66 (64 + (x - 512) % 2)

/-- The address lies in core-local SRAM, cluster SRAM or DRAM of core `c`, or with `pair` in pair SRAM. -/
def dataPlace (c : CoreId) (a : Nat) (pair : Bool) (s : State) : Bool :=
  decide (a < 2 ^ 48) && (match regionOf c a s with
    | some .coreLocal | some .cluster | some .dram => true
    | some .pairSram => pair
    | _ => false)

/-! ### MOVE (R150) -/

/-- The places that a job names beside its buffers lie where its engine may reach (R211, R237, R242, R332), as checked at post. -/
def placeOk (c : CoreId) (d : Desc) (s : State) : Bool :=
  match d.engine, d.op with
  | 6, 0 | 6, 1 => true
  | 6, _ => dataPlace c (d.aux / 65536) false s
  | 7, 4 => dataPlace c d.aux false s
  | 8, 0 => dataPlace c d.aux false s
  | 9, 5 => dataPlace c d.aux true s
  | _, _ => true

/-- A job that only answers a status. -/
def justStatus (n : Nat) (s : State) : JobRes × State := ({ status := n }, s)

/-- COPY: IN_LEN bytes from IN to OUT; more than OUT can take ends with OUT_FULL and writes nothing. -/
def moveCopy (c : Chain) (d : Desc) (s : State) : JobRes × State :=
  if d.aux ≠ 0 ∨ d.param ≠ 0 then justStatus jBadDesc s else runInOut c d (fun data s => (jOk, data, s)) s

/-- FILL: OUT_LIMIT bytes of the PARAM byte at OUT; IN must be 0. -/
def moveFill (_c : Chain) (d : Desc) (s : State) : JobRes × State :=
  if d.aux ≠ 0 ∨ d.inn ≠ 0 ∨ 256 ≤ d.param then justStatus jBadDesc s else
  match outBuf d s with
  | (none, s) => justStatus jBufFault s
  | (some (oh, oo, cap, al), s) =>
    ({ outBytes := cap, outHandle := some (oo * 2 ^ 32 + oh), alloc := if al then some oh else none },
      writeBuf oh oo (List.replicate cap (BitVec.ofNat 8 d.param)) s)

/-- The offset of the first difference of two byte lists, or their length. -/
def firstDiff : List Byte → List Byte → Nat
  | a :: l, b :: m => if a = b then firstDiff l m + 1 else 0
  | _, _ => 0

/-- COMPARE: IN_LEN bytes at IN with the same number at AUX [31:0]; output bytes are the offset of the first difference. -/
def moveCompare (c : Chain) (d : Desc) (s : State) : JobRes × State :=
  if d.param ≠ 0 ∨ 2 ^ 32 ≤ d.aux then justStatus jBadDesc s else
  let (h, o, n) := inputOf c d s
  match readBuf d h o n s with
  | (none, s) => justStatus jBufFault s
  | (some x, s) =>
    match readBuf d d.aux 0 n s with
    | (none, s) => justStatus jBufFault s
    | (some y, s) => ({ outBytes := firstDiff x y }, s)

/-- COPY on a MOVE unit. -/
def opCopy (u : Fin 4) (s : State) : State := runUnit 1 u.val (·.op == 0) moveCopy s
/-- FILL on a MOVE unit. -/
def opFill (u : Fin 4) (s : State) : State := runUnit 1 u.val (·.op == 1) moveFill s
/-- COMPARE on a MOVE unit. -/
def opCompare (u : Fin 4) (s : State) : State := runUnit 1 u.val (·.op == 2) moveCompare s

end Sys2Proof.Machine
end

