-- ==== Sys2Proof/Machine/Operands.lean ====
section
/-! DEFINITION. The operand forms and the arithmetic of Dyris (R112 to R114, Tables 4.8 to 4.13), as functions on words. -/

namespace Sys2Proof.Machine

open Sys2Proof

/-- Kind S: sign-extended to 64 bits (R112). -/
def immS (i : BitVec 16) : Word := i.signExtend 64

/-- Kind Z: zero-extended (R112). -/
def immZ (i : BitVec 16) : Word := i.zeroExtend 64

/-- A branch or jump target: PC + 4 × the sign-extended offset (R112). -/
def branchTarget {n : Nat} (pc : Word) (off : BitVec n) : Word := pc + 4 * off.signExtend 64

/-- 1 or 0. -/
def boolWord (b : Bool) : Word := if b then 1 else 0

/-- The count of leading zeros, 0 to 64 (Table 4.8). -/
def clz64 (x : Word) : Word := if x = 0 then 64 else BitVec.ofNat 64 (63 - Nat.log2 x.toNat)

/-- The lowest set bit at or above `i`, `n` bits to try. -/
def ctzFrom (x : Word) : Nat → Nat → Nat
  | 0, i => i
  | n + 1, i => if x.toNat.testBit i then i else ctzFrom x n (i + 1)

/-- The count of trailing zeros, 0 to 64 (Table 4.8). -/
def ctz64 (x : Word) : Word := BitVec.ofNat 64 (ctzFrom x 64 0)

/-- The set bits among the low `n`. -/
def popFrom (x : Word) : Nat → Nat
  | 0 => 0
  | n + 1 => popFrom x n + (if x.toNat.testBit n then 1 else 0)

/-- The set bits of a word (Table 4.8). -/
def popc64 (x : Word) : Word := BitVec.ofNat 64 (popFrom x 64)

/-- The bytes of a word reversed (Table 4.8). -/
def bswap64 (x : Word) : Word :=
  x.extractLsb' 0 8 ++ x.extractLsb' 8 8 ++ x.extractLsb' 16 8 ++ x.extractLsb' 24 8 ++
  x.extractLsb' 32 8 ++ x.extractLsb' 40 8 ++ x.extractLsb' 48 8 ++ x.extractLsb' 56 8

/-- A shift amount: bits [5:0]. -/
def shamt (x : Word) : Nat := x.toNat % 64

/-- The effect of a register ALU operation on gd (Table 4.8). -/
def aluOp (o : AluOp) (a b : Word) : Word :=
  match o with
  | .add => a + b
  | .sub => a - b
  | .and => a &&& b
  | .or => a ||| b
  | .xor => a ^^^ b
  | .sll => a <<< shamt b
  | .srl => a >>> shamt b
  | .sra => a.sshiftRight (shamt b)
  | .slt => boolWord (a.slt b)
  | .sltu => boolWord (a.ult b)
  | .mul => a * b
  | .mulhu => BitVec.ofNat 64 (a.toNat * b.toNat / 2 ^ 64)
  | .div => if b = 0 then BitVec.allOnes 64 else a.sdiv b
  | .divu => if b = 0 then BitVec.allOnes 64 else a / b
  | .rem => if b = 0 then a else a.srem b
  | .remu => if b = 0 then a else a % b
  | .min => if a.slt b then a else b
  | .max => if a.slt b then b else a
  | .minu => if a.ult b then a else b
  | .maxu => if a.ult b then b else a
  | .clz => clz64 a
  | .ctz => ctz64 a
  | .popc => popc64 a
  | .bswap => bswap64 a
  | .rotr => a.rotateRight (shamt b)
  | .andn => a &&& ~~~b

/-- b must be 0 (Table 4.8). -/
def aluUnary (o : AluOp) : Bool :=
  match o with
  | .clz | .ctz | .popc | .bswap => true
  | _ => false

/-- The cycles of a register ALU operation, at least (Table 4.8). -/
def aluCycles (o : AluOp) : Nat :=
  match o with
  | .mul | .mulhu => 3
  | .div | .divu | .rem | .remu => 4
  | _ => 1

/-- The effect of an immediate ALU operation on gd (Table 4.9). -/
def immOp (o : ImmOp) (a : Word) (i : BitVec 16) : Word :=
  match o with
  | .addi => a + immS i
  | .andi => a &&& immZ i
  | .ori => a ||| immZ i
  | .xori => a ^^^ immZ i
  | .clti => boolWord (a.slt (immS i))
  | .cltiu => boolWord (a.ult (immZ i))
  | .slli => a <<< (i.toNat % 64)
  | .srli => a >>> (i.toNat % 64)
  | .srai => a.sshiftRight (i.toNat % 64)
  | .lmi => (0 : BitVec 32) ++ i ++ a.extractLsb' 0 16
  | .lhi => (0 : BitVec 16) ++ i ++ a.extractLsb' 0 32
  | .lxi => i ++ a.extractLsb' 0 48

/-- imm[15:6] must be 0 (Table 4.9). -/
def immShift (o : ImmOp) : Bool :=
  match o with
  | .slli | .srli | .srai => true
  | _ => false

/-- The bytes a load or store moves (Table 4.10). -/
def memSize (o : MemOp) : Nat :=
  match o with
  | .lb | .lbu | .sb => 1
  | .lh | .lhu | .sh => 2
  | .lw | .lwu | .sw => 4
  | .ld | .sd => 8

/-- A store. -/
def memStore (o : MemOp) : Bool :=
  match o with
  | .sb | .sh | .sw | .sd => true
  | _ => false

/-- The value a load writes to gd from the bytes read, as a number (Table 4.10). -/
def loadExtend (o : MemOp) (n : Nat) : Word :=
  match o with
  | .lb => (BitVec.ofNat 8 n).signExtend 64
  | .lh => (BitVec.ofNat 16 n).signExtend 64
  | .lw => (BitVec.ofNat 32 n).signExtend 64
  | _ => BitVec.ofNat 64 n

/-- The condition of a branch (Table 4.11). -/
def brTaken (o : BrOp) (a b : Word) : Bool :=
  match o with
  | .beq => a == b
  | .bne => a != b
  | .blt => a.slt b
  | .bge => !a.slt b
  | .bltu => a.ult b
  | .bgeu => !a.ult b

/-- The result of an atomic operation on the old value and gb, on `n`-bit values; `d` is what gd held (R114). -/
def amoOp {n : Nat} (o : AmoOp) (old b d : BitVec n) : BitVec n :=
  match o with
  | .swap => b
  | .add => old + b
  | .and => old &&& b
  | .or => old ||| b
  | .xor => old ^^^ b
  | .min => if old.slt b then old else b
  | .max => if old.slt b then b else old
  | .minu => if old.ult b then old else b
  | .maxu => if old.ult b then b else old
  | .cas => if old = d then b else old

end Sys2Proof.Machine
end

