-- ==== Sys2Proof/Machine/Dyris.lean ====
section
/-! DEFINITION. Dyris instructions (R98 to R130): the frame every instruction runs in, and the ALU, branch, memory, atomic, special
register, token, job, buffer and level instructions. Control-space access and SEND are in ControlBus.lean and Rearn.lean, WAITP in Power.lean. -/

namespace Sys2Proof.Machine

open Sys2Proof

/-! ### Events around an instruction -/

/-- A hook was cut off (R93, R94): the Array Runtime records it and counts it. DESIGN CHOICE, safe: log 37. -/
def hookFailed (c : CoreId) (hook : Nat) (overrun : Bool) (s : State) : State := hookErr (coreSource c) hook overrun s

/-- An exception raised by an instruction of core `c` (R103): taken, and when it cuts a hook off, the Array Runtime's record of it. DEDUCED, unsafe: log 35. -/
def raise (c : CoreId) (e : Exc) (s : State) : State :=
  if privOf s c = 2 ∧ e.cause ≠ 0x0B then hookFailed c (coreOf s c).hook (e.cause == 0x08) (takeException c e s)
  else takeException c e s

/-- A retired core (R84, R133): its DPC_CORE_RETIRED bit set and its TSK_SLOT_MAP bit cleared, its tasks placed again, its host commands
past their cancellation point completed with Command Interrupted. -/
def retireCore (c : Nat) (s : State) : State :=
  let s := rputBit F.TSK_SLOT_MAP_CORE_EN c false (rputBit F.DPC_CORE_RETIRED_CORES c true s)
  let (past, s) := releaseCore c s
  settleQueues (forEach past (fun x s => postCpl noSlot x.task stInterrupted true s) s)

/-- PARITY (R109): the register's parity check failed. The error is counted, the exception taken in S, and the handler releases the
slot and has its task placed again; at the counter's threshold the core is retired. DEDUCED, unsafe: log 35. -/
def parityError (c : CoreId) (r : Rn) (s : State) : State :=
  let x := ctxOf s c
  let busy := !isPair c && !(coreOf s c).start
  let s := takeException c { cause := 0x0B, sub := r.val } s
  if isPair c then s else
  let s := rinc F.DPC_CORE_STATUS_PARITY_ERRS 1 s c.val
  let s := if busy then
      let sl := slotOf s x
      let s := freeSlot x s
      if sl.task.typ = 1 ∧ sl.passed then settleQueues (postCpl noSlot sl.task stInterrupted true s)
      else placeAgain sl s
    else s
  let (hit, s) := fltError 4 c.val s
  if hit then
    let s := if fltActs 4 s then retireCore c.val s else s
    record Ev.CORE_RETIRED (coreSource c) c.val [] s
  else s

/-- A lockstep comparison (R131): a mismatch discards the instruction's results and runs it again; a second one halts the pair and
HB_OUT stops. Answers whether the pair halted. DESIGN CHOICE, safe: log 42. -/
def lockstep (c : CoreId) (s : State) : Bool × State :=
  let n := s.cpu.mismatch.getD (c.val - 64) 0
  if ¬ isPair c ∨ n = 0 then (false, s) else
  let s := { s with cpu := { s.cpu with mismatch := listSet s.cpu.mismatch (c.val - 64) 0 } }
  let s := record Ev.LOCKSTEP_RETRY srcSUP (c.val - 64) [] s
  if n = 1 then (false, s)
  else
    let s := record Ev.LOCKSTEP_HALT srcSUP (c.val - 64) [] s
    let s := setCore c { coreOf s c with lockHalt := true } s
    (true, { s with fence := { s.fence with hbOut := false, hbStopped := true } })

/-! ### Fetch (R101, R104, R105, R112, R132) -/

/-- Bytes from `a` up to `a + n` lie in hook region `k`; bits [11:0] of BASE and LIMIT are ignored (R101). -/
def inHookRegion (k : Core) (i a n : Nat) : Bool :=
  let base := bits (k.hrg.getD (2 * i) 0).toNat 47 12 * 4096
  let lim := bits (k.hrg.getD (2 * i + 1) 0).toNat 47 12 * 4096
  decide (base ≤ a) && decide (a + n ≤ lim)

/-- An access in H (Table 4.4): within a region that permits it, and in core-local SRAM, cluster SRAM or DRAM. -/
def hookMayReach (c : CoreId) (s : State) (a n : Nat) (write fetch : Bool) : Bool :=
  let k := coreOf s c
  let reg := if fetch then inHookRegion k 0 a n else if write then inHookRegion k 3 a n
             else inHookRegion k 0 a n || inHookRegion k 1 a n || inHookRegion k 2 a n || inHookRegion k 3 a n
  reg && (match regionOf c a s with | some .coreLocal | some .cluster | some .dram => true | _ => false)

/-- The exception a fetch at the PC meets, in the order of R107; a misaligned target raises ALIGN at fetch (R112). ALIGN and BUS_ERR on fetch, which the
order does not place, come before ILLEGAL and PRIV. DEDUCED, unsafe: log 35. DESIGN CHOICE, unsafe: log 88. -/
def fetchFault (c : CoreId) (s : State) : Option Exc :=
  let pc := pcOf s c
  let a := pc.toNat
  let r := if a < 2 ^ 48 then regionOf c a s else none
  let exec := match r with
    | some .coreLocal => true | some .cluster => true | some .dram => true | some .control => true
    | some .pairSram => privOf s c == 0 | some .rom => privOf s c == 0 | _ => false
  let first := !(coreOf s c).first || (match r with | some .cluster | some .dram => true | _ => false)
  if privOf s c = 2 then
    if r.isNone then some { cause := 0x04, sub := 1, addr := pc }
    else if !hookMayReach c s a 4 false true then some { cause := 0x07, sub := 2, addr := pc }
    else if a % 4 ≠ 0 then some { cause := 0x03, addr := pc } else none
  else if !exec || !first then some { cause := 0x04, sub := 1, addr := pc }
  else if a % 4 ≠ 0 then some { cause := 0x03, addr := pc }
  else if r = some .control then some { cause := 0x05, addr := pc }
  else none

/-! ### The frame of an instruction -/

/-- What the body of an instruction answers: it completes and the PC moves on; it jumps; it waits, to be executed again; it raises an
exception, having no effect but what the state given carries; it completes and then raises ISLAND_OFF; it leaves its slot. -/
inductive IRes where
  | done (s : State)
  | jump (s : State) (pc : Word)
  | stay (s : State)
  | exc (e : Exc) (s : State)
  | off (e : Exc) (s : State)
  | left (s : State)

/-- The cycles and the instruction counted (Table 4.1). -/
def countInstr (c : CoreId) (n : Nat) (s : State) : State :=
  let k := coreOf s c
  setCore c { k with cycle := k.cycle + BitVec.ofNat 64 n, instret := k.instret + 1, first := false } s

/-- An instruction of `n` cycles retires: it is counted, and in H its cycles leave the hook budget; a budget of 0 raises BUDGET at the
boundary (R94, R107). DESIGN CHOICE, safe: log 10. -/
def retire (c : CoreId) (n : Nat) (s : State) : State :=
  let s := countInstr c n s
  if privOf s c = 2 then
    let k := coreOf s c
    let s := setCore c { k with hbudget := k.hbudget - n } s
    if k.hbudget ≤ n then raise c { cause := 0x08 } s else s
  else s

/-- The first register of a list whose parity fails. DESIGN CHOICE, safe: log 42. -/
def badReg (b : Bank) (l : List Rn) : Option Rn := l.find? (fun r => r.val != 0 && b.badParity.testBit r.val)

/-- The frame of one instruction of core `c` (R106, R107): `n` cycles, the registers it reads, whether it is ILLEGAL, the levels it may
run at, and its body. A core that executes nothing is not changed by it. DESIGN CHOICE, safe: log 4. DESIGN CHOICE, safe: log 27. -/
def runInstr (c : CoreId) (n : Nat) (reads : List Rn) (illegal : Bool) (levels : List Nat) (body : State → IRes) (s : State) : State :=
  if !executes s c then s else
  let (halted, s) := lockstep c s
  if halted then s else
  match badReg (bankOf s (ctxOf s c)) reads with
  | some r => parityError c r s
  | none =>
    match fetchFault c s with
    | some e => raise c e (setCore c { coreOf s c with first := false } s)
    | none =>
      if illegal then raise c { cause := 0x01 } s
      else if !levels.contains (privOf s c) then raise c { cause := 0x02 } s
      else
        let pc := pcOf s c
        match body s with
        | .done s => retire c n (setPc c (pc + 4) s)
        | .jump s t => retire c n (setPc c t s)
        | .stay s => s
        | .exc e s => raise c e s
        | .off e s => raise c { e with done := true } (countInstr c n s)
        | .left s => countInstr c n s

/-- Every level. -/
def lvAll : List Nat := [0, 1, 2]
/-- S and U. -/
def lvSU : List Nat := [0, 1]

/-! ### ALU, branches and jumps -/

/-- Tables 4.8: gd ← the operation of ga and gb. -/
def runAlu (o : AluOp) (c : CoreId) (d a b : Rn) (s : State) : State :=
  runInstr c (aluCycles o) (if aluUnary o then [a] else [a, b]) (aluUnary o && b.val != 0) lvAll
    (fun s => .done (wr c d (aluOp o (rd s c a) (rd s c b)) s)) s

/-- Table 4.9: gd ← the operation of ga and the immediate. -/
def runImm (o : ImmOp) (c : CoreId) (d a : Rn) (i : BitVec 16) (s : State) : State :=
  runInstr c 1 [a] (immShift o && decide (64 ≤ i.toNat)) lvAll (fun s => .done (wr c d (immOp o (rd s c a) i) s)) s

/-- Table 4.11: a branch, 1 cycle not taken and 2 taken. -/
def runBr (o : BrOp) (c : CoreId) (a b : Rn) (off : BitVec 16) (s : State) : State :=
  if brTaken o (rd s c a) (rd s c b) then runInstr c 2 [a, b] false lvAll (fun s => .jump s (branchTarget (pcOf s c) off)) s
  else runInstr c 1 [a, b] false lvAll (fun s => .done s) s

/-- JALR: gd ← PC + 4; PC ← ga + imm (Table 4.11). -/
def runJalr (c : CoreId) (d a : Rn) (i : BitVec 16) (s : State) : State :=
  runInstr c 2 [a] false lvAll (fun s => .jump (wr c d (pcOf s c + 4) s) (rd s c a + immS i)) s

/-- J and JAL: JAL writes PC + 4 to g31 (Table 4.11). -/
def runJump (link : Bool) (c : CoreId) (off : BitVec 26) (s : State) : State :=
  runInstr c 2 [] false lvAll (fun s =>
    .jump (if link then wr c 31 (pcOf s c + 4) s else s) (branchTarget (pcOf s c) off)) s

/-! ### Normal memory (R104, R105, R108, R114) -/

/-- An address of a core's load or store. -/
def effAddr (s : State) (c : CoreId) (a : Rn) (i : BitVec 16) : Word := rd s c a + immS i

/-- The exception a data access of `n` bytes meets, in the order of R107; control space gives BUS_ERR here. DEDUCED, unsafe: log 35. -/
def dataFault (c : CoreId) (a : Word) (n : Nat) (write : Bool) (s : State) : Option Exc :=
  let x := a.toNat
  let r := if x < 2 ^ 48 then regionOf c x s else none
  if privOf s c = 2 ∧ ¬ hookMayReach c s x n write false then some { cause := 0x07, sub := if write then 1 else 0, addr := a }
  else if r = some .control then some { cause := 0x05, addr := a }
  else if x % n ≠ 0 then some { cause := 0x03, addr := a }
  else
    let ok := match r with
      | none => false
      | some .rom => !write && privOf s c == 0
      | some .pairSram => privOf s c == 0
      | some .dram => !(rbit F.BPM_CTL_D_EN s && decide (setBase 1 s ≤ x) && decide (x < setBase 1 s + tableBytes 1 s))
      | some _ => true
    if ok then none else some { cause := 0x04, sub := 0, addr := a }

/-- The island of an access is powered off. -/
def accessOff (x : Nat) (s : State) : Option Nat :=
  match dataIsland x with
  | some i => if islandOff i s then some i else none
  | none => none

/-- An access to a clock-gated island ungates it (R108). -/
def ungate (x : Nat) (s : State) : State :=
  match dataIsland x with
  | some i => ungateClock i s
  | none => s

/-- `n` bytes a core loads, as a number; the boot ROM's bytes are free values; `none` for an uncorrectable DRAM error (R484). DESIGN CHOICE, safe: log 11. -/
def loadBytes (c : CoreId) (a : Word) (n : Nat) (s : State) : Option Nat × State :=
  if regionOf c a.toNat s = some .rom then
    (some (ofLe ((List.range n).map (fun i => Config.bootRom (a.toNat + i - 0x300000000000)))), s)
  else
    let (r, s) := readMem (physKey c a.toNat) n s
    (r.map ofLe, s)

/-- A load of normal memory (Table 4.10). -/
def loadNormal (o : MemOp) (c : CoreId) (d : Rn) (a : Word) (s : State) : IRes :=
  match dataFault c a (memSize o) false s with
  | some e => .exc e s
  | none =>
    match accessOff a.toNat s with
    | some i => .off { cause := 0x06, sub := i, addr := a } (wr c d (BitVec.allOnes 64) (recordAccessOff i a.toNat s))
    | none =>
      match loadBytes c a (memSize o) (ungate a.toNat s) with
      | (some n, s) => .done (wr c d (loadExtend o n) s)
      | (none, s) => .exc { cause := 0x05, addr := a } s

/-- A store to normal memory (Table 4.10). -/
def storeNormal (o : MemOp) (c : CoreId) (d : Rn) (a : Word) (s : State) : IRes :=
  match dataFault c a (memSize o) true s with
  | some e => .exc e s
  | none =>
    match accessOff a.toNat s with
    | some i => .off { cause := 0x06, sub := i, addr := a } (recordAccessOff i a.toNat s)
    | none => .done (memWrite (physKey c a.toNat) (leBytes (memSize o) (rd s c d).toNat) (ungate a.toNat s))

/-- Loads and stores other than LD and SD, which never reach control space (R105). -/
def runMem (o : MemOp) (c : CoreId) (d a : Rn) (i : BitVec 16) (s : State) : State :=
  if memStore o then runInstr c 1 [a, d] false lvAll (fun s => storeNormal o c d (effAddr s c a i) s) s
  else runInstr c 2 [a] false lvAll (fun s => loadNormal o c d (effAddr s c a i) s) s

/-- The bytes an atomic writes back and the old value, sign-extended from 32 bits when W = 1 (R114). DEDUCED, safe: log 9. -/
def amoResult (o : AmoOp) (w : Bool) (old : Nat) (b d : Word) : Nat × Word :=
  if w then
    ((amoOp o (BitVec.ofNat 32 old) (b.setWidth 32) (d.setWidth 32)).toNat, (BitVec.ofNat 32 old).signExtend 64)
  else ((amoOp o (BitVec.ofNat 64 old) b d).toNat, BitVec.ofNat 64 old)

/-- AMO (R114): the value at ga read and written back in one step, the old value in gd. ORD has no effect on one in-order agent. On a powered-off
island, where R108 names load and store alone, it reads all ones and writes nothing. DEDUCED, safe: log 9. DESIGN CHOICE, unsafe: log 88. -/
def runAmo (o : AmoOp) (c : CoreId) (rsv : BitVec 4) (_ord : BitVec 2) (w : Bool) (d a b : Rn) (s : State) : State :=
  let n := if w then 4 else 8
  runInstr c 3 (if o = .cas then [a, b, d] else [a, b]) (rsv.toNat != 0) lvSU (fun s =>
    let x := rd s c a
    match dataFault c x n true s with
    | some e => .exc e s
    | none =>
      match accessOff x.toNat s with
      | some i => .off { cause := 0x06, sub := i, addr := x } (wr c d (BitVec.allOnes 64) (recordAccessOff i x.toNat s))
      | none =>
        match loadBytes c x n (ungate x.toNat s) with
        | (none, s) => .exc { cause := 0x05, addr := x } s
        | (some old, s) =>
          let (nw, ret) := amoResult o w old (rd s c b) (rd s c d)
          .done (wr c d ret (memWrite (physKey c x.toNat) (leBytes n nw) s))) s

/-! ### Barriers (R129, R120) -/

/-- SYNC, SYNC.W, SYNC.R: every earlier access is already performed when one agent runs in order, so only the PC advances. DEDUCED, safe: log 9. -/
def runSync (c : CoreId) (d a b : Rn) (s : State) : State :=
  runInstr c 1 [] (d.val + a.val + b.val != 0) lvAll (fun s => .done s) s

/-- SYNC.I (R120): not in H; the instruction cache holds nothing in this model. DEDUCED, safe: log 9. -/
def runSyncI (c : CoreId) (d a b : Rn) (s : State) : State :=
  runInstr c 33 [] (d.val + a.val + b.val != 0) lvSU (fun s => .done s) s

/-! ### Special registers (R100, Tables 4.1 and 4.2) -/

/-- STATUS of a bank (Table 4.2). -/
def statusWord (c : CoreId) (b : Bank) : Word :=
  BitVec.ofNat 64 (b.priv % 4 + (if b.ie && isPair c then 4 else 0) + (if b.pie then 8 else 0) + b.ppriv % 4 * 16 +
    (if isPair c then 256 else 0))

/-- The pending IRQ lines (Table 4.6): lines 2, 3, 4, 8 and 10 follow their sources, the others are latched. DESIGN CHOICE, unsafe: log 32. -/
def pendingLines (s : State) : Nat :=
  let src := (if rget F.FLT_CTR_STATE_TRIPPED s ≠ 0 then 4 else 0) + (if s.evr.fifo ≠ [] then 8 else 0) +
    (if bpmErrAny s then 16 else 0) + (if rget F.TSK_WATCHDOG_EXPIRED s ≠ 0 then 1024 else 0) +
    (if rget F.CLK_ALARM_ALARM s ≠ 0 ∧ rget F.CLK_ALARM_ALARM s ≤ rget F.CLK_ALARM_RTC_SEC s then 256 else 0)
  (s.cpu.irq &&& 0x2E3) ||| src

/-- The levels that may read a special register (Table 4.1); `none` for 28 to 31, which raise ILLEGAL. -/
def srReadLevels (n : Nat) : Option (List Nat) :=
  if n = 0 then some lvSU
  else if n ≤ 7 then some [0]
  else if n ≤ 12 then some lvSU
  else if n = 13 then some lvAll
  else if n ≤ 21 then some lvSU
  else if n = 22 then some lvAll
  else if n ≤ 27 then some lvSU
  else none

/-- The levels that may write a special register (Table 4.1). -/
def srWriteLevels (n : Nat) : Option (List Nat) :=
  if n ≤ 6 then some [0]
  else if n = 7 then some []
  else if n ≤ 12 then some lvSU
  else if n = 13 then some []
  else if n ≤ 21 then some lvSU
  else if n ≤ 26 then some []
  else if n = 27 then some [0]
  else none

/-- A special register's value (Table 4.1). CYCLE and HBUDGET count the stall cycles that the free value names. DESIGN CHOICE, safe: log 10. -/
def srRead (c : CoreId) (n : Nat) (s : State) : Word :=
  let k := coreOf s c
  let x := ctxOf s c
  match n with
  | 0 => statusWord c (bankOf s x)
  | 1 => k.epc | 2 => k.ecause | 3 => k.eaddr | 4 => k.evec | 5 => k.sscratch
  | 6 => if isPair c then k.imask else 0
  | 7 => if isPair c then BitVec.ofNat 64 (pendingLines s) else 0
  | 8 => k.hepc | 9 => k.hxvec | 10 => k.hcause | 11 => k.hfpc | 12 => k.haddr
  | 13 => BitVec.ofNat 64 (k.hbudget - (Config.stallCycles s.freeCtr).toNat)
  | 22 => k.cycle + Config.stallCycles s.freeCtr
  | 23 => k.instret
  | 24 => BitVec.ofNat 64 (c.val + (if isPair c then 128 else 0))
  | 25 => BitVec.ofNat 64 (if isPair c then 0x3FF else x)
  | 26 => BitVec.ofNat 64 ((List.range 16).foldl (fun m e =>
      let t := tokOf s x e
      m + (if t.held then 2 ^ e else 0) + (if t.detached then 2 ^ (e + 16) else 0)) 0)
  | 27 => k.tentry
  | n => if 14 ≤ n ∧ n ≤ 21 then k.hrg.getD (n - 14) 0 else 0

/-- A special register written (Table 4.1). STATUS takes PPRIV, PIE and, on pairs, IE; a PPRIV of 3 is not stored (Table 4.2). DEDUCED, unsafe: log 35. -/
def srWrite (c : CoreId) (n : Nat) (v : Word) (s : State) : State :=
  let k := coreOf s c
  let x := ctxOf s c
  match n with
  | 0 =>
    let b := bankOf s x
    let p := bits v.toNat 5 4
    setBank x { b with ppriv := if p = 3 then b.ppriv else p, pie := v.toNat.testBit 3, ie := isPair c && v.toNat.testBit 2 } s
  | 1 => setCore c { k with epc := v } s
  | 2 => setCore c { k with ecause := v } s
  | 3 => setCore c { k with eaddr := v } s
  | 4 => setCore c { k with evec := BitVec.ofNat 64 (v.toNat / 256 * 256) } s
  | 5 => setCore c { k with sscratch := v } s
  | 6 => if isPair c then setCore c { k with imask := BitVec.ofNat 64 (v.toNat % 65536) } s else s
  | 8 => setCore c { k with hepc := v } s
  | 9 => setCore c { k with hxvec := BitVec.ofNat 64 (v.toNat / 4 * 4) } s
  | 10 => setCore c { k with hcause := v } s
  | 11 => setCore c { k with hfpc := v } s
  | 12 => setCore c { k with haddr := v } s
  | 27 => setCore c { k with tentry := v } s
  | n => if 14 ≤ n ∧ n ≤ 21 then setCore c { k with hrg := listSet k.hrg (n - 14) v } s else s

/-- MFS: gd ← special register a. -/
def runMfs (c : CoreId) (d a b : Rn) (s : State) : State :=
  runInstr c 2 [] (b.val != 0 || (srReadLevels a.val).isNone) ((srReadLevels a.val).getD []) (fun s =>
    let v := srRead c a.val s
    .done (wr c d v (if a.val = 13 ∨ a.val = 22 then tickFree s else s))) s

/-- MTS: special register d ← ga; H may execute none (R102). -/
def runMts (c : CoreId) (d a b : Rn) (s : State) : State :=
  runInstr c 2 [a] (b.val != 0 || (srWriteLevels d.val).isNone) ((srWriteLevels d.val).getD [])
    (fun s => .done (srWrite c d.val (rd s c a) s)) s

/-! ### Tasks and tokens (R75, R115, R117) -/

/-- The running slot of a data-path core. -/
def runningSlot (s : State) (c : CoreId) : Option Nat := if isPair c then none else (coreOf s c).cur.map (8 * c.val + ·)

/-- A task register of a slot (R78); t0 and t15 are kept beside t1 to t14. -/
def taskReg (s : State) (i n : Nat) : Word :=
  let x := slotOf s i
  if n = 0 then BitVec.ofNat 64 x.t0 else if n = 15 then BitVec.ofNat 64 x.live else BitVec.ofNat 64 (x.task.t.getD (n - 1) 0)

/-- TGET: gd ← t(a) of the running slot; above t15, on a pair or with no running task ILLEGAL. DEDUCED, unsafe: log 35. -/
def runTget (c : CoreId) (d a b : Rn) (s : State) : State :=
  runInstr c 1 [] (b.val != 0 || decide (16 ≤ a.val) || (runningSlot s c).isNone) lvAll
    (fun s => .done (wr c d (taskReg s ((runningSlot s c).getD 0) a.val) s)) s

/-- The completion that TDONE's operands give (R115); bits 31:15 of the status word, which no rule names, are ignored. DESIGN CHOICE, unsafe: log 88. -/
def cqeOf (st fl : Word) : Cqe :=
  { sc := bits st.toNat 7 0, sct := bits st.toNat 10 8, crd := bits st.toNat 12 11, more := st.toNat.testBit 13, dnr := st.toNat.testBit 14,
    dw0 := bits st.toNat 63 32, dw1 := bits fl.toNat 63 32 }

/-- TDONE (R87, R115): the result posted, the held tokens detached, the slot freed, and the core takes its next slot. DEDUCED, unsafe: log 35. -/
def runTdone (c : CoreId) (d a b : Rn) (s : State) : State :=
  runInstr c 12 [a, b] (d.val != 0 || (runningSlot s c).isNone || bits (rd s c b).toNat 31 1 != 0) lvSU (fun s =>
    let i := (runningSlot s c).getD 0
    let s := if (slotOf s i).task.typ = 1 then
        postCpl i (slotOf s i).task (cqeOf (rd s c a) (rd s c b)) ((rd s c b).toNat.testBit 0) s
      else s
    .left (settleQueues (freeSlot i s))) s

/-- WTOK (R117): the status of the token in ga; a job still running puts the slot in Waiting, and a pair waits in place. -/
def runWtok (c : CoreId) (d a b : Rn) (s : State) : State :=
  runInstr c 2 [a] (b.val != 0) lvSU (fun s =>
    let t := (rd s c a).toNat
    let x := ctxOf s c
    let e := bits t 21 18
    let k := tokOf s x e
    if 2 ^ 32 ≤ t ∨ bits t 31 22 ≠ x ∨ bits t 17 0 = 0 ∨ k.held = false ∨ k.serial ≠ bits t 17 0 then
      .exc { cause := 0x09, sub := 0, addr := rd s c a } s
    else match k.status with
      | some st => .done (wr c d (BitVec.ofNat 64 st) (setTok x e { k with held := false, status := none } s))
      | none =>
        match runningSlot s c with
        | some i => .left (leaveSlot c.val (setSlot i { slotOf s i with st := .waiting, wait := some (e, d.val) } s))
        | none => .stay s) s

/-! ### JOB (R121 to R124) -/

/-- The regions a descriptor may lie in (R121). -/
def descPlace (c : CoreId) (x : Nat) (s : State) : Bool :=
  decide (x % 64 = 0) && decide (x < 2 ^ 48) &&
    (match regionOf c x s with
      | some .coreLocal | some .cluster | some .dram => true
      | some .pairSram => privOf s c == 0
      | _ => false)

/-- The descriptors of a chain followed through NEXT, at most 8: the list, or the address of one that may not lie there, or of one
that DRAM cannot read. A NEXT descriptor in a wrong place raises what the first one would (R121). DESIGN CHOICE, unsafe: log 88. -/
def readChain (c : CoreId) : Nat → Nat → State → Except Exc (List Desc) × State
  | 0, _, s => (.ok [], s)
  | n + 1, x, s =>
    if !descPlace c x s then (.error { cause := 0x04, sub := 2, addr := BitVec.ofNat 64 x }, s) else
    match readMem (physKey c x) 64 s with
    | (none, s) => (.error { cause := 0x05, addr := BitVec.ofNat 64 x }, s)
    | (some b, s) =>
      let d := parseDesc x b
      if d.flag fChain && d.next != 0 then
        match readChain c n d.next s with
        | (.ok l, s) => (.ok (d :: l), s)
        | (.error e, s) => (.error e, s)
      else (.ok [d], s)

/-- The cycles of a JOB whose chain starts at `x`: 10, and 4 for each chained descriptor after the first (Table 4.12). -/
def jobCycles (c : CoreId) (x : Nat) (s : State) : Nat :=
  match (readChain c 8 x s).1 with
  | .ok l => 10 + 4 * (l.length - 1)
  | .error _ => 10

/-- JOB (R121): the chain copied and checked, a token entry taken and the chain posted; a failed check completes the token with
BAD_DESC, and the core stalls while the first engine's queue is full. With d = g0 the entry is detached. The TOKEN exception has EADDR 0, there
being no token (R106). DESIGN CHOICE, unsafe: log 88. -/
def runJob (c : CoreId) (d a b : Rn) (s : State) : State :=
  runInstr c (jobCycles c (rd s c a).toNat s) [a] (b.val != 0) lvSU (fun s =>
    match readChain c 8 (rd s c a).toNat s with
    | (.error e, s) => .exc e s
    | (.ok ds, s) =>
      let x := ctxOf s c
      match tokChoice s x with
      | .full => .exc { cause := 0x09, sub := 1 } s
      | .stall => .stay s
      | .ok e n =>
        let hd := ds.headD {}
        let ok := chainOk ds && ds.all (placeOk c · s)
        if ok && engineFull hd s then .stay s else
        let s := tokPost x e n (d.val == 0) s
        let s := wr c d (BitVec.ofNat 64 (mkToken x e n)) s
        let ch : Chain := { ctx := x, entry := e, serial := n, descs := ds, notify := hd.flag fNotify, tag := hd.tag }
        .done (if ok then postChain ch s else endChain ch hd { status := jBadDesc } s)) s

/-! ### Buffers (R116, R140, R149) -/

/-- A failed buffer check as the core takes it (R149). -/
def bufExc (c : CoreId) (code : Nat) (g : Word) (s : State) : IRes :=
  .exc { cause := 0x0A, sub := code, addr := g } (bpmFail c.val code g.toNat s)

/-- BGET (R116): a handle of the requested caddy or a larger one of the set, or all ones when the set has none. -/
def runBget (c : CoreId) (d a b : Rn) (s : State) : State :=
  runInstr c 24 [a] (b.val != 0) lvSU (fun s =>
    let g := (rd s c a).toNat
    -- a request word is no address: FORM is 0 (R149)
    if 16 ≤ g ∨ 5 ≤ g % 8 then .exc { cause := 0x0A, sub := 2, addr := rd s c a } (bpmFailAs false c.val 2 g s) else
    match bpmAlloc .core (g / 8) (g % 8) s with
    | (some h, s) => .done (wr c d (BitVec.ofNat 64 h) s)
    | (none, s) => .done (wr c d (BitVec.allOnes 64) s)) s

/-- Operations on set D wait while it is rebuilt (R138). -/
def waitsRebuild (g : Nat) (s : State) : Bool :=
  rbit F.BPM_CTL_D_REBUILDING s && (match resolve g s with | .ok h => hSet h == 1 | .error _ => false)

/-- BREF (R116, R144): the handle checked and its count raised; gd ← the new count. -/
def runBref (c : CoreId) (d a b : Rn) (s : State) : State :=
  runInstr c 24 [a] (b.val != 0) lvSU (fun s =>
    let g := (rd s c a).toNat
    if waitsRebuild g s then .stay s else
    match checkHandle .bref g 0 s with
    | .error e => bufExc c e (rd s c a) s
    | .ok h =>
      let b := bufOf h s
      .done (wr c d (BitVec.ofNat 64 (b.cnt + 1)) (setBuf h { b with cnt := b.cnt + 1 } s))) s

/-- BDROP (R116, R144): the handle checked and its count lowered, the buffer freed at 0; gd ← the new count. -/
def runBdrop (c : CoreId) (d a b : Rn) (s : State) : State :=
  runInstr c 24 [a] (b.val != 0) lvSU (fun s =>
    let g := (rd s c a).toNat
    if waitsRebuild g s then .stay s else
    match checkHandle .bdrop g 0 s with
    | .error e => bufExc c e (rd s c a) s
    | .ok h =>
      let n := (bufOf h s).cnt - 1
      .done (wr c d (BitVec.ofNat 64 n) (dropRef h s))) s

/-! ### Levels (R103, R119) -/

/-- The hook budget that HCALL loads: CYCLES, below 1,000 acting as 1,000 and above 1,000,000 as 1,000,000 (Table 3.8). -/
def hookBudget (s : State) : Nat := min 1000000 (max 1000 (rget F.DPC_HOOK_BUDGET_CYCLES s))

/-- The slot state while a hook runs (Table 3.3). DESIGN CHOICE, safe: log 37. -/
def setHookState (c : CoreId) (st : SlotState) (s : State) : State :=
  match runningSlot s c with
  | some i => setSlot i { slotOf s i with st := st } s
  | none => s

/-- HCALL (R103, R119): HEPC ← PC + 4, the budget loaded, H entered at ga. Which hook stands at an entry address is the policy's own layout. DESIGN
CHOICE, safe: log 37. -/
def runHcall (c : CoreId) (d a b : Rn) (s : State) : State :=
  runInstr c 4 [a] (d.val + b.val != 0) [1] (fun s =>
    let t := rd s c a
    let k := coreOf s c
    let pc := pcOf s c
    let s := setCore c { k with hepc := pc + 4, hbudget := hookBudget s + 4, hook := Config.hookAt t.toNat % 4 } s
    let s := setBank (ctxOf s c) { bankOf s (ctxOf s c) with priv := 2 } s
    .jump (setHookState c .hook s) t) s

/-- HRET (R119): to HEPC in U. -/
def runHret (c : CoreId) (d a b : Rn) (s : State) : State :=
  runInstr c 4 [] (d.val + a.val + b.val != 0) [2] (fun s =>
    let s := setBank (ctxOf s c) { bankOf s (ctxOf s c) with priv := 1 } s
    .jump (setHookState c .running s) (coreOf s c).hepc) s

/-- ERET (R103): S is left for PPRIV, PC ← EPC, IE ← PIE. Start code that leaves S ends, and the core takes a Loaded slot. -/
def runEret (c : CoreId) (d a b : Rn) (s : State) : State :=
  runInstr c 4 [] (d.val + a.val + b.val != 0) [0] (fun s =>
    let s := returnS c s
    if (coreOf s c).start && privOf s c != 0 then
      .left (selectNext c.val (setCore c { coreOf s c with start := false } s))
    else .jump s (pcOf s c)) s

/-- SVC (R119): S is entered with cause SVC, subcode the low byte of the immediate, EADDR the immediate. -/
def runSvc (c : CoreId) (d a b : Rn) (s : State) : State :=
  runInstr c 4 [] (b.val != 0) [1] (fun s =>
    let i := d.val * 32 + a.val
    .exc { cause := 0x0C, sub := i % 256, addr := BitVec.ofNat 64 i } s) s

/-- BRK (R106). -/
def runBrk (c : CoreId) (d a b : Rn) (s : State) : State :=
  runInstr c 4 [] (b.val != 0) lvSU (fun s =>
    let i := d.val * 32 + a.val
    .exc { cause := 0x0D, sub := i % 256, addr := BitVec.ofNat 64 i } s) s

/-- IRQ (R103, R110): an enabled pending line of a pair in S with IE = 1 is taken between two instructions; Table 4.3 has no row for an
IRQ at another level. DEDUCED, unsafe: log 35. -/
def opIrq (c : CoreId) (l : Fin 16) (s : State) : State :=
  if isPair c && coreRunning s c && privOf s c == 0 && (bankOf s (ctxOf s c)).ie && (pendingLines s).testBit l.val && (coreOf s c).imask.toNat.testBit l.val
  then takeIrq c l.val s else s

/-- BUDGET (R94): the budget counter of a running hook reaches 0, its stall cycles counted, and the hook is abandoned. DESIGN CHOICE, safe: log 37. -/
def opBudget (c : CoreId) (s : State) : State :=
  if executes s c && privOf s c == 2 then
    raise c { cause := 0x08 } (setCore c { coreOf s c with hbudget := 0 } s)
  else s

end Sys2Proof.Machine
end

