-- ==== Sys2Proof/Machine/Aes.lean ====
section
/-! DEFINITION. AES-256 (FIPS 197), its modes (SP 800-38A, SP 800-38D, IEEE 1619) and the arithmetic of GF(2^8) (R211 to R214, R234). -/

namespace Sys2Proof.Machine

open Sys2Proof

/-! ### GF(2^8) -/

/-- Multiplication in GF(2^8) modulo the polynomial `p` (9 bits), `n` bits of `b` to go. -/
def gfMulN (p : Nat) : Nat → Nat → Nat → Nat
  | 0, _, _ => 0
  | n + 1, a, b =>
    let r := gfMulN p n (if 128 ≤ a then (2 * a) ^^^ p else 2 * a) (b / 2)
    if b % 2 = 1 then r ^^^ a else r

/-- Multiplication with the AES polynomial. -/
def aesMul (a b : Nat) : Nat := gfMulN 0x11B 8 a b

/-- Multiplication with the polynomial of R234. -/
def gfMul (a b : Nat) : Nat := gfMulN 0x11D 8 a b

/-- Powers in GF(2^8). -/
def gfPow (mul : Nat → Nat → Nat) (a : Nat) : Nat → Nat
  | 0 => 1
  | n + 1 => mul a (gfPow mul a n)

/-- The inverse, 0 for 0. -/
def gfInv (mul : Nat → Nat → Nat) (a : Nat) : Nat := if a = 0 then 0 else gfPow mul a 254

/-! ### AES-256 -/

/-- A byte rotated left. -/
def rotByte (b n : Nat) : Nat := (b * 2 ^ n + b / 2 ^ (8 - n)) % 256

/-- The S-box. -/
def sboxOf (x : Nat) : Nat :=
  let b := gfInv aesMul x
  b ^^^ rotByte b 1 ^^^ rotByte b 2 ^^^ rotByte b 3 ^^^ rotByte b 4 ^^^ 0x63

/-- The S-box as a table. -/
def sboxTable : Array Nat := ((List.range 256).map sboxOf).toArray

/-- The inverse S-box as a table. -/
def invSboxTable : Array Nat := ((List.range 256).map (fun y => (sboxTable.toList.idxOf y))).toArray

/-- Bytes XORed position by position; the shorter list ends it. -/
def xorBytes (a b : List Byte) : List Byte := List.zipWith (· ^^^ ·) a b

/-- The next four bytes of the key schedule, at word `i`. -/
def keyWord (w : List (List Byte)) (i : Nat) : List Byte :=
  let sub := fun (l : List Byte) => l.map (fun b => BitVec.ofNat 8 (sboxTable.getD b.toNat 0))
  let p := w.getD (i - 1) []
  let t := if i % 8 = 0 then
      let r := sub (p.drop 1 ++ p.take 1)
      xorBytes r [BitVec.ofNat 8 (gfPow aesMul 2 (i / 8 - 1)), 0, 0, 0]
    else if i % 8 = 4 then sub p else p
  xorBytes (w.getD (i - 8) []) t

/-- The 60 words of the key schedule of a 32-byte key. -/
def keySchedule (key : List Byte) : List (List Byte) :=
  let w0 := (List.range 8).map (fun i => padTo 4 ((key.drop (4 * i)).take 4))
  (List.range 52).foldl (fun w k => w ++ [keyWord w (k + 8)]) w0

/-- The round keys, 15 of 16 bytes. -/
def roundKeys (key : List Byte) : List (List Byte) :=
  let w := keySchedule key
  (List.range 15).map (fun r => ((List.range 4).map (fun j => w.getD (4 * r + j) [])).flatten)

/-- A column multiplied by a circulant row. -/
def mixCol (m : List Nat) (c : List Byte) : List Byte :=
  (List.range 4).map (fun i => BitVec.ofNat 8 ((List.range 4).foldl (fun n j =>
    n ^^^ aesMul ((c.getD j 0).toNat) (m.getD ((j + 4 - i) % 4) 0)) 0))

/-- Every column mixed. -/
def mixCols (m : List Nat) (b : List Byte) : List Byte :=
  ((List.range 4).map (fun c => mixCol m ((b.drop (4 * c)).take 4))).flatten

/-- ShiftRows: row r moves r places to the left (`inv`: to the right). -/
def shiftRows (inv : Bool) (b : List Byte) : List Byte :=
  (List.range 16).map (fun i => let r := i % 4; let c := i / 4
    b.getD (r + 4 * ((if inv then c + 4 - r else c + r) % 4)) 0)

/-- One block encrypted under round keys. -/
def aesEncBlock (ks : List (List Byte)) (b : List Byte) : List Byte :=
  let sub := fun (l : List Byte) => l.map (fun x => BitVec.ofNat 8 (sboxTable.getD x.toNat 0))
  let s := xorBytes b (ks.getD 0 [])
  let s := (List.range 13).foldl (fun s r => xorBytes (mixCols [2, 3, 1, 1] (shiftRows false (sub s))) (ks.getD (r + 1) [])) s
  xorBytes (shiftRows false (sub s)) (ks.getD 14 [])

/-- One block decrypted under round keys. -/
def aesDecBlock (ks : List (List Byte)) (b : List Byte) : List Byte :=
  let sub := fun (l : List Byte) => l.map (fun x => BitVec.ofNat 8 (invSboxTable.getD x.toNat 0))
  let s := xorBytes b (ks.getD 14 [])
  let s := (List.range 13).foldl (fun s r =>
    mixCols [14, 11, 13, 9] (xorBytes (sub (shiftRows true s)) (ks.getD (13 - r) []))) s
  xorBytes (sub (shiftRows true s)) (ks.getD 0 [])

/-! ### Modes -/

/-- A list cut into blocks of 16 bytes; the last may be shorter. -/
def blocksOf : Nat → List Byte → List (List Byte)
  | 0, _ => []
  | n + 1, l => if l.isEmpty then [] else l.take 16 :: blocksOf n (l.drop 16)

/-- The blocks of a list. -/
def blocks16 (l : List Byte) : List (List Byte) := blocksOf (l.length / 16 + 1) l

/-- A 128-bit block plus `n`, as a big-endian integer modulo 2^128 (R214). -/
def incBe (b : List Byte) (n : Nat) : List Byte := beBytes 16 (ofBe b + n)

/-- CTR: the output and the next counter block (R214). -/
def aesCtr (ks : List (List Byte)) (ctr : List Byte) (l : List Byte) : List Byte × List Byte :=
  let bs := blocks16 l
  (((List.range bs.length).map (fun i => xorBytes (bs.getD i []) (aesEncBlock ks (incBe ctr i)))).flatten, incBe ctr bs.length)

/-- CBC encryption: the output and the last ciphertext block. -/
def cbcEnc (ks : List (List Byte)) (iv : List Byte) (l : List Byte) : List Byte × List Byte :=
  (blocks16 l).foldl (fun p b => let c := aesEncBlock ks (xorBytes b p.2); (p.1 ++ c, c)) ([], iv)

/-- CBC decryption: the output and the last ciphertext block. -/
def cbcDec (ks : List (List Byte)) (iv : List Byte) (l : List Byte) : List Byte × List Byte :=
  (blocks16 l).foldl (fun p b => (p.1 ++ xorBytes (aesDecBlock ks b) p.2, b)) ([], iv)

/-- CFB-128 encryption: the output and the last ciphertext block, a partial last block as it would be had it been whole. -/
def cfbEnc (ks : List (List Byte)) (iv : List Byte) (l : List Byte) : List Byte × List Byte :=
  (blocks16 l).foldl (fun p b => let c := xorBytes (padTo 16 b) (aesEncBlock ks p.2); (p.1 ++ c.take b.length, c)) ([], iv)

/-- CFB-128 decryption; the last ciphertext block, a partial one filled as encryption of zero bytes would fill it. -/
def cfbDec (ks : List (List Byte)) (iv : List Byte) (l : List Byte) : List Byte × List Byte :=
  (blocks16 l).foldl (fun p b => let e := aesEncBlock ks p.2; (p.1 ++ xorBytes b e, b ++ e.drop b.length)) ([], iv)

/-! ### GCM (SP 800-38D) -/

/-- Bit 0 of a GHASH element is its leftmost bit: the element as the number its 16 bytes spell, most significant first. -/
def ghMulN : Nat → Nat → Nat → Nat → Nat
  | 0, _, _, z => z
  | n + 1, x, v, z =>
    let z := if x.testBit n then z ^^^ v else z
    ghMulN n x (if v % 2 = 1 then (v / 2) ^^^ (0xE1 * 2 ^ 120) else v / 2) z

/-- Multiplication in GHASH's field. -/
def ghMul (x y : Nat) : Nat := ghMulN 128 x y 0

/-- GHASH of blocks under H. -/
def ghash (h : Nat) (l : List (List Byte)) : Nat := l.foldl (fun y b => ghMul (y ^^^ ofBe (padTo 16 b)) h) 0

/-- The GCM tag of a ciphertext with its additional data under a 12-byte nonce. -/
def gcmTag (ks : List (List Byte)) (nonce aad ct : List Byte) : List Byte :=
  let h := ofBe (aesEncBlock ks (List.replicate 16 0))
  let s := ghash h (blocks16 aad ++ blocks16 ct ++ [beBytes 8 (8 * aad.length) ++ beBytes 8 (8 * ct.length)])
  xorBytes (beBytes 16 s) (aesEncBlock ks (padTo 12 nonce ++ [0, 0, 0, 1]))

/-- The 32-bit increment of a GCM counter block. -/
def gcmInc (nonce : List Byte) (n : Nat) : List Byte := padTo 12 nonce ++ beBytes 4 (n + 2)

/-- GCM's counter stream over bytes. -/
def gcmStream (ks : List (List Byte)) (nonce l : List Byte) : List Byte :=
  let bs := blocks16 l
  ((List.range bs.length).map (fun i => xorBytes (bs.getD i []) (aesEncBlock ks (gcmInc nonce i)))).flatten

/-- GCM encryption: ciphertext and tag. -/
def gcmEnc (key nonce aad pt : List Byte) : List Byte × List Byte :=
  let ks := roundKeys key
  let ct := gcmStream ks nonce pt
  (ct, gcmTag ks nonce aad ct)

/-- GCM decryption: the plaintext when the tag matches. -/
def gcmDec (key nonce aad ct tag : List Byte) : Option (List Byte) :=
  let ks := roundKeys key
  if gcmTag ks nonce aad ct = tag then some (gcmStream ks nonce ct) else none

/-! ### XTS (IEEE 1619) -/

/-- A tweak multiplied by alpha: the 16 bytes as a little-endian number, doubled modulo x^128 + x^7 + x^2 + x + 1. -/
def xtsDouble (t : Nat) : Nat := if 2 ^ 127 ≤ t then (2 * t) % 2 ^ 128 ^^^ 0x87 else 2 * t

/-- One data unit of whole blocks under XTS-AES-256: key 1 for data, key 2 for the tweak. -/
def xtsUnit (dec : Bool) (k1 k2 : List (List Byte)) (unit : Nat) (l : List Byte) : List Byte :=
  let t0 := ofLe (aesEncBlock k2 (leBytes 16 unit))
  ((blocks16 l).foldl (fun p b =>
    let t := leBytes 16 p.2
    let x := xorBytes b t
    (p.1 ++ xorBytes (if dec then aesDecBlock k1 x else aesEncBlock k1 x) t, xtsDouble p.2)) ([], t0)).1

/-- Data units of 4,096 bytes, the first numbered `unit` (R213). -/
def xtsAll (dec : Bool) (key : List Byte) (unit : Nat) : Nat → List Byte → List Byte
  | 0, _ => []
  | n + 1, l =>
    if l.isEmpty then [] else
    xtsUnit dec (roundKeys (key.take 32)) (roundKeys ((key.drop 32).take 32)) (unit % 2 ^ 128) (l.take 4096) ++
      xtsAll dec key (unit + 1) n (l.drop 4096)

end Sys2Proof.Machine
end

