-- ==== Sys2Proof/Machine/Sha3.lean ====
section
/-! DEFINITION. SHA3-256 (FIPS 202), which fingerprints, salts and the gear table rest on (R159, R166). -/

namespace Sys2Proof.Machine

open Sys2Proof

/-- Lane (x, y) of the 25 lanes, at x + 5y. -/
def lane (a : List Word) (i : Nat) : Word := a.getD i 0

/-- The XOR of the five planes, column by column. -/
def colParity : List Word → List Word
  | p :: q :: r :: s :: t :: planes => List.zipWith (· ^^^ ·) [p, q, r, s, t] (colParity planes)
  | _ => List.replicate 5 0

/-- The word that theta adds to each column: the parity of the column before it, and that of the column after it turned by one bit. -/
def thetaWords : List Word → List Word
  | [p, q, r, s, t] => List.zipWith (fun u v => u ^^^ v.rotateLeft 1) [t, p, q, r, s] [q, r, s, t, p]
  | l => l

/-- Five words added to every plane. -/
def addToPlanes (m : List Word) : List Word → List Word
  | p :: q :: r :: s :: t :: planes => List.zipWith (· ^^^ ·) [p, q, r, s, t] m ++ addToPlanes m planes
  | l => l

/-- Rho and pi together: both follow one walk over the lanes but (0, 0), from (x, y) to (y, 2x + 3y); the lane of its `t`-th place goes to the
next place, turned left by the `t`-th triangular number. `b` is the result so far, `n` the places left. -/
def rhoPi (a : List Word) : Nat → Nat → Nat → Nat → List Word → List Word
  | 0, _, _, _, b => b
  | n + 1, t, x, y, b =>
    let y' := (2 * x + 3 * y) % 5
    rhoPi a n (t + 1) y y' (b.set (y + 5 * y') ((lane a (x + 5 * y)).rotateLeft (t * (t + 1) / 2)))

/-- Chi, plane by plane. -/
def chiPlanes : List Word → List Word
  | p :: q :: r :: s :: t :: planes =>
    List.zipWith (· ^^^ ·) [p, q, r, s, t] [~~~q &&& r, ~~~r &&& s, ~~~s &&& t, ~~~t &&& p, ~~~p &&& q] ++ chiPlanes planes
  | l => l

/-- The constant of iota and the shift register after it: bits 0, 1, 3, 7, 15, 31 and 63 are the next seven outputs of the register of the
polynomial x^8 + x^6 + x^5 + x^4 + 1. -/
def iotaWord (r : Nat) : Word × Nat :=
  [0, 1, 3, 7, 15, 31, 63].foldl (fun (acc : Word × Nat) i =>
    (acc.1 ||| BitVec.ofNat 64 (acc.2 % 2 * 2 ^ i), if acc.2 < 128 then 2 * acc.2 else (2 * acc.2) ^^^ 0x171)) (0, r)

/-- `n` rounds from the state `r` of the shift register: theta, rho and pi, chi, iota. -/
def keccakRounds : Nat → Nat → List Word → List Word
  | 0, _, a => a
  | n + 1, r, a =>
    let a := addToPlanes (thetaWords (colParity a)) a
    let a := chiPlanes (rhoPi a 24 1 1 0 a)
    let c := iotaWord r
    keccakRounds n c.2 (a.set 0 (lane a 0 ^^^ c.1))

/-- The permutation of 24 rounds. -/
def keccakF (a : List Word) : List Word := keccakRounds 24 1 a

/-- Eight bytes as a lane, least significant first. -/
def laneOf (l : List Byte) : Word := BitVec.ofNat 64 (l.foldr (fun b n => b.toNat + 256 * n) 0)

/-- The 17 lanes of a block of 136 bytes. -/
def blockLanes : Nat → List Byte → List Word
  | 0, _ => []
  | n + 1, l => laneOf (l.take 8) :: blockLanes n (l.drop 8)

/-- A block absorbed. -/
def absorb (a : List Word) (blk : List Byte) : List Word :=
  let m := blockLanes 17 blk
  keccakF ((List.range 25).map (fun i => lane a i ^^^ lane m i))

/-- The message absorbed block by block, the last one padded with 0x06 … 0x80. -/
def absorbAll : Nat → List Word → List Byte → List Word
  | 0, a, _ => a
  | n + 1, a, m =>
    if 136 ≤ m.length then absorbAll n (absorb a (m.take 136)) (m.drop 136)
    else
      let pad := m ++ [(0x06 : Byte)] ++ List.replicate (135 - m.length) 0
      absorb a (pad.take 135 ++ [pad.getD 135 0 ||| (0x80 : Byte)])

/-- The eight bytes of a lane. -/
def laneBytes (w : Word) : List Byte := (List.range 8).map (fun i => BitVec.ofNat 8 (w.toNat / 256 ^ i))

/-- SHA3-256 of a message: 32 bytes. -/
def sha3 (m : List Byte) : List Byte :=
  let a := absorbAll (m.length / 136 + 1) (List.replicate 25 0) m
  ((a.take 4).map laneBytes).flatten

/-- A digest as one number, byte 0 lowest. -/
def digestOf (l : List Byte) : Digest := BitVec.ofNat 256 (l.foldr (fun b n => b.toNat + 256 * n) 0)

/-- The bytes of a digest. -/
def digestBytes (d : Digest) : List Byte := (List.range 32).map (fun i => BitVec.ofNat 8 (d.toNat / 256 ^ i))

/-- A bit field of a digest, from byte `b`, `n` bytes, little-endian. -/
def digestField (d : Digest) (b n : Nat) : Nat := d.toNat / 256 ^ b % 256 ^ n

end Sys2Proof.Machine
end

