-- ==== Sys2Proof/Machine/Ingest.lean ====
section
/-! DEFINITION. Retiring an engine unit, and the chunker and fingerprint engines (R159 to R168, R192 to R195). -/

namespace Sys2Proof.Machine

open Sys2Proof

/-! ### Handing the groups over, and retirement -/

/-- The partner can take groups (R193, R352): the link is up, this head is neither SOLO nor fenced, and no rejoin or activation runs. -/
def partnerHere (s : State) : Bool :=
  rbit F.PNL_LINK_STATUS_LINK_UP s && !solo s && !rbit F.PNL_FENCE_STATUS_FENCE_IN s && !s.mir.copying && !s.mir.joiner && !s.mir.activating

/-- The groups this head owns. -/
def ownGroups (s : State) : List Nat := (List.range 256).filter (owns · s)

/-- Every group of the head handed to the partner by planned handover; when the partner cannot take them the head keeps them. -/
def handAll (s : State) : State :=
  if partnerHere s ∧ ownGroups s ≠ [] then startMove (ownGroups s) (headSlot s == 0) none s else s

/-- The last unit of a class retired (R193, R203): ENGINE_EXHAUSTED, and every group handed over. -/
def engineExhausted (e : Nat) (s : State) : State := handAll (recordFw Ev.ENGINE_EXHAUSTED (engIsland e) e [] s)

/-- Every unit of a class is retired. -/
def allRetired (e : Nat) (s : State) : Bool := (List.range (max 1 (engUnits e))).all (fun u => unitRetired e u s)

/-- A unit's retired bit set. -/
def setRetired (e u : Nat) (s : State) : State :=
  match e with
  | 2 => rputBit F.ING_ENGINE_STATUS_CHUNK_RETIRED u true s
  | 3 => rputBit F.ING_ENGINE_STATUS_SHA3_RETIRED u true s
  | 4 => rputBit F.CMP_RETIRED_COMP u true s
  | 5 => rputBit F.CMP_RETIRED_DEC u true s
  | 6 => rputBit F.CIP_LANE_STATUS_RETIRED u true s
  | 7 => rflag F.PAR_STATUS_RETIRED true s
  | _ => s

/-- The instance number of a unit in its island's events: the chunkers and compressors first, then the lanes and read decompressors. -/
def unitInst (e u : Nat) : Nat := if e = 3 then 4 + u else if e = 5 then 8 + u else u

/-- A unit retires (R193, R226, R271, R543): its bit set, LANE_RETIRED recorded, the jobs queued on it ended with LANE_RETIRED, and
when it was the last of its class the groups handed over. -/
def retireUnit (e u : Nat) (s : State) : State :=
  if unitRetired e u s then s else
  let s := record Ev.LANE_RETIRED (engIsland e) (unitInst e u) [] (setRetired e u s)
  let s := flushUnit e u s
  if allRetired e s then engineExhausted e s else s

/-- One known-answer test on a unit in service (R192, R225, R271): a pass is counted, a single failure retires the unit at once. `pass`
and `fail` count them. A retired unit is not tested; on a unit whose island
is off the test waits until it is on (R428). DESIGN CHOICE, unsafe: log 39. -/
def katRun (e u : Nat) (failed : Bool) (pass fail : State → State) (s : State) : State :=
  if unitRetired e u s then s
  else if islandOff (engIsland e) s then
    { s with pwr := { s.pwr with katDue := s.pwr.katDue.filter (·.1 != 1024 * e + u) ++ [(1024 * e + u, if failed then 1 else 0)] } }
  else if failed then
    let s := { s with mir := { s.mir with healthTest := rget F.CLK_TICK_TICK s + 1 }, flt := { s.flt with katFails := s.flt.katFails + 1 } }
    retireUnit e u (record Ev.KAT_FAIL (engIsland e) (unitInst e u) [] (fail s))
  else pass s

/-! ### Cut points (R159 to R161) -/

/-- GEAR (R159). -/
def gear : Array Word :=
  ((List.range 256).map (fun i => BitVec.ofNat 64 (ofLe ((sha3 [0x47, BitVec.ofNat 8 i]).take 8)))).toArray

/-- The parameters of ING_CHUNK_CFG in bytes and bits. -/
structure CutCfg where
  mn : Nat
  avg : Nat
  mx : Nat
  sb : Nat
  lb : Nat

/-- The parameters in force. -/
def cutCfg (s : State) : CutCfg :=
  { mn := 4096 * rget F.ING_CHUNK_CFG_MIN_4K s, avg := 4096 * rget F.ING_CHUNK_CFG_AVG_4K s,
    mx := 4096 * rget F.ING_CHUNK_CFG_MAX_4K s, sb := rget F.ING_CHUNK_CFG_S_BITS s, lb := rget F.ING_CHUNK_CFG_L_BITS s }

/-- The procedure of R160 from byte n of a chunk, `fuel` bytes to go, with the hash so far. -/
def cutLoop (g : CutCfg) : Nat → Nat → Word → List Byte → Nat
  | 0, n, _, _ => n - 1
  | _, n, _, [] => n - 1
  | f + 1, n, h, b :: l =>
    let h := (h <<< 1) + gear.getD b.toNat 0
    if n < g.mn then cutLoop g f (n + 1) h l
    else
      let w := if n < g.avg then g.sb else g.lb
      if (h >>> (64 - w)) = 0 then n else cutLoop g f (n + 1) h l

/-- The length of the chunk that starts at a list's head. -/
def cutLen (g : CutCfg) (l : List Byte) : Nat := cutLoop g g.mx 1 0 l

/-- The offsets and lengths of the chunks of an input, `fuel` at most. -/
def cutAll (g : CutCfg) : Nat → Nat → List Byte → List (Nat × Nat)
  | 0, _, _ => []
  | _, _, [] => []
  | f + 1, o, l =>
    let n := max 1 (cutLen g l)
    (o, n) :: cutAll g f (o + n) (l.drop n)

/-- The chunks of an input (R160). -/
def cuts (l : List Byte) (s : State) : List (Nat × Nat) := cutAll (cutCfg s) 512 0 l

/-- The chunk list that CUT writes (Table 6.2). -/
def chunkList (data total : Nat) (cs : List (Nat × Nat)) : List Byte :=
  leBytes 8 data ++ leBytes 4 total ++ leBytes 2 cs.length ++ List.replicate 18 0 ++
    (cs.map (fun c => leBytes 4 c.1 ++ leBytes 4 c.2 ++ List.replicate 32 0)).flatten

/-- The list buffer of a CUT job (R164): with AUTO_OUT the smallest caddy of set S that holds the longest list. -/
def cutOut (d : Desc) (n : Nat) (s : State) : Option (Nat × Nat × Nat × Bool) × State :=
  if d.param.testBit 0 then
    let mn := (cutCfg s).mn
    let room := 32 + 40 * ((n + mn - 1) / mn)
    match bpmAlloc .eng 0 (caddyFor room) s with
    | (none, s) => (none, s)
    | (some h, s) => (some (h, 0, caddySize (hCad h), true), s)
  else outBuf d s

/-- CUT (R160, R163 to R165). -/
def chunkCut (c : Chain) (d : Desc) (s : State) : JobRes × State :=
  let (h, o, n) := inputOf c d s
  if d.aux ≠ 0 ∨ 2 ≤ d.param then justStatus jBadDesc s else
  match readBuf d h o n s with
  | (none, s) => justStatus jBufFault s
  | (some data, s) =>
    if 0x200000 < n then justStatus jBadDesc s else
    match cutOut d n s with
    | (none, s) => justStatus jBufFault s
    | (some (oh, oo, cap, al), s) =>
      let out := chunkList (o * 2 ^ 32 + h) n (cuts data s)
      let alloc := if al then some oh else none
      if cap < out.length then ({ status := jOutFull, alloc := alloc }, s)
      else ({ outBytes := out.length, outHandle := some (oo * 2 ^ 32 + oh), alloc := alloc }, writeBuf oh oo out s)

/-- CUT on a chunker. -/
def opCut (u : Fin 4) (s : State) : State := runUnit 2 u.val (·.op == 0) chunkCut s

/-! ### Fingerprints (R166, R167) -/

/-- A key slot. -/
def keyOf (n : Nat) (s : State) : KeySlot := kget {} s.keys.slots n

/-- The salt of a key domain: none for 0xFFF; an empty slot or one of another type gives KEY_INVALID. -/
def saltOf (kd : Nat) (s : State) : Option (List Byte) :=
  if kd = 0xFFF then some [] else if (keyOf kd s).typ = 3 then some ((keyOf kd s).mat.take 32) else none

/-- The fingerprint of bytes under a salt (R166). -/
def fpOf (salt l : List Byte) : Digest := digestOf (sha3 (salt ++ l))

/-- The entries of a chunk list: offset and length. -/
def listEntries : Nat → List Byte → List (Nat × Nat)
  | 0, _ => []
  | n + 1, l => (ofLe (l.take 4), ofLe ((l.drop 4).take 4)) :: listEntries n (l.drop 40)

/-- The common checks of a SHA3 job: AUX [15:12] and PARAM. -/
def sha3Bad (d : Desc) : Bool := bits d.aux 15 12 != 0 || d.param != 0

/-- FP_LIST (R167): the fingerprint of every entry written in place, KD and FP_DONE set. -/
def sha3FpList (c : Chain) (d : Desc) (s : State) : JobRes × State :=
  if sha3Bad d || d.aux / 65536 != 0 || d.out != 0 then justStatus jBadDesc s else
  let (h, o, n) := inputOf c d s
  match readBuf d h o n s with
  | (none, s) => justStatus jBufFault s
  | (some l, s) =>
    let cnt := ofLe ((l.drop 12).take 2)
    let total := ofLe ((l.drop 8).take 4)
    let es := listEntries cnt (l.drop 32)
    let dh := ofLe (l.take 4)
    let dOff := ofLe ((l.drop 4).take 4)
    if cnt = 0 ∨ 512 < cnt ∨ l.length < 32 + 40 * cnt ∨ es.any (fun e => decide (total < e.1 + e.2)) then justStatus jBadDesc s else
    match readBuf d dh dOff total s with
    | (none, s) => justStatus jBufFault s
    | (some data, s) =>
      match saltOf (d.aux % 4096) s with
      | none => justStatus jKeyInvalid s
      | some salt =>
        let a := bufAddr h s + o
        let s := memWrite (a + 14) ([1, 0] ++ leBytes 2 (d.aux % 4096)) s
        let s := forEach (es.zipIdx) (fun e s =>
          memWrite (a + 32 + 40 * e.2 + 8) (digestBytes (fpOf salt ((data.drop e.1.1).take e.1.2))) s) s
        ({ outBytes := n, outHandle := some (o * 2 ^ 32 + h) }, s)

/-- CHECK (R167): OK when the fingerprint of IN equals the one at AUX [63:16]. -/
def sha3Check (c : Chain) (d : Desc) (s : State) : JobRes × State :=
  if sha3Bad d || (d.aux / 65536) % 32 != 0 then justStatus jBadDesc s else
  let (h, o, n) := inputOf c d s
  match readBuf d h o n s with
  | (none, s) => justStatus jBufFault s
  | (some l, s) =>
    match saltOf (d.aux % 4096) s with
    | none => justStatus jKeyInvalid s
    | some salt =>
      match readMem (physKey (ctxCore c.ctx) (d.aux / 65536)) 32 s with
      | (none, s) => justStatus jBufFault s
      | (some e, s) => justStatus (if digestBytes (fpOf salt l) = e then jOk else jCheckFail) s

/-- HASH (R167): the fingerprint of IN written to OUT. -/
def sha3Hash (c : Chain) (d : Desc) (s : State) : JobRes × State :=
  if sha3Bad d || d.aux / 65536 != 0 then justStatus jBadDesc s else
  runInOut c d (fun l s => match saltOf (d.aux % 4096) s with
    | none => (jKeyInvalid, [], s)
    | some salt => (jOk, digestBytes (fpOf salt l), s)) s

/-- FP_LIST on a SHA3 lane. -/
def opFpList (u : Fin 8) (s : State) : State := runUnit 3 u.val (·.op == 0) sha3FpList s
/-- CHECK on a SHA3 lane. -/
def opCheck (u : Fin 8) (s : State) : State := runUnit 3 u.val (·.op == 1) sha3Check s
/-- HASH on a SHA3 lane. -/
def opHash (u : Fin 8) (s : State) : State := runUnit 3 u.val (·.op == 2) sha3Hash s

/-! ### Known-answer tests (R192, R195) -/

/-- The class and unit of a unit number of the island: chunkers 0 to 3, then the SHA3 lanes. -/
def ingUnit (u : Nat) : Nat × Nat := if u < 4 then (2, u) else (3, u - 4)

/-- One test of an ING unit. -/
def ingKatOne (u : Nat) (failed : Bool) (s : State) : State :=
  katRun (ingUnit u).1 (ingUnit u).2 failed (rinc F.ING_KAT_CTL_KAT_PASSES 1) (rinc F.ING_ERR_CNT_KAT_FAIL 1) s

/-- The sequence of R192 from x(k): byte k is bits 63:56 of x(k + 1). -/
def katBytes : Nat → Word → List Byte
  | 0, _ => []
  | n + 1, x =>
    let y := x * 0xD1290F6E3A7BC05D + 0x9E3779B97F4A7C15
    (y >>> 56).truncate 8 :: katBytes n y

/-- The test input (R192), `n` bytes from x(0). -/
def katInput (n : Nat) : List Byte := katBytes n 0x7410000000000001

/-- The default parameters of R161. -/
def katCut : CutCfg := { mn := 16384, avg := 65536, mx := 262144, sb := 16, lb := 15 }

/-- The cuts of the test input. -/
def katCuts : List (Nat × Nat) := cutAll katCut 512 0 (katInput 262144)

/-- What a unit must produce (R192): a chunker the chunk list of the test input, a SHA3 lane the fingerprints of that list under a salt of 0xA5 bytes
and then the digest of the empty message. DESIGN CHOICE, unsafe: log 39. -/
def ingKatExpect (u : Nat) : List Byte :=
  if u < 4 then chunkList 0 262144 katCuts
  else katCuts.flatMap (fun c => digestBytes (fpOf (List.replicate 32 0xA5) (((katInput 262144).drop c.1).take c.2))) ++ digestBytes (fpOf [] [])

/-- A unit's result is not the expected one; `none` stands for the expected one. -/
def katFails (out : Option (List Byte)) (expect : List Byte) : Bool := match out with | none => false | some l => l != expect

/-- ING_KAT (R192): the periodic test of a unit, while KAT_EN is 1. -/
def opIngKat (u : Fin 12) (out : Option (List Byte)) (s : State) : State :=
  if rbit F.ING_KAT_CTL_KAT_EN s then ingKatOne u.val (katFails out (ingKatExpect u.val)) s else s

/-- RUN_NOW (R195): every unit in service tested at once; `failing` lists those that fail. DESIGN CHOICE, unsafe: log 39. -/
def ingRunNow (failing : List Nat) (s : State) : State :=
  forEach (List.range 12) (fun u s => ingKatOne u (failing.contains u) s) s

/-- A write of ING_KAT_CTL but for RUN_NOW (Table 6.9). -/
def writeIngKatCtl (v : Word) (s : State) : State :=
  rset F.ING_KAT_CTL_PERIOD_MS (bits v.toNat 31 16) (rset F.ING_KAT_CTL_KAT_EN (bits v.toNat 0 0) s)

/-- ING_CHUNK_CFG (R194): accepted, refused, or counted, under its parameter rules and LOCK. -/
def writeChunkCfg (v : Word) (s : State) : State :=
  let n := v.toNat
  let mn := bits n 15 8
  let avg := bits n 23 16
  let mx := bits n 31 24
  let sb := bits n 39 32
  let lb := bits n 47 40
  let same := mn == rget F.ING_CHUNK_CFG_MIN_4K s && avg == rget F.ING_CHUNK_CFG_AVG_4K s && mx == rget F.ING_CHUNK_CFG_MAX_4K s &&
    sb == rget F.ING_CHUNK_CFG_S_BITS s && lb == rget F.ING_CHUNK_CFG_L_BITS s
  let ok := decide (1 ≤ mn) && decide (mn < avg) && decide (avg < mx) && decide (mx ≤ 64) && decide (8 ≤ sb) && decide (sb ≤ 24) &&
    decide (8 ≤ lb) && decide (lb ≤ 24)
  if rbit F.ING_CHUNK_CFG_LOCK s then if same then s else rinc F.ING_ERR_CNT_CFG_REFUSED 1 s
  else if ok then
    rset F.ING_CHUNK_CFG_MIN_4K mn (rset F.ING_CHUNK_CFG_AVG_4K avg (rset F.ING_CHUNK_CFG_MAX_4K mx (rset F.ING_CHUNK_CFG_S_BITS sb
      (rset F.ING_CHUNK_CFG_L_BITS lb (rflag F.ING_CHUNK_CFG_LOCK (n.testBit 63) s)))))
  else rinc F.ING_ERR_CNT_CFG_REFUSED 1 s

end Sys2Proof.Machine
end

