-- ==== Sys2Proof/Machine/ZstdBlock.lean ====
section
/-! DEFINITION. The Compressed blocks of Zstandard frames (R197, R204), by RFC 8878, which the manual cites and does not repeat: bit streams, FSE
tables, Huffman tables, literals and sequences. `none` stands for a malformed block throughout. PRESUMED, unsafe: log 98. -/

namespace Sys2Proof.Machine

open Sys2Proof

/-! ### Bit streams -/

/-- The bits of bytes, least significant first. -/
def bitsOf (l : List Byte) : List Bool := l.flatMap (fun b => (List.range 8).map b.toNat.testBit)

/-- `n` bits taken from the front of a forward stream: the first is the lowest. -/
def getLow (n : Nat) (l : List Bool) : Option (Nat × List Bool) :=
  if l.length < n then none else some ((l.take n).foldr (fun b v => 2 * v + b.toNat) 0, l.drop n)

/-- A stream that is read backward, from the bit under the highest set bit of its last byte, which is not 0. -/
def backward (l : List Byte) : Option (List Bool) :=
  if l.getLastD 0 = 0 then none else some (((bitsOf l).reverse.dropWhile (!·)).drop 1)

/-- The next `n` bits of a backward stream: the first is the highest; what lies past the end reads 0. -/
def peekHigh (n : Nat) (l : List Bool) : Nat := (l.take n).foldl (fun v b => 2 * v + b.toNat) 0 * 2 ^ (n - l.length)

/-- `n` bits taken from a backward stream that holds them. -/
def getHigh (n : Nat) (l : List Bool) : Option (Nat × List Bool) := if l.length < n then none else some (peekHigh n l, l.drop n)

/-! ### FSE tables -/

/-- A cell of an FSE table: the symbol, the bits that the next state takes, and its base. -/
structure FseCell where
  sym : Nat := 0
  bits : Nat := 0
  base : Nat := 0
deriving DecidableEq, Repr

/-- An FSE table: its accuracy log and its cells. -/
structure FseTab where
  log : Nat := 0
  cells : Array FseCell := #[{}]
deriving DecidableEq, Repr

/-- The run of 2-bit counts of further symbols without probability that follows a probability of 0. -/
def fseZeros : Nat → List Bool → Option (Nat × List Bool)
  | 0, _ => none
  | n + 1, l =>
    match getLow 2 l with
    | none => none
    | some (3, l) => (fseZeros n l).map (fun p => (p.1 + 3, p.2))
    | some (k, l) => some (k, l)

/-- The probabilities of a table description, −1 for "less than 1", until none of the `left` points remain; at most `room` symbols. -/
def fseProbs : Nat → Nat → Nat → List Int → List Bool → Option (List Int × List Bool)
  | 0, _, _, _, _ => none
  | n + 1, room, left, acc, l =>
    if left = 0 then if acc.length ≤ room then some (acc, l) else none else
    let k := Nat.log2 (left + 1) + 1
    let small := 2 ^ k - 1 - (left + 1)
    match getLow (k - 1) l with
    | none => none
    | some (lo, l') =>
      let read : Option (Nat × List Bool) :=
        if lo < small then some (lo, l')
        else match getLow 1 l' with
          | none => none
          | some (hi, l'') => some (if hi = 1 then lo + 2 ^ (k - 1) - small else lo, l'')
      match read with
      | none => none
      | some (v, l) =>
        let used := if v = 0 then 1 else v - 1
        if left < used then none
        else if v = 1 then
          match fseZeros (n + 1) l with
          | none => none
          | some (z, l) => fseProbs n room left (acc ++ List.replicate (z + 1) 0) l
        else fseProbs n room (left - used) (acc ++ [(v : Int) - 1]) l

/-- The next place of a table of `size` cells that the spreading takes, below the cells of the symbols of less than 1. -/
def fseNext (size high : Nat) : Nat → Nat → Nat
  | 0, p => p
  | n + 1, p =>
    let q := (p + size / 2 + size / 8 + 3) % size
    if q < high then q else fseNext size high n q

/-- `k` cells given to a symbol. -/
def fseSpread (size high s : Nat) : Nat → Nat → Array Nat → Nat × Array Nat
  | 0, p, a => (p, a)
  | k + 1, p, a => fseSpread size high s k (fseNext size high size p) (a.setIfInBounds p s)

/-- The table of some probabilities. -/
def fseTable (log : Nat) (probs : List Int) : FseTab :=
  let size := 2 ^ log
  let (high, a) := probs.zipIdx.foldl (fun (acc : Nat × Array Nat) p =>
    if p.1 = -1 then (acc.1 - 1, acc.2.setIfInBounds (acc.1 - 1) p.2) else acc) (size, (Array.replicate size 0))
  let (_, a) := probs.zipIdx.foldl (fun (acc : Nat × Array Nat) p =>
    if 0 < p.1 then fseSpread size high p.2 p.1.toNat acc.1 acc.2 else acc) (0, a)
  let start := (probs.map (fun p => if p = -1 then 1 else p.toNat)).toArray
  let (cells, _) := a.toList.foldl (fun (acc : Array FseCell × Array Nat) s =>
    let st := acc.2.getD s 0
    let b := log - Nat.log2 st
    (acc.1.push { sym := s, bits := b, base := st * 2 ^ b - size }, acc.2.setIfInBounds s (st + 1))) (#[], start)
  { log := log, cells := cells }

/-- A table description read from bytes: the table and the bytes left. PRESUMED, unsafe: log 98. -/
def fseRead (maxLog room : Nat) (l : List Byte) : Option (FseTab × List Byte) :=
  let b := bitsOf l
  match getLow 4 b with
  | none => none
  | some (x, r) =>
    if maxLog < x + 5 then none else
    match fseProbs (room + 2) room (2 ^ (x + 5)) [] r with
    | none => none
    | some (ps, r) => some (fseTable (x + 5) ps, l.drop ((b.length - r.length + 7) / 8))

/-- The cell of a state. -/
def FseTab.at_ (t : FseTab) (st : Nat) : FseCell := t.cells.getD st {}

/-! ### Huffman tables -/

/-- A Huffman table: the longest code, and for each value of that many bits the symbol and its code's length. -/
structure HufTab where
  maxBits : Nat := 0
  cells : Array (Nat × Nat) := #[]
deriving DecidableEq, Repr

/-- The weights that two interleaved FSE states give until the stream runs out (at most 255). -/
def hufWeights (t : FseTab) : Nat → Nat → Nat → List Nat → List Bool → Option (List Nat)
  | 0, _, _, _, _ => none
  | n + 1, a, b, acc, l =>
    let c := t.at_ a
    let acc := acc ++ [c.sym]
    if l.length < c.bits then some (acc ++ [(t.at_ b).sym])
    else hufWeights t n b (c.base + peekHigh c.bits l) acc (l.drop c.bits)

/-- The table of the weights, the last symbol's weight being what completes the code. -/
def hufTable (ws : List Nat) : Option HufTab :=
  let sum := ws.foldl (fun n w => if w = 0 then n else n + 2 ^ (w - 1)) 0
  if sum = 0 ∨ ws.any (11 < ·) ∨ 255 < ws.length then none else
  let m := Nat.log2 sum + 1
  let left := 2 ^ m - sum
  if 11 < m ∨ 2 ^ Nat.log2 left ≠ left then none else
  let ws := (ws ++ [Nat.log2 left + 1]).zipIdx
  some { maxBits := m, cells := ((List.range m).flatMap (fun i =>
    (ws.filter (fun p => p.1 == i + 1)).flatMap (fun p => List.replicate (2 ^ i) (p.2, m - i)))).toArray }

/-- A Huffman tree description: the table and the bytes left. PRESUMED, unsafe: log 98. -/
def hufRead (l : List Byte) : Option (HufTab × List Byte) :=
  match l with
  | [] => none
  | h :: r =>
    let n := h.toNat
    if 128 ≤ n then
      let k := n - 127
      if r.length < (k + 1) / 2 then none else
      let ws := ((r.take ((k + 1) / 2)).flatMap (fun b => [b.toNat / 16, b.toNat % 16])).take k
      (hufTable ws).map (fun t => (t, r.drop ((k + 1) / 2)))
    else if r.length < n then none
    else do
      let (t, d) ← fseRead 6 12 (r.take n)
      let s ← backward d
      let (a, s) ← getHigh t.log s
      let (b, s) ← getHigh t.log s
      let ws ← hufWeights t 256 a b [] s
      let h ← hufTable ws
      pure (h, r.drop n)

/-- The symbols of a backward stream, to its exact end. -/
def hufSymbols (t : HufTab) : Nat → Array Byte → List Bool → Option (Array Byte)
  | 0, _, _ => none
  | n + 1, acc, l =>
    if l.isEmpty then some acc else
    let c := t.cells.getD (peekHigh t.maxBits l) (0, 0)
    if l.length < c.2 ∨ c.2 = 0 then none else hufSymbols t n (acc.push (BitVec.ofNat 8 c.1)) (l.drop c.2)

/-- A stream that decodes to `n` symbols. -/
def hufStream (t : HufTab) (n : Nat) (l : List Byte) : Option (List Byte) := do
  let s ← backward l
  let r ← hufSymbols t (n + 1) #[] s
  if r.size = n then some r.toList else none

/-! ### The decoder's state and the literals -/

/-- What a decoder keeps from one block of a frame to the next: the Huffman table, the three sequence tables, and the repeat offsets. -/
structure ZDec where
  huf : Option HufTab := none
  ll : Option FseTab := none
  off : Option FseTab := none
  ml : Option FseTab := none
  rep : Nat × Nat × Nat := (1, 4, 8)
deriving DecidableEq, Repr

/-- The streams of a literals section: one, or four with a jump table, the first three of a quarter rounded up. -/
def hufStreams (t : HufTab) (four : Bool) (n : Nat) (l : List Byte) : Option (List Byte) :=
  if !four then hufStream t n l else
  let s := fun i => ofLe ((l.drop (2 * i)).take 2)
  let q := (n + 3) / 4
  let d := l.drop 6
  if l.length < 6 + s 0 + s 1 + s 2 ∨ n < 3 * q then none else do
    let a ← hufStream t q (d.take (s 0))
    let b ← hufStream t q ((d.drop (s 0)).take (s 1))
    let c ← hufStream t q ((d.drop (s 0 + s 1)).take (s 2))
    let e ← hufStream t (n - 3 * q) (d.drop (s 0 + s 1 + s 2))
    pure (a ++ b ++ c ++ e)

/-- The literals section: the literals, the bytes left, and the decoder. PRESUMED, unsafe: log 98. -/
def litSection (z : ZDec) (l : List Byte) : Option (List Byte × List Byte × ZDec) :=
  match l with
  | [] => none
  | h :: _ =>
    let typ := h.toNat % 4
    let fmt := h.toNat / 4 % 4
    if typ < 2 then
      let len := if fmt % 2 = 0 then 1 else if fmt = 1 then 2 else 3
      let n := ofLe (l.take len) / (if fmt % 2 = 0 then 8 else 16)
      let d := l.drop len
      let used := if typ = 0 then n else 1
      if l.length < len + used ∨ 131072 < n then none
      else some (if typ = 0 then d.take n else List.replicate n (d.headD 0), d.drop used, z)
    else
      let len := if fmt < 2 then 3 else fmt + 2
      let w := if fmt < 2 then 10 else if fmt = 2 then 14 else 18
      let v := ofLe (l.take len) / 16
      let n := v % 2 ^ w
      let used := v / 2 ^ w % 2 ^ w
      let d := (l.drop len).take used
      if l.length < len + used ∨ 131072 < n then none else do
        let (t, d) ← if typ = 2 then hufRead d else z.huf.map (fun t => (t, d))
        let out ← hufStreams t (fmt != 0) n d
        pure (out, l.drop (len + used), { z with huf := some t })

/-! ### Sequences -/

/-- Base and extra bits of a literals length code. -/
def llCode (c : Nat) : Nat × Nat :=
  if c < 16 then (c, 0)
  else [(16, 1), (18, 1), (20, 1), (22, 1), (24, 2), (28, 2), (32, 3), (40, 3), (48, 4), (64, 6)].getD (c - 16) (2 ^ (c - 19), c - 19)

/-- Base and extra bits of a match length code. -/
def mlCode (c : Nat) : Nat × Nat :=
  if c < 32 then (c + 3, 0)
  else [(35, 1), (37, 1), (39, 1), (41, 1), (43, 2), (47, 2), (51, 3), (59, 3), (67, 4), (83, 4), (99, 5)].getD (c - 32) (2 ^ (c - 36) + 3, c - 36)

/-- The default table of literals lengths. -/
def llDefault : FseTab :=
  fseTable 6 ([4, 3] ++ List.replicate 11 2 ++ List.replicate 3 1 ++ List.replicate 9 2 ++ [3, 2] ++ List.replicate 5 1 ++ List.replicate 4 (-1))

/-- The default table of offsets. -/
def offDefault : FseTab := fseTable 5 (List.replicate 6 1 ++ List.replicate 3 2 ++ List.replicate 15 1 ++ List.replicate 5 (-1))

/-- The default table of match lengths. -/
def mlDefault : FseTab := fseTable 6 ([1, 4, 3] ++ List.replicate 6 2 ++ List.replicate 37 1 ++ List.replicate 7 (-1))

/-- A sequence table by its mode: the default, one symbol, a description, or the one in use. PRESUMED, unsafe: log 98. -/
def seqTable (mode maxLog top : Nat) (dflt : FseTab) (old : Option FseTab) (l : List Byte) : Option (FseTab × List Byte) :=
  match mode with
  | 0 => some (dflt, l)
  | 1 => match l with
    | b :: r => if b.toNat ≤ top then some ({ cells := #[{ sym := b.toNat }] }, r) else none
    | [] => none
  | 2 => fseRead maxLog (top + 1) l
  | _ => old.map (fun t => (t, l))

/-- The offset of a sequence and the repeat offsets after it. -/
def seqOffset (v ll : Nat) (r : Nat × Nat × Nat) : Nat × (Nat × Nat × Nat) :=
  if 3 < v then (v - 3, (v - 3, r.1, r.2.1))
  else match (if ll = 0 then v else v - 1) with
    | 0 => (r.1, r)
    | 1 => (r.2.1, (r.2.1, r.1, r.2.2))
    | 2 => (r.2.2, (r.2.2, r.1, r.2.1))
    | _ => (r.1 - 1, (r.1 - 1, r.1, r.2.1))

/-- `n` bytes repeated from `o` back. -/
def copyBack (o : Nat) : Nat → Array Byte → Array Byte
  | 0, a => a
  | n + 1, a => copyBack o n (a.push (a.getD (a.size - o) 0))

/-- The sequences carried out: literals copied, then a match. Answers the content, the literals left, and the repeat offsets. PRESUMED, unsafe: log 98. -/
def runSeqs (a b c : FseTab) : Nat → Nat × Nat × Nat → List Bool → List Byte → Nat × Nat × Nat → Array Byte →
    Option (Array Byte × List Byte × (Nat × Nat × Nat))
  | 0, _, _, _, _, _ => none
  | n + 1, (x, y, w), s, lits, rep, out => do
    let (lc, oc, mc) := (a.at_ x, b.at_ y, c.at_ w)
    let (ov, s) ← getHigh oc.sym s
    let (mv, s) ← getHigh (mlCode mc.sym).2 s
    let (lv, s) ← getHigh (llCode lc.sym).2 s
    let ll := (llCode lc.sym).1 + lv
    let (o, rep) := seqOffset (2 ^ oc.sym + ov) ll rep
    let out' := out ++ (lits.take ll).toArray
    if lits.length < ll ∨ o = 0 ∨ out'.size < o then none else
    let out' := copyBack o ((mlCode mc.sym).1 + mv) out'
    if n = 0 then if s.isEmpty then some (out', lits.drop ll, rep) else none else
    let (p, s) ← getHigh lc.bits s
    let (q, s) ← getHigh mc.bits s
    let (r, s) ← getHigh oc.bits s
    runSeqs a b c n (lc.base + p, oc.base + r, mc.base + q) s (lits.drop ll) rep out'

/-- The count of sequences and the bytes left. -/
def seqCount (l : List Byte) : Option (Nat × List Byte) :=
  match l with
  | [] => none
  | h :: r =>
    let b := h.toNat
    if b < 128 then some (b, r)
    else if b < 255 then (if r.isEmpty then none else some ((b - 128) * 256 + (r.headD 0).toNat, r.drop 1))
    else if r.length < 2 then none else some (ofLe (r.take 2) + 0x7F00, r.drop 2)

/-- The content of a Compressed block, given what the frame holds before it, and the decoder after it. PRESUMED, unsafe: log 98. -/
def zstdBlock (z : ZDec) (before l : List Byte) : Option (List Byte × ZDec) := do
  let (lits, l, z) ← litSection z l
  let (n, l) ← seqCount l
  if n = 0 then if l.isEmpty then some (lits, z) else none else
  match l with
  | [] => none
  | h :: l =>
    let m := h.toNat
    if m % 4 ≠ 0 then none else do
      let (a, l) ← seqTable (m / 64) 9 35 llDefault z.ll l
      let (b, l) ← seqTable (m / 16 % 4) 8 31 offDefault z.off l
      let (c, l) ← seqTable (m / 4 % 4) 9 52 mlDefault z.ml l
      let s ← backward l
      let (x, s) ← getHigh a.log s
      let (y, s) ← getHigh b.log s
      let (w, s) ← getHigh c.log s
      let (out, rest, rep) ← runSeqs a b c n (x, y, w) s lits z.rep before.toArray
      let out := (out.toList.drop before.length) ++ rest
      if 131072 < out.length then none else some (out, { z with ll := some a, off := some b, ml := some c, rep := rep })

end Sys2Proof.Machine
end

