-- ==== Sys2Proof/Machine/Zstd.lean ====
section
/-! DEFINITION. Zstandard frames as R197, R198 and R204 use them: the raw frame, and the one form that a decompressor passes. -/

namespace Sys2Proof.Machine

open Sys2Proof

/-! ### XXH64 with seed 0 -/

/-- A constant of XXH64. -/
def xxP1 : Word := 0x9E3779B185EBCA87
/-- A constant of XXH64. -/
def xxP2 : Word := 0xC2B2AE3D27D4EB4F
/-- A constant of XXH64. -/
def xxP3 : Word := 0x165667B19E3779F9
/-- A constant of XXH64. -/
def xxP4 : Word := 0x85EBCA77C2B2AE63
/-- A constant of XXH64. -/
def xxP5 : Word := 0x27D4EB2F165667C5

/-- A round of one accumulator. -/
def xxRound (acc x : Word) : Word := (acc + x * xxP2).rotateLeft 31 * xxP1

/-- Eight bytes as a word. -/
def le8 (l : List Byte) : Word := BitVec.ofNat 64 (ofLe (l.take 8))

/-- The stripes of 32 bytes; answers the four accumulators and the rest. -/
def xxStripes : Nat → Word × Word × Word × Word → List Byte → (Word × Word × Word × Word) × List Byte
  | 0, v, l => (v, l)
  | n + 1, (a, b, c, d), l =>
    if l.length < 32 then ((a, b, c, d), l)
    else xxStripes n (xxRound a (le8 l), xxRound b (le8 (l.drop 8)), xxRound c (le8 (l.drop 16)), xxRound d (le8 (l.drop 24))) (l.drop 32)

/-- The last bytes, fewer than 32. -/
def xxTail : Nat → Word → List Byte → Word
  | 0, h, _ => h
  | n + 1, h, l =>
    if 8 ≤ l.length then xxTail n ((h ^^^ xxRound 0 (le8 l)).rotateLeft 27 * xxP1 + xxP4) (l.drop 8)
    else if 4 ≤ l.length then
      xxTail n ((h ^^^ BitVec.ofNat 64 (ofLe (l.take 4)) * xxP1).rotateLeft 23 * xxP2 + xxP3) (l.drop 4)
    else match l with
      | [] => h
      | b :: r => xxTail n ((h ^^^ b.setWidth 64 * xxP5).rotateLeft 11 * xxP1) r

/-- XXH64. -/
def xxh64 (l : List Byte) : Word :=
  let merge := fun (h v : Word) => (h ^^^ xxRound 0 v) * xxP1 + xxP4
  let (h, rest) :=
    if 32 ≤ l.length then
      let ((a, b, c, d), r) := xxStripes (l.length / 32) (xxP1 + xxP2, xxP2, 0, 0 - xxP1) l
      let h := a.rotateLeft 1 + b.rotateLeft 7 + c.rotateLeft 12 + d.rotateLeft 18
      (merge (merge (merge (merge h a) b) c) d, r)
    else (xxP5, l)
  let h := xxTail 40 (h + BitVec.ofNat 64 l.length) rest
  let h := (h ^^^ (h >>> 33)) * xxP2
  let h := (h ^^^ (h >>> 29)) * xxP3
  h ^^^ (h >>> 32)

/-- The content checksum: the low 32 bits, little-endian (R197). -/
def contentSum (l : List Byte) : List Byte := leBytes 4 (xxh64 l).toNat

/-! ### The raw frame (R198) -/

/-- Raw blocks of at most 131,072 bytes. -/
def rawBlocks : Nat → List Byte → List Byte
  | 0, _ => []
  | n + 1, l =>
    let b := l.take 131072
    let r := l.drop 131072
    leBytes 3 ((if r.isEmpty then 1 else 0) + 8 * b.length) ++ b ++ (if r.isEmpty then [] else rawBlocks n r)

/-- The frame header: magic number, descriptor and Frame_Content_Size. -/
def frameHead (n : Nat) : List Byte :=
  leBytes 4 0xFD2FB528 ++
    (if n ≤ 255 then leBytes 1 0x24 ++ leBytes 1 n
     else if n ≤ 65791 then leBytes 1 0x64 ++ leBytes 2 (n - 256)
     else leBytes 1 0xA4 ++ leBytes 4 n)

/-- A frame of the form of R197 with the blocks given. DESIGN CHOICE, safe: log 13. -/
def frameOf (l blocks : List Byte) : List Byte := frameHead l.length ++ blocks ++ contentSum l

/-- The raw frame of a content. -/
def rawFrame (l : List Byte) : List Byte := frameOf l (rawBlocks (l.length / 131072 + 1) l)

/-- W(n), the raw frame's length. -/
def rawLen (n : Nat) : Nat := n + 9 + (if n ≤ 255 then 1 else if n ≤ 65791 then 2 else 4) + 3 * ((n + 131071) / 131072)

/-! ### Decoding (R204) -/

/-- The blocks of a frame: at most `n` of them from the front of `l`, after the content `acc`; the content and what follows the last block. -/
def decodeBlocks : Nat → ZDec → List Byte → List Byte → Option (List Byte × List Byte)
  | 0, _, _, _ => none
  | n + 1, z, acc, l =>
    let h := ofLe (l.take 3)
    let size := h / 8
    let used := if h / 2 % 4 = 1 then 1 else size
    let body := (l.drop 3).take used
    if l.length < 3 + used ∨ 131072 < size then none else
    let content : Option (List Byte × ZDec) :=
      match h / 2 % 4 with
      | 0 => some (body, z)
      | 1 => some (List.replicate size (body.headD 0), z)
      | 2 => zstdBlock z acc body
      | _ => none
    match content with
    | none => none
    | some (c, z) => if h % 2 = 1 then some (acc ++ c, l.drop (3 + used)) else decodeBlocks n z (acc ++ c) (l.drop (3 + used))

/-- Frame_Content_Size of a frame of the form of R197, and the length of its header. -/
def frameSize (f : List Byte) : Option (Nat × Nat) :=
  let d := (f.getD 4 0).toNat
  if ofLe (f.take 4) ≠ 0xFD2FB528 ∨ f.length < 6 ∨ d / 32 % 2 = 0 ∨ d / 4 % 2 = 0 ∨ d % 4 ≠ 0 ∨ d / 8 % 2 = 1 then none else
  match d / 64 with
  | 0 => some (ofLe ((f.drop 5).take 1), 6)
  | 1 => some (ofLe ((f.drop 5).take 2) + 256, 7)
  | 2 => some (ofLe ((f.drop 5).take 4), 9)
  | _ => some (ofLe ((f.drop 5).take 8), 13)

/-- The content of a frame that passes every check of R204 but the two on lengths given from outside. -/
def decodeFrame (f : List Byte) : Option (List Byte) :=
  match frameSize f with
  | none => none
  | some (n, p) =>
    if 262144 < n then none else
    match decodeBlocks (f.length + 1) {} [] (f.drop p) with
    | none => none
    | some (c, r) => if c.length = n ∧ r = contentSum c then some c else none

end Sys2Proof.Machine
end

