-- ==== Sys2Proof/Machine/Compress.lean ====
section
/-! DEFINITION. The compressors and read decompressors (R196 to R207, R225, R228, R229). -/

namespace Sys2Proof.Machine

open Sys2Proof

/-! ### The frame of COMP, DECOMP and CIPHER jobs (R207) -/

/-- `n` bytes from key `k` up hold undefined values: free values, fresh for each. DESIGN CHOICE, safe: log 14. -/
def undefRange (k n : Nat) (s : State) : State :=
  tickFree (memWrite k ((List.range n).map (fun i => Config.undefByte (s.freeCtr + i * 2 ^ 64))) s)

/-- How a codec job ends: its status, its output bytes, and for a failure how many bytes of OUT it leaves undefined. -/
structure CodecRes where
  status : Nat := 0
  out : List Byte := []
  undef : Nat := 0

/-- A job of these classes (R207): the input read and the output found (BUF_FAULT), then `f` on the input and the bytes OUT takes. On
a failure OUT's fill length is set to the job's output offset, and only the range Table 7.4 names is changed. -/
def runCodec (c : Chain) (d : Desc) (f : List Byte → Nat → State → CodecRes × State) (s : State) : JobRes × State :=
  let (h, o, n) := inputOf c d s
  match readBuf d h o n s with
  | (none, s) => justStatus jBufFault s
  | (some data, s) =>
    match outBuf d s with
    | (none, s) => justStatus jBufFault s
    | (some (oh, oo, cap, al), s) =>
      let (r, s) := f data cap s
      let alloc := if al then some oh else none
      if r.status ≠ jOk then
        let s := if r.undef = 0 then s else undefRange (bufAddr oh s + oo) (min r.undef cap) s
        ({ status := r.status, alloc := alloc }, setFill oh oo s)
      else ({ outBytes := r.out.length, outHandle := some (oo * 2 ^ 32 + oh), alloc := alloc }, writeBuf oh oo r.out s)

/-! ### Compression (R198 to R202) -/

/-- The frame a level gives (R197, R199): level 0 the raw frame; above it a frame whose blocks are the part's own, a free value that is held to
what the rules say of it: it decodes to the input. DESIGN CHOICE, safe: log 13. -/
def compressAt (level : Nat) (l : List Byte) : List Byte :=
  let f := frameOf l (Config.zstdBlocks level l)
  if level = 0 ∨ decodeFrame f ≠ some l then rawFrame l else f

/-- The frame a job emits, given what OUT takes (R200); `none` is OUT_FULL. -/
def emittedFrame (level minSave cap : Nat) (fallback : Bool) (l : List Byte) : Option (List Byte) :=
  let z := compressAt level l
  let w := rawLen l.length
  if fallback ∧ (w - z.length < minSave ∨ w < z.length ∨ cap < z.length) then if cap < w then none else some (rawFrame l)
  else if cap < z.length then none else some z

/-- A verify failure (R201): CMP_VERIFY_FAIL recorded and counted for the compressor; at the threshold it retires. -/
def verifyFailed (u : Nat) (s : State) : State :=
  let s := record Ev.CMP_VERIFY_FAIL 12 u [] s
  if unitRetired 4 u s then s else
  let (hit, s) := fltError 6 u s
  if hit then if fltActs 6 s then retireUnit 4 u s else record Ev.LANE_RETIRED 12 u [] s else s

/-- COMPRESS (R199 to R201): the staged frame is decompressed and compared before any byte is released; `bad` says that the silicon's staged
frame differs from the one the unit should have built. -/
def compJob (u : Nat) (bad : Bool) (c : Chain) (d : Desc) (s : State) : JobRes × State :=
  let level := d.param % 16
  let extra := d.param - (level + (if d.param.testBit 8 then 256 else 0) + bits d.param 31 16 * 65536)
  if d.aux ≠ 0 ∨ 9 < level ∨ extra ≠ 0 then justStatus jBadDesc s else
  runCodec c d (fun l cap s =>
    if l.length = 0 ∨ 262144 < l.length then ({ status := jBadDesc }, s) else
    match emittedFrame level (bits d.param 31 16) cap (d.param.testBit 8) l with
    | none => ({ status := jOutFull }, s)
    | some z => if bad ∨ decodeFrame z ≠ some l then ({ status := jVerifyFail }, verifyFailed u s) else ({ out := z }, s)) s

/-- COMPRESS on a compressor. -/
def opCompress (u : Fin 8) (verifyBad : Bool) (s : State) : State := runUnit 4 u.val (·.op == 0) (compJob u.val verifyBad) s

/-! ### Read decompression (R204, R205) -/

/-- DECOMPRESS (R204): the checks of the frame; OUT_FULL before any output; after CHECK_FAIL the range is undefined (R205). -/
def decompJob (c : Chain) (d : Desc) (s : State) : JobRes × State :=
  if d.aux ≠ 0 ∨ 2 ^ 32 ≤ d.param then justStatus jBadDesc s else
  runCodec c d (fun l cap s =>
    match frameSize l with
    | none => ({ status := jCheckFail, undef := cap }, s)
    | some (n, _) =>
      if 262144 < n then ({ status := jCheckFail, undef := cap }, s)
      else if cap < n then ({ status := jOutFull }, s)
      else match decodeFrame l with
        | none => ({ status := jCheckFail, undef := n }, s)
        | some x => if d.param ≠ 0 ∧ d.param ≠ x.length then ({ status := jCheckFail, undef := n }, s) else ({ out := x }, s)) s

/-- DECOMPRESS on a read decompressor. -/
def opDecompress (u : Fin 8) (s : State) : State := runUnit 5 u.val (·.op == 0) decompJob s

/-! ### Known-answer tests (R225, R228) -/

/-- The class and unit of a unit number of the island: compressors 0 to 7, then the read decompressors. -/
def cmpUnit (u : Nat) : Nat × Nat := if u < 8 then (4, u) else (5, u - 8)

/-- One test of a CMP unit. -/
def cmpKatOne (u : Nat) (failed : Bool) (s : State) : State :=
  katRun (cmpUnit u).1 (cmpUnit u).2 failed (rinc F.CMP_VERIFY_CFG_KAT_PASSES 1) (rinc F.CMP_ERR_CNT_KAT_FAIL 1) s

/-- What a unit must produce (R225): a compressor the frame of 16,384 bytes of the sequence at level 3, a read decompressor those bytes again. -/
def cmpKatExpect (u : Nat) : List Byte := if u < 8 then compressAt 3 (katInput 16384) else katInput 16384

/-- CMP_KAT (R225): the periodic test of a unit, while KAT_EN is 1. -/
def opCmpKat (u : Fin 16) (out : Option (List Byte)) (s : State) : State :=
  if rbit F.CMP_VERIFY_CFG_KAT_EN s then cmpKatOne u.val (katFails out (cmpKatExpect u.val)) s else s

/-- KAT_RUN_NOW (R228): every unit in service tested at once. DESIGN CHOICE, unsafe: log 39. -/
def cmpRunNow (failing : List Nat) (s : State) : State :=
  forEach (List.range 16) (fun u s => cmpKatOne u (failing.contains u) s) s

/-- A write of CMP_VERIFY_CFG but for KAT_RUN_NOW. -/
def writeCmpVerifyCfg (v : Word) (s : State) : State :=
  rset F.CMP_VERIFY_CFG_KAT_PERIOD_MS (bits v.toNat 31 16) (rset F.CMP_VERIFY_CFG_KAT_EN (bits v.toNat 2 2) s)

end Sys2Proof.Machine
end

