-- ==== Sys2Proof/Machine/Cipher.lean ====
section
/-! DEFINITION. The cipher lanes, nonces and key slots (R208 to R231). -/

namespace Sys2Proof.Machine

open Sys2Proof

/-! ### Mismatches (R209) -/

/-- One mismatched comparison of a lane: counted, recorded, counted for the lane in the fault counters; at the threshold the lane
retires. -/
def twinMismatch (u : Nat) (s : State) : State :=
  let s := rset F.CIP_MISMATCH_CNT_LAST_LANE u (rinc F.CIP_MISMATCH_CNT_MISMATCH 1 s)
  let s := record Ev.CIP_MISMATCH srcCIP u [] s
  if unitRetired 6 u s then s else
  let (hit, s) := fltError 5 u s
  if hit then if fltActs 5 s then retireUnit 6 u s else record Ev.LANE_RETIRED srcCIP u [] s else s

/-- What the twin finds while a job runs: agreement; mismatches whose retries matched; or a retry that mismatched too, which fails the
job. Answers whether the job fails. -/
def twinRun (u : Nat) (t : Twin) (s : State) : Bool × State :=
  match t with
  | .agree => (false, s)
  | .retried n => (false, forEach (List.range n) (fun _ s => twinMismatch u s) s)
  | .failed _ => (true, rinc F.CIP_MISMATCH_CNT_REPEAT 1 (twinMismatch u (twinMismatch u s)))

/-! ### GCM (R196, R212, R215, R216) -/

/-- The 96-bit nonce of a counter value (R215). -/
def nonceOf (ctr : Nat) (s : State) : List Byte :=
  leBytes 6 ctr ++ leBytes 2 (rget F.CHIP_ESTATE_NUM_NUM s % 1024) ++ leBytes 4 (rget F.CIP_CTL_ESTATE_TAG s)

/-- The sealed frame header (Table 7.1). -/
def sealHeader (k : KeySlot) (nonce : List Byte) (chunkLen zlen : Nat) : List Byte :=
  [0xF7, 1] ++ leBytes 2 (k.kd % 4096) ++ leBytes 2 k.gen ++ leBytes 2 0 ++ nonce ++ leBytes 4 chunkLen ++ leBytes 4 zlen ++ leBytes 4 0

/-- A key slot replaced. -/
def setKey (n : Nat) (k : KeySlot) (s : State) : State := { s with keys := { s.keys with slots := kput s.keys.slots n k } }

/-- A seal (R212, R216): the counter taken indivisibly, the frame built and encrypted. Answers a status and the sealed frame. -/
def sealWith (slot chunkLen : Nat) (z : List Byte) (s : State) : Nat × List Byte × State :=
  let k := keyOf slot s
  if k.typ ≠ 1 ∨ !rbit F.CIP_CTL_LOCK s then (jKeyInvalid, [], s)
  else if k.counter = k.limit then (jNonceEnd, [], s)
  else
    let nonce := nonceOf k.counter s
    let hd := sealHeader k nonce chunkLen z.length
    let (ct, tag) := gcmEnc (k.mat.take 32) nonce hd z
    (jOk, hd ++ ct ++ tag, setKey slot { k with counter := k.counter + 1 } s)

/-- The checks of a sealed frame's header under a slot, made before any block is computed (R212). -/
def sealedStatus (slot : Nat) (f : List Byte) (s : State) : Nat :=
  let k := keyOf slot s
  let fld := fun o n => ofLe ((f.drop o).take n)
  if k.typ ≠ 1 then jKeyInvalid
  else if fld 0 1 ≠ 0xF7 ∨ fld 1 1 ≠ 1 ∨ fld 6 2 ≠ 0 ∨ fld 28 4 ≠ 0 ∨ fld 24 4 + 48 ≠ f.length then jCheckFail
  else if fld 2 2 ≠ k.kd ∨ fld 4 2 ≠ k.gen then jKeyInvalid
  else jOk

/-- The checks of a sealed frame's header and tag under a slot (R212): a status and the Zstandard frame. -/
def openWith (slot : Nat) (f : List Byte) (s : State) : Nat × List Byte :=
  if sealedStatus slot f s ≠ jOk then (sealedStatus slot f s, []) else
  match gcmDec ((keyOf slot s).mat.take 32) ((f.drop 8).take 12) (f.take 32) ((f.drop 32).take (f.length - 48)) (f.drop (f.length - 16)) with
  | some z => (jOk, z)
  | none => (jCheckFail, [])

/-- The common checks of AUX and PARAM of a GCM job. -/
def gcmBad (d : Desc) (seals : Bool) : Bool :=
  bits d.aux 15 12 != 0 || d.aux / 65536 != 0 || (if seals then decide (2 ^ 32 ≤ d.param) else d.param != 0)

/-- GCM_SEAL (R211, R212, R216). -/
def gcmSealJob (u : Nat) (t : Twin) (c : Chain) (d : Desc) (s : State) : JobRes × State :=
  if gcmBad d true then justStatus jBadDesc s else
  runCodec c d (fun l cap s =>
    let k := keyOf (d.aux % 4096) s
    if l.length < 14 ∨ 262163 < l.length then ({ status := jBadDesc }, s)
    else if k.typ ≠ 1 ∨ !rbit F.CIP_CTL_LOCK s then ({ status := jKeyInvalid }, s)
    else if cap < l.length + 48 then ({ status := jOutFull }, s)
    else match sealWith (d.aux % 4096) d.param l s with
      | (0, f, s) =>
        let (bad, s) := twinRun u t s
        if bad then ({ status := jVerifyFail, undef := cap }, s) else ({ out := f }, s)
      | (st, _, s) => ({ status := st }, s)) s

/-- GCM_OPEN (R211, R212). -/
def gcmOpenJob (u : Nat) (t : Twin) (c : Chain) (d : Desc) (s : State) : JobRes × State :=
  if gcmBad d false then justStatus jBadDesc s else
  runCodec c d (fun l cap s =>
    if l.length < 62 ∨ 262211 < l.length then ({ status := jBadDesc }, s)
    else if (keyOf (d.aux % 4096) s).typ ≠ 1 then ({ status := jKeyInvalid }, s)
    else if cap < l.length - 48 then ({ status := jOutFull }, s)
    else if sealedStatus (d.aux % 4096) l s ≠ jOk then
      ({ status := sealedStatus (d.aux % 4096) l s, undef := if sealedStatus (d.aux % 4096) l s = jCheckFail then cap else 0 }, s)
    else
      let (bad, s) := twinRun u t s
      if bad then ({ status := jVerifyFail, undef := cap }, s) else
      match openWith (d.aux % 4096) l s with
      | (0, z) => ({ out := z }, s)
      | (st, _) => ({ status := st, undef := if st = jCheckFail then cap else 0 }, s)) s

/-! ### The other modes (R211, R213, R214) -/

/-- A cipher job on a parameter block at AUX [63:16]: the slot's type, the lengths allowed, and the operation, which answers the output
and, where the mode writes it back, the block's next value. -/
def blockJob (typ : Nat) (okLen : Nat → Bool) (f : List Byte → List Byte → List Byte → List Byte × Option (List Byte))
    (u : Nat) (t : Twin) (c : Chain) (d : Desc) (s : State) : JobRes × State :=
  let a := d.aux / 65536
  let core := ctxCore c.ctx
  if bits d.aux 15 12 ≠ 0 ∨ d.param ≠ 0 ∨ a % 16 ≠ 0 ∨ !dataPlace core a false s then justStatus jBadDesc s else
  runCodec c d (fun l cap s =>
    let k := keyOf (d.aux % 4096) s
    if 0x200000 < l.length ∨ !okLen l.length then ({ status := jBadDesc }, s)
    else if k.typ ≠ typ then ({ status := jKeyInvalid }, s)
    else if cap < l.length then ({ status := jOutFull }, s)
    else match readMem (physKey core a) 16 s with
      | (none, s) => ({ status := jBufFault }, s)
      | (some p, s) =>
        let (bad, s) := twinRun u t s
        if bad then ({ status := jVerifyFail, undef := cap }, s) else
        let (out, next) := f k.mat p l
        let s := match next with
          | some b => memWrite (physKey core a) (padTo 16 b) s
          | none => s
        ({ out := out }, s)) s

/-- XTS (R213): the block is the number of the first data unit and is not written back. -/
def xtsJob (dec : Bool) : Nat → Twin → Chain → Desc → State → JobRes × State :=
  blockJob 2 (fun n => n % 4096 == 0) (fun k p l => (xtsAll dec k (ofLe p) (l.length / 4096 + 1) l, none))

/-- A mode of SP 800-38A under a PROG key, its next block written back (R214). -/
def progJob (okLen : Nat → Bool) (f : List (List Byte) → List Byte → List Byte → List Byte × List Byte) :
    Nat → Twin → Chain → Desc → State → JobRes × State :=
  blockJob 4 okLen (fun k p l => let r := f (roundKeys (k.take 32)) p l; (r.1, some r.2))

/-- A multiple of 16. -/
def okCbc (n : Nat) : Bool := n % 16 == 0
/-- 1 or more. -/
def okCfb (n : Nat) : Bool := n != 0

/-- GCM_SEAL on a lane. -/
def opGcmSeal (u : Fin 64) (t : Twin) (s : State) : State := runUnit 6 u.val (·.op == 0) (gcmSealJob u.val t) s
/-- GCM_OPEN on a lane. -/
def opGcmOpen (u : Fin 64) (t : Twin) (s : State) : State := runUnit 6 u.val (·.op == 1) (gcmOpenJob u.val t) s
/-- XTS_ENC on a lane. -/
def opXtsEnc (u : Fin 64) (t : Twin) (s : State) : State := runUnit 6 u.val (·.op == 2) (xtsJob false u.val t) s
/-- XTS_DEC on a lane. -/
def opXtsDec (u : Fin 64) (t : Twin) (s : State) : State := runUnit 6 u.val (·.op == 3) (xtsJob true u.val t) s
/-- CBC_ENC on a lane. -/
def opCbcEnc (u : Fin 64) (t : Twin) (s : State) : State := runUnit 6 u.val (·.op == 4) (progJob okCbc cbcEnc u.val t) s
/-- CBC_DEC on a lane. -/
def opCbcDec (u : Fin 64) (t : Twin) (s : State) : State := runUnit 6 u.val (·.op == 5) (progJob okCbc cbcDec u.val t) s
/-- CFB_ENC on a lane. -/
def opCfbEnc (u : Fin 64) (t : Twin) (s : State) : State := runUnit 6 u.val (·.op == 6) (progJob okCfb cfbEnc u.val t) s
/-- CFB_DEC on a lane. -/
def opCfbDec (u : Fin 64) (t : Twin) (s : State) : State := runUnit 6 u.val (·.op == 7) (progJob okCfb cfbDec u.val t) s
/-- CTR on a lane. -/
def opCtr (u : Fin 64) (t : Twin) (s : State) : State := runUnit 6 u.val (·.op == 8) (progJob okCfb aesCtr u.val t) s

/-! ### Key slot commands (R220 to R224) -/

/-- SLOTS_LOADED as it reads: the slots not EMPTY (Table 7.14). -/
def slotsLoaded (s : State) : Nat := (s.keys.slots.filter (fun p => p.2.typ != 0)).length

/-- A key slot command has run: its OP, SLOT and RESULT (Table 7.14). It has ended when the next one is written, so that BUSY reads 0 then.
DESIGN CHOICE, unsafe: log 34. -/
def keyDone (op slot result : Nat) (s : State) : State :=
  rset F.CIP_KEYSLOT_STATUS_RESULT result (rset F.CIP_KEYSLOT_STATUS_OP op (rset F.CIP_KEYSLOT_STATUS_SLOT slot s))

/-- A record unwrapped under the array wrapping key (R222): its material. -/
def unwrap (awk b : List Byte) : Option (List Byte) :=
  gcmDec awk ((b.drop 16).take 12) (b.take 16) ((b.drop 28).take 64) ((b.drop 92).take 16)

/-- A load block installed in an empty slot (R223): the result code and the slots. -/
def loadKey (typ slot : Nat) (awk b : List Byte) (s : State) : Nat × State :=
  let f := fun o n => ofLe ((b.drop o).take n)
  let rt := f 2 1
  if (keyOf slot s).typ ≠ 0 then (2, s) else
  match unwrap awk b with
  | none => (3, s)
  | some m =>
    if f 0 2 ≠ 1 then (3, s)
    else if typ ≠ rt ∨ rt = 0 ∨ 5 ≤ rt ∨ (rt = 2 ∧ m.take 32 = (m.drop 32).take 32) then (4, s)
    else if s.keys.slots.any (fun p => p.2.typ != 0 && p.2.keyId == f 8 8) then (5, s)
    else if rt = 1 ∧ f 120 8 % 2 ^ 48 < f 112 8 % 2 ^ 48 then (8, s)
    else
      let k : KeySlot := { typ := rt, kd := f 4 2 % 4096, gen := f 6 2, keyId := f 8 8, mat := m }
      (0, setKey slot (if rt = 1 then { k with counter := f 112 8 % 2 ^ 48, limit := f 120 8 % 2 ^ 48 } else k) s)

/-- Random bytes from the security block's entropy source: free values. DESIGN CHOICE, safe: log 16. -/
def drawBytes (n : Nat) (s : State) : List Byte × State :=
  ((List.range n).map (fun i => Config.entropy (s.freeCtr + i * 2 ^ 64)), tickFree s)

/-- A new record (R223): bytes 0 to 15 as they stand, then WRAP_IV, the material wrapped, and the tag. DESIGN CHOICE, unsafe: log 71. -/
def wrapRecord (awk hd iv mat : List Byte) : List Byte :=
  let (ct, tag) := gcmEnc awk iv hd (padTo 64 mat)
  hd ++ iv ++ ct ++ tag ++ leBytes 4 0

/-- The lowest slot that a key other than a salt holds, and the first slot above every salt (R221). -/
def keyFloor (s : State) : Nat := s.keys.slots.foldl (fun n p => if p.2.typ = 0 ∨ p.2.typ = 3 then n else min n p.1) 4096
/-- The first slot above every salt. -/
def saltTop (s : State) : Nat := s.keys.slots.foldl (fun n p => if p.2.typ = 3 then max n (p.1 + 1) else n) 0

/-- The slot that the Array Runtime gives a record (R221): a salt's own key domain; for another key the highest empty slot; none where the two
ranges would meet. -/
def recordSlot (b : List Byte) (s : State) : Option Nat :=
  let kd := ofLe ((b.drop 4).take 2) % 4096
  if ofLe ((b.drop 2).take 1) = 3 then if kd < keyFloor s then some kd else none
  else (lowest 4096 (fun i => (keyOf (4095 - i) s).typ == 0)).bind (fun i => if saltTop s ≤ 4095 - i then some (4095 - i) else none)

/-- A wrapped record loaded by the Array Runtime with START and LIMIT, or KEY_SLOTS_FULL (R221, R222). -/
def loadRecord (start limit : Nat) (b : List Byte) (s : State) : State :=
  match s.keys.awk, recordSlot b s with
  | some awk, some i => (loadKey (ofLe ((b.drop 2).take 1)) i awk (padTo 112 b ++ leBytes 8 start ++ leBytes 8 limit) s).2
  | some _, none => recordFw Ev.KEY_SLOTS_FULL srcCIP (ofLe ((b.drop 4).take 2) % 4096) [] s
  | none, _ => s

/-- A slot holds the key of a record. -/
def recordHeld (b : List Byte) (s : State) : Bool := s.keys.slots.any (fun p => p.2.typ != 0 && p.2.keyId == ofLe ((b.drop 8).take 8))

/-- LOAD, written by core `c` (R223). -/
def opLoad (c : CoreId) (typ slot addr : Nat) (s : State) : State :=
  if !dataPlace c addr true s || addr % 64 != 0 then keyDone 1 slot 6 s else
  match s.keys.awk with
  | none => keyDone 1 slot 7 s
  | some awk =>
    match readMem (physKey c addr) 128 (wakeAt addr s) with
    | (none, s) => keyDone 1 slot 3 s
    | (some b, s) =>
      let (r, s) := loadKey typ slot awk b s
      keyDone 1 slot r s

/-- GENERATE (R223). -/
def opGenerate (c : CoreId) (typ slot addr : Nat) (s : State) : State :=
  if !dataPlace c addr true s || addr % 64 != 0 then keyDone 2 slot 6 s
  else if typ = 0 ∨ 5 ≤ typ then keyDone 2 slot 4 s
  else match s.keys.awk with
    | none => keyDone 2 slot 7 s
    | some awk =>
      let s := wakeAt addr s
      let hd := memRead s (physKey c addr) 16
      let (iv, s) := drawBytes 12 s
      let (m, s) := drawBytes (if typ = 2 then 64 else 32) s
      keyDone 2 slot 0 (memWrite (physKey c addr) (wrapRecord awk hd iv m) s)

/-- ZEROIZE (R224): jobs that would start on the slot later end with KEY_INVALID. -/
def opZeroize (slot : Nat) (s : State) : State := keyDone 3 slot 0 (setKey slot {} s)

/-- QUERY (R223). -/
def opQuery (c : CoreId) (slot addr : Nat) (s : State) : State :=
  if !dataPlace c addr true s || addr % 64 != 0 then keyDone 4 slot 6 s else
  let k := keyOf slot s
  keyDone 4 slot 0 (memWrite (physKey c addr)
    (leBytes 2 k.typ ++ leBytes 2 k.kd ++ leBytes 2 k.gen ++ leBytes 2 0 ++ leBytes 8 k.keyId ++ leBytes 8 k.counter ++ leBytes 8 k.limit) (wakeAt addr s))

/-- Every slot cleared (R223, R224). -/
def clearKeys (s : State) : State := { s with keys := { s.keys with slots := [] } }

/-- ZEROIZE_ALL. -/
def opZeroizeAll (slot : Nat) (s : State) : State := keyDone 5 slot 0 (clearKeys s)

/-- A write of CIP_KEYSLOT_CMD by core `c` (Tables 7.8 and 7.14); one written while BUSY is discarded (R224). DESIGN CHOICE, unsafe: log 66. -/
def writeKeyCmd (c : CoreId) (v : Word) (s : State) : State :=
  let n := v.toNat
  let op := bits n 63 60
  let slot := bits n 53 42
  let addr := bits n 41 0 * 64
  if rbit F.CIP_KEYSLOT_STATUS_BUSY s then rflag F.CIP_KEYSLOT_STATUS_CMD_DROPPED true s else
  match op with
  | 1 => opLoad c (bits n 59 56) slot addr s
  | 2 => opGenerate c (bits n 59 56) slot addr s
  | 3 => opZeroize slot s
  | 4 => opQuery c slot addr s
  | 5 => opZeroizeAll slot s
  | _ => keyDone op slot 4 s

/-! ### Limits, control, known-answer tests (R217, R225, R230) -/

/-- A write of CIP_NONCE_LIMIT (R217): SET = 1 raises a GCM slot's limit, and is refused and counted otherwise. -/
def writeNonceLimit (v : Word) (s : State) : State :=
  let n := v.toNat
  let slot := bits n 11 0
  let s := rset F.CIP_NONCE_LIMIT_SLOT slot s
  if n.testBit 15 then
    let k := keyOf slot s
    if k.typ = 1 ∧ k.limit < bits n 63 16 then setKey slot { k with limit := bits n 63 16 } s
    else rinc F.CIP_MISMATCH_CNT_LIMIT_REFUSED 1 s
  else s

/-- A write of CIP_CTL but for KAT_RUN_NOW (Table 7.13). -/
def writeCipCtl (v : Word) (s : State) : State :=
  let n := v.toNat
  let s := if rbit F.CIP_CTL_LOCK s then s else rflag F.CIP_CTL_LOCK (n.testBit 31) (rset F.CIP_CTL_ESTATE_TAG (bits n 63 32) s)
  rset F.CIP_CTL_KAT_PERIOD_MS (bits n 19 4) (rset F.CIP_CTL_KAT_EN (bits n 2 2) s)

/-- One test of a cipher lane. -/
def cipKatOne (u : Nat) (failed : Bool) (s : State) : State := katRun 6 u failed (fun s => s) (rinc F.CIP_MISMATCH_CNT_KAT_FAIL 1) s

/-- CIP_KAT (R225): the periodic test of a lane, while KAT_EN is 1. -/
def opCipKat (u : Fin 64) (failed : Bool) (s : State) : State := if rbit F.CIP_CTL_KAT_EN s then cipKatOne u.val failed s else s

/-- CIP_KAT_RUN_NOW (R230). DESIGN CHOICE, unsafe: log 39. -/
def cipRunNow (failing : List Nat) (s : State) : State :=
  forEach (List.range 64) (fun u s => cipKatOne u (failing.contains u) s) s

end Sys2Proof.Machine
end

