-- ==== Sys2Proof/Machine/Parity.lean ====
section
/-! DEFINITION. P and Q, the parity contexts and the decode of a row (R234 to R237, R271, R284). -/

namespace Sys2Proof.Machine

open Sys2Proof

/-! ### The arithmetic (R234) -/

/-- A strip with every byte multiplied by `c` in GF(2^8). -/
def mulStrip (c : Nat) (l : List Byte) : List Byte :=
  if c = 1 then l else l.map (fun b => BitVec.ofNat 8 (gfMul c b.toNat))

/-- g^i, g = 2. -/
def gPow (i : Nat) : Nat := gfPow gfMul 2 i

/-- A strip of zeros. -/
def zeroStrip (n : Nat) : List Byte := List.replicate n 0

/-- P of the data strips listed with their positions. -/
def pOf (n : Nat) (l : List (Nat × List Byte)) : List Byte := l.foldl (fun p d => xorBytes p (padTo n d.2)) (zeroStrip n)

/-- Q of the data strips listed with their positions. -/
def qOf (n : Nat) (l : List (Nat × List Byte)) : List Byte :=
  l.foldl (fun q d => xorBytes q (mulStrip (gPow d.1) (padTo n d.2))) (zeroStrip n)

/-! ### Decode (R284) -/

/-- A row of k + 2 strips, `none` for an erasure. -/
abbrev Row := List (Option (List Byte))

/-- A strip of a row. -/
def rowStrip (r : Row) (i : Nat) : Option (List Byte) := (r.getD i none)

/-- The data strips of a row that are not erased, with their positions. -/
def rowData (k : Nat) (r : Row) : List (Nat × List Byte) :=
  (List.range k).filterMap (fun i => (rowStrip r i).map (fun b => (i, b)))

/-- The erased positions of a row. -/
def erasures (k : Nat) (r : Row) : List Nat := (List.range (k + 2)).filter (fun i => (rowStrip r i).isNone)

/-- The data strips of a row after decode (Table 9.4); `none` with three or more erasures. -/
def decodeData (k n : Nat) (r : Row) : Option (List (Nat × List Byte)) :=
  let ds := rowData k r
  let lost := (List.range k).filter (fun i => (rowStrip r i).isNone)
  match lost, rowStrip r k, rowStrip r (k + 1) with
  | [], _, _ => some ds
  | [x], some p, _ => some ((x, xorBytes (padTo n p) (pOf n ds)) :: ds)
  | [x], none, some q => some ((x, mulStrip (gfInv gfMul (gPow x)) (xorBytes (padTo n q) (qOf n ds))) :: ds)
  | [x, y], some p, some q =>
    let pxy := xorBytes (padTo n p) (pOf n ds)
    let qxy := xorBytes (padTo n q) (qOf n ds)
    let dx := mulStrip (gfInv gfMul (gPow x ^^^ gPow y)) (xorBytes qxy (mulStrip (gPow y) pxy))
    some ((x, dx) :: (y, xorBytes pxy dx) :: ds)
  | _, _, _ => none

/-- A strip of a row, decoded when it is erased. -/
def decodeStrip (k n : Nat) (r : Row) (i : Nat) : Option (List Byte) :=
  match rowStrip r i with
  | some b => some b
  | none =>
    match decodeData k n r with
    | none => none
    | some ds =>
      if i < k then (ds.find? (fun d => d.1 == i)).map (·.2)
      else if i = k then some (pOf n ds) else some (qOf n ds)

/-! ### Contexts (R235) -/

/-- CTX_BUSY follows the contexts taken. -/
def setPar (m : KMap ParCtx) (s : State) : State := rset F.PAR_STATUS_CTX_BUSY m.length { s with par := m }

/-- CTX, IDX, K and LEN_4K of PARAM. -/
def pCtx (d : Desc) : Nat := bits d.param 5 0
/-- IDX. -/
def pIdx (d : Desc) : Nat := bits d.param 12 8

/-- PQ_OPEN: the context cleared and taken. -/
def parOpen (_c : Chain) (d : Desc) (s : State) : JobRes × State :=
  let k := bits d.param 21 16
  let n := bits d.param 28 24
  if !onlyBits d.param 0x1F3F003F ∨ d.aux ≠ 0 ∨ k < 4 ∨ 32 < k ∨ n < 1 ∨ 16 < n ∨ (kfind s.par (pCtx d)).isSome then justStatus jBadDesc s
  else ({}, setPar (kput s.par (pCtx d) { k := k, len := 4096 * n, p := zeroStrip (4096 * n), q := zeroStrip (4096 * n) }) s)

/-- A strip added to a context as a data position; a position K or above adds nothing (R235, R236). -/
def parFeed (ctx idx : Nat) (l : List Byte) (s : State) : State :=
  match kfind s.par ctx with
  | none => s
  | some x =>
    if x.k ≤ idx then s else
    let d := padTo x.len l
    { s with par := kput s.par ctx { x with p := xorBytes x.p d, q := xorBytes x.q (mulStrip (gPow idx) d), added := x.added ++ [idx] } }

/-- PQ_ADD. A context that is not taken has no positions, so every IDX gives BAD_DESC. DEDUCED, unsafe: log 38. -/
def parAdd (c : Chain) (d : Desc) (s : State) : JobRes × State :=
  match kfind s.par (pCtx d) with
  | none => justStatus jBadDesc s
  | some x =>
    if !onlyBits d.param 0x1F3F ∨ d.aux ≠ 0 ∨ x.k ≤ pIdx d then justStatus jBadDesc s else
    let (h, o, n) := inputOf c d s
    match readBuf d h o n s with
    | (none, s) => justStatus jBufFault s
    | (some l, s) => ({}, parFeed (pCtx d) (pIdx d) l s)

/-- Every position 0 to K − 1 was added exactly once. -/
def parFull (x : ParCtx) : Bool := (List.range x.k).all (fun i => (x.added.filter (· == i)).length == 1) && x.added.length == x.k

/-- PQ_EMIT: P at OUT, Q at offset 0 of AUX, the context freed; with BUF_FAULT nothing is written and the context stays. DEDUCED, unsafe: log 38. -/
def parEmit (_c : Chain) (d : Desc) (s : State) : JobRes × State :=
  if !onlyBits d.param 0x3F ∨ 2 ^ 32 ≤ d.aux then justStatus jBadDesc s else
  match outBuf d s with
  | (none, s) => justStatus jBufFault s
  | (some (oh, oo, cap, al), s) =>
    let alloc := if al then some oh else none
    let n := match kfind s.par (pCtx d) with | some x => x.len | none => 0
    match checkHandle .engine d.aux n s with
    | .error e => ({ status := jBufFault, alloc := alloc }, bpmFail (engSrc d) e d.aux s)
    | .ok q =>
      match kfind s.par (pCtx d) with
      | none => ({ status := jCheckFail, alloc := alloc }, s)
      | some x =>
        if cap < x.len then ({ status := jOutFull, alloc := alloc }, s)
        else if !parFull x then ({ status := jCheckFail, alloc := alloc }, s)
        else ({ outBytes := x.len, outHandle := some (oo * 2 ^ 32 + oh), alloc := alloc },
              setPar (kdel s.par (pCtx d)) (writeBuf q 0 x.q (writeBuf oh oo x.p s)))

/-- PQ_CHECK: the sums compared with P at IN and Q at AUX, the context freed; the offset of the first difference in output bytes. -/
def parCheck (c : Chain) (d : Desc) (s : State) : JobRes × State :=
  if !onlyBits d.param 0x3F ∨ 2 ^ 32 ≤ d.aux then justStatus jBadDesc s else
  let (h, o, _) := inputOf c d s
  let n := match kfind s.par (pCtx d) with | some x => x.len | none => 0
  match readBuf d h o n s with
  | (none, s) => justStatus jBufFault s
  | (some p, s) =>
    match readBuf d d.aux 0 n s with
    | (none, s) => justStatus jBufFault s
    | (some q, s) =>
      match kfind s.par (pCtx d) with
      | none => justStatus jCheckFail s
      | some x =>
        let s := setPar (kdel s.par (pCtx d)) s
        let i := min (firstDiff p x.p) (firstDiff q x.q)
        if i < n then ({ status := jCheckFail, outBytes := i }, s) else ({}, s)

/-- PQ_FREE. -/
def parFree (_c : Chain) (d : Desc) (s : State) : JobRes × State :=
  if !onlyBits d.param 0x3F ∨ d.aux ≠ 0 then justStatus jBadDesc s else ({}, setPar (kdel s.par (pCtx d)) s)

/-! ### RECON (R237) -/

/-- The table is well formed. -/
def reconOk (k n cnt e0 e1 : Nat) (t : List Byte) : Bool :=
  decide (4 ≤ k) && decide (k ≤ 32) && decide (1 ≤ n) && decide (n ≤ 16) && (cnt == 1 || cnt == 2) && decide (e0 < k + 2) &&
  (if cnt = 1 then e1 == 0xFF else decide (e1 < k + 2) && e0 != e1) &&
  (t.getD 3 0 == 0) && ((t.drop 6).take 10).all (· == 0) && (t.drop (16 + 8 * (k + 2))).all (· == 0)

/-- The strips of a table, those of the positions listed left out. -/
def reconRead (d : Desc) (t : List Byte) (n : Nat) (skip : List Nat) : Nat → State → Option Row × State
  | 0, s => (some [], s)
  | j + 1, s =>
    match reconRead d t n skip j s with
    | (none, s) => (none, s)
    | (some r, s) =>
      if skip.contains j then (some (r ++ [none]), s) else
      let h := ofLe ((t.drop (16 + 8 * j)).take 4)
      let o := ofLe ((t.drop (20 + 8 * j)).take 4)
      match readBuf d h o n s with
      | (none, s) => (none, s)
      | (some b, s) => (some (r ++ [some b]), s)

/-- The output buffers of the erased positions checked: `false` is BUF_FAULT. -/
def reconOuts (d : Desc) (t : List Byte) (n : Nat) : List Nat → State → Bool × State
  | [], s => (true, s)
  | j :: l, s =>
    let h := ofLe ((t.drop (16 + 8 * j)).take 4)
    match checkHandle .engine h (ofLe ((t.drop (20 + 8 * j)).take 4) + n) s with
    | .error e => (false, bpmFail (engSrc d) e h s)
    | .ok _ => reconOuts d t n l s

/-- RECON: one or two erased strips rebuilt from the survivors, so that R234 holds over the whole stripe. -/
def parRecon (c : Chain) (d : Desc) (s : State) : JobRes × State :=
  let core := ctxCore c.ctx
  if d.param ≠ 0 ∨ 2 ^ 48 ≤ d.aux ∨ d.aux % 64 ≠ 0 ∨ !dataPlace core d.aux false s then justStatus jBadDesc s else
  match readMem (physKey core d.aux) 288 s with
  | (none, s) => justStatus jBufFault s
  | (some t, s) =>
    let f := fun i => (t.getD i 0).toNat
    let k := f 0
    let n := 4096 * f 1
    let lost := if f 2 = 1 then [f 4] else [f 4, f 5]
    if !reconOk k (f 1) (f 2) (f 4) (f 5) t then justStatus jBadDesc s else
    match reconOuts d t n lost s with
    | (false, s) => justStatus jBufFault s
    | (true, s) =>
      match reconRead d t n lost (k + 2) s with
      | (none, s) => justStatus jBufFault s
      | (some r, s) =>
        ({ outBytes := n * lost.length }, forEach lost (fun e s =>
          let h := ofLe ((t.drop (16 + 8 * e)).take 4)
          writeBuf h (ofLe ((t.drop (20 + 8 * e)).take 4)) ((decodeStrip k n r e).getD []) s) s)

/-- PQ_OPEN. -/
def opPqOpen (s : State) : State := runUnit 7 0 (·.op == 0) parOpen s
/-- PQ_ADD. -/
def opPqAdd (s : State) : State := runUnit 7 0 (·.op == 1) parAdd s
/-- PQ_EMIT. -/
def opPqEmit (s : State) : State := runUnit 7 0 (·.op == 2) parEmit s
/-- PQ_CHECK. -/
def opPqCheck (s : State) : State := runUnit 7 0 (·.op == 3) parCheck s
/-- RECON. -/
def opRecon (s : State) : State := runUnit 7 0 (·.op == 4) parRecon s
/-- PQ_FREE. -/
def opPqFree (s : State) : State := runUnit 7 0 (·.op == 5) parFree s

/-! ### Known-answer test (R271) -/

/-- PAR's test: a single failure retires PAR. -/
def parKatOne (failed : Bool) (s : State) : State := katRun 7 0 failed (fun s => s) (rinc F.PAR_ERR_CNT_KAT_FAIL 1) s

/-- PAR_KAT: the periodic test, while KAT_EN is 1. -/
def opParKat (failed : Bool) (s : State) : State := if rbit F.PAR_CTL_KAT_EN s then parKatOne failed s else s

/-- A write of PAR_CTL but for KAT_RUN_NOW. DESIGN CHOICE, unsafe: log 39. -/
def writeParCtl (v : Word) (s : State) : State :=
  rset F.PAR_CTL_KAT_PERIOD_MS (bits v.toNat 31 16) (rset F.PAR_CTL_KAT_EN (bits v.toNat 2 2) s)

end Sys2Proof.Machine
end

