-- ==== Sys2Proof/Machine/ArrBase.lean ====
section
/-! DEFINITION. The Array Runtime's tables: access to them, the strainer, index transactions, the map commit with its references and
holds, the settings of the configuration store, shelves and members as other families read them (R169 to R181, R249, R258, R262, R265,
R275, R302). -/

namespace Sys2Proof.Machine

open Sys2Proof

/-! ### Access -/

/-- A list cut into groups of `n`. -/
def groupsOf {α : Type} (n : Nat) (l : List α) : List (List α) := (List.range ((l.length + n - 1) / n)).map (fun i => (l.drop (i * n)).take n)

/-- The state with the Array Runtime's tables changed. -/
def onArr (f : Arr → Arr) (s : State) : State := { s with arr := f s.arr }

/-- A namespace. -/
def nsOf (n : Nat) (s : State) : Option Namespace := kfind s.host.ns n

/-- A zone set. -/
def zsOf (n : Nat) (s : State) : ZoneSet := kget {} s.arr.zoneSets n

/-- A zone set replaced. -/
def setZs (n : Nat) (z : ZoneSet) (s : State) : State := onArr (fun a => { a with zoneSets := kput a.zoneSets n z }) s

/-- A drive. -/
def memberOf (d : Nat) (s : State) : Member := kget {} s.arr.members d

/-- A drive replaced. -/
def setMember (d : Nat) (m : Member) (s : State) : State := onArr (fun a => { a with members := kput a.members d m }) s

/-- A shelf. -/
def shelfOf (n : Nat) (s : State) : Shelf := kget {} s.arr.shelves n

/-- A shelf replaced. -/
def setShelf (n : Nat) (x : Shelf) (s : State) : State := onArr (fun a => { a with shelves := kput a.shelves n x }) s

/-- A member whose strips are erasures in every row: FAILED or ABSENT, or seen removed. -/
def memberGone (d : Nat) (s : State) : Bool :=
  let m := memberOf d s
  m.st == .failed || m.st == .absent || m.removed

/-- The operating second. -/
def opsec (s : State) : Nat := rget F.CLK_OPTIME_OPSEC s

/-! ### The configuration store's settings (Table 9.3, R311, R54) -/

/-- A setting as it acts: a value outside its range acts as the nearest bound (R283). -/
def bounded (lo hi n : Nat) : Nat := min hi (max lo n)

/-- The settings as they act (Table 9.3, R311). DESIGN CHOICE, unsafe: log 64. -/
def Settings.acting (x : Settings) : Settings :=
  { x with
    rebuildMbS := bounded 100 4000 x.rebuildMbS, rebuildCritMbS := bounded 100 8000 x.rebuildCritMbS,
    rebuildMinMbS := bounded 50 1000 x.rebuildMinMbS, rebuildBufs := bounded 34 192 x.rebuildBufs,
    timeoutFails := bounded 1 8 x.timeoutFails, scrubMbS := bounded 1000 64000 x.scrubMbS,
    scrubSlowUs := bounded 1000 100000 x.scrubSlowUs, rewriteAgeD := bounded 90 3650 x.rewriteAgeD,
    repMbS := bounded 100 40000 x.repMbS }

/-- The settings that act. -/
def settings (s : State) : Settings := Settings.acting s.arr.settings

/-- The home head of a group (R322): of groups 0 to 127 head A, of the others head B, where the store names no other. -/
def homeHead (g : Nat) (s : State) : Nat :=
  match (settings s).homes.find? (fun p => p.1 == g) with
  | some p => p.2 % 2
  | none => g / 128

/-! ### Ranges of LBAs (R191, R297, R298) -/

/-- A range of a namespace's LBAs joined to a list of ranges that neither touch nor overlap. -/
def addRange (x : Nat × Nat × Nat) : List (Nat × Nat × Nat) → List (Nat × Nat × Nat)
  | [] => [x]
  | y :: l =>
    if x.1 < y.1 ∨ x.1 = y.1 ∧ x.2.1 + x.2.2 < y.2.1 then x :: y :: l
    else if y.1 < x.1 ∨ y.2.1 + y.2.2 < x.2.1 then y :: addRange x l
    else addRange (x.1, min x.2.1 y.2.1, max (x.2.1 + x.2.2) (y.2.1 + y.2.2) - min x.2.1 y.2.1) l

/-- The contiguous LBA ranges of map records, by namespace. -/
def rangesOf (rs : List MapRec) : List (Nat × Nat × Nat) :=
  rs.foldl (fun l r => addRange (r.nsid, r.addr / 4096, (r.len + 4095) / 4096) l) []

/-- One event for each namespace and contiguous LBA range of the records, with more behind the range in its payload. DESIGN CHOICE, safe: log 28. -/
def recordRanges (code inst : Nat) (more : List (Nat × Nat)) (rs : List MapRec) (s : State) : State :=
  forEach (rangesOf rs) (fun x s => recordFw code srcSUP inst (pack ([(4, x.1), (8, x.2.1), (4, x.2.2)] ++ more)) s) s

/-- The live and retained map records that name a chunk. -/
def namingChunk (fp : Digest) (kd : Nat) (s : State) : List MapRec :=
  (s.arr.maps ++ s.arr.retained.map (·.rec_)).filter (fun r => r.fp == some fp && r.kd == kd)

/-! ### The master and the partner (R264, R351) -/

/-- The shelf master is the owner of group 0, or the survivor when the partner is absent (R264); so is the admin owner (R323). -/
def isMaster (s : State) : Bool := owns 0 s || solo s

/-- A partner message, in a PMSG record of the open epoch. DESIGN CHOICE, safe: log 1. DESIGN CHOICE, safe: log 28. -/
def sendPartner (m : PartnerMsg) (s : State) : State := addRec' none (.pmsg m) s

/-! ### Layouts (Tables 6.4 and 6.5, R177, R258, R303) -/

/-- The slice of a fingerprint (R170). -/
def sliceOf (fp : Digest) : Nat := digestField fp 0 1

/-- This head serves a slice: it owns the group of the same number, or runs SOLO (R176). -/
def serves (b : Nat) (s : State) : Bool := owns b s || solo s

/-- LOC as a number (Table 6.5). -/
def locWord (k : EntryKind) : Nat :=
  match k with
  | .chunk l => l.shelf % 8 * 2 ^ 61 + l.stripe % 2 ^ 40 * 2 ^ 21 + l.off % 2 ^ 21
  | .importFrom x => x % 32
  | .extRef x => x % 32
  | .dir x => x % 32

/-- KIND as a number. -/
def kindCode (k : EntryKind) : Nat := match k with | .chunk _ => 1 | .importFrom _ => 2 | .extRef _ => 3 | .dir _ => 4

/-- Byte 57 of an entry: STATE, STR_SEL, SEALED. -/
def stateByte (e : IndexEntry) : Nat :=
  (match e.state with | .pending => 1 | .live => 2 | .dead => 3) +
    4 * (match e.strSel with | .b1 => 0 | .b2 => 1 | .stash => 2 | .dropped => 3) + (if e.sealed_ then 16 else 0)

/-- The 64 bytes of an index entry on a page (Table 6.5): HOLDS is never written to a page. -/
def entryBytes (e : IndexEntry) : List Byte :=
  digestBytes e.fp ++ leBytes 8 (locWord e.kind) ++ leBytes 4 (if e.state = .pending then 0 else e.frameLen) ++ leBytes 4 e.chunkLen ++
    leBytes 4 e.refs ++ leBytes 2 0 ++ leBytes 2 (e.kd % 4096) ++ leBytes 1 (kindCode e.kind) ++ leBytes 1 (stateByte e) ++
    leBytes 6 (match e.kind with | .importFrom _ => e.serial | .extRef _ => e.serial | _ => 0)

/-- The 64 bytes of a strainer bucket (Table 6.4); the slots at and above COUNT, which are undefined, free values. DESIGN CHOICE, safe: log 14. -/
def bucketBytes (x : Bucket) (s : State) : List Byte :=
  let free := fun (i : Nat) => (Config.undefByte (s.freeCtr * 48 + i)).toNat * 4 % 1024
  let slot := fun (i : Nat) => if i < x.tags.length then x.tags.getD i 0 % 1024 else free i
  leBytes 64 ((List.range 48).foldl (fun n i => n + slot i * 2 ^ (10 * i)) 0 + x.tags.length % 64 * 2 ^ 484 +
    (if x.overflow then 2 ^ 496 else 0) + x.version % 256 * 2 ^ 504)

/-- The 64 bytes of a map record (R258); a record that names a frame directly holds the frame's place in the bytes of FP (R184). DESIGN CHOICE,
unsafe: log 93. -/
def mapBytes (r : MapRec) : List Byte :=
  let b := leBytes 8 r.addr ++ leBytes 4 r.len ++ leBytes 4 r.coff ++
    (match r.fp with | some f => digestBytes f | none => padTo 32 (leBytes 8 (locWord (.chunk r.frame)))) ++
    leBytes 2 r.kd ++ leBytes 2 0 ++ leBytes 8 r.wseq
  b ++ leBytes 4 (crc32c b)

/-- The 80 bytes of a retained record (R303): a map record, WSEQ_END and 8 bytes of 0, its CRC32C over all but itself. -/
def retBytes (r : RetRec) : List Byte :=
  let b := (mapBytes r.rec_).take 60
  let e := leBytes 8 r.wseqEnd ++ List.replicate 8 0
  b ++ leBytes 4 (crc32c (b ++ e)) ++ e

/-- STATE of a journal entry. -/
def jstateCode (t : JState) : Nat :=
  match t with | .steeping => 1 | .pouring => 2 | .landed => 3 | .committed => 4 | .discarded => 5

/-- The 256 bytes of a pour journal entry (Table 8.4), little-endian (R8), its CRC32C over the other 252. -/
def journalBytes (j : JEntry) : List Byte :=
  let a := leBytes 8 (j.stripe % 2 ^ 40) ++ leBytes 1 (jstateCode j.state) ++ leBytes 1 (j.shelf % 8) ++ leBytes 1 j.k ++ leBytes 1 j.group ++
    leBytes 1 j.cls ++ leBytes 3 0 ++ leBytes 4 j.row ++ leBytes 4 j.dataBytes ++ leBytes 4 j.frames ++ leBytes 4 j.zoneSet ++ leBytes 8 j.epoch ++
    leBytes 8 j.jseq ++ leBytes 4 0
  let b := padTo 136 (j.members.flatMap (fun m => leBytes 4 (m.1 % 52 * 2 ^ 26 + m.2 % 2 ^ 26))) ++ List.replicate 64 0
  a ++ leBytes 4 (crc32c (a ++ b)) ++ b

/-- A journal entry is COMMITTED or DISCARDED. -/
def jFinal (j : JEntry) : Bool := j.state == .committed || j.state == .discarded

/-- A journal entry put in its place; an entry leaves once it is final and every later one of its zone set has left (R251). -/
def journalPut (j : JEntry) (l : List JEntry) : List JEntry :=
  let l := if l.any (·.stripe == j.stripe) then l.map (fun x => if x.stripe = j.stripe then j else x) else l ++ [j]
  let later := fun (x y : JEntry) => x.row != 0xFFFFFFFF && y.row != 0xFFFFFFFF && x.zoneSet == y.zoneSet && decide (x.row < y.row)
  l.filter (fun x => !jFinal x || l.any (fun y => later x y && !jFinal y))

/-! ### The index (R176 to R181) -/

/-- A CHUNK or IMPORT entry. -/
def isChunkKind (k : EntryKind) : Bool := match k with | .chunk _ | .importFrom _ => true | _ => false

/-- The entry of a fingerprint and key domain that a confirm may hit: a chunk or an import, LIVE or PENDING, not sealed (R178, R180). -/
def findEntry (fp : Digest) (kd : Nat) (s : State) : Option IndexEntry :=
  s.arr.index.find? (fun e => e.fp == fp && e.kd == kd && isChunkKind e.kind && !e.sealed_ && e.state != .dead)

/-- A number for a new entry. -/
def newUid (s : State) : Nat × State := (2 * s.arr.nextUid + headSlot s, onArr (fun a => { a with nextUid := a.nextUid + 1 }) s)

/-- Two entries are the same one. -/
def sameEntry (a b : IndexEntry) : Bool := a.uid == b.uid

/-- An entry put into the index, replacing the one it stands for. -/
def putEntry (e : IndexEntry) (l : List IndexEntry) : List IndexEntry :=
  if l.any (sameEntry e) then l.map (fun x => if sameEntry e x then e else x) else l ++ [e]

/-- A map record put in its place: one of the same namespace and address is replaced. -/
def putMap (r : MapRec) (l : List MapRec) : List MapRec := l.filter (fun x => !(x.nsid == r.nsid && x.addr == r.addr)) ++ [r]

/-- A table row replaced or added by its number. -/
def putBy {α : Type} (key : α → Nat) (x : α) (l : List α) : List α :=
  if l.any (fun y => key y == key x) then l.map (fun y => if key y == key x then x else y) else l ++ [x]

/-- One change of an index transaction applied to the tables (R249, R303); a lost chunk whose entry becomes DEAD leaves the lost-chunk table (R298). -/
def applyChange (c : IndexChange) (a : Arr) : Arr :=
  match c with
  | .mapPut r => { a with maps := putMap r a.maps }
  | .mapDel n x => { a with maps := a.maps.filter (fun r => !(r.nsid == n && r.addr == x)) }
  | .retPut r => { a with retained := a.retained ++ [r] }
  | .retDel n x w => { a with retained := a.retained.filter (fun r => !(r.rec_.nsid == n && r.rec_.addr == x && r.rec_.wseq == w)) }
  | .entryPut e =>
    { a with index := putEntry e a.index, recent := if a.recent.contains e.uid then a.recent else a.recent ++ [e.uid],
             lost := if e.state == .dead && e.lost then a.lost.filter (fun l => !(l.fp == e.fp && l.kd == e.kd)) else a.lost }
  | .entryDel e => { a with index := a.index.filter (fun x => !sameEntry e x) }
  | .stripePut r => { a with stripes := putBy (·.stripe) r a.stripes }
  | .stripeDel n => { a with stripes := a.stripes.filter (·.stripe != n) }
  | .snapPut r =>
    let n := r.snapid / 2 ^ 32
    { a with snaps := putBy (·.snapid) r a.snaps, snapSerial := kput a.snapSerial n (max (kget 0 a.snapSerial n) (r.snapid % 2 ^ 32)) }
  | .snapDel n => { a with snaps := a.snaps.filter (·.snapid != n) }
  | .lostPut fp kd st => { a with lost := a.lost.filter (fun l => !(l.fp == fp && l.kd == kd)) ++ [{ fp := fp, kd := kd, stripe := st }] }
  | .lostDel fp kd => { a with lost := a.lost.filter (fun l => !(l.fp == fp && l.kd == kd)) }
  | .member d st => { a with members := kmod {} a.members d (fun m => { m with st := st }) }
  | .split d n => { a with members := kmod {} a.members d (fun m => { m with split := n }) }
  | .zsPut n sh k rows own isOpen l =>
    { a with zoneSets := kmod {} a.zoneSets n (fun z => { z with shelf := sh, k := k, rows := rows, own := own, isOpen := isOpen, members := l }) }
  | .shelf n x => { a with shelves := kput a.shelves n x }
  | .journal j => { a with journal := journalPut j a.journal }
  | .zsDel n => { a with zoneSets := kdel a.zoneSets n }
  | .sessPut num snapid base chip dst st reason ckpt =>
    let x := (a.sessions.find? (·.num == num)).getD { num := num, mine := false }
    let sts := [SessState.queued, .running, .paused, .committing, .done, .cancelled, .failed]
    { a with sessions := putBy (·.num) { x with snapid := snapid, base := base, chip := chip, dstNsid := dst, st := sts.getD st .failed,
                                                reason := reason, ckpt := ckpt } a.sessions,
             sessNum := max a.sessNum num }
  | .rebuild d t => { a with rebuilds := a.rebuilds.filter (·.drive != d) ++ [{ drive := d, target := t }] }
  | .rebuildEnd d => { a with rebuilds := a.rebuilds.filter (·.drive != d) }
  | .rebCkpt mine c => if mine then { a with rebCkpt := c } else { a with rebCkptB := c }

/-- The changes of a transaction applied in order. -/
def applyChanges (cs : List IndexChange) (s : State) : State := onArr (fun a => cs.foldl (fun a c => applyChange c a) a) s

/-- An import that became DEAD is released at its exporter (R188). -/
def releaseDead (s : State) : State :=
  forEach (s.arr.index.filter (fun e => e.state == .dead && (match e.kind with | .importFrom _ => true | _ => false) &&
      !s.arr.releases.any (·.serial == e.serial))) (fun e s =>
    match e.kind with
    | .importFrom x =>
      let s := onArr (fun a => { a with releases := a.releases ++ [{ serial := e.serial, fp := e.fp, kd := e.kd, exporter := x }] }) s
      egress (.dedup x 6 { kd := e.kd, from_ := s.arr.arrayNum, serial := e.serial, fp := e.fp, loc := x }) s
    | _ => s) s

/-- The INDEX records of a transaction (R332, R334): 63 changes of 64 bytes fill the 4,096 bytes of one, and MORE is set on every part but the last. -/
def addIndex (group : Option Nat) (cs : List IndexChange) (s : State) : State :=
  let l := groupsOf 63 cs
  forEach l.zipIdx (fun p => addRec' group (.index (decide (p.2 + 1 < l.length)) p.1)) s

/-- An index transaction (R249): the changes applied here, and the INDEX records that carry them to the partner. -/
def transact (group : Option Nat) (cs : List IndexChange) (s : State) : State :=
  if cs.isEmpty then s else releaseDead (addIndex group cs (applyChanges cs s))

/-! ### Index pages (R177, R178, R213) -/

/-- The primary page of a fingerprint in its slice (R177). -/
def pageOf (fp : Digest) : Nat := digestField fp 4 4 * max 1 (Config.indexPages (sliceOf fp)) / 2 ^ 32

/-- A page of a slice; one that was never written is empty. -/
def pageAt (b p : Nat) (a : Arr) : IndexPage := (a.pages.find? (fun g => g.slice == b && g.page == p)).getD { slice := b, page := p }

/-- The index-tier drives in service. -/
def tierDrives (a : Arr) : List Nat := ((List.range 24).map (512 + ·)).filter (fun d => (kget {} a.members d).st == .inService)

/-- The next place of a page: sixteen pages of 4 KiB fill the four data strips of a stripe, whose six drives rotate over those in service (R257). DESIGN CHOICE,
unsafe: log 93. -/
def newPlace (a : Arr) : Nat × Arr :=
  let p := a.pageWrites
  let l := tierDrives a
  let a := if p % 16 = 0 then { a with tier := kput a.tier (p / 16) ((List.range 6).map (fun j => l.getD ((p / 16 + j) % l.length) 0)) } else a
  (p, { a with pageWrites := p + 1 })

/-- A page put at a new place. -/
def movePage (g : IndexPage) (a : Arr) : Arr :=
  let (p, a) := newPlace a
  { a with pages := a.pages.filter (fun x => !(x.slice == g.slice && x.page == g.page)) ++ [{ g with place := p }] }

/-- A page written: at a new place, WRITE_SEQ one higher. -/
def writePage (g : IndexPage) (a : Arr) : Arr := movePage { g with seq := g.seq + 1 } a

/-- A map page put at a new place. -/
def moveMapPage (g : MapPage) (a : Arr) : Arr :=
  let (p, a) := newPlace a
  { a with mapPages := a.mapPages.filter (fun x => !(x.nsid == g.nsid && x.kept == g.kept && x.page == g.page)) ++ [{ g with place := p }] }

/-- A number for an overflow page of a slice. DESIGN CHOICE, unsafe: log 93. -/
def overflowPage (b : Nat) (a : Arr) : Nat :=
  max 1 (Config.indexPages b) + (a.pages.filter (fun g => g.slice == b && decide (Config.indexPages b ≤ g.page))).length

/-- An entry put into a page or its overflow chain: the page that holds it, or the first with room. -/
def pagePut (b uid : Nat) : Nat → Nat → Arr → Arr
  | 0, _, a => a
  | n + 1, p, a =>
    let g := pageAt b p a
    if g.uids.contains uid then writePage g a
    else if g.uids.length < 63 then writePage { g with uids := g.uids ++ [uid] } a
    else if g.next ≠ 0 then pagePut b uid n g.next a
    else
      let q := overflowPage b a
      pagePut b uid n q (writePage { g with next := q } a)

/-- The slot of the part's XTS key, under which index pages are stored. DESIGN CHOICE, unsafe: log 66. -/
def xtsSlot (s : State) : Option KeySlot := (s.keys.slots.find? (fun p => p.2.typ == 2)).map (·.2)

/-- The 4,096 bytes of a page (R177): its header, FORMAT, SLICE, COUNT, PAGE, NEXT and WRITE_SEQ, with a CRC32C over the other 4,092 bytes, and what it
holds. -/
def pageWith (format slice count page next seq : Nat) (body : List Byte) : List Byte :=
  let es := padTo 4032 body
  let hd := leBytes 2 format ++ leBytes 1 slice ++ leBytes 1 count ++ leBytes 4 0 ++ leBytes 8 page ++ leBytes 8 next ++ leBytes 8 seq ++ List.replicate 28 0
  hd ++ leBytes 4 (crc32c (hd ++ es)) ++ es

/-- The bytes of a fingerprint-index page. -/
def pageBytes (g : IndexPage) (s : State) : List Byte :=
  pageWith 1 g.slice g.uids.length g.page g.next g.seq ((g.uids.filterMap (fun u => s.arr.index.find? (·.uid == u))).flatMap entryBytes)

/-- The bytes of a map page, or with FORMAT 2 of a retained-map page (Table 8.5, R303). DESIGN CHOICE, unsafe: log 93. -/
def mapPageBytes (g : MapPage) : List Byte :=
  pageWith (if g.kept then 2 else 1) 0 g.recs.length g.page 0 g.seq (g.recs.flatMap (fun r => if g.kept then retBytes r else mapBytes r.rec_))

/-- A page as it is stored: under XTS, its page number the data unit number (R177, R213). -/
def storedPage (k : KeySlot) (page : Nat) (l : List Byte) : List Byte := xtsAll false k.mat page 2 l

/-- The slot that stores pages, while a full stripe can be written: six drives of the tier in service (R292). -/
def pageSlot (s : State) : Option KeySlot := if (tierDrives s.arr).length < 6 then none else xtsSlot s

/-- The pages placed at or after `from_` written to the tier. -/
def emitPages (k : KeySlot) (from_ : Nat) (s : State) : State :=
  let s := forEach (s.arr.pages.filter (fun g => decide (from_ ≤ g.place))) (fun g s =>
    egress (.indexPage g.place g.slice g.page (storedPage k g.page (pageBytes g s))) s) s
  forEach (s.arr.mapPages.filter (fun g => decide (from_ ≤ g.place))) (fun g s =>
    egress (.mapPage g.place g.nsid g.page g.kept (storedPage k g.page (mapPageBytes g))) s) s

/-- The pages of a namespace's map, 63 records each in address order, and of its retained map, 50 each in order of address and WSEQ (Table 8.5, R303). DESIGN
CHOICE, unsafe: log 93. -/
def mapPagesOf (n : Nat) (a : Arr) : List (Bool × List RetRec) :=
  let live := ((a.maps.filter (·.nsid == n)).map (fun r => ({ rec_ := r } : RetRec))).mergeSort (fun x y => decide (x.rec_.addr ≤ y.rec_.addr))
  let kept := (a.retained.filter (·.rec_.nsid == n)).mergeSort (fun x y =>
    decide (x.rec_.addr < y.rec_.addr) || (x.rec_.addr == y.rec_.addr && decide (x.rec_.wseq ≤ y.rec_.wseq)))
  (groupsOf 63 live).map (fun l => (false, l)) ++ (groupsOf 50 kept).map (fun l => (true, l))

/-- The map pages of a namespace that changed, written. -/
def mergeMap (n : Nat) (a : Arr) : Arr :=
  let ps := mapPagesOf n a
  let nth := fun (b : Bool) => (ps.filter (·.1 == b)).zipIdx
  let a := { a with mapPages := a.mapPages.filter (fun g => g.nsid != n || decide (g.page < (nth g.kept).length)) }
  (nth false ++ nth true).foldl (fun a p =>
    match a.mapPages.find? (fun g => g.nsid == n && g.kept == p.1.1 && g.page == p.2) with
    | some g => if g.recs = p.1.2 then a else moveMapPage { g with seq := g.seq + 1, recs := p.1.2 } a
    | none => moveMapPage { nsid := n, kept := p.1.1, page := p.2, seq := 1, recs := p.1.2 } a) a

/-- The recent entries merged into pages, in one batch (R178): a removed entry leaves its page, and each page that changed is written at a new place;
with them the map pages that changed (R258, R303). Until the part's XTS key is loaded and six drives are in service they wait. DESIGN CHOICE, unsafe: log 93. -/
def mergeRecent (s : State) : State :=
  match pageSlot s with
  | none => s
  | some k =>
    let from_ := s.arr.pageWrites
    let there := fun (u : Nat) => s.arr.index.any (·.uid == u)
    let thin := (s.arr.pages.filter (fun g => g.uids.any (fun u => !there u))).map (fun g => { g with uids := g.uids.filter there })
    let s := onArr (fun a => thin.foldl (fun a g => writePage g a) a) s
    let s := onArr (fun a => { (a.recent.filterMap (fun u => a.index.find? (·.uid == u))).foldl
      (fun a e => pagePut (sliceOf e.fp) e.uid (a.pages.length + 2) (pageOf e.fp) a) a with recent := [] }) s
    let ns := (s.arr.maps.map (·.nsid) ++ s.arr.retained.map (·.rec_.nsid) ++ s.arr.mapPages.map (·.nsid)).eraseDups
    emitPages k from_ (onArr (fun a => ns.foldl (fun a n => mergeMap n a) a) s)

/-- The index-tier drive that holds a place. DESIGN CHOICE, unsafe: log 93. -/
def placeDrive (place : Nat) (a : Arr) : Nat := (kget [] a.tier (place / 16)).getD (place % 16 / 4) 0

/-- Every stripe with a strip on a drive that left service rewritten across the drives in service, the missing strip decoded (R290): its pages move to
new places. DESIGN CHOICE, unsafe: log 93. -/
def rewriteTier (s : State) : State :=
  match pageSlot s with
  | none => s
  | some k =>
    let l := tierDrives s.arr
    let hit := (s.arr.tier.filter (fun p => p.2.any (fun d => !l.contains d))).map (·.1)
    if hit.isEmpty then s else
    let from_ := (s.arr.pageWrites + 15) / 16 * 16
    let s := onArr (fun a =>
      let ps := a.pages.filter (fun g => hit.contains (g.place / 16))
      let ms := a.mapPages.filter (fun g => hit.contains (g.place / 16))
      let a := { a with pageWrites := from_, tier := a.tier.filter (fun p => !hit.contains p.1) }
      ms.foldl (fun a g => moveMapPage g a) (ps.foldl (fun a g => movePage g a) a)) s
    emitPages k from_ s

/-! ### The strainer (R169 to R175) -/

/-- A bucket of the strainer. -/
def bucketOf (st : Strainer) (i : Nat) : Bucket := kget {} st.buckets i

/-- b1 of a fingerprint (R170). -/
def strB1 (st : Strainer) (fp : Digest) : Nat := digestField fp 8 8 * st.b / 2 ^ 64

/-- b2 of a fingerprint (R170). -/
def strB2 (st : Strainer) (fp : Digest) : Nat :=
  let x := digestField fp 24 8 * st.b / 2 ^ 64
  if x = strB1 st fp then (x + 1) % st.b else x

/-- The tag of a fingerprint (R170). -/
def strTag (fp : Digest) : Nat := digestField fp 16 2 % 1024

/-- The stash key of a fingerprint. -/
def stashKey (fp : Digest) : Nat := digestField fp 8 8

/-- A lookup (R171): "present". While the strainer is rebuilt after power loss every lookup answers "present" (R175). DEDUCED, unsafe: log 62. -/
def strainerHas (st : Strainer) (fp : Digest) : Bool :=
  let x := bucketOf st (strB1 st fp)
  let y := bucketOf st (strB2 st fp)
  st.rebuilding || x.tags.contains (strTag fp) || y.tags.contains (strTag fp) ||
    ((x.overflow || y.overflow) && (st.stash.contains (stashKey fp) || st.dropped != 0))

/-- The entries the stash holds (R172). -/
def stashSize : Nat := 4194304

/-- The outcome of an insert: where the tag went. -/
def insertTag (fp : Digest) (st : Strainer) : StrSel × Strainer :=
  let i := strB1 st fp
  let j := strB2 st fp
  let x := bucketOf st i
  let y := bucketOf st j
  let add := fun (k : Nat) (b : Bucket) => { st with buckets := kput st.buckets k { b with version := (b.version + 2) % 256, tags := b.tags ++ [strTag fp] } }
  if x.tags.length ≤ y.tags.length ∧ x.tags.length < 48 then (.b1, add i x)
  else if y.tags.length < 48 then (.b2, add j y)
  else
    let mark := fun (k : Nat) (m : KMap Bucket) => kmod {} m k (fun b => { b with version := (b.version + 2) % 256, overflow := true })
    let st := { st with buckets := mark j (mark i st.buckets) }
    if st.stash.length < stashSize then (.stash, { st with stash := st.stash ++ [stashKey fp] })
    else (.dropped, { st with dropped := st.dropped + 1 })

/-- The last tag moved into the place of the first instance of a tag (R172). -/
def removeTag (t : Nat) (l : List Nat) : List Nat :=
  match l.idxOf? t with
  | none => l
  | some i => if i + 1 = l.length then l.dropLast else listSet l.dropLast i (l.getLastD 0)

/-- A tag deleted from the bucket, or the stash, that STR_SEL names (R172). -/
def deleteTag (fp : Digest) (sel : StrSel) (st : Strainer) : Strainer :=
  let cut := fun k => { st with buckets := kmod {} st.buckets k (fun b => { b with version := (b.version + 2) % 256, tags := removeTag (strTag fp) b.tags }) }
  match sel with
  | .b1 => cut (strB1 st fp)
  | .b2 => cut (strB2 st fp)
  | .stash => { st with stash := st.stash.erase (stashKey fp) }
  | .dropped => st

/-- The strainer record of a change (Table 11.2). An insert that meets two full buckets, whether the stash has room or not, is a stash insert: it sets
OVERFLOW in its bucket, and a second one of key 0 does so in the other. DESIGN CHOICE, unsafe: log 93. -/
def strainerRec (fp : Digest) (sel : StrSel) (del : Bool) (s : State) : State :=
  let st := s.arr.strainer
  let full := fun (s : State) =>
    addRec' none (.strainer (strB2 st fp) (strTag fp) 3 0) (addRec' none (.strainer (strB1 st fp) (strTag fp) 3 (stashKey fp)) s)
  match sel with
  | .b1 => addRec' none (.strainer (strB1 st fp) (strTag fp) (if del then 2 else 1) 0) s
  | .b2 => addRec' none (.strainer (strB2 st fp) (strTag fp) (if del then 2 else 1) 0) s
  | .stash => if del then addRec' none (.strainer (strB1 st fp) (strTag fp) 2 (stashKey fp)) s else full s
  | .dropped => if del then s else full s

/-- STRAINER_SATURATED, once in a power-on after an insert was dropped (R172). -/
def noteDropped (s : State) : State :=
  if s.arr.strainer.dropped = 0 ∨ s.arr.strainer.noted then s
  else recordFw Ev.STRAINER_SATURATED srcSUP 0 [] (onArr (fun a => { a with strainer := { a.strainer with noted := true } }) s)

/-- A fingerprint inserted (R172). -/
def strainerInsert (fp : Digest) (s : State) : StrSel × State :=
  let (sel, st) := insertTag fp s.arr.strainer
  (sel, noteDropped (strainerRec fp sel false (onArr (fun a => { a with strainer := st }) s)))

/-- The whole index inserted in a strainer of `b` buckets (R173, R175): every entry's tag, with STR_SEL as it then is. -/
def buildStrainer (b : Nat) (s : State) : State :=
  let (st, ix) := s.arr.index.foldl (fun (acc : Strainer × List IndexEntry) e =>
    let (sel, st) := insertTag e.fp acc.1
    (st, acc.2 ++ [{ e with strSel := sel }])) ({ b := b, noted := s.arr.strainer.noted }, [])
  noteDropped (onArr (fun a => { a with strainer := st, index := ix }) s)

/-- A fingerprint deleted. -/
def strainerDelete (fp : Digest) (sel : StrSel) (s : State) : State :=
  strainerRec fp sel true (onArr (fun a => { a with strainer := deleteTag fp sel a.strainer }) s)

/-! ### References and holds (Table 6.6) -/

/-- An entry after REFS or HOLDS fell: LIVE with neither becomes DEAD. -/
def deadIfFree (e : IndexEntry) : IndexEntry :=
  if e.state = .live ∧ e.refs = 0 ∧ e.holds = 0 then { e with state := .dead } else e

/-- An entry with `n` more references: at 0xFFFFFFFF it is sealed. -/
def addRefs (n : Nat) (e : IndexEntry) : IndexEntry :=
  let r := min (e.refs + n) 0xFFFFFFFF
  { e with refs := r, sealed_ := e.sealed_ || r == 0xFFFFFFFF }

/-- One hold given up on the entry of a fingerprint: the state is unchanged (Table 6.6). -/
def dropHold (fp : Digest) (kd : Nat) (a : Arr) : List IndexChange :=
  match a.index.find? (fun e => e.fp == fp && e.kd == kd && isChunkKind e.kind && e.holds != 0) with
  | some e => [.entryPut { e with holds := e.holds - 1 }]
  | none => []

/-- Changes in order, each made from the tables that the ones before it leave. -/
def inTurn {α : Type} (f : α → Arr → List IndexChange) (l : List α) (a : Arr) : List IndexChange :=
  (l.foldl (fun (acc : List IndexChange × Arr) x =>
    let cs := f x acc.2
    (acc.1 ++ cs, cs.foldl (fun a c => applyChange c a) acc.2)) ([], a)).1

/-- The records, live and retained, that name a chunk. -/
def namesOf (fp : Digest) (kd : Nat) (a : Arr) : Nat :=
  (a.maps.filter (fun r => r.fp == some fp && r.kd == kd)).length +
    (a.retained.filter (fun r => r.rec_.fp == some fp && r.rec_.kd == kd)).length

/-- The change of REFS that a change of the maps brings to a chunk: more to the unsealed entry, fewer to the sealed one first (R180). -/
def refChange (fp : Digest) (kd before after : Nat) (a : Arr) : List IndexChange :=
  if before < after then
    match a.index.find? (fun e => e.fp == fp && e.kd == kd && isChunkKind e.kind && !e.sealed_ && e.state != .dead) with
    | some e => [.entryPut (addRefs (after - before) e)]
    | none => []
  else if after < before then
    match (a.index.filter (fun e => e.fp == fp && e.kd == kd && isChunkKind e.kind && e.refs != 0)).mergeSort (fun x y => x.sealed_ || !y.sealed_) with
    | e :: _ => [.entryPut (deadIfFree { e with refs := e.refs - (before - after) })]
    | [] => []
  else []

/-- The chunks that a list of changes of the maps touches. -/
def touched (cs : List IndexChange) (a : Arr) : List (Digest × Nat) :=
  (cs.flatMap (fun c => match c with
    | .mapPut r => (r.fp.map (fun f => (f, r.kd))).toList
    | .retPut r => (r.rec_.fp.map (fun f => (f, r.rec_.kd))).toList
    | .mapDel n x => a.maps.filterMap (fun r => if r.nsid = n ∧ r.addr = x then r.fp.map (fun f => (f, r.kd)) else none)
    | .retDel n x w => a.retained.filterMap (fun r =>
        if r.rec_.nsid = n ∧ r.rec_.addr = x ∧ r.rec_.wseq = w then r.rec_.fp.map (fun f => (f, r.rec_.kd)) else none)
    | _ => [])).eraseDups

/-- Changes of the maps with the REFS changes they cause, in one transaction (R179). -/
def withRefs (cs : List IndexChange) (a : Arr) : List IndexChange :=
  let a' := cs.foldl (fun a c => applyChange c a) a
  cs ++ (touched cs a).flatMap (fun p => refChange p.1 p.2 (namesOf p.1 p.2 a) (namesOf p.1 p.2 a') a')

/-- Changes of the maps with the REFS they change and the holds they give up, in one transaction (R179). -/
def withHolds (cs : List IndexChange) (held : List (Digest × Nat)) (a : Arr) : List IndexChange :=
  let cs := withRefs cs a
  cs ++ inTurn (fun (p : Digest × Nat) a => dropHold p.1 p.2 a) held (cs.foldl (fun a c => applyChange c a) a)

/-! ### Map commit (R249, R301, R302) -/

/-- The part of an extent from address `x` up to `y`. -/
def cutRec (r : MapRec) (x y : Nat) : MapRec := { r with addr := x, len := y - x, coff := r.coff + (x - r.addr) }

/-- A record overlaps an address range of its namespace. -/
def overlaps (nsid x y : Nat) (r : MapRec) : Bool := r.nsid == nsid && decide (r.addr < y) && decide (x < r.addr + r.len)

/-- The points of the live snapshots of a namespace (R299). -/
def livePoints (nsid : Nat) (a : Arr) : List Nat :=
  (a.snaps.filter (fun x => x.snapid / 2 ^ 32 == nsid && !x.deleting)).map (·.point)

/-- Some live snapshot has its point in (w, e]. -/
def needed (pts : List Nat) (w e : Nat) : Bool := pts.any (fun p => decide (w < p) && decide (p ≤ e))

/-- What the change with WSEQ `w` over [x, y) does to a record it replaces: the parts outside stay, the part inside is retained when a
live snapshot needs it. -/
def displace (pts : List Nat) (x y w : Nat) (r : MapRec) : List IndexChange :=
  let e := r.addr + r.len
  [.mapDel r.nsid r.addr] ++
    (if r.addr < x then [.mapPut (cutRec r r.addr x)] else []) ++
    (if y < e then [.mapPut (cutRec r y e)] else []) ++
    (if needed pts r.wseq w then [.retPut { rec_ := cutRec r (max x r.addr) (min y e), wseqEnd := w }] else [])

/-- The parts of the ranges that [x, y) leaves. -/
def minus (l : List (Nat × Nat)) (x y : Nat) : List (Nat × Nat) :=
  l.flatMap (fun p => (if p.1 < min p.2 x then [(p.1, min p.2 x)] else []) ++ (if max p.1 y < p.2 then [(max p.1 y, p.2)] else []))

/-- A change with WSEQ `w` over [x, y) of a namespace: a record with a higher WSEQ stands, and the losing part is retained when a live
snapshot lies between; elsewhere the change replaces what is there. `new` is the record it puts, none for a deallocation. -/
def changeRange (nsid x y w : Nat) (new : Option MapRec) (a : Arr) : List IndexChange :=
  let pts := livePoints nsid a
  let newer := a.maps.filter (fun r => overlaps nsid x y r && decide (w < r.wseq))
  let kept := newer.foldl (fun l r => minus l r.addr (r.addr + r.len)) [(x, y)]
  let lost := match new with
    | some n => newer.flatMap (fun r => if needed pts w r.wseq then
        [IndexChange.retPut { rec_ := cutRec n (max x r.addr) (min y (r.addr + r.len)), wseqEnd := r.wseq }] else [])
    | none => []
  let step := fun (acc : List IndexChange × Arr) (p : Nat × Nat) =>
    let old := acc.2.maps.filter (overlaps nsid p.1 p.2)
    let cs := old.flatMap (displace pts p.1 p.2 w) ++ (match new with | some n => [IndexChange.mapPut (cutRec n p.1 p.2)] | none => [])
    (acc.1 ++ cs, cs.foldl (fun a c => applyChange c a) acc.2)
  lost ++ (kept.foldl step ([], a)).1

/-- Several such changes in order. -/
def changeRanges (l : List (Nat × Nat × Nat × Nat × Option MapRec)) (a : Arr) : List IndexChange :=
  inTurn (fun (p : Nat × Nat × Nat × Nat × Option MapRec) a => changeRange p.1 p.2.1 p.2.2.1 p.2.2.2.1 p.2.2.2.2 a) l a

/-! ### Dirty data -/

/-- A dirty write by its WSEQ. -/
def dirtyOf (w : Nat) (s : State) : Option Dirty := s.arr.dirty.find? (·.wseq == w)

/-- A dirty write replaced. -/
def setDirty (d : Dirty) (s : State) : State := onArr (fun a => { a with dirty := a.dirty.map (fun x => if x.wseq = d.wseq then d else x) }) s

/-- The bytes of a dirty write. -/
def dirtyData (d : Dirty) (s : State) : List Byte :=
  match d.handle with
  | some h => memRead s (bufAddr h s) d.len
  | none => []

/-! ### Shelves as the other families read them (R262, R264) -/

/-- STATE of a shelf. -/
def shelfState (n : Nat) (s : State) : Nat := rget F.SHF_STATE_STATE s n

/-- AWAKE. -/
def shelfAwake (n : Nat) (s : State) : Bool := shelfState n s == 3

/-- The write-open shelves (R262): the write shelf and, while it takes over, the next one; both only while AWAKE. -/
def writeOpen (s : State) : List Nat :=
  ((s.arr.writeShelf.toList ++ s.arr.nextShelf.toList).eraseDups).filter (fun n => shelfAwake n s)

/-- The zones of a drive that are free in a half: none taken, `lo` to `hi`. -/
def freeZoneIn (d lo hi : Nat) (s : State) : Option Nat :=
  (lowest (hi - lo) (fun i => !(kget false s.arr.zones (d * 2 ^ 26 + lo + i)))).map (lo + ·)

/-- The bounds of this head's half of a member's zones; after a takeover the survivor takes from both (R240). -/
def myHalf (m : Member) (s : State) : Nat × Nat :=
  if solo s then (0, m.info.zones) else if headSlot s = 0 then (0, m.split) else (m.split, m.info.zones)

/-- A head's half of a drive has a free zone (R240). -/
def halfFree (head d : Nat) (s : State) : Bool :=
  let m := memberOf d s
  (if head = 0 then freeZoneIn d 0 m.split s else freeZoneIn d m.split m.info.zones s).isSome

/-- The lowest free zone of this head's half of a drive. -/
def freeZone (d : Nat) (s : State) : Option Nat :=
  let m := memberOf d s
  let h := myHalf m s
  freeZoneIn d h.1 h.2 s

/-- The drives of a shelf. -/
def shelfDrives (n : Nat) : List Nat := (List.range 52).map (52 * n + ·)

/-- The drives of a shelf in service (IN_SERVICE). -/
def inService (n : Nat) (s : State) : List Nat := (shelfDrives n).filter (fun d => (memberOf d s).st == .inService)

/-- Open zones of a drive, over the zone sets still open. -/
def openZones (d : Nat) (s : State) : Nat :=
  s.arr.zoneSets.foldl (fun n p => if p.2.isOpen then n + (p.2.members.filter (·.1 == d)).length else n) 0

/-- The taken zones of a drive. -/
def takenZones (d : Nat) (s : State) : Nat := (s.arr.zones.filter (fun p => p.1 / 2 ^ 26 == d && p.2)).length

/-- The free zones of a shelf, both halves together (R262). -/
def shelfFree (n : Nat) (s : State) : Nat :=
  (inService n s).foldl (fun k d => k + ((memberOf d s).info.zones - takenZones d s)) 0

/-- All zones of a shelf. -/
def shelfZones (n : Nat) (s : State) : Nat := (inService n s).foldl (fun k d => k + (memberOf d s).info.zones) 0

/-- The data bytes of a zone at the width of the default placement class (R173, R262). -/
def zoneData (d : Nat) (s : State) : Nat := (memberOf d s).info.zoneCap * s.arr.width / (s.arr.width + 2)

/-- Free data space of a shelf. -/
def shelfFreeData (n : Nat) (s : State) : Nat :=
  (inService n s).foldl (fun k d => k + ((memberOf d s).info.zones - takenZones d s) * zoneData d s) 0

/-- Data capacity of a shelf. -/
def shelfCapacity (n : Nat) (s : State) : Nat := (inService n s).foldl (fun k d => k + (memberOf d s).info.zones * zoneData d s) 0

/-- Some head cannot open a zone set of width `k` on a shelf (R240); alone, the survivor takes from both halves. -/
def cannotOpen (n k : Nat) (s : State) : Bool :=
  let short := fun (has : Nat → Bool) => decide (((inService n s).filter has).length < k + 2)
  if solo s then short (fun d => (freeZone d s).isSome) else short (fun d => halfFree 0 d s) || short (fun d => halfFree 1 d s)

/-- A shelf is full for writing (R262): fewer than 2 % of its zones free, or a head that cannot open a zone set of the default class's width there. -/
def shelfFull (n : Nat) (s : State) : Bool := decide (shelfFree n s * 50 < shelfZones n s) || cannotOpen n s.arr.width s

/-! ### Members' errors (R275, R276) -/

/-- The instance of counter 1 of a drive (Table 13.4). -/
def memberInst (d : Nat) : Nat := if 512 ≤ d then 416 + (d - 512) else d

/-- A report against a member (R276): to the master by partner message, or kept for itself. -/
def reportMember (d : Nat) (st : MemberState) (s : State) : State :=
  if isMaster s then onArr (fun a => { a with reports := a.reports ++ [(d, st)] }) s else sendPartner (.memberReport d st) s

/-- One media error of a member (R275, counter 1): at the threshold the member is reported FAILING. DESIGN CHOICE, unsafe: log 64. -/
def mediaError (d : Nat) (s : State) : State :=
  let (hit, s) := fltError 1 (memberInst d) s
  if hit then if fltActs 1 s then reportMember d .failing s else recordFw Ev.MEMBER_FAILING srcSUP (memberInst d) [] s else s

end Sys2Proof.Machine
end

