-- ==== Sys2Proof/Machine/Nvme.lean ====
section
/-! DEFINITION. NVME jobs: commands to the drives and how they end (R236, R241 to R243, R275, R544). -/

namespace Sys2Proof.Machine

open Sys2Proof

/-- The root port that leads to a drive (Table 8.6). -/
def portOf (d : Nat) : Nat := if 512 ≤ d then 15 else if d / 52 = 7 then 14 else 2 * (d / 52)

/-- A command to a drive may be sent (R243): its port's link is up, FENCE does not gate it, and the head has not seen it removed. -/
def driveReach (d : Nat) (s : State) : Bool :=
  rbit F.PCI_PORT_STATUS_LINK_UP s (portOf d) && !rbit F.PNL_FENCE_STATUS_GATED s && !(memberOf d s).removed

/-- A code of R243 that counts a media error: an SCT of 2, or an unexpected LBA (R275). -/
def isMediaCode (code : Nat) : Bool := code == 0x8000 || (decide (code < 0x8000) && bits code 10 8 == 2)

/-- CHECK_FAIL with its code in output bytes (R243). -/
def driveFail (code : Nat) : JobRes := { status := jCheckFail, outBytes := code }

/-- A strip appended: what the drive now holds there. DESIGN CHOICE, unsafe: log 65. -/
def keepStrip (d zone lba : Nat) (l : List Byte) (s : State) : State :=
  onArr (fun a => { a with strips := kput a.strips ((d * 2 ^ 26 + zone) * 2 ^ 32 + lba) l }) s

/-- What a drive holds at an offset of a zone: what this head appended, else free values. DESIGN CHOICE, safe: log 15. DESIGN CHOICE, unsafe: log 65. -/
def zoneBytes (d zone lba n : Nat) (s : State) : List Byte :=
  match kfind s.arr.strips ((d * 2 ^ 26 + zone) * 2 ^ 32 + lba) with
  | some l => padTo n l
  | none => (List.range n).map (fun i => Config.driveByte (d * 2 ^ 26 + zone) (lba * 4096 + i))

/-- A length an NVME job may have (R242). -/
def okLen (n : Nat) : Bool := n % 4096 == 0 && decide (n ≤ 0x200000)

/-- A READ or ZONE_REPORT: the drive's data to OUT; after CHECK_FAIL OUT's range is undefined (R243). -/
def driveIn (op : Nat) (r : DriveResp) (c : Chain) (d : Desc) (s : State) : JobRes × State :=
  let dr := nvmeDrive d
  if d.aux ≠ dr ∨ d.param / 2 ^ 48 ≠ 0 then justStatus jBadDesc s else
  match outBuf d s with
  | (none, s) => justStatus jBufFault s
  | (some (oh, oo, cap, al), s) =>
    let alloc := if al then some oh else none
    if !okLen cap then ({ status := jBadDesc, alloc := alloc }, s)
    else if !driveReach dr s then ({ driveFail 0xFFFF with alloc := alloc }, undefRange (bufAddr oh s + oo) cap s)
    else
      let s := emit (.drive dr op d.param false []) s
      if r.code = 0 then
        ({ outBytes := cap, outHandle := some (oo * 2 ^ 32 + oh), alloc := alloc }, writeBuf oh oo (padTo cap r.data) s)
      else
        let s := if op = 0 ∧ c.ar = .none ∧ isMediaCode r.code then mediaError dr s else s
        ({ driveFail r.code with alloc := alloc }, undefRange (bufAddr oh s + oo) cap s)

/-- A drive that reports a volatile write cache has Force Unit Access set on every append (R238). -/
def appendFua (d : Nat) (s : State) : Bool := (memberOf d s).info.volatileCache

/-- A PQ_ADD of a position would end with BAD_DESC (R235): the context is not taken, or IDX ≥ K. DEDUCED, unsafe: log 38. -/
def feedBad (ctx idx : Nat) (s : State) : Bool :=
  match kfind s.par ctx with
  | some x => decide (x.k ≤ idx)
  | none => true

/-- An APPEND (R236, R241): the strip read from DRAM and, with PQ_EN, fed to its parity context exactly as a PQ_ADD would, whatever becomes of
the append itself; the assigned LBA must be the expected one. -/
def driveAppend (r : DriveResp) (c : Chain) (d : Desc) (s : State) : JobRes × State :=
  let dr := nvmeDrive d
  let pq := d.aux.testBit 16
  let extra := d.aux - (dr + (if pq then 2 ^ 16 else 0) + bits d.aux 29 24 * 2 ^ 24 + bits d.aux 36 32 * 2 ^ 32)
  let (h, o, n) := inputOf c d s
  match readBuf d h o n s with
  | (none, s) => justStatus jBufFault s
  | (some l, s) =>
    if !okLen n ∨ extra ≠ 0 ∨ (pq && feedBad (bits d.aux 29 24) (bits d.aux 36 32) s) = true then justStatus jBadDesc s else
    let s := if pq then parFeed (bits d.aux 29 24) (bits d.aux 36 32) l s else s
    if !driveReach dr s then (driveFail 0xFFFF, s)
    else
      let zone := d.param % 2 ^ 32
      let want := d.param / 2 ^ 32
      let s := emit (.drive dr 1 d.param (appendFua dr s) l) s
      let code := if r.code ≠ 0 then r.code else if r.lba ≠ want then 0x8000 else 0
      let s := if r.code = 0 then keepStrip dr zone r.lba l s else s
      if code = 0 then ({ outBytes := n }, s)
      else (driveFail code, if c.ar = .none ∧ isMediaCode code then mediaError dr s else s)

/-- A WRITE, to index-tier drives only. -/
def driveWrite (r : DriveResp) (c : Chain) (d : Desc) (s : State) : JobRes × State :=
  let dr := nvmeDrive d
  let (h, o, n) := inputOf c d s
  match readBuf d h o n s with
  | (none, s) => justStatus jBufFault s
  | (some l, s) =>
    if !okLen n ∨ d.aux ≠ dr ∨ dr < 512 ∨ 2 ^ 48 ≤ d.param then justStatus jBadDesc s
    else if !driveReach dr s then (driveFail 0xFFFF, s)
    else
      let s := emit (.drive dr 2 d.param false l) s
      if r.code = 0 then ({ outBytes := n }, s) else (driveFail r.code, s)

/-- A zone reset empties it: what this head appended there is gone. -/
def resetZone (d zone : Nat) (s : State) : State :=
  onArr (fun a => { a with strips := a.strips.filter (fun p => decide (p.1 / 2 ^ 32 ≠ d * 2 ^ 26 + zone)) }) s

/-- A ZONE_SEND with its action: 1 Close, 2 Finish, 3 Open, 4 Reset. -/
def driveZone (r : DriveResp) (_c : Chain) (d : Desc) (s : State) : JobRes × State :=
  let dr := nvmeDrive d
  if d.aux ≠ dr ∨ 2 ^ 36 ≤ d.param then justStatus jBadDesc s
  else if !driveReach dr s then (driveFail 0xFFFF, s)
  else
    let s := emit (.drive dr 3 d.param false []) s
    if r.code ≠ 0 then (driveFail r.code, s)
    else ({}, if bits d.param 35 32 = 4 then resetZone dr (d.param % 2 ^ 32) s else s)

/-- The ADMIN SQE as it is sent: CDW0 replaced (Table 8.2). DESIGN CHOICE, safe: log 89. -/
def adminSqe (sqe : List Byte) (s : State) : List Byte := leBytes 4 (Config.adminCdw0 (ofLe (sqe.take 4)) s.freeCtr) ++ sqe.drop 4

/-- An ADMIN command: the 64-byte SQE at AUX sent with CDW0 replaced; the drive's answer to OUT, where OUT is given. -/
def driveAdmin (r : DriveResp) (c : Chain) (d : Desc) (s : State) : JobRes × State :=
  let dr := nvmeDrive d
  let core := ctxCore c.ctx
  if d.param ≠ dr ∨ 2 ^ 48 ≤ d.aux ∨ !dataPlace core d.aux true s then justStatus jBadDesc s else
  match readMem (physKey core d.aux) 64 s with
  | (none, s) => justStatus jBufFault s
  | (some sqe, s) =>
    let hasOut := d.flag fOutAlloc || d.outLimit != 0 || d.out != 0
    if !hasOut then
      if !driveReach dr s then (driveFail 0xFFFF, s)
      else
        let s := tickFree (emit (.drive dr 5 0 false (adminSqe sqe s)) s)
        if r.code = 0 then ({}, s) else (driveFail r.code, s)
    else match outBuf d s with
      | (none, s) => justStatus jBufFault s
      | (some (oh, oo, cap, al), s) =>
        let alloc := if al then some oh else none
        if !okLen cap then ({ status := jBadDesc, alloc := alloc }, s)
        else if !driveReach dr s then ({ driveFail 0xFFFF with alloc := alloc }, s)
        else
          let s := tickFree (emit (.drive dr 5 0 false (adminSqe sqe s)) s)
          if r.code = 0 then
            ({ outBytes := cap, outHandle := some (oo * 2 ^ 32 + oh), alloc := alloc }, writeBuf oh oo (padTo cap r.data) s)
          else ({ driveFail r.code with alloc := alloc }, s)

/-- NVME_READ. -/
def opNvmeRead (dr : DriveNo) (r : DriveResp) (s : State) : State := runUnit 9 dr.val (·.op == 0) (driveIn 0 r) s
/-- APPEND. -/
def opAppend (dr : DriveNo) (r : DriveResp) (s : State) : State := runUnit 9 dr.val (·.op == 1) (driveAppend r) s
/-- NVME_WRITE. -/
def opNvmeWrite (dr : DriveNo) (r : DriveResp) (s : State) : State := runUnit 9 dr.val (·.op == 2) (driveWrite r) s
/-- A ZONE_SEND with action `act`. -/
def opZoneSend (act : Nat) (dr : DriveNo) (r : DriveResp) (s : State) : State :=
  runUnit 9 dr.val (fun d => d.op == 3 && bits d.param 35 32 == act) (driveZone r) s
/-- ZONE_REPORT. DESIGN CHOICE, unsafe: log 65. -/
def opZoneReport (dr : DriveNo) (r : DriveResp) (s : State) : State := runUnit 9 dr.val (·.op == 4) (driveIn 4 r) s
/-- NVME_ADMIN. -/
def opNvmeAdmin (dr : DriveNo) (r : DriveResp) (s : State) : State := runUnit 9 dr.val (·.op == 5) (driveAdmin r) s

/-- An NVME job of any operation, with the drive's answer. -/
def driveJob (r : DriveResp) (c : Chain) (d : Desc) (s : State) : JobRes × State :=
  match d.op with
  | 0 => driveIn 0 r c d s
  | 1 => driveAppend r c d s
  | 2 => driveWrite r c d s
  | 3 => driveZone r c d s
  | 4 => driveIn 4 r c d s
  | _ => driveAdmin r c d s

/-- CMD_TIMEOUT (R243): the command outstanding ends with code 0xFFFE and is aborted at the drive; TIMEOUT_FAILS of them within 600 s
are a FAILED criterion (Table 9.1). DESIGN CHOICE, unsafe: log 3. -/
def opCmdTimeout (dr : DriveNo) (s : State) : State :=
  match engQueue 9 dr.val s with
  | [] => s
  | c :: rest =>
    match c.descs with
    | [] => s
    | d :: _ =>
      let (r, s) := driveJob { code := 0xFFFE } c d (setEngQueue 9 dr.val rest s)
      let s := finishJob c d r (emit (.drive dr.val 8 0 false []) s)
      let m := memberOf dr.val s
      let l := (m.timeouts.filter (fun t => decide (opsec s < t + 600))) ++ [opsec s]
      let s := setMember dr.val { m with timeouts := l } s
      if (settings s).timeoutFails ≤ l.length then reportMember dr.val .failed s else s

/-- How an NVME job ends when nothing can be sent (R243): code 0xFFFF, and a READ leaves its OUT range undefined. -/
def driveGone (d : Desc) (s : State) : JobRes × State :=
  if d.op ≠ 0 then (driveFail 0xFFFF, s) else
  match outBuf d s with
  | (none, s) => justStatus jBufFault s
  | (some (oh, oo, cap, al), s) => ({ driveFail 0xFFFF with alloc := if al then some oh else none }, undefRange (bufAddr oh s + oo) cap s)

/-- Every job on a drive's queue ends at once with CHECK_FAIL and code 0xFFFF (R243, R544). -/
def endDriveJobs (d : Nat) (s : State) : State :=
  forEach (engQueue 9 d s) (fun c s => match c.descs with
    | x :: _ => let (r, s) := driveGone x s; finishJob c x r s
    | [] => s) (setEngQueue 9 d [] s)

end Sys2Proof.Machine
end

