-- ==== Sys2Proof/Machine/Steep.lean ====
section
/-! DEFINITION. From an acknowledged write to flash: cutting, compressing, placing, sealing, pouring and committing (R161, R202, R203,
R210, R218, R219, R232, R233, R239 to R251, R545). -/

namespace Sys2Proof.Machine

open Sys2Proof

/-! ### The Array Runtime's own jobs -/

/-- A chain of the Array Runtime's own, posted from supervisor pair 1. -/
def postAr (w : ArWork) (ds : List Desc) (s : State) : State := postChain { ctx := 513, descs := ds, ar := w } s

/-- Work that waits for a buffer, a nonce or a key. -/
def hold (w : ArWork) (s : State) : State := onArr (fun a => { a with held := a.held ++ [w] }) s

/-- A unit of a class is in service. -/
def anyUnit (e : Nat) (s : State) : Bool := !allRetired e s

/-! ### Cutting a write (R161) -/

/-- The chain that cuts and fingerprints a dirty write: CUT with AUTO_OUT, then FP_LIST (R163, R167). -/
def startCut (d : Dirty) (s : State) : State :=
  match d.handle with
  | none => s
  | some h =>
    let kd := ((nsOf d.nsid s).map (·.kd)).getD 0xFFF
    postAr (.cut d.wseq)
      [{ engine := 2, flags := 2, unit := 0xFF, inn := h, inLen := d.len, next := 1, param := 1 },
       { engine := 3, flags := 8, unit := 0xFF, aux := kd }] s

/-! ### Stripes being built (R244 to R246) -/

/-- A stripe being built or poured. -/
def steepOf (n : Nat) (s : State) : Option Steep := s.arr.steeps.find? (fun x => x.je.stripe == n)

/-- A stripe replaced. -/
def setSteep (x : Steep) (s : State) : State :=
  onArr (fun a => { a with steeps := a.steeps.map (fun y => if y.je.stripe = x.je.stripe then x else y) }) s

/-- A journal entry stamped and written to the journal ring (R251). DESIGN CHOICE, unsafe: log 61. -/
def journalWrite (j : JEntry) (s : State) : JEntry × State :=
  let je := { j with epoch := rget F.PNL_EPOCH_SEQ_NUMBER s, jseq := s.arr.jseq }
  (je, egress (.pourEntry (journalBytes je)) (onArr (fun a => { a with jseq := a.jseq + 1, journal := journalPut je a.journal }) s))

/-- A stripe's journal entry changed, stamped, and carried in the mirror epoch (R251). -/
def setJournal (n : Nat) (f : JEntry → JEntry) (s : State) : State :=
  match steepOf n s with
  | none => s
  | some x =>
    let (je, s) := journalWrite (f x.je) s
    addRec' (some je.group) (.journal je) (setSteep { x with je := je } s)

/-- A stripe leaves the tables. -/
def dropSteep (n : Nat) (s : State) : State := onArr (fun a => { a with steeps := a.steeps.filter (fun x => x.je.stripe != n) }) s

/-- A new stripe number: bit 0 the head that opens it (Table 8.4). -/
def newStripe (s : State) : Nat × State :=
  (2 * s.arr.nextStripe + headSlot s, onArr (fun a => { a with nextStripe := a.nextStripe + 1 }) s)

/-- A steeping stripe opened (R244) in a set D C4 buffer; `none` when set D has none. -/
def openSteep (group cls shelf k : Nat) (gc : Option Nat) (s : State) : Option Nat × State :=
  match bpmAlloc .core 1 4 s with
  | (none, s) => (none, s)
  | (some h, s) =>
    let (n, s) := newStripe s
    let je : JEntry := { stripe := n, shelf := shelf, k := k, group := group, cls := cls }
    (some n, setJournal n id (onArr (fun a => { a with steeps := a.steeps ++ [{ je := je, handle := h, gc := gc }] }) s))

/-- A stripe closes (R246); one with no frame is discarded and frees its buffer. -/
def closeSteep (n : Nat) (s : State) : State :=
  match steepOf n s with
  | none => s
  | some x =>
    if x.closed then s
    else if x.frames.isEmpty then dropAll [x.handle] (dropSteep n (setJournal n (fun j => { j with state := .discarded }) s))
    else setSteep { x with closed := true } s

/-- The steeping stripes that satisfy `p` close. -/
def closeSteeps (p : Steep → Bool) (s : State) : State :=
  forEach ((s.arr.steeps.filter p).map (·.je.stripe)) closeSteep s

/-- The shelf PLACEMENT's default gives (Table 3.5): the write-open shelf with the fewest free zones, lowest number on a tie. -/
def placeShelf (s : State) : Option Nat :=
  (List.range 8).foldl (fun b n =>
    if !(writeOpen s).contains n then b else
    match b with
    | none => some n
    | some m => if shelfFree n s < shelfFree m s then some n else some m) none

/-- Where a new stripe opens and how wide (R92, R244): the default, or what PLACEMENT returns; a shelf that is not write-open or a width out of range gives
the default and HOOK_FAULT. `none` while no shelf is write-open, when the hook is not called. -/
def placement (group nsid cls k : Nat) (s : State) : Option (Nat × Nat) × State :=
  match placeShelf s with
  | none => (none, s)
  | some sh =>
    if !hookOn 0 s then (some (sh, k), s) else
    let r := Config.placement s.freeCtr group nsid cls
    let s := tickFree s
    if (writeOpen s).contains r.1 ∧ (r.2 = 0 ∨ (4 ≤ r.2 ∧ r.2 ≤ 32)) then (some (r.1, if r.2 = 0 then k else r.2), s)
    else (some (sh, k), hookErr srcSUP 0 false s)

/-- Room for a frame in a stripe. -/
def roomIn (x : Steep) (len : Nat) : Bool := decide (x.fill + len ≤ x.je.k * 65536)

/-- The stripe a frame goes to (R244, R245): the open one of its group and class, or a new one when it has none or the frame does not
fit, on the shelf and at the width of PLACEMENT, or on the given shelf; width 5 for a frame longer than the width holds. `none` when no shelf is
write-open or set D has no C4 buffer. -/
def stripeFor (group cls nsid k len : Nat) (gc : Option Nat) (shelf : Option Nat) (s : State) : Option Nat × State :=
  let fresh := fun (s : State) =>
    match (match shelf with | some sh => (some (sh, k), s) | none => placement group nsid cls k s) with
    | (none, s) => (none, s)
    | (some (sh, k), s) => openSteep group cls sh (if k * 65536 < len then 5 else k) gc s
  match s.arr.steeps.find? (fun x => !x.closed && x.je.state == .steeping && x.je.group == group && x.je.cls == cls && x.gc == gc && shelf.all (· == x.je.shelf)) with
  | none => fresh s
  | some x => if roomIn x len then (some x.je.stripe, s) else fresh (closeSteep x.je.stripe s)

/-! ### Keys for sealing (R218, R219, R221) -/

/-- The slot that opens a frame of a key domain and generation. DESIGN CHOICE, unsafe: log 66. -/
def openSlot (kd gen : Nat) (s : State) : Option Nat :=
  (s.keys.slots.find? (fun p => p.2.typ == 1 && p.2.kd == kd && p.2.gen == gen)).map (·.1)

/-- The GCM slot of a key domain of the highest generation. -/
def newestSlot (kd : Nat) (s : State) : Option Nat :=
  (s.keys.slots.filter (fun p => p.2.typ == 1 && p.2.kd == kd)).foldl (fun b p =>
    match b with
    | none => some p.1
    | some q => if (keyOf q s).gen < p.2.gen then some p.1 else some q) none

/-- A new generation of a key domain is not yet in every part of the dedup scope: the partner's epoch is not confirmed, or another array has not
accepted it (R219). -/
def keySpreading (kd : Nat) (s : State) : Bool :=
  s.keys.pend.any (fun p => p.kd == kd && !(p.chips.isEmpty && (solo s || epochConfirmed p.epoch s)))

/-- The slot that seals for a key domain: that of the generation in use; none while a new one spreads (R219). DESIGN CHOICE, unsafe: log 66. -/
def sealSlot (kd : Nat) (s : State) : Option Nat :=
  if keySpreading kd s then none else
  match kfind s.keys.use kd with
  | some g => openSlot kd g s
  | none => newestSlot kd s

/-- The generation in use noted before another one is loaded: a part goes on sealing under it until it ends (R219). -/
def pinGen (kd : Nat) (s : State) : State :=
  match kfind s.keys.use kd, newestSlot kd s with
  | none, some i => { s with keys := { s.keys with use := kput s.keys.use kd (keyOf i s).gen } }
  | _, _ => s

/-- The key of the reservation table. -/
def resKey (k : KeySlot) : Nat := k.kd * 65536 + k.gen

/-- The end of the last reserved block of a generation (R218). -/
def reservedEnd (kd gen : Nat) (s : State) : Nat := kget 0 s.keys.reserved (kd * 65536 + gen)

/-- A record of the configuration store opened (R166, R218, R222): a GCM key starts at the end of its last recorded block, with the next block
reserved while the generation has one. -/
def openRecord (b : List Byte) (s : State) : State :=
  if recordHeld b s then s else
  let kd := ofLe ((b.drop 4).take 2) % 4096
  let gen := ofLe ((b.drop 6).take 2)
  if ofLe ((b.drop 2).take 1) ≠ 1 then loadRecord 0 0 b s else
  let e := reservedEnd kd gen s
  if 0xFFFF00000000 < e + 2 ^ 32 then loadRecord e e b s
  else loadRecord e (e + 2 ^ 32) b { s with keys := { s.keys with reserved := kput s.keys.reserved (kd * 65536 + gen) (e + 2 ^ 32) } }

/-- The key domains opened: every record of the configuration store (R166). -/
def openDomains (s : State) : State := forEach s.keys.records openRecord s

/-- A record stored in the configuration store, and opened. -/
def takeRecord (b : List Byte) (s : State) : State :=
  let b := padTo 112 b
  let s := pinGen (ofLe ((b.drop 4).take 2) % 4096) s
  openRecord b { s with keys := { s.keys with records := if s.keys.records.contains b then s.keys.records else s.keys.records ++ [b] } }

/-- Some namespace deduplicates a key domain across the domain. -/
def domainKd (kd : Nat) (s : State) : Bool := s.host.ns.any (fun p => p.2.kd == kd && p.2.scope == .domain)

/-- Generation KEY_GEN + 1 of a key domain (R219): its material drawn and wrapped under the AWK, the record stored, its first block reserved, loaded,
and sent to every part of the dedup scope: to the partner in the epoch, to the other arrays by key transport. Sealing goes on once all have it.
KEY_SLOTS_FULL where no slot is left (R221). DESIGN CHOICE, unsafe: log 66. -/
def rotateKey (k : KeySlot) (s : State) : State :=
  match s.keys.awk with
  | none => s
  | some awk =>
    let (m, s) := drawBytes 32 s
    let (idb, s) := drawBytes 8 s
    let (iv, s) := drawBytes 12 s
    let b := wrapRecord awk (leBytes 2 1 ++ leBytes 1 1 ++ leBytes 1 0 ++ leBytes 2 k.kd ++ leBytes 2 (k.gen + 1) ++ idb) iv m
    match recordSlot b s with
    | none => recordFw Ev.KEY_SLOTS_FULL srcCIP k.kd [] s
    | some _ =>
      let chips := if domainKd k.kd s then s.arr.chips else []
      let s := takeRecord b s
      let s := { s with keys := { s.keys with
        use := kput s.keys.use k.kd (k.gen + 1),
        pend := s.keys.pend ++ [{ kd := k.kd, gen := k.gen + 1, epoch := rget F.PNL_EPOCH_SEQ_NUMBER s, chips := chips }] } }
      let s := sendPartner (.keyRecord b) s
      let s := forEach chips (fun c s =>
        let (n, s) := drawBytes 32 s
        egress (.key c 0x20 { chip := rget F.CHIP_ESTATE_NUM_NUM s, purpose := 2, session := k.kd * 65536 + k.gen + 1, nonce := n }) s) s
      recordFw Ev.KEY_ROTATED srcCIP k.kd (pack [(2, k.kd), (2, k.gen + 1)]) s

/-- The next block of nonces reserved when COUNTER has passed three quarters of the present one (R218): the end recorded, then LIMIT
raised to it; past 0xFFFF_0000_0000 sealing under the generation ends: the next one, where this part holds it, is used, or it is generated (R219). -/
def reserveNonces (slot : Nat) (s : State) : State :=
  let k := keyOf slot s
  let fin := max k.limit (kget 0 s.keys.reserved (resKey k))
  if k.typ ≠ 1 ∨ k.counter + 2 ^ 30 < k.limit then s
  else if 0xFFFF00000000 < fin + 2 ^ 32 then
    if (openSlot k.kd (k.gen + 1) s).isSome then { s with keys := { s.keys with use := kput s.keys.use k.kd (k.gen + 1) } } else rotateKey k s
  else
    let s := { s with keys := { s.keys with reserved := kput s.keys.reserved (resKey k) (fin + 2 ^ 32) } }
    setKey slot { k with limit := fin + 2 ^ 32 } s

/-! ### Compression and sealing (R202, R203, R210) -/

/-- A chunk on its way. -/
def pendOf (id : Nat) (s : State) : Option PendChunk := s.arr.chunks.find? (·.id == id)

/-- A chunk replaced. -/
def setPend (p : PendChunk) (s : State) : State :=
  onArr (fun a => { a with chunks := a.chunks.map (fun x => if x.id = p.id then p else x) }) s

/-- A chunk leaves the list. -/
def dropPend (id : Nat) (s : State) : State := onArr (fun a => { a with chunks := a.chunks.filter (·.id != id) }) s

/-- The compression job of a chunk on a unit (R202). -/
def postComp (p : PendChunk) (unit level : Nat) (s : State) : State :=
  postAr (.comp p.id) [{ engine := 4, flags := 32, unit := unit, inn := p.off * 2 ^ 32 + p.handle, inLen := p.len, outLimit := p.len + 19,
                         param := level + 256 + 512 * 65536 }] s

/-- A new chunk goes to compression, or waits while no shelf is write-open (R262). -/
def startComp (p : PendChunk) (s : State) : State :=
  if writeOpen s = [] then setPend { p with waiting := true } s else postComp p 0xFF p.level (setPend { p with waiting := false } s)

/-- A new chunk taken into the list and started. -/
def newChunk (p : PendChunk) (s : State) : State :=
  let id := s.arr.chunkId
  startComp { p with id := id } (onArr (fun a => { a with chunkId := id + 1, chunks := a.chunks ++ [{ p with id := id }] }) s)

/-- The seal of a placed frame posted. -/
def postSeal (p : PendChunk) (unit : Nat) (s : State) : State :=
  match sealSlot p.kd s, steepOf p.stripe s with
  | some slot, some x =>
    postAr (.seal p.id) [{ engine := 6, flags := 4, unit := unit, inn := p.frameBuf, inLen := p.frameLen - 48, outLimit := p.frameLen,
                           out := p.frameOff * 2 ^ 32 + x.handle, aux := slot, param := p.len }] s
  | _, _ => hold (.seal p.id) s

/-- A frame entered in its stripe: directory, fill, owner; it is not sealed yet. -/
def enterFrame (n : Nat) (p : PendChunk) (len : Nat) (s : State) : State :=
  match steepOf n s with
  | none => s
  | some x =>
    let s := setSteep { x with fill := x.fill + len, unsealed := x.unsealed + 1,
                               frames := x.frames ++ [{ fp := p.fp, kd := p.kd, off := x.fill, len := len, inIndex := p.direct.isNone }],
                               owners := match p.direct with | some o => x.owners ++ [(x.fill, o.1, o.2)] | none => x.owners } s
    setPend { p with stripe := n, frameOff := x.fill, frameLen := len } s

/-- A compressed frame placed in a steeping stripe and its seal posted (R244, R245); held when no stripe can take it. DESIGN CHOICE, unsafe: log 61. -/
def placeChunk (id : Nat) (s : State) : State :=
  match pendOf id s with
  | none => s
  | some p =>
    let len := p.frameLen
    let k := ((nsOf p.nsid s).map (·.width)).getD 16
    match stripeFor p.group p.pcls p.nsid k len none none s with
    | (none, s) => hold (.place id) s
    | (some n, s) =>
      let s := enterFrame n p len s
      match pendOf id s with
      | some p => postSeal p 0xFF s
      | none => s

/-- Verify failed on a compressor (R203): once more at the same level on another one; then at level 0 on each compressor in service in
turn; when none passes the chunk stays in dirty data and every group is handed over. -/
def compFailed (p : PendChunk) (unit : Nat) (s : State) : State :=
  let p := { p with tried := p.tried ++ [unit] }
  let live := (List.range 8).filter (fun u => !unitRetired 4 u s)
  if p.tried.length = 1 then
    match live.find? (· != unit) with
    | some u => postComp p u p.level (setPend p s)
    | none => postComp p 0xFF 0 (setPend p s)
  else match live.find? (fun u => !(p.tried.drop 2).contains u) with
    | some u => postComp p u 0 (setPend p s)
    | none => engineExhausted 4 (setPend { p with waiting := true } s)

/-! ### Zone sets (R233, R239, R240) -/

/-- Zones of a zone set still to complete: stripes of it that pour. -/
def pouringOn (zs : Nat) (s : State) : Bool := s.arr.steeps.any (fun x => x.je.state == .pouring && x.je.zoneSet == zs)

/-- A zone set finished: Zone Finish on every zone (R239, R248). -/
def finishZs (n : Nat) (s : State) : State :=
  let z := zsOf n s
  if !z.isOpen then s else
  forEach z.members (fun m s => egress (.drive m.1 3 (m.2 + 2 * 2 ^ 32) false []) s) (setZs n { z with isOpen := false } s)

/-- The members a new zone set takes (R239): those in service with a free zone in this head's half, the fewest open zones first, lowest
bay among equals; `none` when there are fewer than k + 2. -/
def zsMembers (shelf k : Nat) (s : State) : Option (List (Nat × Nat)) :=
  let l := (inService shelf s).filterMap (fun d => (freeZone d s).map (fun z => (d, z)))
  let l := l.mergeSort (fun a b => decide (openZones a.1 s < openZones b.1 s) || (openZones a.1 s == openZones b.1 s && decide (a.1 ≤ b.1)))
  if l.length < k + 2 then none else some (l.take (k + 2))

/-- Zones taken or returned, each recorded in the mirror epoch (R240). -/
def takeZones (l : List (Nat × Nat)) (taken : Bool) (s : State) : State :=
  forEach l (fun m s => addRec' none (.zone m.1 m.2 taken)
    (onArr (fun a => { a with zones := kset false a.zones (m.1 * 2 ^ 26 + m.2) taken }) s)) s

/-- A zone set opened. DESIGN CHOICE, unsafe: log 61. -/
def openZs (shelf k : Nat) (gc : Bool) (s : State) : Option Nat × State :=
  match zsMembers shelf k s with
  | none => (none, s)
  | some l =>
    let n := 2 * s.arr.nextZoneSet + headSlot s
    let rows := l.foldl (fun r m => min r ((memberOf m.1 s).info.zoneCap / 65536)) (2 ^ 26)
    let s := onArr (fun a => { a with nextZoneSet := a.nextZoneSet + 1 }) s
    let s := transact none [.zsPut n shelf k rows true true l] (takeZones l true s)
    (some n, setZs n { zsOf n s with gc := gc } s)

/-- This head's open zone sets of a shelf, for ingest or for collection. -/
def myOpenZs (shelf : Nat) (gc : Bool) (s : State) : List (Nat × ZoneSet) :=
  s.arr.zoneSets.filter (fun p => p.2.own && p.2.isOpen && p.2.shelf == shelf && p.2.gc == gc)

/-- The zone set for a stripe (R239, R241): an open one of its width whose earlier row has completed and that has room; else a new one,
while at most 6 are open for ingest and 2 for collection; with all open and none of that width, the one with the fewest free rows is finished, once
its outstanding appends have completed, and a new one opened. `none`: the stripe waits. -/
def chooseZs (shelf k : Nat) (gc : Bool) (s : State) : Option Nat × State :=
  let mine := myOpenZs shelf gc s
  let fit := mine.filter (fun p => p.2.k == k && decide (p.2.nextRow < p.2.rows) && !p.2.ending)
  match fit.find? (fun p => !pouringOn p.1 s) with
  | some p => (some p.1, s)
  | none =>
    if mine.length < (if gc then 2 else 6) then openZs shelf k gc s
    else if !fit.isEmpty || mine.any (·.2.ending) then (none, s)
    else match mine.mergeSort (fun a b => decide (a.2.rows - a.2.nextRow ≤ b.2.rows - b.2.nextRow)) with
      | p :: _ => if pouringOn p.1 s then (none, setZs p.1 { p.2 with ending := true } s) else openZs shelf k gc (finishZs p.1 s)
      | [] => (none, s)

/-- The member that holds a strip position of a row (R233). -/
def stripPlace (z : ZoneSet) (row pos : Nat) : Nat × Nat := z.members.getD ((pos + row) % (z.k + 2)) (0, 0)

/-! ### The pour (R247, R248) -/

/-- An APPEND of a strip position: from a buffer at an offset, with or without PQ_EN (Table 8.2). -/
def postStrip (n pos drive zone row buf off ctx : Nat) (pq : Bool) (s : State) : State :=
  postAr (.strip n pos) [{ engine := 9, op := 1, inn := off * 2 ^ 32 + buf, inLen := 65536,
                           aux := drive + (if pq then 2 ^ 16 + ctx * 2 ^ 24 + pos * 2 ^ 32 else 0),
                           param := zone + 16 * row * 2 ^ 32 }] s

/-- The pour of a closed stripe (Table 8.3, steps 1 to 3): the next row taken, POURING in the journal, a free parity context opened,
the data strips appended. A stripe that finds no zone set or no context waits. -/
def pourStripe (n : Nat) (s : State) : State :=
  match steepOf n s with
  | none => s
  | some x =>
    if !x.closed || x.je.state != .steeping || x.unsealed != 0 then s else
    match lowest 64 (fun c => (kfind s.par c).isNone) with
    | none => s
    | some ctx =>
      match chooseZs x.je.shelf x.je.k x.gc.isSome s with
      | (none, s) => s
      | (some zs, s) =>
        let z := zsOf zs s
        let row := z.nextRow
        let s := setZs zs { z with nextRow := row + 1, firstAppend := z.firstAppend.or (some (rget F.CLK_ALARM_RTC_SEC s)) } s
        let s := memWrite (bufAddr x.handle s + x.fill) (List.replicate (x.je.k * 65536 - x.fill) 0) s
        let s := setFill x.handle (x.je.k * 65536) s
        let s := setSteep { x with ctx := some ctx, ok := [], failed := false, pBuf := none, qBuf := none } s
        let s := setJournal n (fun j => { j with state := .pouring, row := row, zoneSet := zs, members := z.members,
                                                 dataBytes := x.fill, frames := x.frames.length }) s
        let s := setPar (kput s.par ctx { k := x.je.k, len := 65536, p := zeroStrip 65536, q := zeroStrip 65536 }) s
        forEach (List.range x.je.k) (fun i s =>
          let m := stripPlace z row i
          postStrip n i m.1 m.2 row x.handle (65536 * i) ctx true s) s

/-- P and Q of a stripe emitted (step 4): P by OUT_ALLOC, Q into a set S C2 buffer taken first. -/
def postEmit (n : Nat) (s : State) : State :=
  match steepOf n s with
  | none => s
  | some x =>
    let (q, s) := match x.qBuf with
      | some h => (some h, s)
      | none => bpmAlloc .core 0 2 s
    match q with
    | none => hold (.emit n) s
    | some h =>
      postAr (.emit n) [{ engine := 7, op := 2, flags := 32, outLimit := 65536, aux := h, param := x.ctx.getD 0 }]
        (setSteep { x with qBuf := some h } s)

/-- P and Q appended from set S (step 5). -/
def appendPq (x : Steep) (p : Nat) (s : State) : State :=
  let z := zsOf x.je.zoneSet s
  let a := stripPlace z x.je.row x.je.k
  let b := stripPlace z x.je.row (x.je.k + 1)
  postStrip x.je.stripe (x.je.k + 1) b.1 b.2 x.je.row (x.qBuf.getD 0) 0 0 false
    (postStrip x.je.stripe x.je.k a.1 a.2 x.je.row p 0 0 false s)

/-- What a stripe holds beside its C4 buffer is given back: P and Q buffers and the parity context. -/
def freePour (x : Steep) (s : State) : State :=
  let s := dropAll (x.pBuf.toList ++ x.qBuf.toList) s
  match x.ctx with
  | some c => if (kfind s.par c).isSome then setPar (kdel s.par c) s else s
  | none => s

/-- A pour discarded (R248): the zone set finished, the entry DISCARDED, its context and buffers freed, and the same C4 buffer closed
under a new stripe number, to be poured again to another zone set. -/
def discardPour (n : Nat) (s : State) : Option Nat × State :=
  match steepOf n s with
  | none => (none, s)
  | some x =>
    let s := finishZs x.je.zoneSet s
    let s := freePour x s
    let s := dropSteep n (setJournal n (fun j => { j with state := .discarded }) s)
    let (m, s) := newStripe s
    let je : JEntry := { stripe := m, shelf := x.je.shelf, k := x.je.k, group := x.je.group, cls := x.je.cls }
    let s := onArr (fun a => { a with steeps := a.steeps ++ [{ x with je := je, ctx := none, pBuf := none, qBuf := none, ok := [] }] }) s
    (some m, setJournal m id s)

/-- POUR_RETRY (R248): a failed append counts one media error against its member, and the stripe pours again. -/
def pourFailed (n pos code : Nat) (s : State) : State :=
  match steepOf n s with
  | none => s
  | some x =>
    let m := stripPlace (zsOf x.je.zoneSet s) x.je.row pos
    let s := if code = 0xFFFE ∨ code = 0xFFFF then s else mediaError m.1 s
    match discardPour n s with
    | (some m, s) => pourStripe m s
    | (none, s) => s

/-! ### Ends of the Array Runtime's jobs -/

/-- Every chunk of a namespace without dedup is new, and goes straight to compression (R184). -/
def startDirect (d : Dirty) (s : State) : State :=
  let kd := ((nsOf d.nsid s).map (·.kd)).getD 0xFFF
  let level := [0, 1, 3, 9].getD (((nsOf d.nsid s).map (·.cls)).getD 2) 3
  forEach d.chunks.zipIdx (fun c s =>
    newChunk { fp := c.1.fp, kd := kd, handle := d.handle.getD 0, off := c.1.off, len := c.1.len, nsid := d.nsid, group := d.group,
               level := level, direct := some (d.wseq, c.2) } s) s

/-- The chunk list of a write is in: its chunks noted, the list's buffer dropped. They wait for their confirms, in list order. -/
def onCut (w : Nat) (r : ArEnd) (s : State) : State :=
  let s' := dropAll [r.out % 2 ^ 32] s
  match dirtyOf w s with
  | none => s'
  | some d =>
    let l := memRead s (bufAddr (r.out % 2 ^ 32) s + r.out / 2 ^ 32) r.bytes
    let es := (List.range (ofLe ((l.drop 12).take 2))).map (fun i =>
      let e := l.drop (32 + 40 * i)
      { off := ofLe (e.take 4), len := ofLe ((e.drop 4).take 4), fp := digestOf ((e.drop 8).take 32) : DChunk })
    let none_ := ((nsOf d.nsid s).map (·.scope)) == some Scope.none
    let d := { d with chunks := es.map (fun c => { c with settled := none_ }) }
    let s := setDirty d s'
    if none_ then startDirect d s else s

/-- A frame sealed: when it was the stripe's last and the stripe is closed, nothing keeps it from the pour. -/
def onSealed (p : PendChunk) (s : State) : State :=
  let s := dropPend p.id s
  match steepOf p.stripe s with
  | some x => setSteep { x with unsealed := x.unsealed - 1 } s
  | none => s

/-- A zone set that has no room for another row, or gives its place to another width, is finished once its appends have completed (R239). -/
def finishFull (n : Nat) (s : State) : State :=
  let z := zsOf n s
  if (z.rows ≤ z.nextRow ∨ z.ending) ∧ !pouringOn n s then finishZs n s else s

/-- A strip appended OK (steps 3 to 6): after the last data strip P and Q are emitted, after the last strip the entry is LANDED. -/
def onStrip (n pos : Nat) (s : State) : State :=
  match steepOf n s with
  | none => s
  | some x =>
    let x := { x with ok := x.ok ++ [pos] }
    let s := setSteep x s
    if x.ok.length = x.je.k ∧ pos < x.je.k then postEmit n s
    else if x.ok.length = x.je.k + 2 then finishFull x.je.zoneSet (setJournal n (fun j => { j with state := .landed, dir := x.frames, gc := x.gc }) s)
    else s

/-! ### The commit of a write's map records (R249), and its start (R19) -/

/-- The chunks of a write are all LIVE, or placed for a namespace without dedup. -/
def chunksLive (d : Dirty) (s : State) : Bool :=
  let kd := ((nsOf d.nsid s).map (·.kd)).getD 0xFFF
  d.chunks.all (fun c => c.settled && (c.loc.isSome ||
    s.arr.index.any (fun e => e.fp == c.fp && e.kd == kd && isChunkKind e.kind && e.state == .live)))

/-- The ranges a change covers. -/
def dirtyRanges (d : Dirty) : List (Nat × Nat) := if d.kind = .write then [(d.addr, d.len)] else d.ranges

/-- Two changes of one namespace overlap. -/
def dirtyOverlap (d e : Dirty) : Bool :=
  d.nsid == e.nsid && (dirtyRanges d).any (fun p => (dirtyRanges e).any (fun q => decide (p.1 < q.1 + q.2) && decide (q.1 < p.1 + p.2)))

/-- A write's map records may commit (R19, R249): it is acknowledged and every chunk LIVE; a change without records waits for the earlier writes it
overlaps. DESIGN CHOICE, unsafe: log 61. -/
def mayCommit (d : Dirty) (s : State) : Bool :=
  d.own && d.acked && !d.committed &&
  (match d.kind with
   | .write => !d.chunks.isEmpty && chunksLive d s
   | _ => s.arr.dirty.all (fun e => !(decide (e.wseq < d.wseq) && !e.committed && dirtyOverlap d e)))

/-- The map records of a write. -/
def recordsOf (d : Dirty) (s : State) : List (Nat × Nat × Nat × Nat × Option MapRec) :=
  let kd := ((nsOf d.nsid s).map (·.kd)).getD 0xFFF
  match d.kind with
  | .write => d.chunks.map (fun c =>
      (d.nsid, d.addr + c.off, d.addr + c.off + c.len, d.wseq,
        some { nsid := d.nsid, addr := d.addr + c.off, len := c.len, coff := c.coff, kd := kd, wseq := d.wseq,
               fp := if c.loc.isSome then none else some c.fp, frame := c.loc.getD {} }))
  | _ => d.ranges.map (fun p => (d.nsid, p.1, p.1 + p.2, d.wseq, none))

/-- The transactions a change commits in: one for a write or zeroes (R57), one for each step of a deallocation, in ascending order (R58). -/
def commitSteps (d : Dirty) (s : State) : List (List (Nat × Nat × Nat × Nat × Option MapRec)) :=
  if d.kind = .dealloc then (recordsOf d s).map ([·]) else [recordsOf d s]

/-- The map records of a change committed, with the REFS they change; each chunk's hold is given up (R179). -/
def commitWrite (d : Dirty) (s : State) : State :=
  let kd := ((nsOf d.nsid s).map (·.kd)).getD 0xFFF
  let held := (d.chunks.filter (·.loc.isNone)).map (fun c => (c.fp, kd))
  let s := forEach (commitSteps d s) (fun l s => transact (some d.group) (withHolds (changeRanges l s.arr) held s.arr) s) s
  setDirty { d with committed := true, commitEpoch := rget F.PNL_EPOCH_SEQ_NUMBER s } s

/-- Every write that may commit does, in WSEQ order. -/
def commitReady (s : State) : State :=
  forEach ((s.arr.dirty.map (·.wseq)).mergeSort (fun a b => decide (a ≤ b))) (fun w s =>
    match dirtyOf w s with
    | some d => if mayCommit d s then commitWrite d s else s
    | none => s) s

/-- Step 5 of R19: this head's acknowledged changes go on, each write to its cut, and what needs no flash commits. Writes in set D wait while it is
rebuilt (R138). -/
def startAcked (s : State) : State :=
  let l := s.arr.dirty.filter (fun d => d.own && d.acked && !d.started && !d.committed)
  if l.isEmpty || !setOn 1 s || rbit F.BPM_CTL_D_REBUILDING s then s else
  commitReady (forEach l (fun d s =>
    let s := setDirty { d with started := true } s
    if d.kind = .write then startCut d s else s) s)

/-- A zone set whose zones' write pointers are all read (R252): a row counts as landed only where every pointer is past it, and, where a member is not in
service, only when its commit is durable (R293); a zone set with a row that did not land everywhere is finished. -/
def pointersIn (zs : Nat) (s : State) : State :=
  let z := zsOf zs s
  let there := z.members.filter (fun m => !memberGone m.1 s)
  let p := there.map (fun m => kget 0 s.arr.pointers (m.1 * 2 ^ 26 + m.2) / 16)
  let whole : Bool := z.members.all (fun m => (memberOf m.1 s).st == .inService)
  let lo := if whole then p.foldl min (p.headD 0) else ((s.arr.stripes.filter (·.zoneSet == zs)).map (·.row + 1)).foldl max 0
  let s := setZs zs { z with nextRow := lo } s
  if p.all (· == lo) then s else finishZs zs s

/-- The write pointers that a zone set waits for are all read: those of the members that can be read. -/
def allRead (z : ZoneSet) (s : State) : Bool := !z.members.any (fun m => s.arr.unread.contains m && !memberGone m.1 s)

/-- The write pointer of a zone as its report gives it, as an offset in the zone; the report as ZNS lays it out. PRESUMED, unsafe: log 46. -/
def reportPointer (data : List Byte) (i : Nat) : Option Nat :=
  let e := data.drop (64 + 64 * i)
  if e.length < 64 then none else some (ofLe ((e.drop 24).take 8) - ofLe ((e.drop 16).take 8))

/-- A ZONE_REPORT of the journal's recovery in (R252): its zone's write pointer noted; the zone set's rows settle once all are read. -/
def onReport (d z : Nat) (r : ArEnd) (s : State) : State :=
  if r.status ≠ jOk then hold (.report d z) s else
  let l := memRead s (bufAddr (r.out % 2 ^ 32) s + r.out / 2 ^ 32) r.bytes
  let s := dropAll [r.out % 2 ^ 32] s
  let s := onArr (fun a => { a with unread := a.unread.filter (· != (d, z)),
                                    pointers := kput a.pointers (d * 2 ^ 26 + z) ((reportPointer l 0).getD 0) }) s
  forEach (s.arr.zoneSets.filter (fun p => p.2.own && p.2.isOpen && p.2.members.contains (d, z) && allRead p.2 s))
    (fun p s => pointersIn p.1 s) s

/-- The ZONE_REPORT of one zone posted: 128 bytes, its descriptor with the zone's. DESIGN CHOICE, unsafe: log 65. -/
def postReport (d z : Nat) (s : State) : State :=
  postAr (.report d z) [{ engine := 9, op := 4, flags := 32, outLimit := 4096, aux := d, param := z }] s

/-- One ended job of the Array Runtime's own. DESIGN CHOICE, unsafe: log 61. -/
def onEnd (r : ArEnd) (s : State) : State :=
  match r.work with
  | .none => s
  | .cut w =>
    if r.status = jOk then onCut w r s
    else match dirtyOf w s with
      | some d => if r.status = jLaneRetired ∧ anyUnit 2 s ∧ anyUnit 3 s then startCut d s else hold (.cut w) s
      | none => s
  | .comp id =>
    match pendOf id s with
    | none => if r.status = jOk then dropAll [r.out % 2 ^ 32] s else s
    | some p =>
      if r.status = jOk then placeChunk id (setPend { p with frameBuf := r.out % 2 ^ 32, frameLen := r.bytes + 48 } s)
      else if r.status = jVerifyFail then compFailed p r.unit s
      else if r.status = jLaneRetired ∧ anyUnit 4 s then postComp p 0xFF (if 2 ≤ p.tried.length then 0 else p.level) s
      else hold (.comp id) s
  | .place id => placeChunk id s
  | .seal id =>
    match pendOf id s with
    | none => s
    | some p =>
      let s := match sealSlot p.kd s with | some k => reserveNonces k s | none => s
      if r.status = jOk then onSealed p s
      else if (r.status = jVerifyFail ∨ r.status = jLaneRetired) ∧ anyUnit 6 s then
        match (List.range 64).find? (fun u => u != r.unit && !unitRetired 6 u s) with
        | some u => postSeal p u s
        | none => postSeal p 0xFF s
      else hold (.seal id) s
  | .report d z => onReport d z r s
  | .strip n pos => if r.status = jOk then onStrip n pos s else pourFailed n pos (r.bytes % 65536) s
  | .emit n =>
    match steepOf n s with
    | none => dropAll (if r.status = jOk then [r.out % 2 ^ 32] else []) s
    | some x =>
      if r.status = jOk then
        let x := { x with pBuf := some (r.out % 2 ^ 32), ctx := none }
        appendPq x (r.out % 2 ^ 32) (setSteep x s)
      else if r.status = jCheckFail then
        match discardPour n s with
        | (some m, s) => pourStripe m s
        | (none, s) => s
      else hold (.emit n) s

/-- The ended jobs taken up one after another; what taking one up ends in turn follows. -/
def settleFrom : Nat → State → State
  | 0, s => s
  | n + 1, s =>
    match s.eng.ended with
    | [] => s
    | r :: rest => settleFrom n (onEnd r { s with eng := { s.eng with ended := rest } })

/-- The Array Runtime starts what was acknowledged and takes up the jobs that ended. -/
def arSettle (s : State) : State := settleFrom 4096 (startAcked s)

/-- Work held is tried again (R545). DESIGN CHOICE, unsafe: log 61. -/
def retryHeld (s : State) : State :=
  let l := s.arr.held
  arSettle (forEach l (fun w s =>
    match w with
    | .cut n => (match dirtyOf n s with | some d => startCut d s | none => s)
    | .comp id => (match pendOf id s with | some p => postComp p 0xFF (if 2 ≤ p.tried.length then 0 else p.level) s | none => s)
    | .place id => placeChunk id s
    | .seal id => (match pendOf id s with
      | some p => postSeal p 0xFF (match sealSlot p.kd s with | some k => reserveNonces k s | none => s)
      | none => s)
    | .emit n => postEmit n s
    | .report d z => postReport d z s
    | _ => s) (onArr (fun a => { a with held := [] }) s))

/-- A shelf became write-open: the chunks that waited for one are compressed (R262). -/
def startWaiting (s : State) : State :=
  arSettle (forEach (s.arr.chunks.filter (·.waiting)) (fun p s => startComp p s) s)

/-! ### Commit (R249) -/

/-- The changes that set a poured frame's entry LIVE: LOC and FRAME_LEN for a new chunk; LOC alone, where it still names the old place,
for a frame that collection moved; a lost chunk found again leaves the lost-chunk table (R255, R298). -/
def frameChanges (j : JEntry) (f : FrameDir) (a : Arr) : List IndexChange :=
  let loc : Loc := { shelf := j.shelf, stripe := j.stripe, off := f.off }
  if !f.inIndex then [] else
  match a.index.find? (fun e => e.fp == f.fp && e.kd == f.kd && (match e.kind with | .chunk _ => true | .importFrom _ => e.lost | _ => false) &&
      (match j.gc with | some _ => e.state != .pending | none => e.state == .pending || e.lost)) with
  | none => []
  | some e =>
    match j.gc with
    | some z =>
      let old : Bool := match e.kind with
        | .chunk l => (a.stripes.find? (·.stripe == l.stripe)).map (·.zoneSet) == some z
        | _ => false
      if old then [.entryPut { e with kind := .chunk loc, frameLen := f.len }] else []
    | none =>
      [.entryPut (deadIfFree { e with kind := .chunk loc, frameLen := f.len, state := .live, lost := false, serial := 0 })] ++
        (if a.lost.any (fun l => l.fp == f.fp && l.kd == f.kd) then [.lostDel f.fp f.kd] else [])

/-- Records that name a frame directly follow it when collection moves it (R304). -/
def directMoves (j : JEntry) (f : FrameDir) (a : Arr) : List IndexChange :=
  match j.gc with
  | none => []
  | some z =>
    if f.inIndex then [] else
    let here := fun (r : MapRec) => r.fp == none && (a.stripes.find? (·.stripe == r.frame.stripe)).any (fun st =>
        st.zoneSet == z && st.frames.any (fun g => g.off == r.frame.off && g.fp == f.fp))
    let loc : Loc := { shelf := j.shelf, stripe := j.stripe, off := f.off }
    (a.maps.filter here).map (fun r => .mapPut { r with frame := loc }) ++
      (a.retained.filter (fun r => here r.rec_)).flatMap (fun r =>
        [.retDel r.rec_.nsid r.rec_.addr r.rec_.wseq, .retPut { r with rec_ := { r.rec_ with frame := loc } }])

/-- The place of a poured frame noted in the write it belongs to (R184). -/
def noteDirect (x : Steep) (s : State) : State :=
  forEach x.owners (fun o s =>
    match dirtyOf o.2.1 s with
    | some d => setDirty { d with chunks := d.chunks.zipIdx.map (fun c =>
        if c.2 = o.2.2 then { c.1 with loc := some { shelf := x.je.shelf, stripe := x.je.stripe, off := o.1 } } else c.1) } s
    | none => s) s

/-- The one index transaction of a landed stripe (R249): its record and frame directory, its entries LIVE, its journal entry COMMITTED. -/
def commitChanges (j : JEntry) (a : Arr) : List IndexChange :=
  let rec_ : StripeRec := { stripe := j.stripe, zoneSet := j.zoneSet, row := j.row, k := j.k, dataBytes := j.dataBytes, frames := j.dir,
                            group := j.group, cls := j.cls }
  let cs := [IndexChange.stripePut rec_] ++ j.dir.flatMap (fun f => directMoves j f a)
  cs ++ inTurn (frameChanges j) j.dir (cs.foldl (fun a c => applyChange c a) a) ++ [.journal { j with state := .committed }]

/-- A landed stripe committed; a lost chunk that it brings back is recorded (R298). -/
def commitEntry (j : JEntry) (s : State) : State :=
  let back := j.dir.filter (fun f => s.arr.lost.any (fun l => l.fp == f.fp && l.kd == f.kd))
  let (c, s) := journalWrite { j with state := .committed } s
  let s := transact (some j.group) (commitChanges c s.arr) s
  recordRanges Ev.LOSS_RECOVERED j.shelf [(1, j.shelf), (8, j.stripe)] (back.flatMap (fun f => namingChunk f.fp f.kd s)) s

/-- COMMIT (R249): a LANDED stripe's transaction; its buffers are dropped, the recent entries merge into pages, and the writes all of whose chunks are
LIVE commit. -/
def opCommit (n : Nat) (s : State) : State :=
  match steepOf n s with
  | none => s
  | some x =>
    if x.je.state ≠ .landed then s else
    let s := noteDirect x (commitEntry x.je s)
    mergeRecent (commitReady (dropSteep n (dropAll [x.handle] (freePour x s))))

/-! ### Recovery of the pour journal (R252, R253) -/

/-- A journal entry discarded: its zone set is finished, and what it carried is poured again from dirty data. -/
def discardEntry (j : JEntry) (s : State) : State :=
  let s := if j.state = .pouring then finishZs j.zoneSet s else s
  let (c, s) := journalWrite { j with state := .discarded } s
  addRec' (some j.group) (.journal c) s

/-- The journal recovered after a restart (R252): a LANDED stripe without a durable commit is committed again from its frame directory, one that has not
landed is discarded. With every copy of the journal lost the zones' write pointers are read first. -/
def recoverJournal (p : JEntry → Bool) (s : State) : State :=
  let mine := s.arr.journal.filter (fun j => p j && (j.stripe % 2 == headSlot s || solo s) && !jFinal j && (steepOf j.stripe s).isNone)
  let s := forEach mine (fun j s => if j.state = .landed then commitEntry j s else discardEntry j s) s
  forEach s.arr.unread (fun m s => if memberGone m.1 s then s else postReport m.1 m.2 s) s

/-- STEEP_MAX (R246): the steeping stripe of a group and class has been open for STEEP_MAX_MS and closes. -/
def opSteepMax (group : Fin 256) (cls : Fin 4) (s : State) : State :=
  closeSteeps (fun x => x.je.state == .steeping && x.je.group == group.val && x.je.cls == cls.val) s

/-- POUR (R247): the owner pours a closed stripe. DESIGN CHOICE, unsafe: log 61. -/
def opPour (n : Nat) (s : State) : State := arSettle (pourStripe n s)

/-! ### Release of dirty data (R250) -/

/-- The map commit of a write is durable: its INDEX records are confirmed by the shadow, or written to the journal ring in SOLO. -/
def commitDurable (d : Dirty) (s : State) : Bool :=
  d.committed && decide (d.commitEpoch < rget F.PNL_EPOCH_SEQ_NUMBER s) && s.mir.sent.all (fun e => decide (d.commitEpoch < e.num))

/-- A change without records outlives the earlier writes it overlaps, whose dirty copies would otherwise be read again (R21). -/
def coversOlder (d : Dirty) (s : State) : Bool :=
  d.kind != .write && s.arr.dirty.any (fun e => decide (e.wseq < d.wseq) && dirtyOverlap e d)

/-- DIRTY_RELEASE (R250, R65, R21): the dirty copy is dropped, a RELEASE record carries its WSEQ, and credits follow. -/
def opDirtyRelease (w : Nat) (s : State) : State :=
  match dirtyOf w s with
  | none => s
  | some d =>
    if !d.own || !commitDurable d s || coversOlder d s then s else
    let s := onArr (fun a => { a with dirty := a.dirty.filter (·.wseq != w) }) s
    let s := dropAll d.handle.toList s
    grantAll (addRec' (some d.group) (.release [w]) s)

end Sys2Proof.Machine
end

