-- ==== Sys2Proof/Machine/ReadPath.lean ====
section
/-! DEFINITION. Reading stored frames: strips, decode, frames of steeping stripes, opening and decompression, and loss (R206, R255,
R277, R284, R297, R298). -/

namespace Sys2Proof.Machine

open Sys2Proof

/-- A row of a zone set as its drives give it; a FAILING member's strips only when `failing` asks for them (R284). -/
def rowOf (z : ZoneSet) (row : Nat) (failing : Bool) (s : State) : Row :=
  (List.range (z.k + 2)).map (fun j =>
    let m := stripPlace z row j
    if memberGone m.1 s || ((memberOf m.1 s).st == .failing && !failing) then none else some (zoneBytes m.1 m.2 (16 * row) 65536 s))

/-- A row read with a FAILING member's strips only when it would otherwise have three or more erasures. -/
def readRow (z : ZoneSet) (row : Nat) (s : State) : Row :=
  let r := rowOf z row false s
  if 3 ≤ (erasures z.k r).length then rowOf z row true s else r

/-- `n` bytes of a stripe's data from an offset, strip by strip; `none` when a strip cannot be decoded. -/
def stripeBytes (k : Nat) (r : Row) (off n : Nat) : Option (List Byte) :=
  let first := off / 65536
  let l := (List.range ((off + n - 1) / 65536 + 1 - first)).map (fun i => decodeStrip k 65536 r (first + i))
  if l.any (·.isNone) then none else some (((l.map (·.getD [])).flatten.drop (off % 65536)).take n)

/-- The stored bytes of a place: from the steeping stripe's buffer while it has not landed, else from its row. -/
def frameAt (loc : Loc) (n : Nat) (s : State) : Option (List Byte) :=
  match steepOf loc.stripe s with
  | some x => some (memRead s (bufAddr x.handle s + loc.off) n)
  | none =>
    match s.arr.stripes.find? (·.stripe == loc.stripe) with
    | none => none
    | some t =>
      match kfind s.arr.zoneSets t.zoneSet with
      | none => none
      | some z => stripeBytes z.k (readRow z t.row s) loc.off n

/-- The Zstandard frame of a sealed frame, and its CHUNK_LEN (R212). -/
def openFrame (f : List Byte) (s : State) : Option (List Byte × Nat) :=
  let kd := ofLe ((f.drop 2).take 2)
  let gen := ofLe ((f.drop 4).take 2)
  match openSlot kd gen s with
  | none => none
  | some slot =>
    match openWith slot f s with
    | (0, z) => some (z, ofLe ((f.drop 20).take 4))
    | _ => none

/-- The chunk that a sealed frame holds: opened, decompressed, its checks passed and its length as CHUNK_LEN says (R205). -/
def chunkOf (f : List Byte) (s : State) : Option (List Byte) :=
  match openFrame f s with
  | none => none
  | some (z, n) => (decodeFrame z).bind (fun x => if x.length = n then some x else none)

/-- The strip positions of a stripe's data that a place touches. -/
def stripsOf (off n : Nat) : List Nat := (List.range ((off + n - 1) / 65536 + 1 - off / 65536)).map (off / 65536 + ·)

/-- The chunk at a place with the strip of one position taken from parity; that position and the bytes. -/
def chunkFromParity (z : ZoneSet) (r : Row) (loc : Loc) (n : Nat) (s : State) : Option (Nat × List Byte) :=
  (stripsOf loc.off n).findSome? (fun p =>
    ((stripeBytes z.k (listSet r p none) loc.off n).bind (fun f => chunkOf f s)).map (fun c => (p, c)))

/-- The frame read again from its members after a check failed (R206 step 2). The member against which a passed re-read is recorded is that of the frame's
first strip. DESIGN CHOICE, unsafe: log 97. -/
def readAgain (t : StripeRec) (z : ZoneSet) (loc : Loc) (n : Nat) (s : State) : Option (List Byte) × State :=
  match (frameAt loc n s).bind (fun _ => chunkOf ((List.range n).map (Config.rereadByte s.freeCtr)) s) with
  | some c => (some c, recordFw Ev.FRAME_CHECK_FAIL srcPCI (memberInst (stripPlace z t.row (loc.off / 65536)).1) [] (tickFree s))
  | none => (none, tickFree s)

/-- The frame's strip reconstructed from parity (R206 step 3): a media error on the member that held the strip, and FRAME_CHECK_FAIL against it. -/
def readParity (t : StripeRec) (z : ZoneSet) (loc : Loc) (n : Nat) (s : State) : Option (List Byte) × State :=
  match chunkFromParity z (readRow z t.row s) loc n s with
  | none => (none, s)
  | some (p, c) =>
    let d := (stripPlace z t.row p).1
    (some c, mediaError d (recordFw Ev.FRAME_CHECK_FAIL srcPCI (memberInst d) [] s))

/-- The chunk stored at a place (R205, R206): as read; else step 1, the same jobs on another lane and decompressor, which computes the same from the same
buffer and fails alike; else as read again; else from parity; `none` when no step passes both checks. -/
def readStored (loc : Loc) (n : Nat) (s : State) : Option (List Byte) × State :=
  match (frameAt loc n s).bind (fun f => chunkOf f s) with
  | some c => (some c, s)
  | none =>
    match (s.arr.stripes.find? (·.stripe == loc.stripe)).bind (fun t => (kfind s.arr.zoneSets t.zoneSet).map (fun z => (t, z))) with
    | none => (none, s)
    | some (t, z) =>
      match readAgain t z loc n s with
      | (some c, s) => (some c, s)
      | (none, s) => readParity t z loc n s

/-- Chunks of one stripe marked lost (R206, R297): their entries kept, the lost-chunk table entered, and one STRIPE_LOSS recorded for each namespace
and contiguous LBA range of the records that name them, or name a lost frame directly. -/
def loseChunks (shelf stripe : Nat) (es : List IndexEntry) (direct : List MapRec) (s : State) : State :=
  let es := es.filter (fun e => !s.arr.lost.any (fun l => l.fp == e.fp && l.kd == e.kd))
  let s := transact none (es.flatMap (fun e => [.lostPut e.fp e.kd stripe, .entryPut { e with lost := true }])) s
  recordRanges Ev.STRIPE_LOSS shelf [(1, shelf), (8, stripe)] (es.flatMap (fun e => namingChunk e.fp e.kd s) ++ direct) s

/-- One chunk marked lost. -/
def loseChunk (e : IndexEntry) (s : State) : State :=
  let loc := match e.kind with | .chunk l => l | _ => {}
  loseChunks loc.shelf loc.stripe [e] [] s

end Sys2Proof.Machine
end

