-- ==== Sys2Proof/Machine/Dedup.lean ====
section
/-! DEFINITION. Confirm on hit, and the import and release of chunks across arrays (R176 to R191). -/

namespace Sys2Proof.Machine

open Sys2Proof

/-! ### A chunk settled -/

/-- The dirty write whose next chunk to settle is the one asked about: of this head, of the namespace, chunks taken in list order. -/
def askedBy (q : ConfirmReq) (s : State) : Option (Dirty × Nat × DChunk) :=
  s.arr.dirty.findSome? (fun d =>
    if d.own && d.nsid == q.nsid then
      match d.chunks.zipIdx.find? (fun c => !c.1.settled) with
      | some (c, i) => if c.fp = q.fp ∧ c.len = q.chunkLen then some (d, i, c) else none
      | none => none
    else none)

/-- Chunk `i` of a dirty write settled. -/
def settleChunk (d : Dirty) (i : Nat) (s : State) : State :=
  setDirty { d with chunks := d.chunks.zipIdx.map (fun c => if c.2 = i then { c.1 with settled := true } else c.1) } s

/-- The classes of a new chunk: what CHUNK_CLASS returned when the hook is enabled, a result out of range giving the default and
HOOK_FAULT; else the namespace's compression class and placement class 0 (R92, R93). -/
def chunkClasses (q : ConfirmReq) (s : State) : Nat × Nat × State :=
  let def_ := ((nsOf q.nsid s).map (·.cls)).getD 2
  match q.hook with
  | none => (def_, 0, s)
  | some (a, b) =>
    if !hookOn 1 s then (def_, 0, s)
    else if a ≤ 3 ∧ b ≤ 3 then (a, b, s)
    else (def_, 0, hookErr srcSUP 1 false s)

/-- The scope a namespace runs under: DOMAIN falls back to ARRAY where ING_CHUNK_CFG differs from the domain's (R162). -/
def scopeOf (ns : Namespace) (s : State) : Scope := if ns.scope = .domain ∧ s.arr.noDomain then .array else ns.scope

/-- A PENDING entry with one hold, its tag in the strainer (Table 6.6). -/
def createEntry (fp : Digest) (kd len : Nat) (shared : Bool) (s : State) : State :=
  let (sel, s) := strainerInsert fp s
  let (u, s) := newUid s
  transact none [.entryPut { uid := u, fp := fp, kd := kd, kind := .chunk {}, chunkLen := len, holds := 1, state := .pending, strSel := sel,
                             shared := shared }] s

/-- The domain work of a chunk. -/
def domOf (fp : Digest) (kd : Nat) (s : State) : Option DomWork := s.arr.dom.find? (fun w => w.req.fp == fp && w.req.kd == kd)

/-- A frame of the chunk is on its way to flash at this head. -/
def carried (fp : Digest) (kd : Nat) (s : State) : Bool :=
  s.arr.chunks.any (fun p => p.fp == fp && p.kd == kd && p.direct.isNone) ||
    s.arr.steeps.any (fun x => x.frames.any (fun f => f.fp == fp && f.kd == kd && f.inIndex))

/-- The PENDING entries that nothing at this head pours any more, as after a takeover, a handover or a restart (R180, R181). DEDUCED, unsafe: log 62. -/
def markOrphans (s : State) : State :=
  onArr (fun a => { a with orphans := (a.index.filter (fun e => e.state == .pending && !carried e.fp e.kd s)).map (·.uid) }) s

/-- A chunk of a dirty write goes on to compression. -/
def compressChunk (q : ConfirmReq) (d : Dirty) (c : DChunk) (s : State) : State :=
  let (cls, pcls, s) := chunkClasses q s
  arSettle (newChunk { fp := q.fp, kd := q.kd, handle := d.handle.getD 0, off := c.off, len := c.len, nsid := d.nsid, group := d.group,
                       level := [0, 1, 3, 9].getD cls 3, pcls := pcls } s)

/-- A dirty write of this head's own that holds a chunk. -/
def holderOf (q : ConfirmReq) (s : State) : Option (Dirty × DChunk) :=
  s.arr.dirty.findSome? (fun d => if d.own && d.nsid == q.nsid then (d.chunks.find? (fun c => c.fp == q.fp && c.len == q.chunkLen)).map (fun c => (d, c)) else none)

/-- NEW answered: the chunk of the write that asked goes on to compression. -/
def answerNew (q : ConfirmReq) (s : State) : State :=
  match askedBy q s with
  | some (d, i, c) => compressChunk q d c (settleChunk d i s)
  | none => match holderOf q s with
    | some (d, c) => compressChunk q d c s
    | none => s

/-- The IMPORT of an entry sent again with its SERIAL, its work lost on the way (R189). -/
def importAgain (q : ConfirmReq) (e : IndexEntry) (s : State) : State :=
  match e.kind with
  | .importFrom x =>
    let s := onArr (fun a => { a with dom := a.dom ++ [{ req := q, phase := .importing e.serial x 1 }] }) s
    egress (.dedup x 4 { kd := q.kd, serial := e.serial, fp := q.fp, loc := x, chunkLen := q.chunkLen, from_ := s.arr.arrayNum }) s
  | _ => s

/-- A PENDING entry that nothing pours any more is poured, or imported, for the write that confirmed it (R180, R181). -/
def pourAgain (q : ConfirmReq) (d : Dirty) (c : DChunk) (s : State) : State :=
  match findEntry q.fp q.kd s with
  | none => s
  | some e =>
    if e.state ≠ .pending ∨ !s.arr.orphans.contains e.uid then s else
    let s := onArr (fun a => { a with orphans := a.orphans.filter (· != e.uid) }) s
    match e.kind with
    | .chunk _ => compressChunk q d c s
    | _ => importAgain q e s

/-- HIT answered: the write that asked counts the chunk, and commits when all its chunks are LIVE. -/
def answerHit (q : ConfirmReq) (s : State) : State :=
  match askedBy q s with
  | none => s
  | some (d, i, c) => commitReady (pourAgain q d c (settleChunk d i s))

/-- The write that a CONFIRM asks for is of a group this head owns. -/
def ownAsk (q : ConfirmReq) (s : State) : Bool := (nsOf q.nsid s).any (fun n => owns n.group s || solo s)

/-- The server's answer (steps 3 to 6), to itself or to the partner. -/
def answer (q : ConfirmReq) (hit : Bool) (s : State) : State :=
  let s := emit (.confirm q.fp q.kd hit) s
  if !ownAsk q s then s else if hit then answerHit q s else answerNew q s

/-- The answer follows once the epoch that carries the change is confirmed (R176). -/
def replyLater (q : ConfirmReq) (hit : Bool) (s : State) : State :=
  onArr (fun a => { a with replies := a.replies ++ [{ req := q, hit := hit, epoch := rget F.PNL_EPOCH_SEQ_NUMBER s }] }) s

/-- The answers whose epochs are confirmed. -/
def settleReplies (s : State) : State :=
  let done := s.arr.replies.filter (fun r => epochConfirmed r.epoch s)
  forEach done (fun r s => answer r.req r.hit s) (onArr (fun a => { a with replies := a.replies.filter (fun r => !epochConfirmed r.epoch s) }) s)

/-- A new generation that every part of the dedup scope holds: sealing goes on under it (R219). -/
def settleKeys (s : State) : State :=
  let open_ := fun (p : KeyPend) => !(p.chips.isEmpty && (solo s || epochConfirmed p.epoch s))
  if s.keys.pend.all open_ then s else retryHeld { s with keys := { s.keys with pend := s.keys.pend.filter open_ } }

/-- What follows once an epoch is confirmed: the answers and the key generations that waited for it, and the Array Runtime's work. -/
def afterConfirm (s : State) : State := arSettle (settleKeys (settleReplies s))

/-! ### A page of the index (R177, R178, R291) -/

/-- Where the strainer keeps the tag of a fingerprint. -/
def tagPlace (fp : Digest) (st : Strainer) : StrSel :=
  if (bucketOf st (strB1 st fp)).tags.contains (strTag fp) then .b1
  else if (bucketOf st (strB2 st fp)).tags.contains (strTag fp) then .b2
  else if st.stash.contains (stashKey fp) then .stash else .dropped

/-- An entry made again from a frame of a stripe's directory: CHUNK_LEN from the frame's header, REFS counted from the maps, and the HOLDS that
stand in DRAM. DESIGN CHOICE, unsafe: log 93. -/
def rebuiltEntry (t : StripeRec) (f : FrameDir) (uid holds : Nat) (s : State) : IndexEntry :=
  let loc : Loc := { shelf := (zsOf t.zoneSet s).shelf, stripe := t.stripe, off := f.off }
  let refs := namesOf f.fp f.kd s.arr
  { uid := uid, fp := f.fp, kd := f.kd, kind := .chunk loc, frameLen := f.len, chunkLen := ofLe ((((frameAt loc 32 s).getD []).drop 20).take 4), refs := refs,
    holds := holds, state := if refs = 0 ∧ holds = 0 then .dead else .live, strSel := tagPlace f.fp s.arr.strainer }

/-- A lost page of the index rebuilt from the frame directories of the stripe table (R291). -/
def rebuildPage (g : IndexPage) (s : State) : State :=
  let gone := s.arr.index.filter (fun e => g.uids.contains e.uid && !s.arr.recent.contains e.uid)
  let s := transact none (gone.map .entryDel) s
  let wanted := fun (f : FrameDir) => f.inIndex && (gone.any (fun e => e.fp == f.fp && e.kd == f.kd) || (sliceOf f.fp == g.slice && pageOf f.fp == g.page))
  forEach (s.arr.stripes.flatMap (fun t => (t.frames.filter wanted).map (fun f => (t, f)))) (fun p s =>
    if s.arr.index.any (fun e => e.fp == p.2.fp && e.kd == p.2.kd && isChunkKind e.kind) then s else
    let (u, s) := newUid s
    let holds := ((gone.find? (fun e => e.fp == p.2.fp && e.kd == p.2.kd)).map (·.holds)).getD 0
    transact none [.entryPut (rebuiltEntry p.1 p.2 u holds s)] s) s

/-- A page decoded from the other strips of its stripe and written to a new place; the drive of its strip gains one media error (R291). -/
def decodedPage (g : IndexPage) (s : State) : State :=
  let from_ := s.arr.pageWrites
  let s := mediaError (placeDrive g.place s.arr) s
  match pageSlot s with
  | some k => emitPages k from_ (onArr (movePage g) s)
  | none => s

/-- The page of a fingerprint read where no recent entry answers (step 4): a page that fails its CRC32C is decoded and written to a new place, and the
drive gains one media error; one that cannot be decoded is lost and rebuilt (R291). -/
def readPage (q : ConfirmReq) (s : State) : State :=
  if s.arr.recent.any (fun u => s.arr.index.any (fun e => e.uid == u && e.fp == q.fp && e.kd == q.kd)) then s else
  let uid := ((findEntry q.fp q.kd s).map (·.uid)).getD 0
  match s.arr.pages.find? (fun g => g.slice == sliceOf q.fp && (g.uids.contains uid || g.page == pageOf q.fp)) with
  | none => s
  | some g =>
    match q.page with
    | .good => s
    | .decoded => decodedPage g s
    | .lost => rebuildPage g (recordFw Ev.INDEX_PAGE_LOST srcSUP g.slice (pack [(8, g.page)]) s)

/-! ### The directory (R185, R187) -/

/-- The home array of a fingerprint (R185). DEDUCED, unsafe: log 62. -/
def homeOf (fp : Digest) (s : State) : Nat := kget 0 s.arr.home (digestField fp 2 2 % 4096)

/-- The directory entry of a fingerprint. -/
def dirEntry (fp : Digest) (kd : Nat) (s : State) : Option IndexEntry :=
  s.arr.index.find? (fun (e : IndexEntry) => e.fp == fp && e.kd == kd && (match e.kind with | .dir _ => true | _ => false))

/-- A directory entry naming an array is made. DEDUCED, unsafe: log 62. -/
def makeDir (fp : Digest) (kd y : Nat) (s : State) : State :=
  let (sel, s) := strainerInsert fp s
  let (u, s) := newUid s
  transact none [.entryPut { uid := u, fp := fp, kd := kd, kind := .dir y, state := .live, strSel := sel }] s

/-- The home array consults its directory for array `y` (R187): NONE when it has none, making one that names `y`, or when a claim names
the array the entry still names; else OK with the array it names. Answers RESULT and the array. -/
def consultDir (fp : Digest) (kd y : Nat) (claim : Option Nat) (s : State) : Nat × Nat × State :=
  match dirEntry fp kd s with
  | none => (1, y, makeDir fp kd y s)
  | some e =>
    match e.kind with
    | .dir x =>
      if x = y then (1, y, s)
      else if claim = some x then (1, y, transact none [.entryPut { e with kind := .dir y }] s)
      else (0, x, s)
    | _ => (1, y, s)

/-- The domain work of a chunk replaced by a phase. -/
def setDom (q : ConfirmReq) (ph : Option DomPhase) (s : State) : State :=
  let rest := s.arr.dom.filter (fun w => !(w.req.fp == q.fp && w.req.kd == q.kd))
  onArr (fun a => { a with dom := match ph with | some p => rest ++ [{ req := q, phase := p }] | none => rest }) s

/-- A dedup message sent (R186). -/
def sendDedup (dest typ : Nat) (m : DedupMsg) (s : State) : State := egress (.dedup dest typ { m with from_ := s.arr.arrayNum }) s

/-- The entry of a CONFIRM that is being settled. -/
def newEntry (q : ConfirmReq) (s : State) : Option IndexEntry := (findEntry q.fp q.kd s).filter (fun e => e.state == .pending)

/-- The PENDING entry of a chunk is an IMPORT entry with a SERIAL, or no longer. -/
def entryKind (q : ConfirmReq) (k : EntryKind) (serial : Nat) (s : State) : State :=
  match newEntry q s with
  | some e => transact none [.entryPut { e with kind := k, serial := serial }] s
  | none => s

/-- An import started (R187): a SERIAL taken, the entry an IMPORT entry in PENDING, IMPORT sent. -/
def startImport (q : ConfirmReq) (x : Nat) (s : State) : State :=
  let n := s.arr.importSerial
  let s := onArr (fun a => { a with importSerial := (n + 1) % 2 ^ 48 }) s
  sendDedup x 4 { kd := q.kd, serial := n, fp := q.fp, loc := x, chunkLen := q.chunkLen } (setDom q (some (.importing n x 1)) (entryKind q (.importFrom x) n s))

/-- The domain steps of a chunk have ended: it is NEW and stored here. -/
def storeHere (q : ConfirmReq) (s : State) : State := replyLater q false (setDom q none (entryKind q (.chunk {}) 0 s))

/-- What a directory's answer brings (R187). -/
def onDirAnswer (q : ConfirmReq) (result x : Nat) (s : State) : State :=
  if result = 0 ∧ x ≠ s.arr.arrayNum then startImport q x s else storeHere q s

/-- The domain steps of a NEW chunk begin (R187). -/
def startDomain (q : ConfirmReq) (s : State) : State :=
  let h := homeOf q.fp s
  if h = s.arr.arrayNum then
    let (r, x, s) := consultDir q.fp q.kd h none s
    onDirAnswer q r x s
  else sendDedup h 1 { kd := q.kd, fp := q.fp } (setDom q (some (.probe 1)) s)

/-! ### Confirm (steps 1 to 6) -/

/-- A NEW chunk at its server (steps 3 and 5): a PENDING entry with one hold; under scope DOMAIN the domain steps come before the answer. -/
def confirmNew (q : ConfirmReq) (scope : Scope) (s : State) : State :=
  let s := createEntry q.fp q.kd q.chunkLen (scope = .domain) s
  if scope = .domain then startDomain q s else replyLater q false s

/-- A CONFIRM at the server of its slice (R180, R182): absent or unanswerable gives NEW; a LIVE or PENDING entry that is not sealed gains a hold,
waiting while HOLDS is 0xFFFF. DEDUCED, unsafe: log 62. -/
def serveConfirm (q : ConfirmReq) (scope : Scope) (s : State) : State :=
  if !strainerHas s.arr.strainer q.fp then confirmNew q scope s else
  let s := readPage q s
  match findEntry q.fp q.kd s with
  | none => confirmNew q scope s
  | some e => if e.holds = 0xFFFF then s else replyLater q true (transact none [.entryPut { e with holds := e.holds + 1 }] s)

/-- CONFIRM (R176): served here, or asked of the partner, whose answer acts like this head's own. DEDUCED, unsafe: log 62. -/
def opConfirm (q : ConfirmReq) (s : State) : State :=
  match nsOf q.nsid s, q.reply with
  | none, _ => s
  | some _, some hit => if hit then answerHit q s else answerNew q s
  | some ns, none =>
    let scope := scopeOf ns s
    if scope = .none then s
    else if serves (sliceOf q.fp) s then serveConfirm q scope s
    else if (askedBy q s).isSome then egress (.askSlice q) s else s

/-! ### Messages -/

/-- A dedup message taken up by the server of its slice, or passed to it (R176, R185). DEDUCED, unsafe: log 62. -/
def atServer (typ : Nat) (f : State → State) (m : DedupMsg) (s : State) : State :=
  if serves (sliceOf m.fp) s then f s else egress (.passSlice typ m) s

/-- DIR_PROBE at the home array (R187); REFUSED where this array is not the home. -/
def opDirProbe (m : DedupMsg) : State → State := atServer 1 (fun s =>
  if homeOf m.fp s ≠ s.arr.arrayNum then sendDedup m.from_ 2 { result := 3, kd := m.kd, fp := m.fp } s else
  let (r, x, s) := consultDir m.fp m.kd m.from_ (if m.claim then some (m.loc % 32) else none) s
  sendDedup m.from_ 2 { result := r, kd := m.kd, fp := m.fp, loc := if r = 0 then x else 0 } s) m

/-- The phase of a chunk's probe after BUSY (R186): its sends count anew, and DIR_PROBE_TIMEOUT tries again. DESIGN CHOICE, unsafe: log 3. -/
def busyPhase (ph : DomPhase) : DomPhase :=
  match ph with
  | .probe _ => .probe 0
  | .importing n x _ => .importing n x 0
  | .claim x _ => .claim x 0

/-- DIR_REPLY (R187): NONE makes this array the exporter, OK starts an import; BUSY is tried again. -/
def opDirReply (m : DedupMsg) (s : State) : State :=
  match domOf m.fp m.kd s with
  | none => s
  | some w =>
    match w.phase with
    | .importing .. => s
    | ph => if m.result = 4 then setDom w.req (some (busyPhase ph)) s else onDirAnswer w.req m.result (m.loc % 32) s

/-- DIR_PROBE_TIMEOUT (R187): sent again, and after three sends the chunk is stored with no directory entry. DESIGN CHOICE, unsafe: log 3. -/
def opDirProbeTimeout (fp : Digest) (kd : Nat) (s : State) : State :=
  match domOf fp kd s with
  | none => s
  | some w =>
    let again := fun (ph : DomPhase) (m : DedupMsg) => sendDedup (homeOf fp s) 1 m (setDom w.req (some ph) s)
    match w.phase with
    | .probe n => if n < 3 then again (.probe (n + 1)) { kd := kd, fp := fp } else storeHere w.req s
    | .claim x n => if n < 3 then again (.claim x (n + 1)) { kd := kd, fp := fp, claim := true, loc := x } else storeHere w.req s
    | .importing .. => s

/-- DIR_DROP (R179): the directory entry that names the sender is removed. -/
def opDirDrop (m : DedupMsg) : State → State := atServer 3 (fun s =>
  match dirEntry m.fp m.kd s with
  | some e => if e.kind = .dir m.from_ then transact none [.entryDel e] (strainerDelete e.fp e.strSel s) else s
  | none => s) m

/-- The EXT_REF entry of an importer's reference. -/
def extRef (m : DedupMsg) (s : State) : Option IndexEntry :=
  s.arr.index.find? (fun (e : IndexEntry) => e.fp == m.fp && e.kd == m.kd && e.kind == .extRef m.from_ && e.serial == m.serial)

/-- The CHUNK entry that an import may take: LIVE or PENDING, not sealed, and stored for a DOMAIN namespace (R184). -/
def exportable (m : DedupMsg) (s : State) : Option IndexEntry :=
  (findEntry m.fp m.kd s).filter (fun e => match e.kind with | .chunk _ => e.shared && !e.lost | _ => false)

/-- RESULT of an IMPORT that no entry answers: REFUSED where the chunk is held under another scope or key domain (R186), else GONE. -/
def importRefusal (m : DedupMsg) (s : State) : Nat :=
  let held := fun (e : IndexEntry) => e.fp == m.fp && e.state != .dead && !e.sealed_ && !e.lost && (match e.kind with | .chunk _ => true | _ => false)
  if s.arr.index.any (fun e => held e && (e.kd != m.kd || !e.shared)) then 3 else 2

/-- IMPORT at the exporter (R187, R188): a held SERIAL is answered OK without change; a reference and an EXT_REF entry are added; else
GONE or REFUSED. -/
def opImport (m : DedupMsg) : State → State := atServer 4 (fun s =>
  let reply := fun (r cl fl : Nat) (s : State) =>
    sendDedup m.from_ 5 { result := r, kd := m.kd, serial := m.serial, fp := m.fp, loc := s.arr.arrayNum, chunkLen := cl, frameLen := fl } s
  match extRef m s, exportable m s with
  | some _, some e => reply 0 e.chunkLen e.frameLen s
  | some _, none => reply 0 0 0 s
  | none, none => reply (importRefusal m s) 0 0 s
  | none, some e =>
    let (u, s) := newUid s
    reply 0 e.chunkLen e.frameLen (transact none [.entryPut (addRefs 1 e),
      .entryPut { uid := u, fp := m.fp, kd := m.kd, kind := .extRef m.from_, state := .live, serial := m.serial }] s)) m

/-- The IMPORT entry of a serial. -/
def importEntry (serial : Nat) (s : State) : Option IndexEntry :=
  s.arr.index.find? (fun (e : IndexEntry) => e.serial == serial && (match e.kind with | .importFrom _ => true | _ => false))

/-- An IMPORT entry removed, its tag with it. -/
def removeImport (serial : Nat) (s : State) : State :=
  match importEntry serial s with
  | some e => transact none [.entryDel e] (strainerDelete e.fp e.strSel s)
  | none => s

/-- IMPORT_REPLY (R187): OK makes the entry LIVE and the chunk a hit; GONE sends a claim; REFUSED stores the chunk here; BUSY is tried again. -/
def opImportReply (m : DedupMsg) (s : State) : State :=
  match domOf m.fp m.kd s with
  | none => s
  | some w =>
    match w.phase with
    | .importing serial x _ =>
      if serial ≠ m.serial then s
      else if m.result = 4 then setDom w.req (some (busyPhase w.phase)) s
      else if m.result = 0 then
        let s := setDom w.req none s
        match importEntry serial s with
        | some e => replyLater w.req true (transact none [.entryPut { e with state := .live, chunkLen := m.chunkLen, frameLen := m.frameLen }] s)
        | none => s
      else if m.result = 2 then
        let s := entryKind w.req (.chunk {}) 0 s
        let h := homeOf m.fp s
        if h = s.arr.arrayNum then
          let (r, y, s) := consultDir m.fp m.kd h (some x) s
          onDirAnswer w.req r y s
        else sendDedup h 1 { kd := m.kd, fp := m.fp, claim := true, loc := x } (setDom w.req (some (.claim x 1)) s)
      else storeHere w.req s
    | _ => s

/-- The domain work whose import has a serial. -/
def importWork (serial : Nat) (s : State) : Option DomWork :=
  s.arr.dom.find? (fun w => match w.phase with | .importing n _ _ => n == serial | _ => false)

/-- IMPORT_TIMEOUT (R189): sent again with the same SERIAL, up to 3 sends; then the import is abandoned, the chunk stored here and the
reference recorded for release. DESIGN CHOICE, unsafe: log 3. -/
def opImportTimeout (serial : Nat) (s : State) : State :=
  match importWork serial s with
  | none => s
  | some w =>
    match w.phase with
    | .importing n x k =>
      let q := w.req
      if k < 3 then sendDedup x 4 { kd := q.kd, serial := n, fp := q.fp, loc := x, chunkLen := q.chunkLen } (setDom q (some (.importing n x (k + 1))) s)
      else
        let s := onArr (fun a => { a with releases := a.releases ++ [{ serial := n, fp := q.fp, kd := q.kd, exporter := x }] }) s
        storeHere q (sendDedup x 6 { kd := q.kd, serial := n, fp := q.fp, loc := x } s)
    | _ => s

/-- The CHUNK entry that an importer's reference counts in. -/
def referenced (m : DedupMsg) (s : State) : Option IndexEntry :=
  s.arr.index.find? (fun (e : IndexEntry) => e.fp == m.fp && e.kd == m.kd && (match e.kind with | .chunk _ => true | _ => false) && e.refs != 0)

/-- RELEASE at the exporter (R188): the matching EXT_REF entry and its reference are removed; answered OK in any case. -/
def opRelease (m : DedupMsg) : State → State := atServer 6 (fun s =>
  let s := match extRef m s with
    | some x =>
      let cs := match referenced m s with
        | some e => [IndexChange.entryPut (deadIfFree { e with refs := e.refs - 1 })]
        | none => []
      transact none (.entryDel x :: cs) s
    | none => s
  sendDedup m.from_ 7 { result := 0, kd := m.kd, serial := m.serial, fp := m.fp, loc := s.arr.arrayNum } s) m

/-- RELEASE_REPLY (R188): the release is done, and a DEAD import entry is removed. -/
def opReleaseReply (m : DedupMsg) (s : State) : State :=
  if m.result ≠ 0 then s else
  let s := onArr (fun a => { a with releases := a.releases.filter (·.serial != m.serial) }) s
  match importEntry m.serial s with
  | some e => if e.state = .dead then removeImport m.serial s else s
  | none => s

/-- RELEASE_RESEND (R190): sent again, the wait doubled up to 1 h; IMPORT_RELEASE_DEFERRED once per exporter per day. -/
def opReleaseResend (serial : Nat) (s : State) : State :=
  match s.arr.releases.find? (·.serial == serial) with
  | none => s
  | some r =>
    let s := onArr (fun a => { a with releases := a.releases.map (fun x => if x.serial = serial then { x with wait := min 3600 (2 * x.wait) } else x) }) s
    let s := sendDedup r.exporter 6 { kd := r.kd, serial := serial, fp := r.fp, loc := r.exporter } s
    match kfind s.arr.deferredAt r.exporter with
    | some t => if opsec s < t + 86400 then s else
      recordFw Ev.IMPORT_RELEASE_DEFERRED srcSUP r.exporter [] (onArr (fun a => { a with deferredAt := kput a.deferredAt r.exporter (opsec s) }) s)
    | none => recordFw Ev.IMPORT_RELEASE_DEFERRED srcSUP r.exporter [] (onArr (fun a => { a with deferredAt := kput a.deferredAt r.exporter (opsec s) }) s)

/-! ### Frames that come whole -/

/-- A sealed frame copied unchanged into a stripe: a collected frame, or one received whole (R191, R255). Answers its place. -/
def placeSealed (group cls nsid k : Nat) (gc : Option Nat) (shelf : Option Nat) (f : List Byte) (fp : Digest) (kd : Nat) (inIndex : Bool) (s : State) :
    Option Loc × State :=
  match stripeFor group cls nsid k f.length gc shelf s with
  | (none, s) => (none, s)
  | (some n, s) =>
    match steepOf n s with
    | none => (none, s)
    | some x =>
      let s := writeBuf x.handle x.fill f s
      let s := setSteep { x with fill := x.fill + f.length,
                                 frames := x.frames ++ [{ fp := fp, kd := kd, off := x.fill, len := f.length, inIndex := inIndex }] } s
      (some { shelf := x.je.shelf, stripe := n, off := x.fill }, s)

/-- The entries of an array that hold a lost chunk found again: sealed under this part's own key and placed as a new frame (R298). -/
def restoreChunk (fp : Digest) (kd : Nat) (bytes : List Byte) (s : State) : State :=
  match saltOf kd s, sealSlot kd s with
  | some salt, some slot =>
    if fpOf salt bytes ≠ fp then s else
    match sealWith slot bytes.length (compressAt 3 bytes) s with
    | (0, f, s) => (placeSealed 0 0 0 s.arr.width none none f fp kd true (reserveNonces slot s)).2
    | (_, _, s) => s
  | _, _ => s

/-- The IMPORT entry of a chunk imported from the sender. -/
def importedFrom (m : DedupMsg) (s : State) : Option IndexEntry :=
  s.arr.index.find? (fun (e : IndexEntry) => e.fp == m.fp && e.kd == m.kd && e.kind == .importFrom m.from_)

/-- EVICT (R191): at the importer the frame is stored and the IMPORT entry becomes a CHUNK entry, and a reply is sent; the reply lets
the leaving array remove its EXT_REF entry. -/
def opEvict (m : DedupMsg) (s : State) : State :=
  match importedFrom m s with
  | some e =>
    if m.frame.isEmpty then s else
    match placeSealed 0 0 0 s.arr.width none none m.frame m.fp m.kd true s with
    | (none, s) => sendDedup m.from_ 9 { result := 4, kd := m.kd, serial := m.serial, fp := m.fp } s
    | (some loc, s) =>
      let s := transact none [.entryPut { e with kind := .chunk loc, frameLen := m.frame.length, serial := 0 }] s
      sendDedup m.from_ 9 { result := 0, kd := m.kd, serial := e.serial, fp := m.fp, loc := s.arr.arrayNum } s
  | none =>
    match extRef m s with
    | some x => if m.frame.isEmpty ∧ m.result = 0 then transact none [.entryDel x] s else s
    | none => s

end Sys2Proof.Machine
end

