-- ==== Sys2Proof/Machine/ShelfBase.lean ====
section
/-! DEFINITION. What the families share of shelves: states, holds, wake requests, EN_DRIVE, the write shelf (R262 to R266). -/

namespace Sys2Proof.Machine

open Sys2Proof

/-! ### States (R264) -/

/-- The number of a state. -/
def shelfCode (t : ShelfState) : Nat :=
  match t with
  | .off => 0 | .powering => 1 | .linking => 2 | .awake => 3 | .draining => 4 | .releasing => 5 | .fault => 6 | .absent => 7

/-- The shelf's state, from SHF_STATE_n.STATE. -/
def shelfSt (n : Nat) (s : State) : ShelfState :=
  match shelfState n s with
  | 0 => .off | 1 => .powering | 2 => .linking | 3 => .awake | 4 => .draining | 5 => .releasing | 6 => .fault | _ => .absent

/-- Outside OFF, ABSENT and FAULT. -/
def shelfUp (n : Nat) (s : State) : Bool := [1, 2, 3, 4, 5].contains (shelfState n s)

/-- The shelves outside OFF, ABSENT and FAULT. -/
def shelvesUp (s : State) : Nat := ((List.range 8).filter (fun n => shelfUp n s)).length

/-- BUDGET as it acts: 0 as 1, above 8 as 8 (Table 8.10). -/
def budgetOf (s : State) : Nat := min 8 (max 1 (rget F.SHF_BUDGET_BUDGET s))

/-- AWAKE of SHF_BUDGET follows the states. -/
def syncBudget (s : State) : State := rset F.SHF_BUDGET_AWAKE (shelvesUp s) s

/-- The state written, with the counts of Table 8.8: a wake when it enters AWAKE from LINKING, the awake seconds when it leaves AWAKE
or DRAINING, a FAULT entry. Entering DRAINING asks for both heads' reports anew. -/
def writeShelfState (n : Nat) (t : ShelfState) (s : State) : State :=
  let old := shelfSt n s
  let x := shelfOf n s
  let x := if old = .awake ∨ old = .draining then { x with awakeSec := x.awakeSec + rget F.SHF_STATE_TIME_IN_STATE s n } else x
  let x := if t = .awake ∧ old = .linking then { x with wakes := x.wakes + 1, lastWake := opsec s } else x
  let x := if t = .fault then { x with faults := x.faults + 1 } else x
  let x := if t = .draining then { x with drained := [false, false], planned := [false, false] } else x
  syncBudget (rset F.SHF_STATE_TIME_IN_STATE 0 (rset F.SHF_STATE_STATE (shelfCode t) (setShelf n x s) n) n)

/-- EN_DRIVE bit `n`; EN_SENSE follows the line (R263). DESIGN CHOICE, safe: log 82. -/
def driveShelf (n : Nat) (on : Bool) (s : State) : State :=
  let s := rputBit F.SHF_CTL_EN_DRIVE n on s
  let low := on && !rbit F.PNL_FENCE_STATUS_GATED s
  if rbit F.SHF_STATE_EN_SENSE s n == low then s else emit (.pin "SHELF_EN" low n) (rflag F.SHF_STATE_EN_SENSE low s n)

/-- PCI_PLANNED_DOWN of a shelf's uplink. -/
def setPlanned (n : Nat) (on : Bool) (s : State) : State := rputBit F.PCI_PLANNED_DOWN_PLANNED (if n = 7 then 14 else 2 * n) on s

/-- Zone Close on every open zone of a shelf that this head opened. -/
def closeZones (n : Nat) (s : State) : State :=
  forEach ((s.arr.zoneSets.filter (fun p => p.2.own && p.2.isOpen && p.2.shelf == n)).flatMap (fun p => p.2.members))
    (fun m s => egress (.drive m.1 3 (m.2 + 2 ^ 32) false []) s) s

/-- What each head does of its own on a decision (R264): Zone Close on its open zones on entering RELEASING; EN_DRIVE set in POWERING and cleared in RELEASING (once both heads have reported),
OFF, FAULT and ABSENT; PCI_PLANNED_DOWN set on entering RELEASING; the steeping stripes on a shelf that leaves AWAKE close (R246); a FAULT ends
the jobs outstanding on the shelf. -/
def onDecision (n : Nat) (t : ShelfState) (s : State) : State :=
  match t with
  | .powering => driveShelf n true s
  | .releasing => setPlanned n true (closeZones n s)
  | .draining => closeSteeps (fun x => x.je.state == .steeping && x.je.shelf == n) s
  | .off => driveShelf n false s
  | .absent => driveShelf n false (closeSteeps (fun x => x.je.state == .steeping && x.je.shelf == n) s)
  | .fault => forEach (shelfDrives n) endDriveJobs (closeSteeps (fun x => x.je.state == .steeping && x.je.shelf == n) s)
  | _ => s

/-- A decision of the master: written here, sent to the partner. -/
def decideShelf (n : Nat) (t : ShelfState) (s : State) : State :=
  onDecision n t (sendPartner (.shelfDecision n t) (writeShelfState n t s))

/-- A decision of the master applied by the partner. A FAULT from POWERING is PG_TIMEOUT_MS expired, where both heads clear EN_DRIVE. -/
def applyShelf (n : Nat) (t : ShelfState) (s : State) : State :=
  let timeout := shelfSt n s = .powering ∧ t = .fault
  let s := onDecision n t (writeShelfState n t s)
  if timeout then driveShelf n false s else s

/-! ### Holds and requests (R265) -/

/-- The rank of a hold, 1 highest (R265). -/
def rankOf (k : HoldKind) : Nat :=
  match k with
  | .rebuild => 1 | .write => 2 | .late => 3 | .hostPin => 4 | .stage => 4 | .hostWake => 4 | .retention => 5 | .rep => 5

/-- A hold in force. -/
def holdLive (s : State) (h : HoldKind × Option Nat) : Bool :=
  match h.2 with
  | some t => decide (opsec s < t)
  | none => true

/-- The holds in force on a shelf. -/
def holdsOn (n : Nat) (s : State) : List HoldKind := ((shelfOf n s).holds.filter (holdLive s)).map (·.1)

/-- The rank of a shelf: that of its highest hold, 6 with none. -/
def shelfRank (n : Nat) (s : State) : Nat := (holdsOn n s).foldl (fun r k => min r (rankOf k)) 6

/-- HOLDS of SHF_STATE_n and HOST_PINS of SHF_BUDGET follow the holds. -/
def syncHolds (n : Nat) (s : State) : State :=
  let hs := holdsOn n s
  let b := fun (k : HoldKind) (v : Nat) => if hs.contains k then v else 0
  let s := rset F.SHF_STATE_HOLDS (b .hostPin 8 + b .write 4 + b .stage 2 + b .rebuild 1) s n
  rset F.SHF_BUDGET_HOST_PINS ((List.range 8).filter (fun i => (holdsOn i s).contains .hostPin)).length s

/-- What the master keeps of a shelf, carried to the partner, which may be master next (R264, R351). -/
def mirrorShelf (n : Nat) (s : State) : State :=
  if isMaster s then addRec' none (.index false [.shelf n (shelfOf n s)]) s else s

/-- A hold placed; one of the same kind is replaced. -/
def addHold (n : Nat) (k : HoldKind) (till : Option Nat) (s : State) : State :=
  let x := shelfOf n s
  mirrorShelf n <| syncHolds n (setShelf n { x with holds := x.holds.filter (·.1 != k) ++ [(k, till)] } s)

/-- The holds of a kind removed, and its wait. -/
def endHold (n : Nat) (k : HoldKind) (s : State) : State :=
  let x := shelfOf n s
  let s := onArr (fun a => { a with requests := a.requests.filter (· != (n, k)) }) s
  mirrorShelf n <| syncHolds n (setShelf n { x with holds := x.holds.filter (·.1 != k) } s)

/-- A wake asked for (R264, R265): the hold stands; a DRAINING shelf returns to AWAKE; a shelf that sleeps waits for the master's grant.
A head that is not the master asks it. -/
def requestWake (n : Nat) (k : HoldKind) (s : State) : State :=
  let till := if k = .hostWake ∧ shelfSt n s = .awake then some (opsec s + rget F.SHF_SEQ_CFG_MIN_AWAKE_S s) else none
  let s := addHold n k till s
  if !isMaster s then sendPartner (.wakeRequest n) s else
  match shelfSt n s with
  | .draining => decideShelf n .awake s
  | .awake => s
  | .powering => s
  | .linking => s
  | _ => if s.arr.requests.contains (n, k) then s else onArr (fun a => { a with requests := a.requests ++ [(n, k)] }) s

/-- The Shelf Control wake holds run MIN_AWAKE_S from the moment the shelf reaches AWAKE (R266). -/
def startHolds (n : Nat) (s : State) : State :=
  let x := shelfOf n s
  let t := opsec s + rget F.SHF_SEQ_CFG_MIN_AWAKE_S s
  setShelf n { x with holds := x.holds.map (fun h => if h.1 = .hostWake ∧ h.2 = none then (h.1, some t) else h) } s

/-! ### The write shelf (R262) -/

/-- Write room of a shelf: its free data space above the 2 % threshold. -/
def writeRoom (n : Nat) (s : State) : Nat := shelfFreeData n s - shelfCapacity n s / 50

/-- The steeping stripes on the shelves of a former write-open set that have left it close (R246). -/
def closeLeft (old : List Nat) (s : State) : State :=
  closeSteeps (fun x => x.je.state == .steeping && old.contains x.je.shelf && !(writeOpen s).contains x.je.shelf) s

/-- The master's choice of write shelves, where it changed, told to the partner (R262). -/
def newWrite (cur next : Option Nat) (s : State) : State :=
  if s.arr.writeShelf = cur ∧ s.arr.nextShelf = next then s else sendPartner (.writeShelves s.arr.writeShelf s.arr.nextShelf) s

/-- The next shelf takes over: at once when there is no write shelf, else when the write shelf is full; the old shelf's hold ends. With a
budget of 1 the full shelf leaves the write-open set before the next one wakes. -/
def settleWrite (s : State) : State :=
  if !isMaster s then s else
  newWrite s.arr.writeShelf s.arr.nextShelf <| closeLeft (writeOpen s) <|
  match s.arr.writeShelf with
  | none =>
    match s.arr.nextShelf with
    | some n => if shelfAwake n s then onArr (fun a => { a with writeShelf := some n, nextShelf := none }) s else s
    | none => s
  | some w =>
    match s.arr.nextShelf with
    | none => s
    | some n =>
      if !shelfFull w s then s
      else if shelfAwake n s then endHold w .write (onArr (fun a => { a with writeShelf := some n, nextShelf := none }) s)
      else if budgetOf s = 1 then endHold w .write (onArr (fun a => { a with writeShelf := none }) s)
      else s

/-- The write-open set may have grown: the write shelf settles and what waited for it goes on. -/
def writeOpened (s : State) : State := startWaiting (settleWrite s)

/-- The master's choice of write shelves at the partner (R262). -/
def onWriteShelves (cur next : Option Nat) (s : State) : State :=
  if isMaster s then s else
  startWaiting (closeLeft (writeOpen s) (onArr (fun a => { a with writeShelf := cur, nextShelf := next }) s))

/-- A new master takes up the waits of the shelves' holds (R264, R265). -/
def resumeShelves (s : State) : State :=
  if !isMaster s then s else
  onArr (fun a => { a with requests := (List.range 8).flatMap (fun n =>
    if shelfSt n s = .off ∨ shelfSt n s = .releasing then ((shelfOf n s).holds.filter (holdLive s)).map (fun h => (n, h.1)) else []) }) s

/-- A partner message's wake request at the master: a Stage hold (R60). -/
def onWakeRequest (n : Nat) (s : State) : State := if isMaster s then requestWake n .stage s else s

end Sys2Proof.Machine
end

