-- ==== Sys2Proof/Machine/Members.lean ====
section
/-! DEFINITION. Members and their loss, spares, rebuild, scrub, garbage collection, and frames served to other arrays (R173, R190, R238,
R240, R254 to R256, R274 to R298, R544). -/

namespace Sys2Proof.Machine

open Sys2Proof

/-! ### Live frames and loss (R255, R297, R304) -/

/-- The index entry of a frame at its place, LIVE or PENDING. -/
def entryAt (t : StripeRec) (f : FrameDir) (s : State) : Option IndexEntry :=
  s.arr.index.find? (fun (e : IndexEntry) => e.fp == f.fp && e.kd == f.kd && e.state != .dead &&
    (match e.kind with | .chunk l => l.stripe == t.stripe && l.off == f.off | _ => false))

/-- A record, live or retained, names a frame directly. -/
def namedAt (t : StripeRec) (f : FrameDir) (s : State) : List MapRec :=
  (s.arr.maps ++ s.arr.retained.map (·.rec_)).filter (fun (r : MapRec) => r.fp == none && r.frame.stripe == t.stripe && r.frame.off == f.off)

/-- A frame that is live at its place. -/
def frameLive (t : StripeRec) (f : FrameDir) (s : State) : Bool :=
  if f.inIndex then (entryAt t f s).isSome else !(namedAt t f s).isEmpty

/-- The stripes of a zone set. -/
def stripesOf (zs : Nat) (s : State) : List StripeRec := s.arr.stripes.filter (·.zoneSet == zs)

/-- The live frame bytes of a zone set. -/
def liveBytes (zs : Nat) (s : State) : Nat :=
  (stripesOf zs s).foldl (fun n t => (t.frames.filter (fun f => frameLive t f s)).foldl (fun n f => n + f.len) n) 0

/-- The data capacity of a zone set. -/
def zsCapacity (z : ZoneSet) : Nat := z.rows * z.k * 65536

/-- A frame has a byte in one of the data strips. -/
def frameIn (f : FrameDir) (ps : List Nat) : Bool := ps.any (fun p => decide (f.off < 65536 * (p + 1)) && decide (65536 * p < f.off + f.len))

/-- The frames of a row with a byte in an unrecovered data strip are lost (R297). -/
def loseRow (zs row : Nat) (ps : List Nat) (s : State) : State :=
  forEach ((stripesOf zs s).filter (·.row == row)) (fun t s =>
    let fs := t.frames.filter (fun f => frameIn f ps)
    let direct := (fs.filter (fun f => !f.inIndex)).flatMap (fun f => namedAt t f s)
    loseChunks (zsOf zs s).shelf t.stripe ((fs.filter (·.inIndex)).filterMap (fun f => entryAt t f s)) direct s) s

/-- A stored row's data strips that cannot be recovered. -/
def unrecovered (k : Nat) (r : Row) : List Nat := (List.range k).filter (fun i => (decodeStrip k 65536 r i).isNone)

/-! ### Moving live frames (R255, R279, R296) -/

/-- A frame of a zone set already copied to a stripe that moves it. -/
def movedBy (zs : Nat) (f : FrameDir) (s : State) : Bool :=
  s.arr.steeps.any (fun x => x.gc == some zs && x.frames.any (fun g => g.fp == f.fp && g.kd == f.kd && g.len == f.len))

/-- A live frame read with its header and tag as they stand and appended to a collection stripe of its group and class, on the given shelf or where
PLACEMENT says; one that cannot be read is
lost. Answers false where no stripe took it. -/
def moveFrame (zs : Nat) (shelf : Option Nat) (t : StripeRec) (f : FrameDir) (s : State) : Bool × State :=
  if !frameLive t f s || movedBy zs f s then (true, s) else
  match frameAt { shelf := (zsOf zs s).shelf, stripe := t.stripe, off := f.off } f.len s with
  | none => (true, loseRow zs t.row (unrecovered t.k (readRow (zsOf zs s) t.row s)) s)
  | some b =>
    let g := if owns t.group s then t.group else (ownGroups s).headD 0
    match placeSealed g t.cls 0 s.arr.width (some zs) shelf b f.fp f.kd f.inIndex s with
    | (some _, s) => (true, s)
    | (none, s) => (false, s)

/-- Frames moved in turn until one finds no stripe; the collection stripes close when all are moved. DESIGN CHOICE, unsafe: log 61. -/
def moveFrames (zs : Nat) (shelf : Option Nat) (l : List (StripeRec × FrameDir)) (s : State) : State :=
  let (ok, s) := l.foldl (fun (acc : Bool × State) p => if acc.1 then moveFrame zs shelf p.1 p.2 acc.2 else acc) (true, s)
  if ok then closeSteeps (fun x => x.gc == some zs) s else s

/-- The frames of some rows of a zone set. -/
def framesOf (zs : Nat) (p : Nat → Bool) (s : State) : List (StripeRec × FrameDir) :=
  ((stripesOf zs s).filter (fun t => p t.row)).flatMap (fun t => t.frames.map (fun f => (t, f)))

/-! ### Garbage collection (R254 to R256) -/

/-- The zone sets that collection may take on a shelf: this head's, finished, on an AWAKE shelf, live below GC_LIVE_PCT of capacity. DESIGN CHOICE, unsafe: log 61. -/
def gcChoices (shelf : Nat) (s : State) : List Nat :=
  let pct := min 95 (rget F.SHF_SEQ_CFG_GC_LIVE_PCT s)
  (s.arr.zoneSets.filter (fun p => p.2.own && !p.2.isOpen && p.2.shelf == shelf &&
    decide (100 * liveBytes p.1 s < pct * zsCapacity p.2))).map (·.1)

/-- Zone set `a` has a lower live fraction than `b`. -/
def lessLive (a b : Nat) (s : State) : Bool :=
  decide (liveBytes a s * zsCapacity (zsOf b s) < liveBytes b s * zsCapacity (zsOf a s))

/-- The write shelf has less than 5 % of its zones free. -/
def writeTight (s : State) : Bool :=
  match s.arr.writeShelf with
  | some w => decide (20 * shelfFree w s < shelfZones w s)
  | none => false

/-- The zone set collection takes on a shelf: one that is evacuated first, else the one with the lowest live fraction (R254, R279). -/
def gcPick (n : Nat) (s : State) : Option Nat :=
  match s.arr.evacuating.filter (fun z => (zsOf z s).shelf == n && liveBytes z s != 0) with
  | z :: _ => some z
  | [] => (gcChoices n s).foldl (fun b z => match b with
      | none => some z
      | some y => if lessLive z y s then some z else some y) none

/-- GC (R254, R255, R279): an evacuating zone set first, else the one with the lowest live fraction, has its live frames moved. -/
def opGc (shelf : Fin 8) (s : State) : State :=
  let n := shelf.val
  if !shelfAwake n s ∨ (writeTight s ∧ s.arr.writeShelf ≠ some n) then s else
  match placeShelf s with
  | none => s
  | some _ =>
    match gcPick n s with
    | none => s
    | some z => arSettle (moveFrames z none (framesOf z (fun _ => true) s) s)

/-- The processing of R181 has ended: no chunk of a dirty write stands to take its hold anew. -/
def redoDone (s : State) : Bool := s.arr.dirty.all (fun d => !d.redo || d.committed || (!d.chunks.isEmpty && d.chunks.all (·.settled)))

/-- A DEAD entry removed: its tag deleted; under scope DOMAIN, DIR_DROP to the home array (Table 6.6). -/
def removeDead (e : IndexEntry) (s : State) : State :=
  let s := transact none [.entryDel e] (strainerDelete e.fp e.strSel s)
  if !domainKd e.kd s then s else
  let h := homeOf e.fp s
  if h = s.arr.arrayNum then
    match dirEntry e.fp e.kd s with
    | some d => if d.kind = .dir h then transact none [.entryDel d] (strainerDelete d.fp d.strSel s) else s
    | none => s
  else sendDedup h 3 { kd := e.kd, fp := e.fp } s

/-- The DEAD entries whose frames lay in a zone set. -/
def deadIn (zs : Nat) (s : State) : List IndexEntry :=
  s.arr.index.filter (fun (e : IndexEntry) => e.state == .dead &&
    (match e.kind with | .chunk l => (stripesOf zs s).any (·.stripe == l.stripe) | _ => false))

/-- ZONE_SET_RECLAIM (R256): once every frame is moved or skipped, the reader count is 0 and R181's processing has ended, the zones are
reset, the DEAD entries whose frames lay there are removed, and the zones return as free. -/
def opZoneSetReclaim (zs : Nat) (s : State) : State :=
  match kfind s.arr.zoneSets zs with
  | none => s
  | some z =>
    if !z.own || z.isOpen || liveBytes zs s != 0 || z.readers != 0 || !redoDone s || !shelfAwake z.shelf s || pouringOn zs s then s else
    let dead := deadIn zs s
    let s := forEach z.members (fun m s => if memberGone m.1 s then s else resetZone m.1 m.2 (egress (.drive m.1 3 (m.2 + 4 * 2 ^ 32) false []) s)) s
    let s := forEach dead removeDead s
    let s := transact none ((stripesOf zs s).map (fun t => .stripeDel t.stripe) ++ [.zsDel zs]) s
    let s := takeZones z.members false s
    onArr (fun a => { a with evacuating := a.evacuating.filter (· != zs), rebuildList := a.rebuildList.filter (· != zs) }) s

/-! ### Serving a frame to another array (R190) -/

/-- The CRD of a sleeping shelf's read (R59): it is left to READ. -/
def sleepCrd : Nat := 3

/-- The CHUNK entry, LIVE or PENDING, of the chunk asked for. -/
def heldChunk (m : DedupMsg) (s : State) : Option IndexEntry :=
  s.arr.index.find? (fun (e : IndexEntry) => e.fp == m.fp && e.kd == m.kd && e.state != .dead && (match e.kind with | .chunk _ => true | _ => false))

/-- FETCH at the exporter (R190, R297): the frame placed in the importer's window; NOT_READY with CRD where its shelf sleeps, asking for a
wake; GONE where the chunk is lost or is not held. DEDUCED, unsafe: log 62. -/
def fetchExport (m : DedupMsg) (s : State) : State :=
  let reply := fun (r crd : Nat) (f : List Byte) (s : State) =>
    sendDedup m.from_ 8 { result := r, kd := m.kd, crd := crd, serial := m.serial, fp := m.fp, loc := s.arr.arrayNum,
                          frameLen := f.length, frame := f } s
  match heldChunk m s with
  | none => reply 2 0 [] s
  | some e =>
    match e.kind with
    | .chunk l =>
      if e.lost then reply 2 0 [] s
      else if e.state = .pending then reply 4 0 [] s
      else if (steepOf l.stripe s).isNone && !shelfAwake l.shelf s && shelfSt l.shelf s != .draining then
        reply 5 sleepCrd [] (requestWake l.shelf .stage s)
      else match frameAt l e.frameLen s with
        | some f => reply 0 0 f s
        | none => reply 2 0 [] (loseChunk e s)
    | _ => reply 2 0 [] s

/-! ### Decisions (R276 to R280, R286, R290, R292) -/

/-- A member out of service. -/
def outOfService (d : Nat) (s : State) : Bool :=
  match (memberOf d s).st with | .failing => true | .failed => true | .absent => true | _ => false

/-- Members of a zone set out of service. -/
def outMembers (z : ZoneSet) (s : State) : List Nat := (z.members.map (·.1)).filter (fun d => outOfService d s)

/-- This head's rebuild list of a shelf (R280): critical zone sets first, each class in ascending number. -/
def listFor (shelf : Nat) (s : State) : List Nat :=
  let l := (s.arr.zoneSets.filter (fun p => (p.2.own || solo s) && p.2.shelf == shelf && !(outMembers p.2 s).isEmpty && liveBytes p.1 s != 0))
  (l.filter (fun p => 2 ≤ (outMembers p.2 s).length)).map (·.1) ++ (l.filter (fun p => (outMembers p.2 s).length < 2)).map (·.1)

/-- The rebuild checkpoint written, an index transaction (R288). -/
def writeCkpt (s : State) : State :=
  transact none [.rebCkpt true { list := s.arr.rebuildList, pos := s.arr.rebPos, bytes := s.arr.rebuiltBytes }] s

/-- The rebuild list written: zone sets all of whose missing members have a target are rebuilt, the others evacuated (R279, R280). -/
def writeList (s : State) : State :=
  let all := (List.range 8).flatMap (fun n => listFor n s)
  let has := fun (d : Nat) => s.arr.rebuilds.any (fun r => r.drive == d && r.target.isSome)
  let ready := all.filter (fun z => (outMembers (zsOf z s) s).all has)
  writeCkpt (onArr (fun a => { a with rebuildList := ready, evacuating := all.filter (fun z => !ready.contains z),
                                      rebPos := a.rebPos.filter (fun p => ready.contains p.1) }) s)

/-- The lowest bay in state SPARE of a drive's shelf taken as its target (R278), or REBUILD_NO_SPARE (R279). -/
def takeSpare (d : Nat) (s : State) : State :=
  let n := d / 52
  match (shelfDrives n).find? (fun x => (memberOf x s).st == .spare) with
  | some t =>
    let s := transact none [.member t .target] s
    let s := recordFw Ev.SPARE_TAKEN srcSUP (memberInst t) [] s
    requestWake n .rebuild (transact none [.rebuild d (some t)] s)
  | none =>
    recordFw Ev.REBUILD_NO_SPARE srcSUP (memberInst d) [] (transact none [.rebuild d none] s)

/-- INDEX_TIER_DEGRADED (R292): fewer than 6 drives in service. -/
def checkIndexTier (s : State) : State :=
  let n := (tierDrives s.arr).length
  if n < 6 then
    if s.arr.indexDegraded then s
    else recordFw Ev.INDEX_TIER_DEGRADED srcSUP n [] (onArr (fun a => { a with indexDegraded := true }) s)
  else onArr (fun a => { a with indexDegraded := false }) s

/-- The drives of the index tier in service have changed (R290, R292): the stripes that lost a strip are rewritten. -/
def tierChanged (s : State) : State := rewriteTier (checkIndexTier s)

/-- A stripe still pouring to a zone set that was finished is discarded and poured again (R248). -/
def repour (n : Nat) (s : State) : State :=
  match discardPour n s with
  | (some m, s) => pourStripe m s
  | (none, s) => s

/-- What both heads do from the epoch of a decision (R277): the open zone sets this head owns that name the member are finished, and the stripes that
pour to them are poured again. DESIGN CHOICE, unsafe: log 64. -/
def memberLeft (d : Nat) (s : State) : State :=
  let l := (s.arr.zoneSets.filter (fun p => p.2.own && p.2.isOpen && p.2.members.any (·.1 == d))).map (·.1)
  let s := forEach l finishZs s
  forEach ((s.arr.steeps.filter (fun x => x.je.state == .pouring && l.contains x.je.zoneSet)).map (·.je.stripe)) repour s

/-- The state a report brings a member to (Table 9.2); `none` where it is absorbed or the table has no row. -/
def nextMember (old new : MemberState) : Option MemberState :=
  match old, new with
  | .inService, .failing => some .failing
  | .inService, .failed => some .failed
  | .inService, .absent => some .absent
  | .failing, .failed => some .failed
  | .failing, .absent => some .absent
  | .failed, .absent => some .absent
  | .target, .failing => some .failed
  | .target, .failed => some .failed
  | .target, .absent => some .failed
  | _, _ => none

/-- The master's decision (R276): one transaction, the decision sent to the partner, MEMBER_FAILING or MEMBER_FAILED recorded, and what the
new state starts: spare and rebuild for a member, INDEX_TIER_DEGRADED for an index-tier drive. -/
def decideMember (d : Nat) (new : MemberState) (s : State) : State :=
  let old := (memberOf d s).st
  match nextMember old new with
  | none => s
  | some t =>
    let both := new = .absent ∧ old ≠ .failed
    let s := transact none ((if both then [IndexChange.member d .failed] else []) ++ [.member d t]) s
    let s := sendPartner (.memberDecision d t) s
    let s := if t = .failing then recordFw Ev.MEMBER_FAILING srcSUP (memberInst d) [] s
      else if old ≠ .failed then recordFw Ev.MEMBER_FAILED srcSUP (memberInst d) [] s else s
    let s := memberLeft d s
    if 512 ≤ d then tierChanged s
    else if old = .inService then writeList (takeSpare d s)
    else if old = .target then
      match s.arr.rebuilds.find? (fun r => r.target == some d) with
      | some r => writeList (takeSpare r.drive s)
      | none => s
    else writeList s

/-- A master's decision applied by the partner. -/
def applyMember (d : Nat) (t : MemberState) (s : State) : State :=
  writeList (memberLeft d (onArr (fun a => applyChange (.member d t) a) s))

/-- This head's own reports taken up by it as master. -/
def memberSettle (s : State) : State :=
  let l := s.arr.reports
  forEach l (fun p s => decideMember p.1 p.2 s) (onArr (fun a => { a with reports := [] }) s)

/-- The state a report names. -/
def reportedState (r : MemberReport) : MemberState := match r with | .failing => .failing | .failed => .failed | .removedByBoth => .absent

/-- MEMBER_REPORT (R276): the master decides a member's new state. -/
def opMemberReport (drive : DriveNo) (r : MemberReport) (s : State) : State :=
  let t := reportedState r
  if isMaster s then decideMember drive.val t s else sendPartner (.memberReport drive.val t) s

/-! ### Criteria (R274, R544) -/

/-- A member the criteria apply to: one in service, a target, or FAILING. DESIGN CHOICE, safe: log 27. -/
def watched (d : Nat) (s : State) : Bool :=
  match (memberOf d s).st with | .inService => true | .target => true | .failing => true | _ => false

/-- SMART_POLL (R274): critical warning bit 0, 2 or 3 is a FAILING criterion. -/
def opSmartPoll (drive : DriveNo) (warning : BitVec 8) (s : State) : State :=
  if warning.toNat &&& 0x0D ≠ 0 ∧ watched drive.val s then memberSettle (reportMember drive.val .failing s) else s

/-- NOT_READY_TIMEOUT (R274): Controller Fatal Status, or not ready for 30 s while the shelf is AWAKE. -/
def opNotReadyTimeout (drive : DriveNo) (s : State) : State :=
  let d := drive.val
  if (512 ≤ d ∨ shelfAwake (d / 52) s) ∧ watched d s then memberSettle (reportMember d .failed s) else s

/-- UNREACHABLE_TIMEOUT (R274): unreachable for 10 s through this head's port while its uplink is up. -/
def opUnreachableTimeout (drive : DriveNo) (s : State) : State :=
  let d := drive.val
  if rbit F.PCI_PORT_STATUS_LINK_UP s (portOf d) && watched d s then memberSettle (reportMember d .failed s) else s

/-- The partner has seen a drive removed (R544): once the master has seen it too the member is FAILED and ABSENT. -/
def onRemovalSeen (d : Nat) (s : State) : State :=
  let m := memberOf d s
  let s := setMember d { m with seenThere := true } s
  if !isMaster s then s else if m.removed then decideMember d .absent (setMember d { m with seenThere := true, removedBoth := true } s) else s

/-- DRIVE_REMOVED (R544): this head sees the drive removed: its jobs end, and the removal is reported; once the other head has seen it too, as
`both` says or it has reported, the member is FAILED and ABSENT. -/
def opDriveRemoved (drive : DriveNo) (both : Bool) (s : State) : State :=
  let d := drive.val
  let m := memberOf d s
  let both := both || m.seenThere
  let s := endDriveJobs d (setMember d { m with removed := true, removedBoth := m.removedBoth || both } s)
  let s := arSettle s
  if both then memberSettle (reportMember d .absent s) else if isMaster s then s else sendPartner (.removalSeen d) s

/-- One past the highest row of a zone that the stripe table or the pour journal shows LANDED or COMMITTED. -/
def landedRows (d zone : Nat) (s : State) : Nat :=
  s.arr.zoneSets.foldl (fun n p =>
    if !p.2.members.contains (d, zone) then n else
    let a := (stripesOf p.1 s).foldl (fun n t => max n (t.row + 1)) n
    s.arr.steeps.foldl (fun n x => if x.je.zoneSet == p.1 && x.je.state == .landed then max n (x.je.row + 1) else n) a) 0

/-- ZONE_REPORT (R242, R274): a job's report; a write pointer below a LANDED or COMMITTED row is a FAILED criterion. PRESUMED, unsafe: log 46. -/
def zoneReportSeen (drive : DriveNo) (r : DriveResp) (s : State) : State :=
  let d := drive.val
  let first := match engQueue 9 d s with
    | c :: _ => c.descs.head?.bind (fun x => if x.op = 4 then some (x.param % 2 ^ 32) else none)
    | [] => none
  let reach := driveReach d s
  let s := arSettle (opZoneReport drive r s)
  match first with
  | none => s
  | some z =>
    if r.code ≠ 0 ∨ !reach ∨ !watched d s then s else
    let below := (List.range (ofLe (r.data.take 8))).any (fun i =>
      match reportPointer r.data i with
      | some p => decide (p < 16 * landedRows d (z + i) s)
      | none => false)
    if below then memberSettle (reportMember d .failed s) else s

/-! ### Drives that come (R173, R238, R240, Table 9.2) -/

/-- The checks of R238 against the drives of the shelf. -/
def meetsSpec (d : Nat) (i : DriveInfo) (s : State) : Bool :=
  i.dualPort && i.zns && i.lbaBytes == 4096 && i.metadata == 0 && decide (65536 ≤ i.appendLimit) && decide (16 ≤ i.maxOpen) &&
  decide (16 ≤ i.maxActive) && decide (2 ^ 30 ≤ i.zoneCap) && decide (i.capacity ≤ 256 * 10 ^ 12) && decide (2000 ≤ i.appendMBs) &&
  (shelfDrives (d / 52)).all (fun x => x == d || (memberOf x s).st == .absent ||
    ((memberOf x s).info.zoneCap == i.zoneCap && (memberOf x s).info.zoneSize == i.zoneSize))

/-- N of R173: the frames that data bytes of members hold, and the DIR entries (R185). -/
def strainerN (bytes : Nat) (s : State) : Nat :=
  bytes * 9 / 10 / 32768 + (s.arr.index.filter (fun e => match e.kind with | .dir _ => true | _ => false)).length

/-- B of R173: ceil(1.5 N / 64), at least 1. -/
def strainerB (bytes : Nat) (s : State) : Nat := max 1 ((3 * strainerN bytes s + 127) / 128)

/-- The data bytes of the members in service at the default class's width. -/
def dataInService (s : State) : Nat := (List.range 8).foldl (fun n sh => n + shelfCapacity sh s) 0

/-- The DRAM a strainer of B buckets takes: 64 bytes a bucket and the stash. -/
def strainerBytes (b : Nat) : Nat := 64 * b + 16 * stashSize

/-- The strainer sized anew when a shelf joins, its table built from the index (R173); a resize that does not fit beside the old table waits for the next
power-on. DEDUCED, unsafe: log 62. -/
def resizeStrainer (s : State) : State :=
  let b := strainerB (dataInService s) s
  if b = s.arr.strainer.b ∨ dramBytes s < strainerBytes b + strainerBytes s.arr.strainer.b + 2 ^ 39 then s else buildStrainer b s

/-- DRIVE_INSERTED (R238, Table 9.2): into an ABSENT bay: refused where it does not meet the specification; else every zone is reset, and
the master records it SPARE with its split. An index-tier drive enters service at once: the tier has no spares. DESIGN CHOICE, unsafe: log 64. -/
def opDriveInserted (drive : DriveNo) (i : DriveInfo) (s : State) : State :=
  let d := drive.val
  let m := memberOf d s
  if m.st ≠ .absent then setMember d { m with removed := false, removedBoth := false, seenThere := false } s
  else if 512 ≤ d then
    let s := setMember d { info := i } s
    if isMaster s then tierChanged (transact none [.member d .inService] s) else s
  else if !meetsSpec d i s then recordFw Ev.MEMBER_REFUSED_SPEC srcSUP (memberInst d) [] s
  else
    let s := setMember d { info := i, split := i.zones / 2 } s
    let s := onArr (fun a => { a with zones := a.zones.filter (fun p => p.1 / 2 ^ 26 != d),
                                      strips := a.strips.filter (fun p => p.1 / 2 ^ 58 != d) }) s
    if !isMaster s then s else
    let s := forEach (List.range i.zones) (fun z s => egress (.drive d 3 (z + 4 * 2 ^ 32) false []) s) s
    let s := transact none [.member d .spare, .split d (i.zones / 2)] s
    match s.arr.rebuilds.find? (fun r => r.target.isNone && r.drive / 52 == d / 52) with
    | some r => writeList (takeSpare r.drive s)
    | none => s

/-- A shelf joins (R173, R238): the drives of bays 0 to 47 found SPARE at its first AWAKE become members, each refused where the strainer
plus 512 GiB would exceed the installed DRAM. DESIGN CHOICE, unsafe: log 63. -/
def joinShelf (n : Nat) (s : State) : State :=
  if (shelfOf n s).wakes ≠ 1 ∨ !(inService n s).isEmpty then s else
  let s := forEach ((shelfDrives n).take 48) (fun d s =>
    let m := memberOf d s
    if m.st ≠ .spare then s
    else if dramBytes s < strainerBytes (strainerB (dataInService s + m.info.zones * zoneData d s) s) + 2 ^ 39 then
      recordFw Ev.MEMBER_REFUSED_DRAM srcSUP (memberInst d) [] s
    else transact none [.member d .inService] s) s
  resizeStrainer s

/-- A split moves (R240): where one half of a member has less than 5 % of its zones free and the other more than 15 %. The new split is
the implementation's choice. DESIGN CHOICE, safe: log 17. -/
def moveSplit (d : Nat) (s : State) : State :=
  let m := memberOf d s
  let z := m.info.zones
  let free := fun (lo hi : Nat) => countBelow (hi - lo) (fun i => !(kget false s.arr.zones (d * 2 ^ 26 + lo + i)))
  let a := free 0 m.split
  let b := free m.split z
  if (20 * a < z ∧ 3 * z < 20 * b) ∨ (20 * b < z ∧ 3 * z < 20 * a) then
    recordFw Ev.ZONE_SPLIT_MOVED srcSUP (memberInst d) []
      (transact none [.split d (Config.splitAt s.freeCtr d % (z + 1))] (tickFree s))
  else s

/-- The admin owner moves the splits of a shelf where the partner's half is too short for a zone set of the default width (R240). -/
def partnerShort (s : State) : State :=
  if !isMaster s || solo s then s else
  forEach (List.range 8) (fun n s =>
    let l := inService n s
    if !shelfAwake n s || decide (s.arr.width + 2 ≤ (l.filter (fun d => halfFree (1 - headSlot s) d s)).length) then s
    else forEach l moveSplit s) s

/-- POUR (R240, R247): a stripe that finds no zone in this head's half waits; the admin owner moves the splits. -/
def pourOrSplit (n : Nat) (s : State) : State :=
  let s := opPour n s
  match steepOf n s with
  | some x => if x.je.state = .steeping ∧ x.closed ∧ isMaster s then forEach (inService x.je.shelf s) moveSplit s else s
  | none => s

/-! ### Weak rows (R285, R296) -/

/-- The live frames of the weak rows of this head's zone sets that satisfy `p` moved (R285, R296): to the same shelf, or to a write-open one where it has fewer than 2 % of its zones free. -/
def rewriteWeak (n : Nat) (p : Nat → Bool) (s : State) : State :=
  let low := 50 * shelfFree n s < shelfZones n s
  if low ∧ (placeShelf s).isNone then s else
  let w := if low then none else some n
  forEach ((s.arr.zoneSets.filter (fun x => p x.1 && x.2.own && x.2.shelf == n && !x.2.weak.isEmpty)).map (·.1)) (fun zs s =>
    let weak := (zsOf zs s).weak
    let s := moveFrames zs w (framesOf zs (fun r => weak.contains r) s) s
    let left := weak.filter (fun r => (framesOf zs (· == r) s).any (fun p => frameLive p.1 p.2 s && !movedBy zs p.2 s))
    let s := setZs zs { zsOf zs s with weak := left } s
    onArr (fun a => { a with rowsRewritten := a.rowsRewritten + (weak.length - left.length) }) s) s

/-! ### Rebuild (R281, R282, R286 to R289) -/

/-- The strips of members in service that a rebuild finds unreadable, by row and position (R285). -/
def unreadStrips (zs : Nat) (z : ZoneSet) (rows : List Nat) (s : State) : List (Nat × Nat) :=
  rows.flatMap (fun r => ((List.range (z.k + 2)).filter (fun p =>
    !outOfService (stripPlace z r p).1 s && Config.stripUnread s.freeCtr zs r p)).map (fun p => (r, p)))

/-- The targets of a zone set being rebuilt. -/
def targetsOf (zs : Nat) (s : State) : List RebTarget := kget [] s.arr.rebPos zs

/-- The targets of a zone set replaced. -/
def setTargets (zs : Nat) (l : List RebTarget) (s : State) : State := onArr (fun a => { a with rebPos := kput a.rebPos zs l }) s

/-- The strip position of a member in a row (R233). -/
def stripPos (z : ZoneSet) (d r : Nat) : Nat := ((z.members.findIdx? (·.1 == d)).getD 0 + (z.k + 2) - r % (z.k + 2)) % (z.k + 2)

/-- The strip of a target at a row. -/
def targetStrip (t : RebTarget) (r : Nat) (s : State) : List Byte := zoneBytes t.drive t.zone (16 * r) 65536 s

/-- A row as a rebuild reads it: an unreadable strip is one more erasure (R285), and a strip that a target already holds is read from it as a
survivor (R286). -/
def rebuildRow (zs : Nat) (bad : List (Nat × Nat)) (r : Nat) (s : State) : Row :=
  let z := zsOf zs s
  let row := (readRow z r s).zipIdx.map (fun x => if bad.contains (r, x.2) then none else x.1)
  (targetsOf zs s).foldl (fun row t =>
    if r < t.next && !t.holes.contains r && !t.check then row.set (stripPos z t.member r) (some (targetStrip t r s)) else row) row

/-- The unreadable strips noted (R285): one media error on the member of each, and the row among the weak rows of its zone set. -/
def noteUnread (zs : Nat) (bad : List (Nat × Nat)) (s : State) : State :=
  forEach bad (fun b s =>
    let z := zsOf zs s
    let s := setZs zs { z with weak := if z.weak.contains b.1 then z.weak else z.weak ++ [b.1] } s
    mediaError (stripPlace z b.1 b.2).1 s) s

/-- The data strips of a row that cannot be recovered are lost (R287). -/
def loseUnrecovered (zs : Nat) (bad : List (Nat × Nat)) (r : Nat) (s : State) : State :=
  match unrecovered (zsOf zs s).k (rebuildRow zs bad r s) with
  | [] => s
  | l => loseRow zs r l s

/-- The next row of a target: its strip decoded and appended at offset 16 × the row; a row that no decode gives is left as it stands, and once every
target has passed it what it cannot recover is lost (R281, R287). DESIGN CHOICE, unsafe: log 64. -/
def rebuildOne (zs : Nat) (bad : List (Nat × Nat)) (t : RebTarget) (s : State) : State :=
  let z := zsOf zs s
  let l := targetsOf zs s
  let r := t.next
  let pos := stripPos z t.member r
  let pass := fun (holes : List Nat) => setTargets zs (l.map (fun u => if u.member == t.member then { t with next := r + 1, holes := holes } else u))
  match decodeStrip z.k 65536 ((rebuildRow zs bad r s).set pos none) pos with
  | some b =>
    let s := egress (.drive t.drive 1 (t.zone + 16 * r * 2 ^ 32) (appendFua t.drive s) b) (keepStrip t.drive t.zone (16 * r) b s)
    let s := pass t.holes (onArr (fun a => { a with rebuiltBytes := a.rebuiltBytes + 65536 }) s)
    if l.all (fun u => u.member == t.member || decide (r < u.next)) then loseUnrecovered zs bad r s else s
  | none =>
    let s := pass (t.holes ++ [r]) s
    if l.all (fun u => u.member == t.member || decide (r < u.next)) then loseUnrecovered zs bad r s else s

/-- The target whose next row is lowest, below a bound. -/
def nextTarget (hi : Nat) (l : List RebTarget) : Option RebTarget :=
  l.foldl (fun b t => if hi ≤ t.next then b else
    match b with
    | none => some t
    | some u => if t.next < u.next then some t else b) none

/-- Rows rebuilt in turn, the lowest first, up to a bound; the fuel counts strips. -/
def rebuildRows (zs : Nat) (bad : List (Nat × Nat)) (hi : Nat) : Nat → State → State
  | 0, s => s
  | n + 1, s =>
    match nextTarget hi (targetsOf zs s) with
    | none => s
    | some t => rebuildRows zs bad hi n (rebuildOne zs bad t s)

/-- One past the highest row of a zone set in the stripe table. -/
def rowsOf (zs : Nat) (s : State) : Nat := (stripesOf zs s).foldl (fun n x => max n (x.row + 1)) 0

/-- The lowest next row of the targets of a zone set, at most a bound. -/
def firstRow (zs hi : Nat) (s : State) : Nat := (targetsOf zs s).foldl (fun n t => min n t.next) hi

/-- A zone set's rows up to a bound rebuilt on its targets (R281), the unreadable strips found noted (R285). -/
def rebuildUpTo (zs hi : Nat) (s : State) : State :=
  let rows := (((stripesOf zs s).map (·.row)).eraseDups).filter (fun r => decide (firstRow zs hi s ≤ r) && decide (r < hi))
  let bad := unreadStrips zs (zsOf zs s) rows s
  rebuildRows zs bad hi ((targetsOf zs s).length * hi) (noteUnread zs bad (tickFree s))

/-- The pin of a shelf goes when no rebuild is left on it. -/
def unpin (n : Nat) (s : State) : State :=
  if s.arr.rebuilds.any (fun r => r.drive / 52 == n && r.target.isSome) then s else endHold n .rebuild s

/-- Rebuilds whose member no zone set with live bytes names any more end (R282): the target enters service, REBUILD_DONE is recorded, a
FAILING member becomes FAILED, and the master removes the pin. -/
def rebuildDone (s : State) : State :=
  forEach s.arr.rebuilds (fun r s =>
    match r.target with
    | none => s
    | some t =>
      if s.arr.zoneSets.any (fun p => p.2.members.any (·.1 == r.drive) && liveBytes p.1 s != 0) || !isMaster s then s else
      let s := transact none ([.rebuildEnd r.drive, .member t .inService] ++ (if (memberOf r.drive s).st = .failing then [IndexChange.member r.drive .failed] else [])) s
      unpin (r.drive / 52) (recordFw Ev.REBUILD_DONE srcSUP (memberInst r.drive) [] s)) s

/-- The target that stands for a missing member, and the free zone of it that is taken. -/
def targetZone (d : Nat) (s : State) : Option (Nat × Nat) :=
  (s.arr.rebuilds.find? (fun r => r.drive == d)).bind (fun r => r.target.bind (fun t => (freeZone t s).map (fun zn => (t, zn))))

/-- The strips of a zone set read into set S C2 buffers, one for each member, at most REBUILD_BUFS (R282, R294, R545). -/
def withStrips (z : ZoneSet) (f : State → State) (s : State) : State := withBufs (min (settings s).rebuildBufs (z.k + 2)) 2 f s

/-- The target of a missing member of a zone set: the one its rebuild stands at, or a zone of the target taken anew. -/
def planTarget (zs : Nat) (s : State) (d : Nat) : Option RebTarget :=
  match (targetsOf zs s).find? (fun t => t.member == d && s.arr.rebuilds.any (fun r => r.drive == d && r.target == some t.drive)) with
  | some t => some t
  | none => (targetZone d s).map (fun q => { member := d, drive := q.1, zone := q.2 })

/-- Each missing member of a zone set has its own target zone (R286); new ones are taken. Answers false where one finds no zone. -/
def startTargets (zs : Nat) (s : State) : Bool × State :=
  let plan := (outMembers (zsOf zs s) s).map (planTarget zs s)
  if plan.any (·.isNone) then (false, s) else
  let l := plan.filterMap id
  let fresh := l.filter (fun t => !(targetsOf zs s).contains t)
  (true, setTargets zs l (takeZones (fresh.map (fun t => (t.drive, t.zone))) true s))

/-- A row with the strip of a target passes PQ_CHECK, every strip read (R289). -/
def rowPasses (zs : Nat) (t : RebTarget) (r : Nat) (s : State) : Bool :=
  let z := zsOf zs s
  let row := (rebuildRow zs [] r s).set (stripPos z t.member r) (some (targetStrip t r s))
  let ds := rowData z.k row
  decide (ds.length = z.k) && rowStrip row z.k == some (pOf 65536 ds) && rowStrip row (z.k + 1) == some (qOf 65536 ds)

/-- A target of a rebuild that resumes (R289): its rows from the checkpoint up to the write pointer are verified; where one fails, or the pointer lies
below the checkpoint, the zone is reset and the zone set starts over from row 0. -/
def verifyTarget (zs : Nat) (t : RebTarget) (s : State) : State :=
  if !t.check then s else
  let wp := kget 0 s.arr.pointers (t.drive * 2 ^ 26 + t.zone) / 16
  let good := decide (t.next ≤ wp) && (List.range (wp - t.next)).all (fun i => rowPasses zs t (t.next + i) s)
  let put := fun (u : RebTarget) (s : State) => setTargets zs ((targetsOf zs s).map (fun x => if x.member == t.member then u else x)) s
  if good then put { t with next := wp, check := false } s
  else put { t with next := 0, holes := [], check := false } (resetZone t.drive t.zone (egress (.drive t.drive 3 (t.zone + 4 * 2 ^ 32) false []) s))

/-- A target's write pointer is still to be read. -/
def waitsPointer (zs : Nat) (s : State) : Bool := (targetsOf zs s).any (fun t => t.check && s.arr.unread.contains (t.drive, t.zone))

/-- The work on a listed zone set of an AWAKE or DRAINING shelf, with its targets taken and verified and the buffers it needs held: rebuilt up to a row,
then `k`. -/
def rebuildWork (zs : Nat) (hi : State → Nat) (k : State → State) (s : State) : State :=
  let z := zsOf zs s
  if !s.arr.rebuildList.contains zs || !(shelfAwake z.shelf s || shelfSt z.shelf s == .draining) then s else
  match startTargets zs s with
  | (false, s) => s
  | (true, s) =>
    if waitsPointer zs s then s else
    withStrips z (fun s => let s := forEach (targetsOf zs s) (verifyTarget zs) s; k (rebuildUpTo zs (hi s) s)) s

/-- A zone set whose last row is rebuilt (R281 step 3, R286): the target zones are finished and their words replace the members' in one transaction; the
switch writes a checkpoint, and the weak rows' live frames are moved (R285). -/
def switchZs (zs : Nat) (s : State) : State :=
  let z := zsOf zs s
  let l := targetsOf zs s
  let s := forEach l (fun t s => egress (.drive t.drive 3 (t.zone + 2 * 2 ^ 32) false []) s) s
  let members := z.members.map (fun m => ((l.find? (fun t => t.member == m.1)).map (fun t => (t.drive, t.zone))).getD m)
  let s := transact none [.zsPut zs z.shelf z.k z.rows z.own z.isOpen members] s
  let s := onArr (fun a => { a with rebuildList := a.rebuildList.filter (· != zs), rebPos := kdel a.rebPos zs }) s
  rewriteWeak z.shelf (· == zs) (rebuildDone (writeCkpt s))

/-- ZONE_SET_SWITCH (R281, R286, R287): the rows of a listed zone set that are not yet rebuilt are rebuilt, and it switches. DESIGN CHOICE, unsafe: log 64. -/
def opZoneSetSwitch (zs : Nat) (s : State) : State := rebuildWork zs (rowsOf zs) (switchZs zs) s

/-- The row that the rebuild of a zone set has reached at its next checkpoint: at most 1 GiB of strips further, the rest a free value. DESIGN CHOICE, safe: log 92. -/
def reachedRow (zs : Nat) (s : State) : Nat :=
  let n := 16384 / max 1 (targetsOf zs s).length
  min (rowsOf zs s) (firstRow zs (rowsOf zs s) s + Config.rebuiltRows s.freeCtr % (n + 1))

/-- REBUILD_CHECKPOINT (R288): the first zone set of the list is rebuilt up to where 1 GiB or 10 s brought it, and the checkpoint written. -/
def opRebuildCheckpoint (s : State) : State :=
  match s.arr.rebuildList with
  | [] => s
  | zs :: _ => writeCkpt (rebuildWork zs (reachedRow zs) tickFree s)

/-- A rebuild resumes from its checkpoint after a reset, a takeover, a rejoin or a shelf wake (R289): its targets are verified once their zones' write
pointers are read. -/
def resumeRebuild (s : State) : State :=
  let c := s.arr.rebCkpt.pos ++ (if solo s then s.arr.rebCkptB.pos.filter (fun p => !s.arr.rebCkpt.pos.any (·.1 == p.1)) else [])
  let s := writeList (onArr (fun a => { a with rebPos := c.foldl (fun m p => kput m p.1 (p.2.map (fun t => { t with check := true }))) [] }) s)
  if s.arr.rebuildList.isEmpty then s else
  let zones := s.arr.rebPos.flatMap (fun p => p.2.map (fun t => (t.drive, t.zone)))
  let s := onArr (fun a => { a with unread := (a.unread ++ zones).eraseDups }) s
  let s := forEach (zones.filter (fun q => shelfAwake (q.1 / 52) s)) (fun q s => postReport q.1 q.2 s) s
  recordFw Ev.REBUILD_RESUMED srcSUP 0 [] s

/-! ### Scrub (R294 to R296, R267) -/

/-- DAYS as it acts (Table 8.11). -/
def scrubDays (s : State) : Nat := min 365 (max 7 (rget F.SHF_SCRUB_INTERVAL_DAYS s))

/-- Two shelves whose due times fall within STAGGER_H hours: the earlier and the later. -/
def tooClose (s : State) : Option (Nat × Nat) :=
  let g := rget F.SHF_SCRUB_INTERVAL_STAGGER_H s * 3600
  let due := fun (n : Nat) => (shelfOf n s).due
  ((List.range 8).flatMap (fun m => (List.range 8).map (fun n => (m, n)))).find? (fun p => due p.1 != 0 && due p.2 != 0 &&
    (decide (due p.1 < due p.2) || (due p.1 == due p.2 && decide (p.1 < p.2))) && decide (due p.2 < due p.1 + g))

/-- Due times staggered (R267): the later of two within STAGGER_H moves later until none are. -/
def stagger : Nat → State → State
  | 0, s => s
  | k + 1, s =>
    match tooClose s with
    | none => s
    | some (m, n) => stagger k (mirrorShelf n (setShelf n { shelfOf n s with due := (shelfOf m s).due + rget F.SHF_SCRUB_INTERVAL_STAGGER_H s * 3600 } s))

/-- CLK_ALARM set for the earliest due time (R267). -/
def setAlarm (s : State) : State :=
  match ((List.range 8).map (fun n => (shelfOf n s).due)).filter (· != 0) with
  | [] => s
  | d :: l => rset F.CLK_ALARM_ALARM (l.foldl min d) s

/-- A retention wake ends once both heads' scrubs are complete (R267, R294): the due time is now plus the RETENTION hook's result, or DAYS
where no hook applies or its result is out of range. -/
def endRetention (n : Nat) (hook : Option Nat) (s : State) : State :=
  let x := shelfOf n s
  let me := headSlot s
  if !((x.scrubbed.getD me false) && (solo s || x.scrubbed.getD (1 - me) false)) then s else
  let called := hookOn 2 s
  let (days, s) := match called, hook with
    | true, some d => if 7 ≤ d ∧ d ≤ 365 then (d, s) else (scrubDays s, hookErr srcSUP 2 false s)
    | _, _ => (scrubDays s, s)
  let s := setShelf n { x with scrubbed := [false, false], retention := false, due := rget F.CLK_ALARM_RTC_SEC s + 86400 * days } s
  let s := stagger 64 s
  endHold n .retention (endHold n .late (setAlarm s))

/-- This head's scrub of a shelf is complete. -/
def scrubComplete (n : Nat) (hook : Option Nat) (s : State) : State :=
  let x := shelfOf n s
  let s := setShelf n { x with scrubbed := listSet x.scrubbed (headSlot s) true } s
  let s := if isMaster s then s else sendPartner (.scrubDone n) s
  let s := rewriteWeak n (fun _ => true) s
  let s := endRetention n hook s
  onArr (fun a => { a with scrubPos := none, scrubCkpt := none, weakFound := 0, rowsScrubbed := 0, rowsRewritten := 0 }) s

/-- SCRUB (R294 to R296): one row of a zone set this head owns on an AWAKE shelf, read whole and checked. Unreadable strips and a strip
whose frames are corrupt are erasures and count one media error each; when every frame passes and P and Q disagree they are recomputed;
any other finding is a loss. The row is weak where a strip needed decode, a read was slow, or the zone set is old. DESIGN CHOICE, unsafe: log 61. -/
def opScrub (zs row : Nat) (r : ScrubResult) (s : State) : State :=
  match kfind s.arr.zoneSets zs with
  | none => s
  | some z =>
    if !z.own || !shelfAwake z.shelf s then s else
    withStrips z (fun s =>
    let stored := rowOf z row true s
    let holes := fun (ps : List Nat) => stored.zipIdx.map (fun p => if ps.contains p.2 then none else p.1)
    let drive := fun (p : Nat) => (stripPlace z row p).1
    let s := forEach r.unreadable (fun p s => mediaError (drive p) s) s
    let bad := if r.unreadable.isEmpty ∧ r.mismatch then r.corrupt else []
    let s := forEach (bad.filter (fun p => p < z.k + 2)) (fun p s =>
      recordFw Ev.SCRUB_MISMATCH srcSUP (memberInst (drive p)) (pack [(8, zs), (8, row), (2, p)]) (mediaError (drive p) s)) s
    let data := bad.filter (· < z.k)
    let lost := if 2 ≤ data.length then data else unrecovered z.k (holes (r.unreadable ++ data))
    let s := if lost.isEmpty then s else loseRow zs row lost s
    let old := match z.firstAppend with
      | some t => decide (t + 86400 * (settings s).rewriteAgeD < rget F.CLK_ALARM_RTC_SEC s)
      | none => false
    let gone := stored.any (·.isNone)
    let weak := !r.unreadable.isEmpty || !bad.isEmpty || gone || r.slow || old
    let s := if weak then setZs zs { zsOf zs s with weak := if z.weak.contains row then z.weak else z.weak ++ [row] } s else s
    let s := onArr (fun a => { a with scrubPos := some (zs, row), rowsScrubbed := a.rowsScrubbed + 1,
                                      weakFound := a.weakFound + (if weak then 1 else 0) }) s
    memberSettle (if r.last then arSettle (scrubComplete z.shelf r.hook s) else s)) s

/-- The partner's scrub of a shelf is complete; where that ends the retention wake, the RETENTION program's result is a free value. DESIGN CHOICE, safe: log 92. -/
def onScrubDone (n : Nat) (s : State) : State :=
  let x := shelfOf n s
  endRetention n (some (Config.retentionDays s.freeCtr)) (setShelf n { x with scrubbed := listSet x.scrubbed (1 - headSlot s) true } (tickFree s))

/-- SCRUB_CHECKPOINT (R294): the position is checkpointed. -/
def opScrubCheckpoint (s : State) : State :=
  if s.arr.scrubPos.isNone then s else addRec' none (.index false []) (onArr (fun a => { a with scrubCkpt := a.scrubPos }) s)

end Sys2Proof.Machine
end

