-- ==== Sys2Proof/Machine/Shelves.lean ====
section
/-! DEFINITION. The shelf states, the write shelf, the backend ports and the alarm (R259 to R267, R272, R493, R507). -/

namespace Sys2Proof.Machine

open Sys2Proof

/-! ### The write shelf (R262) -/

/-- WAKE_AHEAD_S as it acts: 0 as 30 (Table 8.11). -/
def wakeAhead (s : State) : Nat :=
  let w := rget F.SHF_SEQ_CFG_WAKE_AHEAD_S s
  if w = 0 then 30 else w

/-- The next write shelf (R262): of those in service (PRESENT, not in FAULT) that are not full and not the write shelf, an awake one
before a sleeping one, then the most free zones, then the lowest number. -/
def chooseWrite (s : State) : Option Nat :=
  let ok := fun (n : Nat) => (shelfUp n s || shelfSt n s == .off) && s.arr.writeShelf != some n && !(shelfFull n s && decide (shelfZones n s ≠ 0))
  (List.range 8).foldl (fun b n =>
    if !ok n then b else
    match b with
    | none => some n
    | some m =>
      if shelfAwake n s ≠ shelfAwake m s then (if shelfAwake n s then some n else some m)
      else if shelfFree m s < shelfFree n s then some n else some m) none

/-- NEXT_WRITE_SHELF (R262): the write room is below the stored-data rate (bytes a second) times WAKE_AHEAD_S, or there is no write shelf:
the next write shelf is chosen and its wake asked for. -/
def opNextWriteShelf (rate : Nat) (s : State) : State :=
  if !isMaster s ∨ s.arr.nextShelf.isSome then s else
  let low : Bool := match s.arr.writeShelf with
    | some w => decide (writeRoom w s < rate * wakeAhead s)
    | none => true
  if !low then writeOpened s else
  match chooseWrite s with
  | none => s
  | some n =>
    let s := onArr (fun a => { a with nextShelf := some n }) s
    writeOpened (requestWake n .write (sendPartner (.writeShelves s.arr.writeShelf s.arr.nextShelf) s))

/-! ### Grants and releases (R265) -/

/-- A shelf that may be released to make room: AWAKE, its MIN_AWAKE_S elapsed, its hold ranking below `r`, none of the holds that R265
names. -/
def mayRelease (r n : Nat) (s : State) : Bool :=
  shelfAwake n s && decide (rget F.SHF_SEQ_CFG_MIN_AWAKE_S s ≤ rget F.SHF_STATE_TIME_IN_STATE s n) && decide (r < shelfRank n s) &&
  !(writeOpen s).contains n && !((holdsOn n s).any (fun k => k == .rebuild || k == .hostPin || k == .write))

/-- The shelf released to make room: the lowest hold, the lowest number among equals. -/
def victim (r : Nat) (s : State) : Option Nat :=
  (List.range 8).foldl (fun b n =>
    if !mayRelease r n s then b else
    match b with
    | none => some n
    | some m => if shelfRank m s < shelfRank n s then some n else some m) none

/-- The highest waiting request whose shelf is OFF with MIN_OFF_S elapsed (Table 8.7); the one that asked first among equals. -/
def nextRequest (s : State) : Option (Nat × HoldKind) :=
  (s.arr.requests.filter (fun p => shelfSt p.1 s == .off && !(shelfOf p.1 s).minOff)).foldl (fun b p =>
    match b with
    | none => some p
    | some q => if rankOf p.2 < rankOf q.2 then some p else some q) none

/-- SHELF_WAKE_GRANT (R265): the highest waiting request is granted a free place, or an awake shelf is released for it. -/
def opShelfWakeGrant (s : State) : State :=
  if !isMaster s then s else
  match nextRequest s with
  | none => s
  | some p =>
    if shelvesUp s < budgetOf s then
      decideShelf p.1 .powering (onArr (fun a => { a with requests := a.requests.filter (fun q => q.1 != p.1) }) s)
    else if s.arr.releasing.isSome then s
    else match victim (rankOf p.2) s with
      | some v => decideShelf v .draining (onArr (fun a => { a with releasing := some v }) s)
      | none => s

/-- MIN_OFF: MIN_OFF_S has passed since PG fell. -/
def opMinOff (n : Fin 8) (s : State) : State := setShelf n.val { shelfOf n.val s with minOff := false } s

/-- A transition of Table 8.7, made by the master from one state to another. -/
def shelfMove (n : Nat) (from_ : List ShelfState) (t : ShelfState) (s : State) : State :=
  if isMaster s ∧ from_.contains (shelfSt n s) then decideShelf n t s else s

/-- SHELF_PG_ASSERT: SHELF_PG rises; the uplinks train. -/
def opShelfPgAssert (n : Fin 8) (s : State) : State := shelfMove n.val [.powering] .linking (rflag F.SHF_STATE_PG true s n.val)

/-- A shelf is given up: its wait for a release ends with it. -/
def clearReleasing (n : Nat) (s : State) : State :=
  onArr (fun a => { a with releasing := if a.releasing = some n then none else a.releasing }) s

/-- SHELF_PG_TIMEOUT. -/
def opShelfPgTimeout (n : Fin 8) (s : State) : State :=
  if isMaster s ∧ shelfSt n.val s = .powering then
    driveShelf n.val false (decideShelf n.val .fault (recordFw Ev.SHELF_PG_TIMEOUT srcSUP n.val [] s))
  else s

/-- The zone reports of a shelf's open zone sets of this head are read, and its journal entries checked (R252, R264). -/
def readZones (n : Nat) (s : State) : State :=
  if s.mir.joiner then s else
  let s := recoverJournal (fun j => j.shelf == n) s
  forEach ((s.arr.zoneSets.filter (fun p => p.2.own && p.2.isOpen && p.2.shelf == n)).flatMap (fun p => p.2.members)).eraseDups
    (fun m s => postReport m.1 m.2 s) (onArr (fun a => { a with pointers := a.pointers.filter (fun p => decide (p.1 / 2 ^ 26 / 52 ≠ n)) }) s)

/-- What each head does when a shelf enters AWAKE: its zone reports and journal entries (R252, R264), its rebuild from the checkpoint (R289), and the
weak rows left from an earlier wake (R296). -/
def awakeWork (n : Nat) (s : State) : State :=
  let s := readZones n s
  rewriteWeak n (fun _ => true) (if listFor n s = [] then s else resumeRebuild s)

/-- A shelf enters AWAKE: its journal entries are checked and its rebuild resumes (R252, R289), its wake holds start to run, a first
AWAKE brings its members into service, and what waited for a write-open shelf goes on. -/
def shelfAwoke (n : Nat) (s : State) : State :=
  let s := joinShelf n (startHolds n (decideShelf n .awake s))
  let s := if (holdsOn n s).contains .retention ∨ (holdsOn n s).contains .late then setShelf n { shelfOf n s with retention := true } s else s
  writeOpened (awakeWork n s)

/-- SHELF_LINKED: both uplinks are up and every member ready. -/
def opShelfLinked (n : Fin 8) (s : State) : State :=
  if isMaster s ∧ shelfSt n.val s = .linking then shelfAwoke n.val s else s

/-- SHELF_READY_TIMEOUT: the members not ready go to member failure handling, and the shelf is AWAKE. -/
def opShelfReadyTimeout (n : Fin 8) (notReady : List Nat) (s : State) : State :=
  if !(isMaster s ∧ shelfSt n.val s = .linking) then s else
  let s := recordFw Ev.SHELF_READY_TIMEOUT srcSUP n.val [] s
  let s := forEach (notReady.filter (fun b => b < 52)) (fun b s => decideMember (52 * n.val + b) .failed s) s
  shelfAwoke n.val s

/-- SHELF_RELEASE: no hold, not write-open, MIN_AWAKE_S elapsed. DESIGN CHOICE, unsafe: log 3. -/
def opShelfRelease (n : Fin 8) (s : State) : State :=
  let s := syncHolds n.val s
  if shelfAwake n.val s && (holdsOn n.val s).isEmpty && !(writeOpen s).contains n.val &&
      decide (rget F.SHF_SEQ_CFG_MIN_AWAKE_S s ≤ rget F.SHF_STATE_TIME_IN_STATE s n.val) then
    shelfMove n.val [.awake] .draining s
  else s

/-- This head's own pours, reads, collections and scrubs on a shelf have ended. -/
def ownWorkEnded (n : Nat) (s : State) : Bool :=
  s.arr.steeps.all (fun x => x.je.shelf != n || x.je.state == .landed) &&
  s.arr.zoneSets.all (fun p => p.2.shelf != n || p.2.readers == 0)

/-- Both heads have reported; alone, the survivor's own report is enough (R264). -/
def bothReport (l : List Bool) (s : State) : Bool := l.getD (headSlot s) false && (solo s || l.getD (1 - headSlot s) false)

/-- The master holds both drain reports: RELEASING. -/
def onDrained (n : Nat) (s : State) : State :=
  if isMaster s ∧ shelfSt n s = .draining ∧ bothReport (shelfOf n s).drained s then decideShelf n .releasing s else s

/-- DRAIN_REPORT (R264): head `head` (false A, true B) reports that its work on a DRAINING shelf has ended. -/
def opDrainReport (n : Fin 8) (head : Bool) (s : State) : State :=
  let h := if head then 1 else 0
  if shelfSt n.val s ≠ .draining then s
  else if h = headSlot s then
    if !ownWorkEnded n.val s then s
    else if !isMaster s then sendPartner (.drainReport n.val) s
    else onDrained n.val (setShelf n.val { shelfOf n.val s with drained := listSet (shelfOf n.val s).drained h true } s)
  else if isMaster s then onDrained n.val (setShelf n.val { shelfOf n.val s with drained := listSet (shelfOf n.val s).drained h true } s)
  else s

/-- PLANNED_DOWN_REPORT (R264): head `head` reports its PCI_PLANNED_DOWN bit set; with both, both heads clear EN_DRIVE. -/
def opPlannedDownReport (n : Fin 8) (head : Bool) (s : State) : State :=
  let h := if head then 1 else 0
  if shelfSt n.val s ≠ .releasing then s
  else if h = headSlot s ∧ !isMaster s then driveShelf n.val false (sendPartner (.plannedReport n.val) s)
  else if !isMaster s then s
  else
    let s := setShelf n.val { shelfOf n.val s with planned := listSet (shelfOf n.val s).planned h true } s
    if bothReport (shelfOf n.val s).planned s then driveShelf n.val false s else s

/-- SHELF_PG_DEASSERT: PG falls on a shelf being released: OFF, and MIN_OFF_S runs. -/
def opShelfPgDeassert (n : Fin 8) (s : State) : State :=
  let s := rflag F.SHF_STATE_PG false s n.val
  if isMaster s ∧ shelfSt n.val s = .releasing then
    clearReleasing n.val (decideShelf n.val .off (setShelf n.val { shelfOf n.val s with minOff := true } s))
  else s

/-- SHELF_PG_STUCK: PG still asserted PG_TIMEOUT_MS after both released. -/
def opShelfPgStuck (n : Fin 8) (s : State) : State :=
  if isMaster s ∧ shelfSt n.val s = .releasing ∧ rbit F.SHF_STATE_PG s n.val then
    clearReleasing n.val (decideShelf n.val .fault (recordFw Ev.SHELF_PG_STUCK srcSUP n.val [] s))
  else s

/-- SHELF_PG_LOST: PG falls while SHELF_EN is sensed asserted: PG_DROP latches; the jobs outstanding end as R243; FAULT. -/
def opShelfPgLost (n : Fin 8) (s : State) : State :=
  if !rbit F.SHF_STATE_EN_SENSE s n.val then rflag F.SHF_STATE_PG false s n.val else
  let s := rflag F.SHF_STATE_PG_DROP true (rflag F.SHF_STATE_PG false s n.val) n.val
  if isMaster s ∧ [ShelfState.powering, .linking, .awake, .draining].contains (shelfSt n.val s) then
    arSettle (clearReleasing n.val (decideShelf n.val .fault (recordFw Ev.SHELF_PG_LOST srcSUP n.val [] s)))
  else s

/-- SHELF_FAULT_RETRY: 60 s in FAULT with fewer than 3 retries in the last hour: EN_DRIVE cleared, a wake queued, OFF. The wake is for the
highest hold that stands, or a retention wake's where none does. DESIGN CHOICE, unsafe: log 63. -/
def opShelfFaultRetry (n : Fin 8) (s : State) : State :=
  let x := shelfOf n.val s
  let l := x.retries.filter (fun t => decide (opsec s < t + 3600))
  if !isMaster s ∨ shelfSt n.val s ≠ .fault ∨ rget F.SHF_STATE_TIME_IN_STATE s n.val < 60 ∨ 3 ≤ l.length then s else
  let s := setShelf n.val { x with retries := l ++ [opsec s] } s
  let s := decideShelf n.val .off s
  let k := (holdsOn n.val s).foldl (fun b k => if rankOf k < rankOf b then k else b) .retention
  requestWake n.val k s

/-- PRESENT written (R264, Table 8.7): a cleared bit makes a shelf ABSENT, a set one brings it to OFF. -/
def setPresent (v : Nat) (s : State) : State :=
  let old := rget F.SHF_CTL_PRESENT s
  let s := rset F.SHF_CTL_PRESENT v s
  forEach (List.range 8) (fun n s =>
    if old.testBit n && !v.testBit n then applyShelf n .absent (clearReleasing n s)
    else if v.testBit n && shelfSt n s == .absent then applyShelf n .off s else s) s

/-- SHELF_ALERT (R264): the line's level; a rising one latches ALERT_LATCH, raises IRQ line 7 where ALERT_EN is set, and is recorded. -/
def shelfAlert (n : Nat) (level : Bool) (s : State) : State :=
  let old := rbit F.SHF_STATE_ALERT s n
  let s := rflag F.SHF_STATE_ALERT level s n
  if level && !old then
    let s := rflag F.SHF_STATE_ALERT_LATCH true s n
    let s := if rtest F.SHF_CTL_ALERT_EN n s then raiseIrq 7 s else s
    record Ev.SHELF_ALERT srcAON n [] s
  else s

/-! ### Shelf Control (R265, R266) -/

/-- Every place is held by a pinned shelf (R265). -/
def placesPinned (n : Nat) (s : State) : Bool :=
  !shelfUp n s && decide (budgetOf s ≤ shelvesUp s) &&
  (List.range 8).all (fun m => !shelfUp m s || (holdsOn m s).any (fun k => k == .rebuild || k == .hostPin || k == .write))

/-- Host pins held. -/
def hostPins (s : State) : Nat := ((List.range 8).filter (fun i => (holdsOn i s).contains .hostPin)).length

/-! ### Retention wakes (R267) -/

/-- The master asks for the wake of each shelf whose retention due time has come, at priority 5, or 3 once it is more than 7 days overdue. DESIGN CHOICE, unsafe: log 58. -/
def retentionWakes (s : State) : State :=
  if !isMaster s then s else
  let now := rget F.CLK_ALARM_RTC_SEC s
  forEach (List.range 8) (fun n s =>
    let d := (shelfOf n s).due
    if d = 0 ∨ now < d then s else requestWake n (if d + 604800 < now then .late else .retention) s) s

/-! ### Backend ports (R259 to R261, R272, R507) -/

/-- The width that fits a port (R259): x8 on even ports, x16 on multiples of 4; the vault port is x4. -/
def widthFits (n : Nat) (s : State) : Bool :=
  match rget F.PCI_PORT_CFG_WIDTH s n with
  | 0 => true
  | 1 => n % 2 == 0 && decide (n < 16)
  | 2 => n % 4 == 0 && decide (n < 16)
  | _ => false

/-- A wider neighbour takes the port's lanes. -/
def lanesTaken (n : Nat) (s : State) : Bool :=
  (List.range n).any (fun m => widthFits m s &&
    ((rget F.PCI_PORT_CFG_WIDTH s m == 1 && n == m + 1) || (rget F.PCI_PORT_CFG_WIDTH s m == 2 && decide (n < m + 4)))) && decide (n < 16)

/-- A port that may train: enabled, not held down. -/
def portMayTrain (n : Nat) (s : State) : Bool := rbit F.PCI_PORT_CFG_EN s n && widthFits n s && !lanesTaken n s

/-- The generation a port trains at most: MAX_GEN, 0 as 1, at most 6, or 5 at the vault port. -/
def portGen (n : Nat) (s : State) : Nat := min (if n = 16 then 5 else 6) (max 1 (rget F.PCI_PORT_CFG_MAX_GEN s n))

/-- The lanes of a port's width. -/
def portLanes (n : Nat) (s : State) : Nat := [4, 8, 16, 0].getD (rget F.PCI_PORT_CFG_WIDTH s n) 0

/-- A port's link down. -/
def portDown (n : Nat) (s : State) : State :=
  rset F.PCI_PORT_STATUS_LANES 0 (rset F.PCI_PORT_STATUS_GEN 0 (rflag F.PCI_PORT_STATUS_DL_ACTIVE false
    (rflag F.PCI_PORT_STATUS_LINK_UP false s n) n) n) n

/-- The shelf a port leads to. -/
def portShelf (n : Nat) : Option Nat := if n = 14 then some 7 else if n < 14 ∧ n % 2 = 0 then some (n / 2) else none

/-- The drives behind a port. -/
def portDrives (n : Nat) : List Nat :=
  if n = 15 then (List.range 24).map (512 + ·) else match portShelf n with | some m => shelfDrives m | none => []

/-- PCI_LINK_PLANNED (R260): a link-down with the port's bit set. -/
def opPciLinkPlanned (n : Fin 17) (s : State) : State :=
  if !rbit F.PCI_PORT_STATUS_LINK_UP s n.val || !rtest F.PCI_PLANNED_DOWN_PLANNED n.val s then s
  else record Ev.PCI_LINK_PLANNED srcPCI n.val [] (rinc F.PCI_PORT_STATUS_PLANNED_DOWNS 1 (portDown n.val s) n.val)

/-- The port is the uplink of a write-open shelf or of one that serves reads, or port 15 (R261). -/
def portMatters (n : Nat) (s : State) : Bool :=
  n == 15 || (match portShelf n with
    | some m => (writeOpen s).contains m || shelfAwake m s
    | none => false)

/-- A head's uplink of a shelf is noted lost; when both are, the master puts the shelf in FAULT (R261). DESIGN CHOICE, unsafe: log 63. -/
def uplinkLost (m head : Nat) (s : State) : State :=
  let l := listSet (shelfOf m s).lost head true
  let s := setShelf m { shelfOf m s with lost := l } s
  if isMaster s && l.all id && shelfUp m s then decideShelf m .fault s else s

/-- A head's uplink of a shelf is up again. -/
def uplinkBack (m head : Nat) (s : State) : State := setShelf m { shelfOf m s with lost := listSet (shelfOf m s).lost head false } s

/-- PCI_LINK_LOST (R261): a link-down with the bit clear: counted, IRQ line 5, recorded; the port's jobs end as R243; the head hands its
groups over where the port matters; a shelf whose uplinks both heads lost goes to FAULT. DESIGN CHOICE, unsafe: log 63. -/
def opPciLinkLost (n : Fin 17) (s : State) : State :=
  if !rbit F.PCI_PORT_STATUS_LINK_UP s n.val || rtest F.PCI_PLANNED_DOWN_PLANNED n.val s then s else
  let matters := portMatters n.val s
  let s := portDown n.val s
  let s := rinc F.PCI_PORT_STATUS_LINK_DOWNS 1 (rinc F.PCI_ERR_CNT_UNPLANNED_DOWN 1 s n.val) n.val
  let s := record Ev.PCI_LINK_LOST srcPCI n.val [] (raiseIrq 5 s)
  let s := arSettle (forEach (portDrives n.val) endDriveJobs s)
  let s := if matters ∧ partnerHere s then handAll (onArr (fun a => { a with handed := (a.handed ++ ownGroups s).eraseDups }) s) else s
  match portShelf n.val with
  | some m => if solo s then (if shelfUp m s then decideShelf m .fault s else s) else uplinkLost m (headSlot s) (sendPartner (.uplink m true) s)
  | none => s

/-- PCI_RETRAIN_RETRY (R261): training is tried again every 10 s; nothing changes until the link is up, which is PCI_LINK_UP. -/
def opPciRetrainRetry (_n : Fin 17) (s : State) : State := s

/-- PCI_LINK_STABLE (R261): the link has stayed up for 60 s and the head takes its groups back. -/
def opPciLinkStable (n : Fin 17) (s : State) : State :=
  if rbit F.PCI_PORT_STATUS_LINK_UP s n.val && !s.arr.handed.isEmpty then
    sendPartner (.handoverRequest s.arr.handed (headSlot s == 1)) (onArr (fun a => { a with handed := [] }) s)
  else s

/-- PCI_LINK_UP (R260, R272, R273): the port trains at a generation and lanes no more than it may; PLANNED clears. -/
def opPciLinkUp (n : Fin 17) (gen lanes : Nat) (s : State) : State :=
  if !portMayTrain n.val s || rbit F.PNL_FENCE_STATUS_GATED s then s else
  let s := match portShelf n.val with
    | some m => if (shelfOf m s).lost.getD (headSlot s) false then sendPartner (.uplink m false) (uplinkBack m (headSlot s) s) else s
    | none => s
  let s := rset F.PCI_PORT_STATUS_LANES (min lanes (portLanes n.val s)) (rset F.PCI_PORT_STATUS_GEN (min gen (portGen n.val s)) s n.val) n.val
  rputBit F.PCI_PLANNED_DOWN_PLANNED n.val false (rflag F.PCI_PORT_STATUS_DL_ACTIVE true (rflag F.PCI_PORT_STATUS_LINK_UP true s n.val) n.val)

/-- The reset pin of a port (R507). -/
def perstPin (n : Nat) : String := if n = 16 then "VAULT_PERSTN" else "PCIE_PERSTN"

/-- The reference clock pair of a port: pair 0 serves the vault port too (Table 16.4). -/
def portClock (n : Nat) : Nat := if n = 16 then 0 else n / 4

/-- PERST_RELEASE (R507): 100 ms after EN with the reference clock present. -/
def opPerstRelease (n : Fin 17) (s : State) : State :=
  if rbit F.PCI_PORT_CFG_EN s n.val && rtest F.CLK_PLL_STATUS_PCIE_REF_OK (portClock n.val) s then
    emit (.pin (perstPin n.val) true n.val) s
  else s

/-- PCI_CORRECTABLE_ERROR (R272, R415): counted for counter 2; at the threshold the port retrains one generation lower. -/
def opPciCorrectableError (n : Fin 17) (s : State) : State :=
  let s := rinc F.PCI_ERR_CNT_CORR 1 s n.val
  let (hit, s) := fltError 2 n.val s
  if !hit then s else
  let s := record Ev.PCI_RETRAIN srcPCI n.val [] s
  if !fltActs 2 s then s else
  let g := rget F.PCI_PORT_STATUS_GEN s n.val
  rinc F.PCI_ERR_CNT_RETRAINS 1 (rset F.PCI_PORT_STATUS_GEN (if 1 < g then g - 1 else g) s n.val) n.val

end Sys2Proof.Machine
end

