-- ==== Sys2Proof/Machine/Shadow.lean ====
section
/-! DEFINITION. What a head holds for its partner's groups: the shadow ring, held commands, the completions it may send, its dirty copies
(R77, R333 to R337). -/

namespace Sys2Proof.Machine

open Sys2Proof

/-! ### Commands -/

/-- The key of a command's queue. -/
def idKey (id : CmdId) : Nat := 512 * id.cntlid + id.qid

/-- A command that changes the map: Write, Write Zeroes or Dataset Management on an I/O queue (R331). -/
def isWriteSqe (qid : Nat) (q : Sqe) : Bool := qid != 0 && (q.opc == 0x01 || q.opc == 0x08 || q.opc == 0x09)

/-- The bytes of a command's data: DLEN less the SQE (R40). -/
def dataLen (m : HbMsg) : Nat := m.dlen - 64

/-- SLBA of a read or write. -/
def sqeSlba (q : Sqe) : Nat := q.cdw11 * 2 ^ 32 + q.cdw10

/-- NLB of a read or write, as a count. -/
def sqeNlb (q : Sqe) : Nat := q.cdw12 % 65536 + 1

/-- The ranges of a Dataset Management command, as byte addresses and lengths: 16 bytes each, with the length in LBAs at byte 4 and the
first LBA at byte 8. -/
def dsmRanges (q : Sqe) (data : List Byte) : List (Nat × Nat) :=
  (List.range (q.cdw10 % 256 + 1)).map (fun i =>
    let e := data.drop (16 * i)
    (4096 * ofLe ((e.drop 8).take 8), 4096 * ofLe ((e.drop 4).take 4)))

/-- Consecutive parts of at most 512 LBAs, in ascending order (R58). -/
def dsmSteps : Nat → Nat → Nat → List (Nat × Nat)
  | 0, _, _ => []
  | f + 1, a, n => if n = 0 then [] else (a, min n 0x200000) :: dsmSteps f (a + 0x200000) (n - 0x200000)

/-- The group of a namespace; one that does not exist counts as group 0's. -/
def groupOfNs (n : Nat) (s : State) : Nat := ((nsOf n s).map (·.group)).getD 0

/-- A dirty write as its TAKE record and its data give it. -/
def dirtyFrom (id : CmdId) (wseq : Nat) (q : Sqe) (handle : Option Nat) (data : List Byte) (own : Bool) (s : State) : Dirty :=
  let kind := if q.opc = 0x01 then WKind.write else if q.opc = 0x08 then WKind.zeroes else WKind.dealloc
  let rs := match kind with
    | .write => []
    | .zeroes => [(4096 * sqeSlba q, 4096 * sqeNlb q)]
    | .dealloc => (dsmRanges q data).flatMap (fun p => dsmSteps (p.2 / 0x200000 + 1) p.1 p.2)
  { id := id, wseq := wseq, kind := kind, nsid := q.nsid, addr := 4096 * sqeSlba q, len := 4096 * sqeNlb q, ranges := rs,
    handle := if kind = .write then handle else none, group := groupOfNs q.nsid s,
    bytes := if kind = .write then (match handle with | some h => caddySize (hCad h) | none => 0) else 0, own := own }

/-! ### The shadow ring -/

/-- A command of the ring. -/
def ringOf (id : CmdId) (s : State) : Option RingCmd := s.host.ring.find? (fun r => r.m.id == id)

/-- A command of the ring replaced, or added. -/
def putRing (r : RingCmd) (s : State) : State :=
  let l := if s.host.ring.any (fun x => x.m.id == r.m.id) then s.host.ring.map (fun x => if x.m.id = r.m.id then r else x)
           else s.host.ring ++ [r]
  { s with host := { s.host with ring := l } }

/-- The shadow holds a command: its SQE and, for one with data, all of it (R333 step 2). -/
def ringHeld (r : RingCmd) : Bool := r.sqeHeld && r.dataHeld

/-- The data of a command of the ring. -/
def ringData (r : RingCmd) (s : State) : List Byte :=
  match r.handle with
  | some h => memRead s (bufAddr h s) (dataLen r.m)
  | none => []

/-- The shadow's dirty copy of a write whose TAKE record is applied and whose data it holds. -/
def shadowDirty (id : CmdId) (s : State) : State :=
  match ringOf id s with
  | none => s
  | some r =>
    match r.take with
    | none => s
    | some w =>
      if !isWriteSqe id.qid r.m.sqe || !ringHeld r || s.arr.dirty.any (·.wseq == w) then s else
      let d := dirtyFrom id w r.m.sqe r.handle (ringData r s) false s
      onArr (fun a => { a with dirty := a.dirty ++ [d] }) s

/-- A command leaves the ring; the buffer of one that has no dirty copy is dropped. -/
def dropRing (id : CmdId) (s : State) : State :=
  match ringOf id s with
  | none => s
  | some r =>
    let s := { s with host := { s.host with ring := s.host.ring.filter (fun x => x.m.id != id) } }
    if s.arr.dirty.any (fun d => d.handle.isSome && d.handle == r.handle) then s else dropAll r.handle.toList s

/-- A completion record of the partner whose command is held: the shadow sends the completion unless it is a read's or NO_SHADOW_SEND is set
(R335), and the command leaves the ring; a read's stays, marked, for READ_RESEND_EPOCHS (R49). -/
def applyCpl (r : ERecord) (s : State) : State :=
  match r.body with
  | .cpl rd' reissue noSh id csn cqe =>
    let s := match ringOf id s with | some x => noteError x.m cqe s | none => s
    let s := ackWrite id (closeCmd id s)
    if rd' then
      match ringOf id s with
      | some x => putRing { x with cpl := true } s
      | none => s
    else dropRing id (if noSh then s else sendCpl id false reissue csn cqe s)
  | _ => s

/-- The command that a completion record names is held; of one refused for its credit the shadow never holds data (R65, R333). -/
def cplHeld (r : ERecord) (s : State) : Bool :=
  match r.body with
  | .cpl _ _ _ id _ cqe => (ringOf id s).any (fun x => ringHeld x || (x.sqeHeld && cqe.sct == 7 && cqe.sc == 0x85))
  | _ => true

/-- Completion records that were PENDING and whose commands are now held are sent, and listed HELD in the next reply (R333, R335). -/
def settleShadow (s : State) : State :=
  let l := s.mir.shadowPend
  forEach l (fun p s =>
    if cplHeld p.2.2 s then
      applyCpl p.2.2 { s with mir := { s.mir with shadowPend := s.mir.shadowPend.filter (· != p),
                                                  receipts := s.mir.receipts ++ [.held p.1 p.2.1] } }
    else s) s

/-- A RECEIPT entry for the next reply. -/
def addReceipt (id : CmdId) (landed overG noBuf : Bool) (s : State) : State :=
  { s with mir := { s.mir with receipts := s.mir.receipts ++ [.receipt id landed overG noBuf] } }

end Sys2Proof.Machine
end

