-- ==== Sys2Proof/Machine/Hosts.lean ====
section
/-! DEFINITION. The host queues: taking commands in, landing data, resetting queues and controllers, Connect, and the slots' watchdog and drain
(R39 to R46, R53, R64 to R68, R76 to R79, R89, R90). -/

namespace Sys2Proof.Machine

open Sys2Proof

/-! ### The task of a host command (Table 3.2) -/

/-- A host-command task: its registers t1 to t14, the group, and the write data at `handle`. OVER_GRANT is t12 [3], REPLAY t12 [2]. DESIGN CHOICE, safe: log 18. -/
def hostTask (m : HbMsg) (group : Nat) (over_ replay : Bool) (handle : Option Nat) (s : State) : Task :=
  let q := m.sqe
  let b := fun (x : Bool) (n : Nat) => if x then n else 0
  { typ := 1, queue := 1, group := some group, replay := replay, cmd := some (if handle.isNone then { m with dlen := 64 } else m),
    t := [m.id.cntlid * 2 ^ 48 + m.id.qid * 2 ^ 32 + m.id.cmdseq,
          q.nsid * 2 ^ 32 + q.cid * 2 ^ 16 + q.cdwFlags * 2 ^ 8 + q.opc,
          q.cdw11 * 2 ^ 32 + q.cdw10, q.cdw13 * 2 ^ 32 + q.cdw12, q.cdw15 * 2 ^ 32 + q.cdw14,
          q.sglAddr, q.sglKey * 2 ^ 32 + q.sglLen * 2 ^ 8 + q.sglType,
          (match handle with | some h => dataLen m * 2 ^ 32 + h | none => 0),
          m.session, q.nsid * 2 ^ 32 + Config.volumeIndex q.nsid % 2 ^ 32, intakeTick s,
          m.rdgen * 2 ^ 48 + b over_ 8 + b replay 4 + b m.loc 2 + b m.tcp 1, 0, 0] }

/-- OVER_GRANT of t12. -/
def taskOver (t : Task) : Bool := (t.t.getD 11 0).testBit 3

/-- The write data of a task. -/
def taskData (t : Task) (s : State) : List Byte :=
  match taskHandle t with
  | some h => memRead s (bufAddr h s) (t.t.getD 7 0 / 2 ^ 32)
  | none => []

/-! ### Taking a command in (R39, R46, R66, R77, R79, R151, R323) -/

/-- A queue takes commands in: it exists and its reset has not begun (R68 step 1). -/
def queueLive (k : Nat) (s : State) : Bool := (hqOf s k).sq && !(hqOf s k).closing && (ctrlOf s (k / 512)).live

/-- The head-local commands (R46). -/
def isLocalCmd (m : HbMsg) : Bool :=
  m.id.qid == 0 && ([0xC5, 0xC6, 0x10, 0x11].contains m.sqe.opc || (m.sqe.opc == 0x02 && [0x02, 0x03, 0xC5].contains (m.sqe.cdw10 % 256)))

/-- The group whose owner serves a command: group 0's for the admin queue (R44). DEDUCED, unsafe: log 45. -/
def groupOfCmd (m : HbMsg) (s : State) : Nat := if m.id.qid = 0 then 0 else groupOfNs m.sqe.nsid s

/-- A command stands on its queue. -/
def openCmd (id : CmdId) (s : State) : State :=
  let q := hqOf s (idKey id)
  if q.open_.contains id.cmdseq then s else setHq (idKey id) { q with open_ := q.open_ ++ [id.cmdseq] } s

/-- A command that was not taken in after all. -/
def unopenCmd (id : CmdId) (s : State) : State :=
  let q := hqOf s (idKey id)
  setHq (idKey id) { q with open_ := q.open_.filter (· != id.cmdseq) } s

/-- The write bytes a controller has landed (R64). -/
def countLanded (n bytes : Nat) (s : State) : State :=
  let c := ctrlOf s n
  grantCredit n 1 (setCtrl n { c with landed := c.landed + bytes } s)

/-- A write beyond its controller's grant (R64, R66), on the Rearn binding. DEDUCED, unsafe: log 45. -/
def overGrant (m : HbMsg) (s : State) : Bool :=
  let c := ctrlOf s m.id.cntlid
  !m.tcp && isWriteSqe m.id.qid m.sqe && dataLen m != 0 && decide (c.grant < c.landed + dataLen m)

/-- A buffer for a command's data, with the data in it: set S at the owner, set D at the shadow (R151). -/
def landData (set_ : Nat) (m : HbMsg) (s : State) : Option Nat × State :=
  match bpmAlloc .host set_ (caddyFor (dataLen m)) s with
  | (none, s) => (none, s)
  | (some h, s) => (some h, setFill h (dataLen m) (memWrite (bufAddr h s) (padTo (dataLen m) m.data) s))

/-- The NAK code of a message that finds no buffer (Table 12.10). DESIGN CHOICE, unsafe: log 78. -/
def nakNoBuffer : Nat := 0x02

/-- The commands the part accepts (Table 2.6): those of the NVM set on I/O queues; on the admin queue those of both bindings, the queue commands of the
Rearn binding and the Fabrics commands of NVMe/TCP. -/
def accepted (m : HbMsg) : Bool :=
  let o := m.sqe.opc
  if m.id.qid ≠ 0 then [0x00, 0x01, 0x02, 0x08, 0x09].contains o || (m.tcp && o == 0x7F)
  else [0x02, 0x06, 0x08, 0x09, 0x0A, 0x0C, 0x0D, 0x10, 0x11, 0x15, 0x18, 0xC0, 0xC1, 0xC2, 0xC4, 0xC5, 0xC6, 0xC8].contains o ||
    (if m.tcp then o == 0x7F else [0x00, 0x01, 0x04, 0x05].contains o)

/-- A command becomes a task at the owner (R76); a write whose credit the shadow has already refused is refused (R66). The ready-to-transfer PDU of
an NVMe/TCP write is withheld while set S is EMPTY or while its data would pass a ceiling of R65 (R64, R151); admin data of up to 8 KiB comes in its
capsule (R50). DEDUCED, unsafe: log 45. -/
def takeOwn (m : HbMsg) (g : Nat) (s : State) : State :=
  let n := dataLen m
  let wr := isWriteSqe m.id.qid m.sqe
  let r2t : Bool := m.tcp && n != 0 && (m.id.qid != 0 || decide (8192 < n))
  if m.id.qid = 0 ∧ m.sqe.opc = 0x10 ∧ 3 < m.sqe.cdw10 / 8 % 8 then completeTask (hostTask m g false false none s) stInvalidField s
  else if !accepted m then completeTask (hostTask m g false false none s) stInvalidOpcode (if m.tcp || m.loc then s else passSeq (idKey m.id) m.id.cmdseq s)
  else if overGrant m s || s.mir.overSeen.contains m.id then
    enqueueTask (hostTask m g true false none s) { s with mir := { s.mir with overSeen := s.mir.overSeen.filter (· != m.id) } }
  else if n = 0 ∨ 0x200000 < n then enqueueTask (hostTask m g false false none s) s
  else if r2t && wr && decide (creditRoom m.id.cntlid s < n) then { s with host := { s.host with noR2t := s.host.noR2t ++ [m] } }
  else
    match landData 0 m s with
    | (none, s) =>
      if m.tcp then { s with host := { s.host with noR2t := s.host.noR2t ++ [m] } }
      else egress (.hostNak m.id nakNoBuffer) (unopenCmd m.id s)
    | (some h, s) =>
      let c := ctrlOf s m.id.cntlid
      let s := if r2t then egress (.r2t m.id n) (if wr then setCtrl m.id.cntlid { c with grant := c.grant + n } s else s) else s
      let s := if wr && (m.landed || !m.tcp) then countLanded m.id.cntlid n s else s
      enqueueTask (hostTask m g false false (some h) s) s

/-- A command's data is in at the shadow: a RECEIPT, its dirty copy when its TAKE record is applied, and what it kept PENDING (R333). -/
def shadowLanded (id : CmdId) (s : State) : State := settleShadow (shadowDirty id (addReceipt id true false false s))

/-- A command lands in the shadow ring (R77). One beyond its grant, and one that finds no buffer, are not taken in: the RECEIPT says so. -/
def takeShadow (m : HbMsg) (s : State) : State :=
  let n := dataLen m
  let old := ringOf m.id s
  let base : RingCmd := match old with
    | some r => { r with m := { m with data := [] }, sqeHeld := true }
    | none => { m := { m with data := [] } }
  let forwarded : Bool := (old.map (·.dataHeld)).getD false
  let passed := passSeq (idKey m.id) m.id.cmdseq
  if forwarded then shadowLanded m.id (putRing { base with dataHeld := true } (passed s))
  else if n = 0 ∨ 0x200000 < n then shadowLanded m.id (putRing { base with dataHeld := true } (passed s))
  else if overGrant m s then addReceipt m.id false true false (putRing { base with dataHeld := false } (passed s))
  else
    match landData 1 m s with
    | (none, s) =>
      let s := if old.isSome then s else unopenCmd m.id s
      addReceipt m.id false false true (egress (.hostNak m.id nakNoBuffer) s)
    | (some h, s) =>
      let s := if isWriteSqe m.id.qid m.sqe then countLanded m.id.cntlid n s else s
      let s := putRing { base with dataHeld := m.landed && m.xferOk, handle := some h } (passed s)
      if m.landed && m.xferOk then shadowLanded m.id s else s

/-- A command is completed at once, as a head-local one: CSN 0 (R46, R51). DEDUCED, unsafe: log 44. -/
def refuseCmd (m : HbMsg) (cqe : Cqe) (s : State) : State :=
  settleQueues (postCpl noSlot { typ := 1, cmd := some m } cqe false (if m.tcp then s else passSeq (idKey m.id) m.id.cmdseq s))

/-- The command of a LOCAL rule broken (R46). -/
def localWrong (m : HbMsg) (s : State) : Bool :=
  !m.tcp && ((isLocalCmd m && m.dual) || (!isLocalCmd m && !m.dual && rbit F.HQ_DUALSEND_CFG_DUAL_REQUIRED s))

/-- The log pages that the admin owner serves (Table 2.8). -/
def ownerPages : List Nat := [0x01, 0x04, 0x05, 0xC0, 0xC4]

/-- A controller's own admin commands, which an NVMe/TCP host's either head serves (R51, R53), but for the log pages of the admin owner. DESIGN
CHOICE, unsafe: log 81. -/
def tcpAdmin (m : HbMsg) : Bool :=
  m.tcp && m.id.qid == 0 && [0x02, 0x06, 0x08, 0x09, 0x0A, 0x0C, 0x18, 0x7F].contains m.sqe.opc &&
    !(m.sqe.opc == 0x02 && ownerPages.contains (m.sqe.cdw10 % 256))

/-- A command that passed the header checks is routed (R46, R51, R323). DEDUCED, unsafe: log 45. -/
def routeCmd (m : HbMsg) (s : State) : State :=
  let m := { m with loc := isLocalCmd m }
  let g := groupOfCmd m s
  let s := openCmd m.id s
  if localWrong m s then refuseCmd m stLocalRequired s
  else if m.tcp && m.id.qid != 0 && movingGroup g s then refuseCmd m stAnaTransition s
  else if m.loc || owns g s || tcpAdmin m then takeOwn m g s
  else if m.tcp then refuseCmd m stAnaInaccessible s
  else takeShadow m s

/-- A message that R39 discards. DEDUCED, unsafe: log 45. -/
def badHeader (m : HbMsg) : Bool :=
  !m.tcp && (m.ver != 1 || m.typ == 0 || decide (5 < m.typ) || m.dlen != m.bodyLen || (m.typ == 1 && decide (m.dlen < 64)))

/-- SESSION of a Chobaoz association, which its endpoint chooses and its commands carry (Table 2.3). -/
def noteSession (m : HbMsg) (s : State) : State :=
  if m.tcp then s else setCtrl m.id.cntlid { ctrlOf s m.id.cntlid with session := m.session } s

/-- CMD (R39, R40): a CMD header lands and the command is routed. One that comes while INTAKE_EN or its binding's enable is 0 is discarded without
an answer. DEDUCED, unsafe: log 45. DESIGN CHOICE, unsafe: log 94. -/
def opCmd (m : HbMsg) (s : State) : State :=
  if badHeader m then record Ev.HB_MSG_DISCARDED srcNET 0 [] s
  else if m.typ ≠ 1 || !rbit F.HQ_CTL_INTAKE_EN s || !(if m.tcp then rbit F.HQ_CTL_TCP_EN s else rbit F.HQ_CTL_REARN_EN s) then s
  else if !queueLive (idKey m.id) s then s
  else routeCmd m (noteSession m s)

/-- The NVMe/TCP writes whose ready-to-transfer PDU was withheld are tried again, oldest first (R64, R151). -/
def retryR2t (s : State) : State :=
  forEach s.host.noR2t (fun m s => if queueLive (idKey m.id) s then takeOwn m (groupOfCmd m s) s else s)
    { s with host := { s.host with noR2t := [] } }

/-! ### Landing tokens (R79) -/

/-- A message whose data ended landing. -/
def landMsg (id : CmdId) (ok : Bool) (m : HbMsg) : HbMsg := if m.id = id ∧ m.landed = false then { m with landed := true, xferOk := ok } else m

/-- A task whose data ended landing. DEDUCED, unsafe: log 36. -/
def landTask (id : CmdId) (ok : Bool) (t : Task) : Task := { t with cmd := t.cmd.map (landMsg id ok) }

/-- A task waits for the data of a command. -/
def waitsFor (id : CmdId) (t : Task) : Bool :=
  match t.cmd with
  | some m => m.id == id && !m.landed && m.dlen != 64
  | none => false

/-- The write bytes of an NVMe/TCP command, which count as landed when they are in. -/
def tcpBytes (qid : Nat) (t : Task) : Nat :=
  match t.cmd with
  | some m => if m.tcp && isWriteSqe qid m.sqe then dataLen m else 0
  | none => 0

/-- The data of a command that ended before it was in has landed or failed: its token completes and its buffer is dropped (R86). -/
def endLate (x : CmdId × Nat × Nat) (ok : Bool) (s : State) : State :=
  let s := { s with host := { s.host with lateLand := s.host.lateLand.filter (· != x) } }
  dropAll [x.2.2] (tokComplete (x.2.1 / 2 ^ 22) (bits x.2.1 21 18) (bits x.2.1 17 0) { status := if ok then 0 else jBufFault } s)

/-- LANDING_TOKEN (R79): the last data byte of a command is in, or its data failed its transport check. The token of its slot completes
with OK or BUF_FAULT; at the shadow the command is held. DESIGN CHOICE, unsafe: log 81. -/
def opLandingToken (cntlid qid cmdseq : Nat) (ok : Bool) (s : State) : State :=
  let id : CmdId := { cntlid := cntlid, qid := qid, cmdseq := cmdseq }
  match lowest 512 (fun i => slotBusy s i && waitsFor id (slotOf s i).task) with
  | some i =>
    let x := slotOf s i
    let s := setSlot i { x with task := landTask id ok x.task } s
    let s := if tcpBytes qid x.task = 0 then s else countLanded cntlid (tcpBytes qid x.task) s
    let tok := x.task.t.getD 12 0
    tokComplete i (bits tok 21 18) (bits tok 17 0) { status := if ok then 0 else jBufFault } s
  | none =>
    match (s.task.q.getD 1 []).find? (waitsFor id) with
    | some t =>
      let s := if tcpBytes qid t = 0 then s else countLanded cntlid (tcpBytes qid t) s
      setQ 1 ((s.task.q.getD 1 []).map (landTask id ok)) s
    | none =>
      match s.host.lateLand.find? (·.1 == id) with
      | some x => endLate x ok s
      | none =>
      match ringOf id s with
      | none => s
      | some r =>
        if r.m.landed then s
        else if ok then shadowLanded id (putRing { r with m := landMsg id ok r.m, dataHeld := true } s)
        else
          let s := putRing { r with m := landMsg id ok r.m, dataHeld := false, handle := none } s
          dropAll r.handle.toList s

/-! ### Queue and controller reset (R68) -/

/-- A held command completed without a slot: the Aborted of step 2. -/
def abortTask (t : Task) (s : State) : State := postCpl noSlot t stAborted true (giveUpBuffer t s)

/-- A command that the shadow reported landed and this head never took in (R68 step 2, R333). -/
def neverTaken (id : CmdId) (s : State) : Bool :=
  let q := hqOf s (idKey id)
  !q.open_.contains id.cmdseq && seqBefore q.placed id.cmdseq && !q.ahead.contains id.cmdseq

/-- A command that only the shadow holds, of a queue whose reset has begun, completes Aborted here as a mirrored completion (R68 step 2). -/
def abortSeen (id : CmdId) (s : State) : State :=
  let s := { s with mir := { s.mir with seen := s.mir.seen.filter (· != id) } }
  if (hqOf s (idKey id)).closing && neverTaken id s then
    abortTask (bareTask id false) (passSeq (idKey id) id.cmdseq (openCmd id s)) else s

/-- Steps 1 to 3 of R68 at this head: intake stops; commands of this head not yet in a slot, and those only the shadow holds, complete Aborted; the
event requests held complete likewise; CANCEL is set in the queue's slots. -/
def beginReset (k : Nat) (s : State) : State :=
  let q := hqOf s k
  let s := forEach (s.mir.seen.filter (fun id => idKey id == k)) abortSeen (setHq k { q with closing := true } s)
  let mine := fun (t : Task) => t.typ == 1 && taskQKey t == k
  let gone := (s.task.q.getD 1 []).filter mine
  let s := setQ 1 ((s.task.q.getD 1 []).filter (fun t => !mine t)) s
  let held := s.host.noR2t.filter (fun m => idKey m.id == k)
  let s := { s with host := { s.host with noR2t := s.host.noR2t.filter (fun m => idKey m.id != k) } }
  let c := ctrlOf s (k / 512)
  let aers := if k % 512 = 0 then c.aers else []
  let s := if k % 512 = 0 then setCtrl (k / 512) { c with aers := [] } s else s
  let s := forEach gone abortTask s
  let s := forEach held (fun m s => abortTask (hostTask m (groupOfCmd m s) false false none s) s) s
  let s := forEach aers (fun id s => if owns 0 s then abortTask (bareTask id q.tcp) s else closeCmd id s) s
  forEach (List.range 512) (fun i s => if slotBusy s i && mine (slotOf s i).task then setLive i liveCancel s else s) s

/-- A queue reset from its Delete, its Disconnect or its connection's end: the other head stops taking in too. -/
def resetQueue (cntlid qid : Nat) (t : Option Task) (s : State) : State :=
  let k := 512 * cntlid + qid
  if (hqOf s k).closing then s else
  let s := beginReset k (addRec' none (.queue cntlid qid (hqOf s k).depth false false (hqOf s k).cq (hqOf s k).cqid (hqOf s k).conn) s)
  settleQueues { s with host := { s.host with resets := s.host.resets ++ [(cntlid, qid, t)] } }

/-- The queues of a controller that exist: the I/O queues first, then the admin queue. -/
def ctrlQueues (n : Nat) (s : State) : List Nat :=
  let l := (s.host.queues.filter (fun p => p.1 / 512 == n && p.2.sq)).map (fun p => p.1 % 512)
  l.filter (· != 0) ++ l.filter (· == 0)

/-- Controller reset (R68): every I/O queue at once, then the admin queue. -/
def resetCtrl (n : Nat) (s : State) : State := forEach (ctrlQueues n s) (fun q s => resetQueue n q none s) s

/-- A controller's state recorded for the partner. -/
def putCtrl (n : Nat) (c : Ctrl) (s : State) : State := addRec' none (.ctrl n c) (setCtrl n c s)

/-- CONTROLLER_RESET (R68): CC.EN cleared, or the CTRL message. -/
def opControllerReset (n : Nat) (s : State) : State :=
  let c := ctrlOf s n
  if c.live then resetCtrl n (setCtrl n { c with cc := c.cc / 2 * 2 } s) else s

/-- SHUTDOWN (R68): CSTS.SHST reaches 10b. -/
def opShutdown (n : Nat) (s : State) : State :=
  let c := ctrlOf s n
  if c.live then putCtrl n { c with shst := 2 } s else s

/-- DISASSOCIATE (Table 2.4): the association ends with the reset of all its queues. -/
def opDisassociate (n : Nat) (s : State) : State :=
  let c := ctrlOf s n
  if !c.live then s else
  let s := putCtrl n { c with ending := true } s
  if (ctrlQueues n s).contains 0 then resetCtrl n s else putCtrl n { c with live := false, ending := false } s

/-- QUEUE_CONNECTION_CLOSED (R68): an NVMe/TCP queue's connection closed. The end of the admin queue's ends the controller. -/
def opQueueConnectionClosed (cntlid qid : Nat) (s : State) : State :=
  let q := hqOf s (512 * cntlid + qid)
  if !q.sq || !q.tcp then s
  else if qid = 0 then opDisassociate cntlid s else resetQueue cntlid qid none s

/-! ### Connect (R41, R53) -/

/-- The I/O queue pairs in use. -/
def queuePairs (s : State) : Nat := (s.host.queues.filter (fun p => p.1 % 512 != 0 && p.2.sq)).length

/-- MAX_QP as it acts (Table 2.16). -/
def maxQp (s : State) : Nat := min 4096 (rget F.HQ_CTL_MAX_QP s)

/-- A queue made anew in the place of `old`: its CSN spaces and CMDSEQ start over, and the fences of the last reset stand. -/
def freshQueue (old : HQueue) (depth : Nat) (tcp : Bool) (conn : Nat) : HQueue :=
  { sq := true, cq := true, depth := depth, tcp := tcp, conn := conn, fenceA := old.fenceA, fenceB := old.fenceB }

/-- Connect Invalid Parameters. PRESUMED, unsafe: log 80. -/
def stConnectInvalid : Cqe := { sct := 1, sc := 0x82 }

/-- The answer to a Connect; its command carries no CMDSEQ of the queue it makes. -/
def connectReply (cntlid qid : Nat) (tcp : Bool) (cqe : Cqe) (s : State) : State :=
  sendCpl { cntlid := cntlid, qid := qid } tcp false 0 cqe s

/-- The Rearn message size negotiated with node `n` allows its association: 2 MiB + 4 KiB (R41). PRESUMED, unsafe: log 80. -/
def mayAssociate (n : Nat) (s : State) : Bool := decide (2101248 ≤ (kget {} s.rrn.nodes n).maxMsg)

/-- CONNECT (R53): a queue made on connection `conn` of NVMe/TCP; with QID 0 a controller with its admin queue, whose CNTLID the admin owner
assigns (R44). Connection 0 stands for a Chobaoz endpoint's first Connect, which associates it at the admin owner (R41); `cntlid` then names its
node. DESIGN CHOICE, unsafe: log 47. PRESUMED, unsafe: log 80. -/
def opConnect (cntlid qid sqsize conn : Nat) (s : State) : State :=
  let tcp : Bool := conn != 0
  let depth := sqsize + 1
  if !rbit F.HQ_CTL_INTAKE_EN s || !(if tcp then rbit F.HQ_CTL_TCP_EN s else rbit F.HQ_CTL_REARN_EN s) then s
  else if qid = 0 then
    if !tcp && !owns 0 s then s else
    if !tcp && !mayAssociate cntlid s then connectReply cntlid 0 tcp stConnectInvalid s else
    match lowest 1024 (fun n => !(ctrlOf s n).live) with
    | none => connectReply cntlid 0 tcp stConnectInvalid s
    | some n =>
      if 32 < depth then connectReply cntlid 0 tcp stConnectInvalid s else
      let s := addRec' none (.queue n 0 depth true true true 0 conn) (setHq (512 * n) (freshQueue (hqOf s (512 * n)) depth tcp conn) s)
      let s := putCtrl n { live := true, tcp := tcp, session := conn, node := if tcp then 0 else cntlid, attached := s.host.ns.map (·.1), rdy := !tcp, cc := if tcp then 0 else 1 } s
      let s := connectReply n 0 tcp { dw0 := n } s
      if tcp then s else sendCredit n 0 (raiseGrant n s)
  else
    let c := ctrlOf s cntlid
    let k := 512 * cntlid + qid
    if !tcp || !c.live || !c.tcp || 256 < qid || (hqOf s k).sq || 1024 < depth || depth < 2 || maxQp s ≤ queuePairs s then
      connectReply cntlid qid tcp stConnectInvalid s
    else connectReply cntlid qid tcp { dw0 := cntlid } (addRec' none (.queue cntlid qid depth true true true 0 conn) (setHq k (freshQueue (hqOf s k) depth tcp conn) s))

/-! ### Watchdog and drain (R89, R90) -/

/-- LIMIT_MS of a placement has passed (R89). -/
def watchdogFires (i : Nat) (s : State) : State :=
  let x := slotOf s i
  let s := rinc F.TSK_WATCHDOG_EXPIRED 1 (setSlot i { x with fired := true, live := x.live ||| 2 ^ liveWatchdog } s)
  let s := record Ev.TASK_WATCHDOG srcSUP i (pack [(2, i), (1, x.task.typ), (8, x.task.t.getD 0 0)]) s
  let y := slotOf s i
  match y.wait, y.st with
  | some (_, d), .waiting => selectNext (i / 8) (setSlot i { y with st := .ready, wait := none, resume := some (d, 0xFF) } s)
  | _, _ => s

/-- A task that goes to supervisor pair 1 as a local post (R89): of t1 to t14 it keeps what Table 3.2 names for TYPE 4, the low word of t1 as the
work code and t2 to t5 as the arguments, with a new t11. DESIGN CHOICE, unsafe: log 95. -/
def asLocalPost (t : Task) (s : State) : Task :=
  { typ := 4, queue := 3, group := t.group, restarted := true,
    t := [t.t.getD 0 0 % 2 ^ 32, t.t.getD 1 0, t.t.getD 2 0, t.t.getD 3 0, t.t.getD 4 0, 0, 0, 0, 0, 0, intakeTick s, 0, 0, 0] }

/-- TASK_WATCHDOG (R89): a task is not done within LIMIT_MS. A host command before its cancellation point completes with Command Interrupted;
one past it retries its operation once, and one further LIMIT_MS later completes with Data Transfer Error; any other task goes to supervisor pair 1
as a local post with RESTARTED. Buffers whose data still lands are kept until it is in (R86). DEDUCED, unsafe: log 36. -/
def opTaskWatchdog (slot : SlotNo) (retry : Nat → State → State) (s : State) : State :=
  let i := slot.val
  let x := slotOf s i
  if x.st = .free || rget F.TSK_WATCHDOG_LIMIT_MS s = 0 then s
  else if x.fired then if x.task.typ = 1 ∧ x.passed then completeSlot i stXferErr s else s
  else
    let s := watchdogFires i s
    if x.task.typ = 1 then if x.passed then retry i s else completeSlot i stInterrupted (giveUpBuffer x.task s)
    else enqueueTask (asLocalPost x.task s) (freeSlot i s)

/-- TSK_CTL.DRAIN set (R90): t15.DRAIN in every busy slot. -/
def startDrain (s : State) : State :=
  forEach (List.range 512) (fun i s => if slotBusy s i then setLive i liveDrain s else s) (rflag F.TSK_CTL_DRAIN true s)

/-- The host commands in slots. -/
def slotCmds (s : State) : List CmdId :=
  (List.range 512).filterMap (fun i => if slotBusy s i && (slotOf s i).task.typ == 1 then (slotOf s i).task.cmd.map (·.id) else none)

/-- DRAIN_TIMEOUT (R90): 100 ms into the drain the host commands still in slots are handed to the partner for replay, and the slots released. -/
def opDrainTimeout (s : State) : State :=
  if !rbit F.TSK_CTL_DRAIN s then s else
  let s := if (slotCmds s).isEmpty then s else sendPartner (.replay (slotCmds s)) s
  forEach (List.range 512) (fun i s => if slotBusy s i then abandonSlot i s else s) s

end Sys2Proof.Machine
end

