-- ==== Sys2Proof/Machine/HostIo.lean ====
section
/-! DEFINITION. The I/O commands: Write, Read, Write Zeroes, Dataset Management and Flush, and the FETCH of imported chunks (R20, R21, R42, R54,
R57 to R59, R66, R67, R88, R190, R250, R337). Each runs as the Array Runtime's task code for a slot, in one step. -/

namespace Sys2Proof.Machine

open Sys2Proof

/-! ### A host command in its slot -/

/-- The command of a slot whose task code runs, when it is on the queue kind and has the opcode the step names. DESIGN CHOICE, safe: log 27. DESIGN CHOICE, safe: log 43. -/
def slotCmd (i : Nat) (admin : Bool) (opc : Nat) (s : State) : Option HbMsg :=
  let x := slotOf s i
  if (x.st == .running || x.st == .waiting || x.st == .ready) && x.task.typ == 1 then
    x.task.cmd.bind (fun m => if m.sqe.opc = opc ∧ (m.id.qid == 0) = admin then some m else none)
  else none

/-- A command completed before its cancellation point: what it holds is released. -/
def failSlot (i : Nat) (cqe : Cqe) (s : State) : State :=
  completeSlot i cqe (giveUpBuffer (slotOf s i).task s)

/-- A host command's task code: it waits for its data; a refused write completes with CREDIT_EXCEEDED and one whose data failed with Data Transfer
Error (R66, R79, R337). DESIGN CHOICE, safe: log 43. DEDUCED, unsafe: log 44. -/
def hostCmd (i : Nat) (admin : Bool) (opc : Nat) (f : Task → HbMsg → State → State) (s : State) : State :=
  match slotCmd i admin opc s with
  | none => s
  | some m =>
    let x := slotOf s i
    if m.dlen ≠ 64 ∧ m.landed = false then s
    else if !x.passed && (taskOver x.task || x.task.refused) then failSlot i stCreditExceeded s
    else if m.xferOk = false then failSlot i stXferErr s
    else f x.task m s

/-- CANCEL of a slot (R88). -/
def cancelled (i : Nat) (s : State) : Bool := (slotOf s i).live.testBit liveCancel

/-- A slot past its cancellation point. DEDUCED, unsafe: log 44. -/
def passSlot (i : Nat) (s : State) : State := setSlot i { slotOf s i with passed := true } s

/-- The cancellation point (R88): with CANCEL set the command completes with Command Aborted due to SQ Deletion; otherwise its TAKE record is placed
and it goes on, with the WSEQ of a write. DEDUCED, unsafe: log 44. -/
def atPoint (i : Nat) (rd' wrt : Bool) (f : Nat → State → State) (s : State) : State :=
  let x := slotOf s i
  match x.task.cmd with
  | none => s
  | some m =>
    if cancelled i s then failSlot i stAborted s else
    let (w, s) := addRec i x.task.group (.take rd' wrt m.id x.task.wseq m.sqe) s
    f w (passSlot i s)

/-! ### Checks (R54, R250) -/

/-- The namespace of an I/O command, attached to its controller. -/
def ioNs (m : HbMsg) (s : State) : Option Namespace :=
  if (ctrlOf s m.id.cntlid).attached.contains m.sqe.nsid then nsOf m.sqe.nsid s else none

/-- The status that a bad NSID or LBA range gives (R54). -/
def rangeStatus (m : HbMsg) (slba nlb : Nat) (s : State) : Option Cqe :=
  match ioNs m s with
  | none => some stInvalidNs
  | some n => if n.lbas < slba + nlb then some stLbaRange else none

/-- The dirty data of the array at its raw size. -/
def rawDirty (s : State) : Nat := s.arr.dirty.foldl (fun n d => if d.kind = .write then n + d.len else n) 0

/-- A write of `n` bytes finds too little space on the shelves in service (R250). -/
def noSpace (n : Nat) (s : State) : Bool :=
  let there := (List.range 8).filter (fun n => shelfSt n s != .fault && shelfSt n s != .absent)
  let sum := fun (f : Nat → State → Nat) => there.foldl (fun a i => a + f i s) 0
  decide (sum shelfFreeData < rawDirty s + n + sum shelfCapacity / 50)

/-- The namespaces take no writes: a replica (R317), an epoch number at its end (R326), an index tier degraded (R290). -/
def writeProtected (m : HbMsg) (s : State) : Bool := ((ioNs m s).map (·.replica)).getD false || s.mir.seqEnd || s.arr.indexDegraded

/-- Under mirror protocol version 3 a dual-sent write waits at its cancellation point for the shadow's RECEIPT (R337). -/
def awaitsReceipt (m : HbMsg) (s : State) : Bool :=
  !solo s && m.dual && !m.tcp && rget F.PNL_LINK_STATUS_MPV s == 3 && !s.mir.seen.contains m.id

/-! ### Writes (R57, R58) -/

/-- Stage cache ranges that a change overlaps leave the cache. -/
def unstage (nsid x y : Nat) (s : State) : State :=
  { s with host := { s.host with stage := s.host.stage.filter (fun r =>
      !(r.1 == nsid && decide (r.2.1 * 4096 < y) && decide (x < (r.2.1 + r.2.2) * 4096))) } }

/-- A change taken: it is dirty data from here on, and its further steps wait for its completion (R19). A replayed write whose dirty copy stands
already adds none. -/
def addDirty (d : Dirty) (s : State) : State :=
  let s := forEach (dirtyRanges d) (fun p s => unstage d.nsid p.1 (p.1 + p.2) s) s
  if (dirtyOf d.wseq s).isSome then s else onArr (fun a => { a with dirty := a.dirty ++ [d] }) s

/-- The set D copy of a write's landed data: a copy that stands in set D is used as it is. -/
def copyToD (t : Task) (s : State) : Option Nat × State :=
  match taskHandle t with
  | none => (none, s)
  | some h =>
    if hSet h = 1 then (some h, s) else
    let data := taskData t s
    match bpmAlloc .core 1 (caddyFor data.length) s with
    | (none, s) => (none, s)
    | (some d, s) => (some d, setFill d data.length (memWrite (bufAddr d s) data s))

/-- The byte ranges of a change, as far as its data is in; one whose ranges still land is taken to reach everything. -/
def cmdRanges (t : Task) (m : HbMsg) (s : State) : List (Nat × Nat) :=
  if m.sqe.opc ≠ 0x09 then [(4096 * sqeSlba m.sqe, 4096 * sqeNlb m.sqe)]
  else if m.landed then dsmRanges m.sqe (taskData t s) else [(0, 2 ^ 64 * 4096)]

/-- An overlapping change of the same namespace was dispatched before that of slot `i` and is not recorded yet: its TAKE record comes first, so that
records follow DISPATCH_SEQ (R81). -/
def overlapWaits (i : Nat) (s : State) : Bool :=
  let x := slotOf s i
  match x.task.cmd with
  | none => false
  | some m =>
    let mine := cmdRanges x.task m s
    (List.range 512).any (fun j =>
      let y := slotOf s j
      y.st != .free && !y.passed && dispatchedBefore (slotSeq y) (slotSeq x) &&
      match y.task.cmd with
      | some n => y.task.typ == 1 && isWriteSqe n.id.qid n.sqe && n.sqe.nsid == m.sqe.nsid &&
          (cmdRanges y.task n s).any (fun p => mine.any (fun q => decide (p.1 < q.1 + q.2) && decide (q.1 < p.1 + p.2)))
      | none => false)

/-- The Write of a slot. -/
def runWrite (i : Nat) (t : Task) (m : HbMsg) (s : State) : State :=
  let n := 4096 * sqeNlb m.sqe
  if 0x200000 < n ∨ dataLen m ≠ n then failSlot i stInvalidField s else
  match rangeStatus m (sqeSlba m.sqe) (sqeNlb m.sqe) s with
  | some c => failSlot i c s
  | none =>
    if writeProtected m s then failSlot i stWriteProtected s
    else if !t.replay && noSpace n s then failSlot i stCapacity s
    else if awaitsReceipt m s || overlapWaits i s then s
    else if cancelled i s then failSlot i stAborted s
    else
      match copyToD t s with
      | (none, s) => s
      | (some d, s) =>
        atPoint i false true (fun w s =>
          let data := memRead s (bufAddr d s) n
          let s := if m.tcp || solo s then (addRec i t.group (.data m.id data) s).2 else s
          let s := if taskHandle t = some d then s else dropAll (taskHandle t).toList s
          completeSlot i stOk (addDirty (dirtyFrom m.id w m.sqe (some d) [] true s) s)) s

/-- WRITE (R57): the data is copied to set D, the command recorded, the copy dirty, and the completion mirrored. -/
def opWrite (slot : SlotNo) (s : State) : State := hostCmd slot.val false 0x01 (runWrite slot.val) s

/-- A change without data. -/
def runNoData (i : Nat) (m : HbMsg) (data : List Byte) (s : State) : State :=
  if writeProtected m s then failSlot i stWriteProtected s
  else if awaitsReceipt m s || overlapWaits i s then s
  else atPoint i false true (fun w s =>
    let s := if (m.tcp || solo s) && !data.isEmpty then (addRec i (slotOf s i).task.group (.data m.id data) s).2 else s
    let s := dropAll (taskHandle (slotOf s i).task).toList s
    completeSlot i stOk (addDirty (dirtyFrom m.id w m.sqe none data true s) s)) s

/-- WRITE_ZEROES (R57). -/
def opWriteZeroes (slot : SlotNo) (s : State) : State :=
  hostCmd slot.val false 0x08 (fun _ m s =>
    if 512 < sqeNlb m.sqe then failSlot slot.val stInvalidField s else
    match rangeStatus m (sqeSlba m.sqe) (sqeNlb m.sqe) s with
    | some c => failSlot slot.val c s
    | none => runNoData slot.val m [] s) s

/-- DATASET_MANAGEMENT (R58): deallocation (AD of CDW11) of up to 256 ranges; without AD nothing changes. DESIGN CHOICE, unsafe: log 48. -/
def opDatasetManagement (slot : SlotNo) (s : State) : State :=
  hostCmd slot.val false 0x09 (fun t m s =>
    let data := taskData t s
    let bad := (dsmRanges m.sqe data).findSome? (fun p => rangeStatus m (p.1 / 4096) (p.2 / 4096) s)
    match bad with
    | some c => failSlot slot.val c s
    | none =>
      if data.length < 16 * (m.sqe.cdw10 % 256 + 1) then failSlot slot.val stInvalidField s
      else if m.sqe.cdw11.testBit 2 then runNoData slot.val m data s
      else failSlot slot.val stOk s) s

/-! ### Reads (R21, R42, R59, R190) -/

/-- What an LBA holds, before any flash is read: zeroes, bytes of a dirty write, or a byte offset in a stored chunk. -/
inductive LbaSrc where
  | zero
  | dirty (wseq off : Nat)
  | chunk (r : MapRec) (off : Nat)
deriving DecidableEq, Repr

/-- The newest dirty change over an address, with its WSEQ. -/
def dirtyAt (nsid a : Nat) (s : State) : Option Dirty :=
  (s.arr.dirty.filter (fun d => d.nsid == nsid && (dirtyRanges d).any (fun p => decide (p.1 ≤ a) && decide (a < p.1 + p.2)))).foldl
    (fun b d => match b with
      | some x => if x.wseq < d.wseq then some d else b
      | none => some d) none

/-- The map record over an address. -/
def mapAt (nsid a : Nat) (s : State) : Option MapRec := s.arr.maps.find? (overlaps nsid a (a + 1))

/-- The record over an address at a point: the live one when its WSEQ is below the point, else the retained one visible at the point (R302). -/
def mapAtPoint (nsid a point : Nat) (s : State) : Option MapRec :=
  match (mapAt nsid a s).filter (fun r => decide (r.wseq < point)) with
  | some r => some r
  | none => (s.arr.retained.find? (fun r => overlaps nsid a (a + 1) r.rec_ && decide (r.rec_.wseq < point) && decide (point ≤ r.wseqEnd))).map (·.rec_)

/-- The latest REPLICA_POINT of a namespace (R317). -/
def replicaPoint (nsid : Nat) (s : State) : Option Nat :=
  (s.arr.snaps.filter (fun x => x.snapid / 2 ^ 32 == nsid && x.replicaPoint && !x.deleting)).foldl
    (fun b x => some (max (b.getD 0) x.point)) none

/-- The source of an LBA's bytes (R21): the newest of the dirty changes and the map record. A replica is read at its latest replica point. -/
def lbaSrc (nsid a : Nat) (s : State) : LbaSrc :=
  let ofRec := fun (r : Option MapRec) => match r with | some r => LbaSrc.chunk r (r.coff + (a - r.addr)) | none => .zero
  if ((nsOf nsid s).map (·.replica)).getD false then
    match replicaPoint nsid s with
    | some p => ofRec (mapAtPoint nsid a p s)
    | none => .zero
  else
    match dirtyAt nsid a s, mapAt nsid a s with
    | some d, some r => if r.wseq ≤ d.wseq then (if d.kind = .write then .dirty d.wseq (a - d.addr) else .zero) else ofRec (some r)
    | some d, none => if d.kind = .write then .dirty d.wseq (a - d.addr) else .zero
    | none, r => ofRec r

/-- The index entry that a map record reads through. -/
def readEntry (fp : Digest) (kd : Nat) (s : State) : Option IndexEntry :=
  let l := s.arr.index.filter (fun e => e.fp == fp && e.kd == kd && isChunkKind e.kind && e.state != .dead)
  match l.find? (fun e => !e.lost) with
  | some e => some e
  | none => l.head?

/-- Where a record's chunk is: a frame with its length, an import, lost, or nowhere. -/
inductive ChunkAt where
  | frame (loc : Loc) (len : Nat) (e : Option IndexEntry)
  | remote (fp : Digest) (kd exporter : Nat)
  | lost
deriving DecidableEq, Repr

/-- The place of a record's chunk. -/
def chunkAt (r : MapRec) (s : State) : ChunkAt :=
  match r.fp with
  | none =>
    match (s.arr.stripes.find? (·.stripe == r.frame.stripe)).bind (fun t => t.frames.find? (fun f => f.off == r.frame.off)) with
    | some f => .frame r.frame f.len none
    | none => .lost
  | some fp =>
    match readEntry fp r.kd s with
    | none => .lost
    | some e =>
      if e.lost then .lost else
      match e.kind with
      | .chunk l => .frame l e.frameLen (some e)
      | .importFrom x => .remote fp r.kd x
      | _ => .lost

/-- The records of the stored chunks that a list of sources needs. -/
def recsOf (l : List LbaSrc) : List MapRec := (l.filterMap (fun x => match x with | .chunk r _ => some { r with addr := 0, len := 0, coff := 0, wseq := 0 } | _ => none)).eraseDups

/-- An LBA lies in the stage cache. -/
def staged (nsid lba : Nat) (s : State) : Bool := s.host.stage.any (fun r => r.1 == nsid && decide (r.2.1 ≤ lba) && decide (lba < r.2.1 + r.2.2))

/-- A shelf's drives can be read. -/
def shelfReads (n : Nat) (s : State) : Bool := shelfAwake n s || shelfSt n s == .draining

/-- The shelf that an LBA needs and that sleeps: none for dirty data, deallocated LBAs, steeping frames and the stage cache (R59). -/
def sleeping (nsid lba : Nat) (src : LbaSrc) (s : State) : Option Nat :=
  match src with
  | .chunk r _ =>
    if staged nsid lba s then none else
    match chunkAt r s with
    | .frame l _ _ => if (steepOf l.stripe s).isSome || shelfReads l.shelf s then none else some l.shelf
    | _ => none
  | _ => none

/-- CRD of a sleeping shelf (Table 2.9): 1 or 2 while its links come up, by whether the drives are expected ready within 5 s, which is a free
value; 2 while it powers up or its wake waits; 3 with no wake pending. DESIGN CHOICE, safe: log 92. -/
def crdOf (n : Nat) (s : State) : Nat :=
  match shelfSt n s with
  | .linking => if Config.linkSeconds n s.freeCtr ≤ 5 then 1 else 2
  | .powering => 2
  | _ => if s.arr.requests.any (·.1 == n) then 2 else 3

/-- Namespace Not Ready, with the CRD when the host enabled Advanced Command Retry (R59). -/
def notReadyCqe (m : HbMsg) (crd : Nat) (s : State) : Cqe := { stNotReady with crd := if (ctrlOf s m.id.cntlid).acre then crd else 0 }

/-- The chunk of a record: its bytes, or `none` when it is lost; a frame that fails every step of R206 is marked lost. -/
def recChunk (r : MapRec) (s : State) : Option (List Byte) × State :=
  match chunkAt r s with
  | .frame l n e =>
    match readStored l n s with
    | (some b, s) => (some b, s)
    | (none, s) => (none, match e with | some e => loseChunk e s | none => s)
  | .remote fp kd _ => (((s.arr.fetched.find? (fun f => f.1 == fp && f.2.1 == kd)).bind (fun f => chunkOf f.2.2 s)), s)
  | .lost => (none, s)

/-- The chunks of several records. -/
def recChunks (l : List MapRec) (s : State) : List (MapRec × Option (List Byte)) × State :=
  l.foldl (fun (acc : List (MapRec × Option (List Byte)) × State) r =>
    let (b, s) := recChunk r acc.2
    (acc.1 ++ [(r, b)], s)) ([], s)

/-- The bytes of one LBA from the chunks read. -/
def lbaBytes (cs : List (MapRec × Option (List Byte))) (src : LbaSrc) (s : State) : Option (List Byte) :=
  match src with
  | .zero => some (List.replicate 4096 0)
  | .dirty w o => (dirtyOf w s).map (fun d => ((dirtyData d s).drop o).take 4096)
  | .chunk r o =>
    match cs.find? (fun c => c.1 == { r with addr := 0, len := 0, coff := 0, wseq := 0 }) with
    | some (_, some b) => some ((b.drop o).take 4096)
    | _ => none

/-- The imported chunks that a list of records needs and that are not in the fetch window. -/
def missing (l : List MapRec) (s : State) : List (Digest × Nat × Nat) :=
  l.filterMap (fun r => match chunkAt r s with
    | .remote fp kd x => if s.arr.fetched.any (fun f => f.1 == fp && f.2.1 == kd) then none else some (fp, kd, x)
    | _ => none)

/-- FETCH sent for each chunk that a slot's read waits for, unless the read already waits for it (R190). -/
def sendFetches (i : Nat) (l : List (Digest × Nat × Nat)) (s : State) : State :=
  forEach l (fun f s =>
    if s.arr.fetches.any (fun x => x.fp == f.1 && x.kd == f.2.1 && x.slot == i) then s else
    sendDedup f.2.2 8 { kd := f.2.1, fp := f.1, loc := s.arr.arrayNum }
      (onArr (fun a => { a with fetches := a.fetches ++ [{ fp := f.1, kd := f.2.1, exporter := f.2.2, slot := i }] }) s)) s

/-- The imported frames that no waiting read needs any more leave the fetch window. -/
def clearFetched (i : Nat) (s : State) : State :=
  onArr (fun a => { a with fetches := a.fetches.filter (·.slot != i), fetched := if a.fetches.all (·.slot == i) then [] else a.fetched }) s

/-- The end of a slot's read: the data goes to the host's window, then the completion (R42, R47). -/
def finishRead (i : Nat) (m : HbMsg) (srcs : List LbaSrc) (s : State) : State :=
  let recs := recsOf srcs
  let (cs, s) := recChunks recs s
  let l := srcs.map (fun x => lbaBytes cs x s)
  let s := memberSettle (clearFetched i s)
  if l.any (·.isNone) then completeSlot i stUnrecovered s
  else completeSlot i stOk (sendData m (l.map (·.getD [])).flatten s)

/-- The Read of a slot. Past its cancellation point it waits for the imported chunks it asked for. -/
def runRead (i : Nat) (m : HbMsg) (s : State) : State :=
  if 512 < sqeNlb m.sqe then failSlot i stInvalidField s else
  match rangeStatus m (sqeSlba m.sqe) (sqeNlb m.sqe) s with
  | some c => failSlot i c s
  | none =>
    let lbas := (List.range (sqeNlb m.sqe)).map (sqeSlba m.sqe + ·)
    let srcs := lbas.map (fun b => lbaSrc m.sqe.nsid (4096 * b) s)
    let asleep := (lbas.zip srcs).filterMap (fun p => sleeping m.sqe.nsid p.1 p.2 s)
    let passed := (slotOf s i).passed
    if asleep ≠ [] ∧ passed = false then failSlot i (notReadyCqe m (asleep.foldl (fun c n => max c (crdOf n s)) 0) s) (tickFree s)
    else
      let go := fun (s : State) =>
        match missing (recsOf srcs) s with
        | [] => finishRead i m srcs s
        | l => sendFetches i l s
      if passed then go s else atPoint i true false (fun _ s => go s) s

/-- READ (R21, R59). -/
def opRead (slot : SlotNo) (s : State) : State := hostCmd slot.val false 0x02 (fun _ m s => runRead slot.val m s) s

/-- A slot's read runs on, after a FETCH was answered or by the watchdog's retry (R89, R190). -/
def resumeRead (i : Nat) (s : State) : State :=
  match slotCmd i false 0x02 s with
  | some m => if (slotOf s i).passed then runRead i m s else s
  | none => s

/-- The watchdog's one retry of a command past its cancellation point (R89): a read asks again for what it waits for. DEDUCED, unsafe: log 36. -/
def retrySlot (i : Nat) (s : State) : State := resumeRead i (onArr (fun a => { a with fetches := a.fetches.filter (·.slot != i) }) s)

/-- FETCH (R190): at the exporter the frame is read and placed in the importer's window; at the importer the answer lets the reads that wait go on:
the frame arrived, the chunk is gone (Unrecovered Read Error, R297), its shelf sleeps (Namespace Not Ready with the exporter's CRD), the exporter is
busy (asked again), or it cannot be reached (Namespace Not Ready, CRD 3). -/
def opFetch (m : DedupMsg) (s : State) : State :=
  let waits := s.arr.fetches.filter (fun f => f.fp == m.fp && f.kd == m.kd && f.exporter == m.from_)
  if waits.isEmpty then fetchExport m s else
  let asked := fun (s : State) => onArr (fun a => { a with fetches := a.fetches.filter (fun f => !(f.fp == m.fp && f.kd == m.kd && f.exporter == m.from_)) }) s
  let end_ := fun (cqe : HbMsg → State → Cqe) (s : State) => forEach waits (fun f s =>
    match slotCmd f.slot false 0x02 s with
    | some h => if (slotOf s f.slot).passed then completeSlot f.slot (cqe h s) (clearFetched f.slot s) else s
    | none => s) (asked s)
  match m.result with
  | 0 => forEach waits (fun f s => resumeRead f.slot s) (onArr (fun a => { a with fetched := a.fetched ++ [(m.fp, m.kd, m.frame)] }) s)
  | 2 => end_ (fun _ _ => stUnrecovered) s
  | 4 => forEach waits (fun f s => resumeRead f.slot s) (asked s)
  | 5 => end_ (fun h s => notReadyCqe h m.crd s) s
  | _ => end_ (fun h s => notReadyCqe h 3 s) s

/-! ### Flush (R67) -/

/-- The commands of a queue that are writes and came before CMDSEQ `c`. -/
def earlierWrites (k c : Nat) (s : State) : List Nat :=
  let of_ := fun (m : HbMsg) => if idKey m.id = k ∧ isWriteSqe m.id.qid m.sqe ∧ seqBefore m.id.cmdseq c then some m.id.cmdseq else none
  let slots := (List.range 512).filterMap (fun i => if slotBusy s i then (slotOf s i).task.cmd.bind of_ else none)
  let queued := (s.task.q.getD 1 []).filterMap (fun t => t.cmd.bind of_)
  (slots ++ queued ++ s.host.noR2t.filterMap of_ ++ s.host.ring.filterMap (fun r => of_ r.m)).filter ((hqOf s k).open_.contains ·)

/-- FLUSH (R67): the command waits in its slot and completes when every write before it on its queue has completed. -/
def opFlush (slot : SlotNo) (s : State) : State :=
  hostCmd slot.val false 0x00 (fun t m s =>
    if (slotOf s slot.val).passed then s
    else if m.sqe.nsid ≠ 0xFFFFFFFF ∧ (ioNs m s).isNone then failSlot slot.val stInvalidNs s else
    atPoint slot.val false false (fun _ s =>
      let l := earlierWrites (idKey m.id) m.id.cmdseq s
      let s := waitSlot slot.val s
      settleQueues { s with host := { s.host with flushes := s.host.flushes ++ [(t, l)] } }) s) s

/-- BUFFER_RETRY of set D also lets the writes that wait for a buffer go on (R545). -/
def retryWrites (s : State) : State :=
  forEach (List.range 512) (fun i s => hostCmd i false 0x01 (runWrite i) s) s

end Sys2Proof.Machine
end

