-- ==== Sys2Proof/Machine/HostAdmin.lean ====
section
/-! DEFINITION. The admin commands: log pages, Identify, features, namespaces, queues, properties, Stage, Shelf Control, Event Recorder Read and
Ownership Handover (R44, R53 to R56, R60 to R62, R68, R266, R268, R307, R351, R413). -/

namespace Sys2Proof.Machine

open Sys2Proof

/-! ### Shape of an admin command -/

/-- A command completed, its data buffer released. -/
def doneSlot (i : Nat) (cqe : Cqe) (s : State) : State := failSlot i cqe s

/-- An admin command's task code: its cancellation point on entry with its TAKE record (R88); a head-local command makes no record. DESIGN CHOICE, safe: log 43. -/
def adminCmd (i : Nat) (opc : Nat) (f : Task → HbMsg → State → State) (s : State) : State :=
  hostCmd i true opc (fun t m s =>
    if m.loc then if cancelled i s then failSlot i stAborted s else f t m (passSlot i s)
    else atPoint i false false (fun _ s => f t m s) s) s

/-- Bytes of an NVMe structure that the manual leaves open. -/
def openBytes_ (page n : Nat) (s : State) : List Byte := (List.range n).map (fun i => Config.nvmeByte page i s.freeCtr)

/-- A list with bytes replaced from an offset. DESIGN CHOICE, safe: log 19. -/
def patch (o : Nat) (x : List Byte) (l : List Byte) : List Byte := l.take o ++ x ++ l.drop (o + x.length)

/-! ### Log pages (R56, R268, R307) -/

/-- The stage cache's and the maps' answer to what a retained record alone names (Table 10.1): the frame bytes. -/
def retainedBytes (x : Snapshot) (s : State) : Nat :=
  let nsid := x.snapid / 2 ^ 32
  let rs := s.arr.retained.filter (fun r => r.rec_.nsid == nsid && decide (r.rec_.wseq < x.point) && decide (x.point ≤ r.wseqEnd))
  let cs := (rs.filterMap (fun r => r.rec_.fp.map (fun f => (f, r.rec_.kd)))).eraseDups
  (cs.filter (fun c => !s.arr.maps.any (fun r => r.fp == some c.1 && r.kd == c.2))).foldl
    (fun n c => n + ((readEntry c.1 c.2 s).map (·.frameLen)).getD 0) 0

/-- An entry of the Snapshot List (Table 10.1). -/
def snapEntry (s : State) (x : Snapshot) : List Byte :=
  let b := fun (c : Bool) (n : Nat) => if c then n else 0
  padTo 64 (leBytes 8 x.snapid ++ leBytes 8 x.point ++ leBytes 8 x.created ++
    leBytes 1 (b x.scheduled 1 + b x.replicaPoint 2 + b (x.inUse != 0) 4 + b x.deleting 8) ++ List.replicate 7 0 ++
    leBytes 8 (retainedBytes x s) ++ leBytes 8 x.sourceSnapid ++ leBytes 2 x.lastTarget)

/-- Log page C0h (R307). -/
def snapPage (nsid : Nat) (s : State) : List Byte :=
  let l := (s.arr.snaps.filter (fun x => nsid == 0xFFFFFFFF || x.snapid / 2 ^ 32 == nsid)).mergeSort (fun a b => decide (a.snapid ≤ b.snapid))
  padTo 64 (leBytes 4 1 ++ leBytes 4 l.length ++ leBytes 4 s.arr.snaps.length) ++ (l.map (snapEntry s)).flatten

/-- A shelf is PRESENT. -/
def shelfPresent (n : Nat) (s : State) : Bool := rtest F.SHF_CTL_PRESENT n s

/-- An entry of the Shelf Status page (Table 8.8). -/
def shelfEntry (s : State) (n : Nat) : List Byte :=
  let x := shelfOf n s
  let hs := holdsOn n s
  let b := fun (c : Bool) (k : Nat) => if c then k else 0
  let count := fun (t : MemberState) => ((shelfDrives n).filter (fun d => (memberOf d s).st == t)).length
  let live := (s.arr.zoneSets.filter (fun p => p.2.shelf == n)).foldl (fun k p => k + liveBytes p.1 s) 0
  padTo 64 (leBytes 1 (shelfState n s) ++
    leBytes 1 (b (shelfPresent n s) 1 + b (hs.contains .hostPin) 2 + b ((writeOpen s).contains n) 4 + b (hs.contains .stage) 8 +
      b (hs.contains .rebuild) 16 + b x.retention 32 + b (rbit F.SHF_STATE_ALERT_LATCH s n) 64) ++
    leBytes 1 (count .inService) ++ leBytes 1 (count .spare) ++ leBytes 1 (count .failed) ++ List.replicate 3 0 ++
    leBytes 8 (shelfCapacity n s) ++ leBytes 8 live ++ leBytes 8 (shelfFree n s) ++ leBytes 8 x.lastWake ++
    leBytes 4 ((x.due - rget F.CLK_ALARM_RTC_SEC s) / 3600) ++ leBytes 4 x.wakes ++ leBytes 8 x.awakeSec ++ leBytes 4 x.faults)

/-- Log page C4h (R268). DESIGN CHOICE, safe: log 20. -/
def shelfPage (s : State) : List Byte :=
  padTo 64 (leBytes 1 1 ++ leBytes 1 (countBelow 8 (fun n => shelfPresent n s)) ++ leBytes 1 (budgetOf s) ++ leBytes 1 (shelvesUp s) ++
    leBytes 1 (s.arr.writeShelf.getD 0xFF) ++ leBytes 1 (s.arr.nextShelf.getD 0xFF)) ++ ((List.range 8).map (shelfEntry s)).flatten

/-- The Asymmetric Namespace Access page: per group its ANAGRPID, its namespaces and its state here, 01h Optimized, 03h Inaccessible, 0Fh Transition
during a planned handover (R51); the change counts are left open. PRESUMED, unsafe: log 46. -/
def anaPage (s : State) : List Byte :=
  let gs := (List.range 256).filter (fun g => s.host.ns.any (fun p => p.2.group == g))
  let desc := fun (g : Nat) =>
    let l := (s.host.ns.filter (fun p => p.2.group == g)).map (·.1)
    leBytes 4 (g + 1) ++ leBytes 4 l.length ++ openBytes_ (0x0C00 + g) 8 s ++
      leBytes 1 (if movingGroup g s then 0x0F else if owns g s then 1 else 3) ++ List.replicate 15 0 ++
      (l.map (leBytes 4)).flatten
  openBytes_ 0x0C 8 s ++ leBytes 2 gs.length ++ List.replicate 6 0 ++ (gs.map desc).flatten

/-- The I/O port and the discovery port of NVMe/TCP, and the largest data PDU a host may send (R50). -/
def tcpIoPort : Nat := 4420
def tcpDiscoveryPort : Nat := 8009
def maxH2cData : Nat := 131072

/-- The Error Information page (01h): an entry of 64 bytes for each command that failed, newest first, with its number, queue, command, status and
namespace; the fields the manual does not give are left open. PRESUMED, unsafe: log 46. DESIGN CHOICE, unsafe: log 49. -/
def errorPage (s : State) : List Byte :=
  padTo 4096 ((s.host.errorLog.map (fun e =>
    patch 0 (leBytes 8 e.count ++ leBytes 2 e.qid ++ leBytes 2 e.cid ++ leBytes 2 (2 * e.status))
      (patch 24 (leBytes 4 e.nsid) (openBytes_ (0x10000 + e.count) 64 s)))).flatten)

/-- The Firmware Slot Information page (03h) of this head: slot 1 is image slot A and slot 2 image slot B (Table 2.7); the running slot of the
Runtime in bits 2:0 of byte 0, its trial slot in bits 6:4, the revisions left open. PRESUMED, unsafe: log 46. -/
def slotPage (s : State) : List Byte :=
  let dir := match s.sec.dirs with
    | [a, b] => if a.seq < b.seq then b else a
    | l => l.headD {}
  let next := match dir.trial.getD 1 none with
    | some k => k + 1
    | none => 0
  patch 0 (leBytes 1 (rget F.SEC_IMAGE_SLOT_RUNTIME s % 2 + 1 + 16 * next) ++ List.replicate 7 0) (openBytes_ 0x03 512 s)

/-- The Commands Supported and Effects page (05h): CSUPP, bit 0 of each opcode's word, as Table 2.6 has it, for the admin and then the I/O
opcodes; the effects left open. PRESUMED, unsafe: log 46. -/
def effectsPage (m : HbMsg) (s : State) : List Byte :=
  let word := fun (qid o : Nat) =>
    let free := ofLe (openBytes_ (0x20000 + 256 * qid + o) 4 s)
    leBytes 4 (free / 2 * 2 + (if accepted { m with id := { m.id with qid := qid }, sqe := { opc := o } } then 1 else 0))
  padTo 4096 (((List.range 256).map (word 0)).flatten ++ ((List.range 256).map (word 1)).flatten)

/-- The Discovery page (70h): a record for each address of this head's, NVMe/TCP at the I/O port (R50); the other fields left open. PRESUMED, unsafe:
log 46. PRESUMED, unsafe: log 46. -/
def discoveryPage (s : State) : List Byte :=
  let addrs := (List.range 8).filter (fun i => rget F.NET_IP_ADDR_ADDR s (2 * i) != 0 || rget F.NET_IP_ADDR_ADDR s (2 * i + 1) != 0)
  let digits := (Nat.toDigits 10 tcpIoPort).map (fun c => BitVec.ofNat 8 c.toNat)
  let rec_ := fun (i : Nat) => patch 0 [3] (patch 32 (padTo 32 digits) (openBytes_ (0x30000 + i) 1024 s))
  padTo 1024 (openBytes_ 0x70 8 s ++ leBytes 8 addrs.length) ++ (addrs.map rec_).flatten

/-- A log page (Table 2.8): `none` for another identifier, for the pages of NVMe/TCP on the Rearn binding. Before an Attestation
Report its page reads as zeros (R449). DESIGN CHOICE, safe: log 19. DESIGN CHOICE, unsafe: log 49. -/
def logPage (m : HbMsg) (s : State) : Option (List Byte) :=
  match m.sqe.cdw10 % 256 with
  | 0x01 => some (errorPage s)
  | 0x02 => some (patch 1 (leBytes 2 (s.pwr.tj + 273).toNat) (openBytes_ 0x02 512 s))
  | 0x03 => some (slotPage s)
  | 0x04 => some (padTo 4096 (s.host.changedNs.map (leBytes 4)).flatten)
  | 0x05 => some (effectsPage m s)
  | 0x0C => if m.tcp then some (anaPage s) else none
  | 0x70 => if m.tcp then some (discoveryPage s) else none
  | 0xC0 => some (snapPage m.sqe.nsid s)
  | 0xC4 => some (shelfPage s)
  | 0xC5 => some (kget [] s.host.attest m.id.cntlid)
  | _ => none

/-- GET_LOG_PAGE (R56): the bytes asked for from the log page offset, at most MDTS of them (R53); a read of the one Changed Namespace List of all
controllers clears it unless RAE is set. DESIGN CHOICE, unsafe: log 49. -/
def opGetLogPage (slot : SlotNo) (s : State) : State :=
  adminCmd slot.val 0x02 (fun _ m s =>
    match logPage m s with
    | none => doneSlot slot.val stInvalidLog s
    | some l =>
      let n := 4 * (m.sqe.cdw11 % 65536 * 65536 + m.sqe.cdw10 / 65536 + 1)
      let o := m.sqe.cdw13 * 2 ^ 32 + m.sqe.cdw12
      if 0x200000 < n then doneSlot slot.val stInvalidField s else
      let s := tickFree (sendData m (padTo n (l.drop o)) s)
      let s := if m.sqe.cdw10 % 256 = 4 ∧ m.sqe.cdw10.testBit 15 = false then { s with host := { s.host with changedNs := [] } } else s
      doneSlot slot.val stOk s) s

/-! ### Identify (R55) -/

/-- The Identify Controller data: the values of Table 2.7 and Table 2.5 at the offsets of the NVMe specification, the rest left open. DESIGN CHOICE, safe: log 19. PRESUMED, unsafe: log 46. -/
def identCtrl (m : HbMsg) (s : State) : List Byte :=
  patch 77 [9] (patch 78 (leBytes 2 m.id.cntlid) (patch 128 (leBytes 2 10 ++ leBytes 2 100 ++ leBytes 2 600) (patch 259 [7] (patch 260 [0x14]
    (patch 342 [if m.tcp then 10 else 0, if m.tcp then 0x15 else 0] (patch 520 (leBytes 2 0x000C) (patch 525 [0] (patch 526 (leBytes 2 511 ++ leBytes 2 511)
      (patch 1792 (leBytes 4 4) (openBytes_ 0x100 4096 s))))))))))

/-- The Identify Namespace data. DESIGN CHOICE, safe: log 19. PRESUMED, unsafe: log 46. -/
def identNs (n : Namespace) (s : State) : List Byte :=
  patch 0 (leBytes 8 n.lbas ++ leBytes 8 n.lbas) (patch 24 [0x02, 0] (patch 33 [0x01] (patch 34 (leBytes 2 511 ++ leBytes 2 511)
    (patch 40 (leBytes 2 0) (patch 44 (leBytes 2 0) (patch 92 (leBytes 4 (n.group + 1)) (patch 128 (leBytes 4 (12 * 65536))
      (openBytes_ 0x101 4096 s))))))))

/-- A list of identifiers above one, of `w` bytes each. -/
def idList (w n lo : Nat) (l : List Nat) : List Byte := padTo n (((l.filter (fun x => decide (lo < x))).map (leBytes w)).flatten)

/-- IDENTIFY (R55). -/
def opIdentify (slot : SlotNo) (s : State) : State :=
  adminCmd slot.val 0x06 (fun _ m s =>
    let ok := fun (l : List Byte) (s : State) => doneSlot slot.val stOk (tickFree (sendData m l s))
    let all := s.host.ns.map (·.1)
    let att := all.filter ((ctrlOf s m.id.cntlid).attached.contains ·)
    let ctrls := fun (p : Nat → Bool) =>
      let l := ((s.host.ctrls.filter (fun c => c.2.live && p c.1)).map (·.1)).filter (fun n => decide (m.sqe.cdw10 / 65536 ≤ n))
      padTo 4096 (leBytes 2 l.length ++ (l.map (leBytes 2)).flatten)
    match m.sqe.cdw10 % 256 with
    | 0x00 => match ioNs m s with | some n => ok (identNs n s) s | none => doneSlot slot.val stInvalidNs s
    | 0x01 => ok (identCtrl m s) s
    | 0x02 => ok (idList 4 4096 m.sqe.nsid att) s
    | 0x03 => if (nsOf m.sqe.nsid s).isSome then ok (openBytes_ 0x103 4096 s) s else doneSlot slot.val stInvalidNs s
    | 0x10 => ok (idList 4 4096 m.sqe.nsid all) s
    | 0x11 => match nsOf m.sqe.nsid s with | some n => ok (identNs n s) s | none => doneSlot slot.val stInvalidNs s
    | 0x12 => ok (ctrls (fun n => (ctrlOf s n).attached.contains m.sqe.nsid)) s
    | 0x13 => ok (ctrls (fun _ => true)) s
    | _ => doneSlot slot.val stInvalidField s) s

/-! ### Abort, features, events (R53, R54, R68) -/

/-- ABORT (R68): it never aborts. -/
def opAbort (slot : SlotNo) (s : State) : State := adminCmd slot.val 0x08 (fun _ _ s => doneSlot slot.val { dw0 := 1 } s) s

/-- KEEP_ALIVE (R54). -/
def opKeepAlive (slot : SlotNo) (s : State) : State := adminCmd slot.val 0x18 (fun _ _ s => doneSlot slot.val stOk s) s

/-- The queues granted of a Number of Queues request, 0's based: at most 256. -/
def queuesGranted (v : Nat) : Nat := min (v % 65536) 255 + min (v / 65536) 255 * 65536

/-- SET_FEATURES (R54, Table 2.6). -/
def opSetFeatures (slot : SlotNo) (s : State) : State :=
  adminCmd slot.val 0x09 (fun t m s =>
    let n := m.id.cntlid
    let c := ctrlOf s n
    let v := m.sqe.cdw11
    let set_ := fun (c : Ctrl) (dw0 : Nat) (s : State) => doneSlot slot.val { dw0 := dw0 } (putCtrl n c s)
    match m.sqe.cdw10 % 256 with
    | 0x04 => set_ { c with temps := c.temps.filter (·.1 != v / 65536 % 64) ++ [(v / 65536 % 64, v % 65536)] } 0 s
    | 0x07 => set_ { c with nqs := queuesGranted v } (queuesGranted v) s
    | 0x0B => set_ { c with aerCfg := v } 0 s
    | 0x0F => set_ { c with kato := v } 0 s
    | 0x16 => set_ { c with acre := (taskData t s).head? == some 1 } 0 s
    | 0x81 => set_ { c with hostId := ofLe ((taskData t s).take (if v % 2 = 1 then 16 else 8)) } 0 s
    | _ => doneSlot slot.val stInvalidField s) s

/-- GET_FEATURES (R54, Table 2.6). -/
def opGetFeatures (slot : SlotNo) (s : State) : State :=
  adminCmd slot.val 0x0A (fun _ m s =>
    let c := ctrlOf s m.id.cntlid
    let dw := fun (v : Nat) (s : State) => doneSlot slot.val { dw0 := v } s
    match m.sqe.cdw10 % 256 with
    | 0x04 =>
      match c.temps.find? (·.1 == m.sqe.cdw11 / 65536 % 64) with
      | some t => dw t.2 s
      | none => dw (ofLe (openBytes_ 0x104 2 s)) (tickFree s)
    | 0x07 => dw c.nqs s
    | 0x0B => dw c.aerCfg s
    | 0x0F => dw c.kato s
    | 0x16 => dw 0 (sendData m (padTo 512 [if c.acre then 1 else 0]) s)
    | 0x81 => dw 0 (sendData m (leBytes (if m.sqe.cdw11 % 2 = 1 then 16 else 8) c.hostId) s)
    | _ => doneSlot slot.val stInvalidField s) s

/-- ASYNCHRONOUS_EVENT_REQUEST (R53): held, up to 8 on a controller; the command gives up its slot. DESIGN CHOICE, unsafe: log 48. -/
def opAsyncEventRequest (slot : SlotNo) (s : State) : State :=
  adminCmd slot.val 0x0C (fun _ m s =>
    let c := ctrlOf s m.id.cntlid
    if 8 ≤ c.aers.length then doneSlot slot.val stAerLimit s
    else freeSlot slot.val (setCtrl m.id.cntlid { c with aers := c.aers ++ [m.id] } s)) s

/-- DW0 of a Namespace Attribute Changed notice. PRESUMED, unsafe: log 46. -/
def noticeNs : Nat := 0x040002

/-- The attached namespaces changed: the Changed Namespace List grows, and controllers that asked for the notice have it. -/
def nsChanged (nsid : Nat) (s : State) : State :=
  let s := { s with host := { s.host with changedNs := (s.host.changedNs.filter (· != nsid)) ++ [nsid] } }
  forEach (s.host.ctrls.map (·.1)) (fun n s => if (ctrlOf s n).live && (ctrlOf s n).aerCfg.testBit 8 then asyncEvent n noticeNs s else s) s

/-! ### Namespaces (R184, R322, R466) -/

/-- The two heads' health words carry different Array Runtime versions (R466). -/
def versionsDiffer (s : State) : Bool := s.mir.healthLast.version != 0x0402

/-- A namespace put into, or taken out of, the table that both heads hold. -/
def putNs (n : Nat) (x : Option Namespace) (s : State) : State :=
  let h := s.host
  addRec' none (.ns n x) (cfgChanged { s with host := { h with ns := match x with | some y => kput h.ns n y | none => kdel h.ns n } })

/-- The group with the fewest namespaces, the lowest number on a tie (R322). -/
def newGroup (s : State) : Nat :=
  let cnt := fun (g : Nat) => (s.host.ns.filter (fun p => p.2.group == g)).length
  (List.range 256).foldl (fun b g => if cnt g < cnt b then g else b) 0

/-- The namespace that a create's data asks for: NSZE, and in the vendor bytes DEDUP_SCOPE, the compression class, the stripe width and the key
domain; `none` for a value out of range. DESIGN CHOICE, unsafe: log 47. -/
def nsFrom (d : List Byte) (s : State) : Option Namespace :=
  let b := fun (o n : Nat) => ofLe ((d.drop o).take n)
  let width := if b 386 1 = 0 then 16 else b 386 1
  if b 0 8 = 0 ∨ b 384 1 > 2 ∨ b 385 1 > 3 ∨ width < 4 ∨ 32 < width ∨ b 388 2 > 0xFFF then none
  else some { lbas := b 0 8, group := newGroup s, width := width, cls := b 385 1,
              scope := if b 384 1 = 0 then .none else if b 384 1 = 1 then .array else .domain, kd := b 388 2 }

/-- A namespace removed: its records leave the maps with the references they held, its snapshots the catalogue, its dirty writes are given up. DESIGN CHOICE, unsafe: log 47. -/
def dropNs (n : Nat) (s : State) : State :=
  let kd := ((nsOf n s).map (·.kd)).getD 0xFFF
  let ds := s.arr.dirty.filter (fun d => d.nsid == n)
  let s := forEach ds (fun d s => forEach d.chunks (fun c s =>
      if d.committed || !c.settled || c.loc.isSome then s else transact (some d.group) (dropHold c.fp kd s.arr) s) (dropAll d.handle.toList s)) s
  let s := onArr (fun a => { a with dirty := a.dirty.filter (fun d => d.nsid != n) }) s
  let cs := (s.arr.maps.filter (·.nsid == n)).map (fun r => IndexChange.mapDel r.nsid r.addr) ++
    (s.arr.retained.filter (fun r => r.rec_.nsid == n)).map (fun r => IndexChange.retDel n r.rec_.addr r.rec_.wseq) ++
    (s.arr.snaps.filter (fun x => x.snapid / 2 ^ 32 == n)).map (fun x => IndexChange.snapDel x.snapid)
  nsChanged n (putNs n none (transact none (withRefs cs s.arr) s))

/-- NAMESPACE_MANAGEMENT (R322): SEL 0 creates a namespace, SEL 1 deletes one. -/
def opNamespaceManagement (slot : SlotNo) (s : State) : State :=
  adminCmd slot.val 0x0D (fun t m s =>
    let i := slot.val
    if versionsDiffer s then doneSlot i stSeqErr s else
    match m.sqe.cdw10 % 16 with
    | 0 =>
      match nsFrom (taskData t s) s with
      | none => doneSlot i stInvalidField s
      | some n =>
        let id := ((lowest 0x10000 (fun k => (nsOf (k + 1) s).isNone)).getD 0) + 1
        doneSlot i { dw0 := id } (putNs id (some n) s)
    | 1 =>
      let ids := if m.sqe.nsid = 0xFFFFFFFF then s.host.ns.map (·.1) else [m.sqe.nsid]
      if ids.any (fun n => (nsOf n s).isNone) then doneSlot i stInvalidNs s
      else if s.arr.snaps.any (fun x => ids.contains (x.snapid / 2 ^ 32) && x.inUse != 0) then doneSlot i stSeqErr s
      else doneSlot i stOk (forEach ids dropNs s)
    | _ => doneSlot i stInvalidField s) s

/-- The controllers of a controller list. -/
def ctrlList (d : List Byte) : List Nat := (List.range (min 2047 (ofLe (d.take 2)))).map (fun i => ofLe ((d.drop (2 + 2 * i)).take 2))

/-- NAMESPACE_ATTACHMENT (R54): SEL 0 attaches, SEL 1 detaches. DESIGN CHOICE, unsafe: log 47. -/
def opNamespaceAttachment (slot : SlotNo) (s : State) : State :=
  adminCmd slot.val 0x15 (fun t m s =>
    let i := slot.val
    let l := ctrlList (taskData t s)
    let sel := m.sqe.cdw10 % 16
    if (nsOf m.sqe.nsid s).isNone then doneSlot i stInvalidNs s
    else if versionsDiffer s then doneSlot i stSeqErr s
    else if 1 < sel || l.isEmpty || l.any (fun n => !(ctrlOf s n).live) then doneSlot i stInvalidField s
    else
      let s := forEach l (fun n s =>
        let c := ctrlOf s n
        let rest := c.attached.filter (· != m.sqe.nsid)
        putCtrl n { c with attached := if sel = 0 then rest ++ [m.sqe.nsid] else rest } s) s
      doneSlot i stOk (nsChanged m.sqe.nsid s)) s

/-! ### Queues and properties (R53, R68) -/

/-- A queue's state recorded for the partner. -/
def putQueue (cntlid qid : Nat) (q : HQueue) (s : State) : State := addRec' none (.queue cntlid qid q.depth true q.sq q.cq q.cqid q.conn) (setHq (512 * cntlid + qid) q s)

/-- CREATE_IO_CQ (R53). Its depth is that of the queue while no submission queue of its number exists. -/
def opCreateIoCq (slot : SlotNo) (s : State) : State :=
  adminCmd slot.val 0x05 (fun _ m s =>
    let i := slot.val
    let n := m.id.cntlid
    let qid := m.sqe.cdw10 % 65536
    let depth := m.sqe.cdw10 / 65536 + 1
    let q := hqOf s (512 * n + qid)
    if qid = 0 ∨ 256 < qid ∨ q.cq then doneSlot i stInvalidQid s
    else if 1024 < depth ∨ depth < 2 then doneSlot i stInvalidQsize s
    else doneSlot i stOk (putQueue n qid { q with cq := true, depth := if q.sq then q.depth else depth } s)) s

/-- CREATE_IO_SQ (R53): a submission queue on a completion queue of the controller; its CSN spaces start anew, and a CREDIT carries its first
CMDSEQ_LIMIT (R43). -/
def opCreateIoSq (slot : SlotNo) (s : State) : State :=
  adminCmd slot.val 0x01 (fun _ m s =>
    let i := slot.val
    let n := m.id.cntlid
    let qid := m.sqe.cdw10 % 65536
    let depth := m.sqe.cdw10 / 65536 + 1
    let cqid := m.sqe.cdw11 / 65536
    let q := hqOf s (512 * n + qid)
    if qid = 0 ∨ 256 < qid ∨ q.sq ∨ maxQp s ≤ queuePairs s then doneSlot i stInvalidQid s
    else if 1024 < depth ∨ depth < 2 then doneSlot i stInvalidQsize s
    else if !(hqOf s (512 * n + cqid)).cq then doneSlot i stInvalidCq s
    else doneSlot i stOk (sendCredit n qid (putQueue n qid { freshQueue q depth false 0 with cq := q.cq, cqid := cqid } s))) s

/-- DELETE_IO_SQ (R68): the queue is reset, and the command, which waits in its slot meanwhile, completes with its fences. -/
def opDeleteIoSq (slot : SlotNo) (s : State) : State :=
  adminCmd slot.val 0x00 (fun t m s =>
    let qid := m.sqe.cdw10 % 65536
    let q := hqOf s (512 * m.id.cntlid + qid)
    if qid = 0 || !q.sq || q.closing then doneSlot slot.val stInvalidQid s
    else resetQueue m.id.cntlid qid (some t) (waitSlot slot.val s)) s

/-- A completion queue that still serves a submission queue. -/
def stInvalidQdel : Cqe := { sct := 1, sc := 0x0C }

/-- DELETE_IO_CQ (R53). -/
def opDeleteIoCq (slot : SlotNo) (s : State) : State :=
  adminCmd slot.val 0x04 (fun _ m s =>
    let i := slot.val
    let n := m.id.cntlid
    let qid := m.sqe.cdw10 % 65536
    let q := hqOf s (512 * n + qid)
    if qid = 0 || !q.cq then doneSlot i stInvalidQid s
    else if s.host.queues.any (fun p => p.1 / 512 == n && p.1 % 512 != 0 && p.2.sq && p.2.cqid == qid) then doneSlot i stInvalidQdel s
    else doneSlot i stOk (putQueue n qid { q with cq := false } s)) s

/-- A Fabrics command in a slot: its FCTYPE stands where NSID would. -/
def fabricsCmd (i fctype : Nat) (admin : Bool) (f : Task → HbMsg → State → State) (s : State) : State :=
  hostCmd i admin 0x7F (fun t m s =>
    if m.sqe.nsid % 256 = fctype then atPoint i false false (fun _ s => f t m s) s
    else if [0x00, 0x01, 0x04, 0x08].contains (m.sqe.nsid % 256) then s
    else failSlot i stInvalidOpcode s) s

/-- A controller property (R54): CAP with MQES = 1,023, VS, CC and CSTS; the bits the manual does not give are left open. DESIGN CHOICE, unsafe: log 81. -/
def property (c : Ctrl) (off : Nat) (s : State) : Option Nat :=
  match off with
  | 0x00 => some (1023 + 65536 * ofLe (openBytes_ 0x110 6 s))
  | 0x08 => some (ofLe (openBytes_ 0x118 4 s))
  | 0x14 => some c.cc
  | 0x1C => some ((if c.rdy then 1 else 0) + 4 * c.shst)
  | 0x20 => some 0
  | _ => none

/-- PROPERTY_GET (R54). -/
def opPropertyGet (slot : SlotNo) (s : State) : State :=
  fabricsCmd slot.val 0x04 true (fun _ m s =>
    match property (ctrlOf s m.id.cntlid) m.sqe.cdw11 s with
    | some v => doneSlot slot.val { dw0 := v % 2 ^ 32, dw1 := v / 2 ^ 32 } (tickFree s)
    | none => doneSlot slot.val stInvalidField s) s

/-- PROPERTY_SET (R54, R68): CC is stored; CC.EN cleared resets the controller, CC.EN set makes it ready, CC.SHN set shuts it down; NSSR has no
effect. -/
def opPropertySet (slot : SlotNo) (s : State) : State :=
  fabricsCmd slot.val 0x00 true (fun _ m s =>
    let n := m.id.cntlid
    let c := ctrlOf s n
    let v := m.sqe.cdw12
    match m.sqe.cdw11 with
    | 0x14 =>
      let s := doneSlot slot.val stOk (putCtrl n { c with cc := v, rdy := c.rdy || v % 2 == 1 } s)
      let s := if v / 16384 % 4 ≠ 0 then opShutdown n s else s
      if c.cc % 2 = 1 ∧ v % 2 = 0 then opControllerReset n s else s
    | 0x20 => doneSlot slot.val stOk s
    | _ => doneSlot slot.val stInvalidField s) s

/-- DISCONNECT (R68): the queue it came on is reset, and it completes with the fences. -/
def opDisconnect (slot : SlotNo) (s : State) : State :=
  fabricsCmd slot.val 0x08 false (fun t m s =>
    resetQueue m.id.cntlid m.id.qid (some t) (unopenCmd m.id (waitSlot slot.val s))) s

/-! ### Stage (R60 to R62) -/

/-- The ranges of a Stage: first LBA and LBAs. -/
def stageRanges (nsid nr : Nat) (d : List Byte) : List (Nat × Nat × Nat) :=
  (List.range (nr + 1)).map (fun i => (nsid, ofLe ((d.drop (16 * i)).take 8), ofLe ((d.drop (16 * i + 8)).take 4) + 1))

/-- The shelves that hold a range: those of the stored frames its map records read through. -/
def rangeShelves (r : Nat × Nat × Nat) (s : State) : List Nat :=
  ((s.arr.maps.filter (overlaps r.1 (4096 * r.2.1) (4096 * (r.2.1 + r.2.2)))).filterMap (fun x =>
    match chunkAt x s with
    | .frame l _ _ => if (steepOf l.stripe s).isSome then none else some l.shelf
    | _ => none)).eraseDups

/-- The LBAs the stage cache holds. -/
def stagedLbas (l : List (Nat × Nat × Nat)) : Nat := l.foldl (fun n r => n + r.2.2) 0

/-- The oldest entries leave until `n` LBAs fit in 64 GiB. -/
def evictStage (n : Nat) : List (Nat × Nat × Nat) → List (Nat × Nat × Nat)
  | [] => []
  | r :: l => if stagedLbas (r :: l) + n ≤ 0x1000000 then r :: l else evictStage n l

/-- A readable range prefetched. DESIGN CHOICE, unsafe: log 48. -/
def prefetch (r : Nat × Nat × Nat) (s : State) : State :=
  { s with host := { s.host with stage := evictStage r.2.2 (s.host.stage.filter (· != r)) ++ [r] } }

/-- The readable ranges of one Stage prefetched in their order, as long as they fit in the `room` LBAs of the cache that the Stage may still fill;
ranges past the cache are not (R60). Answers the room left. -/
def prefetchAll (room : Nat) (l : List (Nat × Nat × Nat)) (s : State) : Nat × State :=
  l.foldl (fun (p : Nat × State) r => if p.1 < r.2.2 then p else (p.1 - r.2.2, prefetch r p.2)) (room, s)

/-- The ranges that are readable now. -/
def readable (r : Nat × Nat × Nat) (s : State) : Bool := (rangeShelves r s).all (fun n => shelfReads n s)

/-- The Stages that wait: what has become readable is prefetched, and a Stage all of whose ranges are readable completes. DESIGN CHOICE, unsafe: log 48. -/
def settleStage (s : State) : State :=
  forEach s.host.stageWait (fun q s =>
    let now := q.ranges.filter (fun r => readable r s)
    let left := q.ranges.filter (fun r => !readable r s)
    let (room, s) := prefetchAll q.room now s
    let s := if left.isEmpty then s else { s with host := { s.host with stageWait := s.host.stageWait ++ [{ q with ranges := left, room := room }] } }
    match left, q.task with
    | [], some t => completeTask t { dw0 := q.shelves.length % 256 * 65536 } s
    | _, _ => s) { s with host := { s.host with stageWait := [] } }

/-- The Stage hold of a shelf runs anew from this Stage (R60). -/
def stageShelf (n : Nat) (s : State) : State := requestWake n .stage s

/-- Each 16-byte range of a Stage has its reserved bytes 12 to 15 zero (R61). -/
def rangesClean (nr : Nat) (d : List Byte) : Bool := (List.range (nr + 1)).all (fun i => ofLe ((d.drop (16 * i + 12)).take 4) == 0)

/-- STAGE (R60, R61). DESIGN CHOICE, unsafe: log 48. -/
def opStage (slot : SlotNo) (s : State) : State :=
  adminCmd slot.val 0xC1 (fun t m s =>
    let i := slot.val
    let q := m.sqe
    let l := stageRanges q.nsid (q.cdw10 % 256) (taskData t s)
    if q.cdw10 / 256 ≠ 0 ∨ 1 < q.cdw11 ∨ q.cdw12 ≠ 0 ∨ q.cdw13 ≠ 0 ∨ q.cdw14 ≠ 0 ∨ q.cdw15 ≠ 0 ∨
        rangesClean (q.cdw10 % 256) (taskData t s) = false then doneSlot i stInvalidField s
    else if (ioNs m s).isNone then doneSlot i stInvalidNs s
    else if (l.findSome? (fun r => rangeStatus m r.2.1 r.2.2 s)).isSome then doneSlot i stLbaRange s
    else
      let shs := (l.flatMap (fun r => rangeShelves r s)).eraseDups
      let s := forEach shs stageShelf s
      let left := l.filter (fun r => !readable r s)
      let (room, s) := prefetchAll 0x1000000 (l.filter (fun r => readable r s)) s
      let w := shs.length % 256 * 65536
      if left.isEmpty then doneSlot i { dw0 := w } s
      else
        let wait : Bool := q.cdw11 == 1
        let req : StageReq := { id := m.id, task := if wait then some t else none, ranges := left, shelves := shs, room := room }
        let s := { s with host := { s.host with stageWait := s.host.stageWait ++ [req] } }
        if wait then freeSlot i (dropAll (taskHandle t).toList s)
        else doneSlot i { dw0 := w + (max 1 (Config.stageSeconds s.freeCtr % 65536)) } (tickFree s)) s

/-- STAGE_TIMEOUT (R62): 120 s after a Stage with WAIT that is not readable. Its wakes go on. -/
def opStageTimeout (id : CmdId) (s : State) : State :=
  match s.host.stageWait.find? (fun q => q.id == id && q.task.isSome) with
  | some q =>
    let s := { s with host := { s.host with stageWait := s.host.stageWait.map (fun x => if x = q then { x with task := none } else x) } }
    match q.task with
    | some t => completeTask t stStageTimeout s
    | none => s
  | none => s

/-- STAGE_HOLD_EXPIRY (R60): 600 s after the last Stage that named a shelf. -/
def opStageHoldExpiry (n : Fin 8) (s : State) : State := endHold n.val .stage s

/-! ### Shelf Control (R266) -/

/-- DW0 of Shelf Control (Table 2.10). -/
def shelfDw0 (n : Nat) (s : State) : Nat := shelfState n s + shelvesUp s * 256 + budgetOf s * 65536

/-- A Shelf Control command with its ACTION; the report also answers an undefined ACTION. DESIGN CHOICE, safe: log 43. -/
def shelfCmd (i action : Nat) (f : Nat → State → Option Cqe × State) (s : State) : State :=
  match slotCmd i true 0xC4 s with
  | none => s
  | some m =>
    let a := m.sqe.cdw10 / 256 % 16
    if a ≠ action ∧ !(action == 0 && decide (4 < a)) then s else
    adminCmd i 0xC4 (fun _ m s =>
      let q := m.sqe
      let n := q.cdw10 % 8
      if 4 < a ∨ q.cdw10 / 8 % 32 ≠ 0 ∨ q.cdw10 / 4096 ≠ 0 ∨ q.cdw11 ≠ 0 ∨ q.cdw12 ≠ 0 ∨ q.cdw13 ≠ 0 ∨ q.cdw14 ≠ 0 ∨ q.cdw15 ≠ 0 ∨
          shelfPresent n s = false then doneSlot i stInvalidField s
      else
        let (c, s) := f n s
        doneSlot i (match c with | some c => c | none => { dw0 := shelfDw0 n s }) s) s

/-- SHELF_CONTROL_REPORT. -/
def opShelfReport (slot : SlotNo) (s : State) : State := shelfCmd slot.val 0 (fun _ s => (none, s)) s

/-- SHELF_CONTROL_WAKE. -/
def opShelfWake (slot : SlotNo) (s : State) : State :=
  shelfCmd slot.val 1 (fun n s => if placesPinned n s then (some stBudgetFull, s) else (none, requestWake n .hostWake s)) s

/-- SHELF_CONTROL_RELEASE: the host's wake and Stage holds go. -/
def opShelfControlRelease (slot : SlotNo) (s : State) : State :=
  shelfCmd slot.val 2 (fun n s => (none, endHold n .stage (endHold n .hostWake s))) s

/-- SHELF_CONTROL_PIN: host pins hold at most SHF_BUDGET − 1 shelves (R265). -/
def opShelfPin (slot : SlotNo) (s : State) : State :=
  shelfCmd slot.val 3 (fun n s =>
    if (holdsOn n s).contains .hostPin then (none, s)
    else if budgetOf s ≤ hostPins s + 1 ∨ placesPinned n s then (some stBudgetFull, s)
    else (none, requestWake n .hostPin s)) s

/-- SHELF_CONTROL_UNPIN. -/
def opShelfUnpin (slot : SlotNo) (s : State) : State := shelfCmd slot.val 4 (fun n s => (none, endHold n .hostPin s)) s

/-! ### Event Recorder Read (R413) -/

/-- The readable records of a range, in order, as far as the head; a record that is gone is passed over. -/
def eventRecords (from_ n : Nat) (s : State) : List (List Byte) :=
  let start := if 16384 ≤ from_ ∧ from_ < rget F.EVR_TAIL_SEQ_SEQ s then rget F.EVR_TAIL_SEQ_SEQ s else from_
  (List.range (min n (s.evr.next - start))).filterMap (fun i =>
    let (st, e) := selectRecord (start + i) s
    e.map (fun e => recordBytes e (st == 1)))

/-- EVENT_RECORDER_READ (R413). -/
def opEventRecorderRead (slot : SlotNo) (s : State) : State :=
  adminCmd slot.val 0xC6 (fun _ m s =>
    let q := m.sqe
    if q.cdw12 / 1024 ≠ 0 ∨ q.cdw13 ≠ 0 ∨ q.cdw14 ≠ 0 ∨ q.cdw15 ≠ 0 then doneSlot slot.val stInvalidField s else
    let l := eventRecords (q.cdw11 * 2 ^ 32 + q.cdw10) (q.cdw12 % 1024 + 1) s
    doneSlot slot.val { dw0 := l.length, dw1 := rget F.EVR_HEAD_SEQ_SEQ s % 2 ^ 32 } (sendData m l.flatten s)) s

/-! ### Ownership Handover (R62, R351, R352) -/

/-- OWNERSHIP_HANDOVER (R351): the groups of a range move to the head TO. When this head gives them up it places the HANDOVER record; when it takes
them it asks the partner by a partner message. The command, which waits in its slot, completes once the move is applied and replied to; one that
names a group already moving waits. -/
def opOwnershipHandover (slot : SlotNo) (s : State) : State :=
  match slotCmd slot.val true 0xC8 s with
  | none => s
  | some m =>
    let q := m.sqe
    let first := q.cdw10 % 256
    let last := q.cdw10 / 256 % 256
    let toB : Bool := q.cdw10.testBit 16
    let moves := (List.range 256).filter (fun g => decide (first ≤ g) && decide (g ≤ last) && ownerOf g s != (if toB then 1 else 0))
    let busy : Bool := s.mir.moving.any (fun x => moves.any (x.2.1.contains ·))
    if busy then s else
    adminCmd slot.val 0xC8 (fun t m s =>
      let i := slot.val
      if last < first ∨ m.sqe.cdw10 / 2 ^ 17 ≠ 0 ∨ q.cdw11 ≠ 0 ∨ q.cdw12 ≠ 0 ∨ q.cdw13 ≠ 0 ∨ q.cdw14 ≠ 0 ∨ q.cdw15 ≠ 0 then doneSlot i stInvalidField s
      else if !partnerHere s || s.mir.partnerFirm then doneSlot i stHandoverRefused s
      else if moves.isEmpty then doneSlot i { dw0 := 0 } s
      else
        let s := waitSlot i s
        if toB == (headSlot s == 1) then
          let s := sendPartner (.handoverRequest moves toB) s
          { s with mir := { s.mir with moving := s.mir.moving ++ [(0, moves, toB, some t)] } }
        else startMove moves toB (some t) s) s

end Sys2Proof.Machine
end

