-- ==== Sys2Proof/Machine/Snapshots.lean ====
section
/-! DEFINITION. Snapshots (R299 to R307). -/

namespace Sys2Proof.Machine

open Sys2Proof

/-- The snapshot of a SNAPID, while its catalogue entry stands. -/
def snapOf (id : Nat) (s : State) : Option Snapshot := s.arr.snaps.find? (·.snapid == id)

/-- The namespace of a SNAPID. -/
def snapNs (id : Nat) : Nat := id / 2 ^ 32

/-- A new point (R300): the WSEQ that the next write TAKE record would take, so that every write recorded before lies below it. -/
def newPoint (s : State) : Nat := rget F.PNL_EPOCH_SEQ_NUMBER s * 65536 + s.mir.takes

/-- A create of this namespace would go beyond a limit (R299). -/
def snapLimit (nsid : Nat) (s : State) : Bool :=
  decide (0xFFFFFFFF ≤ kget 0 s.arr.snapSerial nsid) || decide (1024 ≤ (s.arr.snaps.filter (fun x => snapNs x.snapid == nsid)).length) ||
    decide (262144 ≤ s.arr.snaps.length)

/-- A snapshot made by the owner of its namespace's group (R300): its point, and its catalogue entry in one index transaction. -/
def makeSnap (nsid : Nat) (scheduled : Bool) (s : State) : Nat × State :=
  let id := nsid * 2 ^ 32 + kget 0 s.arr.snapSerial nsid + 1
  (id, transact (some (groupOfNs nsid s)) [.snapPut { snapid := id, point := newPoint s, created := opsec s, scheduled := scheduled }] s)

/-- A Snapshot command with its ACTION; the create also answers an undefined ACTION. DESIGN CHOICE, safe: log 43. -/
def snapCmd (i action : Nat) (f : Task → HbMsg → State → State) (s : State) : State :=
  match slotCmd i true 0xC0 s with
  | none => s
  | some m =>
    let a := m.sqe.cdw10 % 16
    if a ≠ action ∧ !(action == 0 && decide (1 < a)) then s else
    adminCmd i 0xC0 (fun t m s =>
      let q := m.sqe
      if 1 < q.cdw10 ∨ q.cdw11 ≠ 0 ∨ q.cdw14 ≠ 0 ∨ q.cdw15 ≠ 0 ∨ (a = 0 ∧ (q.cdw12 ≠ 0 ∨ q.cdw13 ≠ 0)) ∨ (nsOf q.nsid s).isNone then
        doneSlot i stInvalidField s
      else f t m s) s

/-- SNAPSHOT_CREATE (R299, R300): the admin owner makes it, or passes it to the owner of the namespace's group. DESIGN CHOICE, unsafe: log 48. -/
def opSnapshotCreate (slot : SlotNo) (s : State) : State :=
  snapCmd slot.val 0 (fun t m s =>
    let n := m.sqe.nsid
    if owns (groupOfNs n s) s || solo s then
      if snapLimit n s then doneSlot slot.val stSnapLimit s else
      let (id, s) := makeSnap n false s
      doneSlot slot.val { dw0 := id % 2 ^ 32, dw1 := id / 2 ^ 32 } s
    else
      let r := s.host.snapReq
      let s := { s with host := { s.host with snapReq := r + 1, snapWait := s.host.snapWait ++ [(r, t)] } }
      sendPartner (.snapRequest n r) (freeSlot slot.val s)) s

/-- A create passed to this head as owner of the group: made and answered. -/
def onSnapRequest (nsid req : Nat) (s : State) : State :=
  if snapLimit nsid s then sendPartner (.snapDone req 0 false) s else
  let (id, s) := makeSnap nsid false s
  sendPartner (.snapDone req id true) s

/-- The answer to a create passed to the partner. -/
def onSnapDone (req id : Nat) (ok : Bool) (s : State) : State :=
  match s.host.snapWait.find? (·.1 == req) with
  | none => s
  | some (_, t) =>
    let s := { s with host := { s.host with snapWait := s.host.snapWait.filter (·.1 != req) } }
    completeTask t (if ok then { dw0 := id % 2 ^ 32, dw1 := id / 2 ^ 32 } else stSnapLimit) s

/-- SNAPSHOT_DELETE (R305): the catalogue entry is marked DELETING. -/
def opSnapshotDelete (slot : SlotNo) (s : State) : State :=
  snapCmd slot.val 1 (fun _ m s =>
    let id := m.sqe.cdw13 * 2 ^ 32 + m.sqe.cdw12
    match (snapOf id s).filter (fun x => !x.deleting && snapNs x.snapid == m.sqe.nsid) with
    | none => doneSlot slot.val stInvalidField s
    | some x =>
      if x.inUse ≠ 0 then doneSlot slot.val stSeqErr s
      else doneSlot slot.val stOk (transact (some (groupOfNs m.sqe.nsid s)) [.snapPut { x with deleting := true }] s)) s

/-- SNAPSHOT_SWEEP (R305): the retained records that no remaining live snapshot needs are removed with their references, then the catalogue
entry. The owner of the group sweeps. -/
def opSnapshotSweep (id : Nat) (s : State) : State :=
  match snapOf id s with
  | none => s
  | some x =>
    let n := snapNs id
    if !x.deleting || !(owns (groupOfNs n s) s || solo s) then s else
    let pts := livePoints n s.arr
    let gone := s.arr.retained.filter (fun r => r.rec_.nsid == n && !needed pts r.rec_.wseq r.wseqEnd)
    let cs := gone.map (fun r => IndexChange.retDel n r.rec_.addr r.rec_.wseq)
    transact (some (groupOfNs n s)) (withRefs cs s.arr ++ [.snapDel id]) s

/-- The records visible in a snapshot (R302), in address order. -/
def visible (x : Snapshot) (s : State) : List MapRec :=
  let n := snapNs x.snapid
  let cur := s.arr.maps.filter (fun r => r.nsid == n && decide (r.wseq < x.point))
  let ret := (s.arr.retained.filter (fun r => r.rec_.nsid == n && decide (r.rec_.wseq < x.point) && decide (x.point ≤ r.wseqEnd))).map (·.rec_)
  (cur ++ ret).mergeSort (fun a b => decide (a.addr ≤ b.addr))

end Sys2Proof.Machine
end

