-- ==== Sys2Proof/Machine/Replication.lean ====
section
/-! DEFINITION. Replication sessions at their source and their target, and recovery of lost chunks (R298, R308 to R321). -/

namespace Sys2Proof.Machine

open Sys2Proof

/-! ### Common parts (R308, R312, R313, R315) -/

/-- This part's estate chip number. DEDUCED, unsafe: log 73. -/
def ownChip (s : State) : Nat := rget F.CHIP_ESTATE_NUM_NUM s

/-- A replication message sent; it names this part's chip. -/
def sendRep (chip typ : Nat) (m : RepMsg) (s : State) : State := egress (.rep chip typ { m with chip := ownChip s }) s

/-- The pairings of a namespace. -/
def pairingsOf (n : Nat) (s : State) : List Pairing := kget [] s.arr.pairings n

/-- The key domain of a namespace. -/
def kdOf (n : Nat) (s : State) : Nat := ((nsOf n s).map (·.kd)).getD 0xFFF

/-- The salt probe of a namespace's key domain (R313). -/
def saltProbe (n : Nat) (s : State) : Digest := fpOf ((saltOf (kdOf n s) s).getD []) (List.replicate 64 0)

/-- The PROG key slot of a session: its KEY_ID holds the source's chip and the session number (R452). DESIGN CHOICE, unsafe: log 67. -/
def sessKey (chip num : Nat) (s : State) : Option Nat :=
  ((s.keys.slots.filter (fun p => p.2.typ == 4 && p.2.keyId == chip * 2 ^ 32 + num)).getLast?).map (·.1)

/-- CTR under a session's PROG key, with the counter block of R315: session, the shipping part's chip, sequence, block counter 0. DESIGN CHOICE, unsafe: log 67. DESIGN CHOICE, unsafe: log 69. -/
def sessCtr (slot num chip seq : Nat) (l : List Byte) (s : State) : List Byte :=
  (aesCtr (roundKeys ((keyOf slot s).mat.take 32)) (beBytes 4 num ++ beBytes 2 chip ++ beBytes 6 seq ++ beBytes 4 0) l).1

/-- A frame is dedup'd in its namespace. -/
def dedupNs (n : Nat) (s : State) : Bool := ((nsOf n s).map (·.scope)).getD .array != .none

/-! ### Source sessions: access (Table 10.2) -/

/-- A session of this array by its number. -/
def sessOf (num : Nat) (s : State) : Option Session := s.arr.sessions.find? (·.num == num)

/-- A session replaced or added. -/
def setSess (x : Session) (s : State) : State := onArr (fun a => { a with sessions := putBy (·.num) x a.sessions }) s

/-- STATE of Table 10.4. -/
def sessCode (t : SessState) : Nat :=
  match t with
  | .queued => 0 | .running => 1 | .paused => 2 | .committing => 3 | .done => 4 | .cancelled => 5 | .failed => 6 | .opening => 7

/-- DONE, CANCELLED or FAILED. -/
def sessEnded (x : Session) : Bool := x.st == .done || x.st == .cancelled || x.st == .failed

/-- A session's record written to the index tier, with its checkpoint (R311, R318). -/
def recordSess (x : Session) (s : State) : State :=
  transact none [.sessPut x.num x.snapid x.base x.chip x.dstNsid (sessCode x.st) x.reason x.ckpt] (setSess x s)

/-- IN_USE marks of a session's snapshots given or taken (Table 10.2). -/
def markUse (x : Session) (on : Bool) (s : State) : State :=
  let l := if x.base = 0 then [x.snapid] else [x.snapid, x.base]
  transact none (l.filterMap (fun id => (snapOf id s).map (fun y =>
    IndexChange.snapPut { y with inUse := if on then y.inUse + 1 else y.inUse - 1 }))) s

/-- A session's end. -/
def endSess (x : Session) (st : SessState) (reason : Nat) (s : State) : State :=
  let s := forEach (List.range 8) (fun n s => if (holdsOn n s).contains .rep && !s.arr.sessions.any (fun y => y.num != x.num && !y.owed.isEmpty)
      then endHold n .rep s else s) s
  recordSess { x with st := st, reason := reason, todo := [], flight := [], owed := [], task := none } (markUse x false s)

/-- A session ended with REP_CLOSE. -/
def closeSess (x : Session) (st : SessState) (reason : Nat) (s : State) : State :=
  endSess x st reason (sendRep x.chip 0x18 { session := x.num, reason := reason } s)

/-- REP_OPEN of a session, with its resume address; KEY_QUERY while its PROG key is not agreed (R452). -/
def sendOpen (x : Session) (s : State) : State :=
  if (sessKey (ownChip s) x.num s).isSome then
    sendRep x.chip 0x10 { session := x.num, srcNsid := snapNs x.snapid, dstNsid := x.dstNsid, snapid := x.snapid, base := x.base,
                          probe := saltProbe (snapNs x.snapid) s, resume := x.acked } s
  else
    let (n, s) := drawBytes 32 s
    egress (.key x.chip 0x20 { chip := ownChip s, purpose := 1, session := x.num, nonce := n }) s

/-- The key of a session was agreed (R452): its REP_OPEN follows. -/
def onSessionKey (num : Nat) (s : State) : State :=
  match sessOf num s with
  | some x => if x.mine && x.sends != 0 && !sessEnded x then sendOpen x s else s
  | none => s

/-! ### The listing (R310) -/

/-- The entry of a visible record; a record of a namespace without dedup takes its fingerprint from the frame directory. -/
def repEntryOf (s : State) (r : MapRec) : RepEntry :=
  let fp := match r.fp with
    | some f => f
    | none => (((s.arr.stripes.find? (·.stripe == r.frame.stripe)).bind (fun t => t.frames.find? (fun f => f.off == r.frame.off))).map (·.fp)).getD 0
  let cl := match r.fp with
    | some f => ((readEntry f r.kd s).map (·.chunkLen)).getD (r.coff + r.len)
    | none => r.coff + r.len
  { addr := r.addr, len := r.len, coff := r.coff, fp := fp, chunkLen := cl }

/-- The ranges visible in the base and deallocated in the snapshot. -/
def trimRanges (base snap : List MapRec) : List (Nat × Nat) :=
  base.flatMap (fun b => (snap.filter (fun r => decide (r.addr < b.addr + b.len) && decide (b.addr < r.addr + r.len))).foldl
    (fun l r => minus l r.addr (r.addr + r.len)) [(b.addr, b.addr + b.len)])

/-- The entries that a session ships, in ascending address: of a full session every record after a TRIM of the whole namespace; of a delta the
records at or above the base's point, and a TRIM for each range deallocated since. DESIGN CHOICE, unsafe: log 67. -/
def listingOf (x : Session) (s : State) : List RepEntry :=
  match snapOf x.snapid s with
  | none => []
  | some sn =>
    let v := visible sn s
    match (if x.base = 0 then none else snapOf x.base s) with
    | none => { addr := 0, len := 4096 * ((nsOf (snapNs x.snapid) s).map (·.lbas)).getD 0, trim := true } :: v.map (repEntryOf s)
    | some b =>
      let ext := (v.filter (fun r => decide (b.point ≤ r.wseq))).map (repEntryOf s)
      let trims := (trimRanges (visible b s) v).map (fun p => { addr := p.1, len := p.2 - p.1, trim := true : RepEntry })
      (ext ++ trims).mergeSort (fun a b => decide (a.addr ≤ b.addr))

/-- An entry is still to ship when shipping resumes at an address; the leading TRIM only from the start. -/
def fromResume (x : Session) (e : RepEntry) : Bool := decide (x.resume ≤ e.addr) || (!(e.trim && x.base == 0) && decide (x.resume < e.addr + e.len))

/-- Every write of the namespace below the snapshot's point has committed, so that the snapshot's records stand (R302). -/
def snapSettled (x : Session) (s : State) : Bool :=
  match snapOf x.snapid s with
  | none => true
  | some sn => s.arr.dirty.all (fun d => d.nsid != snapNs x.snapid || d.committed || decide (sn.point ≤ d.wseq))

/-- The address below which an entry counts as shipped: a TRIM counts only up to its start. -/
def entEnd (e : RepEntry) : Nat := if e.trim then e.addr else e.addr + e.len

/-! ### Running a session (R311, R314, R315) -/

/-- The batches a session may send now: eight in flight, none while it waits for a sleeping shelf. -/
def pump : Nat → Session → State → State
  | 0, _, s => s
  | n + 1, x, s =>
    if x.st != .running || x.sends != 0 || !x.ready || !x.owed.isEmpty then s
    else if x.todo.isEmpty then
      if x.flight.isEmpty then
        recordSess { x with st := .committing } (sendRep x.chip 0x16 { session := x.num, snapid := x.snapid } s)
      else s
    else if 8 ≤ x.flight.length then s
    else
      let es := x.todo.take 256
      let y := { x with todo := x.todo.drop 256, batch := x.batch + 1, flight := x.flight ++ [(x.batch + 1, es)] }
      pump n y (sendRep x.chip 0x12 { session := x.num, batch := y.batch, entries := es } (setSess y s))

/-- Sessions of this head in RUNNING. -/
def runningCount (s : State) : Nat := (s.arr.sessions.filter (fun x => x.mine && x.st == .running)).length

/-- QUEUED sessions take the places that are free, in start order (R311). -/
def startQueued (s : State) : State :=
  forEach (s.arr.sessions.filter (fun x => x.mine && x.st == .queued)) (fun x s =>
    if runningCount s < 64 then recordSess { x with st := .running } s else s) s

/-- The records that hold a frame read whole: as it stands, else with one of its strips taken from parity (R206). -/
def readFrame (loc : Loc) (n : Nat) (s : State) : Option (List Byte × Nat) :=
  match (frameAt loc n s).bind (fun f => openFrame f s) with
  | some r => some r
  | none =>
    ((s.arr.stripes.find? (·.stripe == loc.stripe)).bind (fun t => (kfind s.arr.zoneSets t.zoneSet).map (fun z => (t, z)))).bind (fun p =>
      let r := readRow p.2 p.1.row s
      (stripsOf loc.off n).findSome? (fun i => (stripeBytes p.2.k (listSet r i none) loc.off n).bind (fun f => openFrame f s)))

/-- The record of the snapshot that an entry was made from. -/
def recOfEntry (x : Session) (e : RepEntry) (s : State) : Option MapRec :=
  (snapOf x.snapid s).bind (fun sn => (visible sn s).find? (fun r => r.addr == e.addr))

/-- An imported frame in the fetch window. -/
def fetchedFrame (fp : Digest) (kd : Nat) (s : State) : Option (List Byte) := (s.arr.fetched.find? (fun f => f.1 == fp && f.2.1 == kd)).map (·.2.2)

/-- REP_DATA for one needed entry (R315). DESIGN CHOICE, unsafe: log 69. -/
def shipFrame (x : Session) (b i : Nat) (z : List Byte) (n : Nat) (s : State) : State :=
  match sessKey (ownChip s) x.num s with
  | none => s
  | some k =>
    let ct := sessCtr k x.num (ownChip s) x.dataSeq z s
    let y := { x with dataSeq := x.dataSeq + 1, sent := x.sent + 1, sentBytes := x.sentBytes + z.length, owed := x.owed.filter (· != (b, i)) }
    sendRep x.chip 0x14 { session := x.num, batch := b, index := i, chunkLen := n, counter := x.dataSeq, frame := ct } (setSess y s)

/-- A needed entry owed until its frame can be read. -/
def owe (x : Session) (b i : Nat) (s : State) : State := setSess { x with owed := x.owed.filter (· != (b, i)) ++ [(b, i)] } s

/-- One needed entry (R311, R315): its frame is read and shipped; on a sleeping shelf it is owed, with a wake of priority 5; an imported chunk is
fetched from its exporter; a chunk lost at the source fails the session. -/
def shipEntry (num b i : Nat) (s : State) : State :=
  match sessOf num s with
  | none => s
  | some x =>
    match ((x.flight.find? (·.1 == b)).bind (fun f => f.2[i]?)).bind (fun e => (recOfEntry x e s).map (fun r => (e, r))) with
    | none => s
    | some (_, r) =>
      if sessEnded x then s else
      let lost := fun (s : State) => closeSess x .failed 5 s
      match chunkAt r s with
      | .frame l n e =>
        if (steepOf l.stripe s).isNone && !shelfReads l.shelf s then owe x b i (requestWake l.shelf .rep s) else
        match readFrame l n s with
        | some (z, cl) => shipFrame x b i z cl s
        | none => lost (match e with | some e => loseChunk e s | none => s)
      | .remote fp kd y =>
        match (fetchedFrame fp kd s).bind (fun f => openFrame f s) with
        | some (z, cl) => shipFrame x b i z cl (onArr (fun a => { a with fetched := a.fetched.filter (fun f => !(f.1 == fp && f.2.1 == kd)) }) s)
        | none => owe x b i (sendFetches (4096 + num) [(fp, kd, y)] s)
      | .lost => lost s

/-- What the sessions of this head can do now: owed entries whose shelf is awake are shipped, listings made, batches sent. -/
def settleSessions (s : State) : State :=
  let s := startQueued s
  forEach ((s.arr.sessions.filter (fun x => x.mine && !sessEnded x)).map (·.num)) (fun num s =>
    match sessOf num s with
    | none => s
    | some x =>
      let s := forEach x.owed (fun p s => shipEntry num p.1 p.2 s) s
      match sessOf num s with
      | none => s
      | some x =>
        let x := if x.st == .running && x.sends == 0 && !x.ready && snapSettled x s then
            let l := listingOf x s
            { x with ready := true, todo := l.filter (fromResume x), listed := l.length }
          else x
        pump 16 x (setSess x s)) s

/-! ### Commands (R310, R321) -/

/-- A Replicate command with its ACTION; the status row also answers an undefined ACTION. DESIGN CHOICE, safe: log 43. -/
def repCmd (i action : Nat) (f : Task → HbMsg → Nat → Nat → State → State) (s : State) : State :=
  match slotCmd i true 0xC2 s with
  | none => s
  | some m =>
    let a := m.sqe.cdw10 % 16
    if a ≠ action ∧ !(action == 4 && decide (4 < a)) then s else
    adminCmd i 0xC2 (fun t m s =>
      let q := m.sqe
      if 4 < q.cdw10 ∨ 0x3FF < q.cdw11 ∨ (a ≠ 0 ∧ (q.cdw14 ≠ 0 ∨ q.cdw15 ≠ 0)) ∨ (nsOf q.nsid s).isNone then doneSlot i stInvalidField s
      else f t m (q.cdw13 * 2 ^ 32 + q.cdw12) q.cdw11 s) s

/-- The session a command names: one not ended, else the last. -/
def namedSess (nsid snapid chip : Nat) (s : State) : Option Session :=
  let l := s.arr.sessions.filter (fun x => x.snapid == snapid && x.chip == chip && snapNs x.snapid == nsid && x.st != .opening)
  match l.find? (fun x => !sessEnded x) with
  | some x => some x
  | none => l.getLast?

/-- A snapshot of a namespace that a session may use. -/
def usable (nsid id : Nat) (s : State) : Option Snapshot := (snapOf id s).filter (fun x => !x.deleting && snapNs id == nsid)

/-- A session begun (R310): its number, and REP_OPEN sent. -/
def beginSess (snapid base : Nat) (p : Pairing) (t : Option Task) (s : State) : State :=
  let num := s.arr.sessNum + 1
  let x : Session := { num := num, snapid := snapid, base := base, chip := p.chip, dstNsid := p.nsid, task := t, started := opsec s }
  sendOpen x (setSess x (onArr (fun a => { a with sessNum := num }) s))

/-- A session that a new one would stand beside (R310): not ended, and of the same snapshot and target or of the same target namespace. -/
def sessClash (snapid : Nat) (p : Pairing) (s : State) : Bool :=
  s.arr.sessions.any (fun x => !sessEnded x && ((x.snapid == snapid && x.chip == p.chip) || (x.chip == p.chip && x.dstNsid == p.nsid)))

/-- Sessions that wait in QUEUED (R311). -/
def queuedCount (s : State) : Nat := (s.arr.sessions.filter (fun x => x.mine && x.st == .queued)).length

/-- REPLICATE_START (R308, R310, R311): the command waits for the target's first answer without its slot. DESIGN CHOICE, unsafe: log 48. -/
def opReplicateStart (slot : SlotNo) (s : State) : State :=
  repCmd slot.val 0 (fun t m snapid chip s =>
    let n := m.sqe.nsid
    let base := m.sqe.cdw15 * 2 ^ 32 + m.sqe.cdw14
    match (pairingsOf n s).find? (·.chip == chip), usable n snapid s with
    | some p, some x =>
      let baseOk : Bool := base == 0 || (match usable n base s with | some b => decide (b.point < x.point) | none => false)
      if !baseOk || ((nsOf n s).map (·.replica)).getD false then doneSlot slot.val stInvalidField s
      else if sessClash snapid p s || 1024 ≤ queuedCount s then doneSlot slot.val stSeqErr s
      else beginSess snapid base p (some t) (freeSlot slot.val s)
    | _, _ => doneSlot slot.val stInvalidField s) s

/-- Pause, resume and cancel act on a session that has not ended. -/
def onNamed (i : Nat) (f : Session → State → State) (m : HbMsg) (snapid chip : Nat) (s : State) : State :=
  match (namedSess m.sqe.nsid snapid chip s).filter (fun x => !sessEnded x) with
  | none => doneSlot i stInvalidField s
  | some x => doneSlot i { dw0 := x.num } (settleSessions (f x s))

/-- REPLICATE_PAUSE: no new batch; outstanding batches run to their acknowledgement (Table 10.2). -/
def opReplicatePause (slot : SlotNo) (s : State) : State :=
  repCmd slot.val 1 (fun _ m id chip s =>
    onNamed slot.val (fun x s => if x.st = .running then recordSess { x with st := .paused } s else s) m id chip s) s

/-- REPLICATE_RESUME: REP_OPEN with the resume address (Table 10.2, R318). With no running place free the session queues (R311). DESIGN CHOICE, unsafe: log 67. -/
def opReplicateResume (slot : SlotNo) (s : State) : State :=
  repCmd slot.val 2 (fun _ m id chip s =>
    onNamed slot.val (fun x s =>
      if x.st ≠ .paused then s else
      let x := { x with st := if runningCount s < 64 then .running else .queued, sends := 1, mine := true, ready := false, flight := [], todo := [], owed := [] }
      sendOpen x (recordSess x s)) m id chip s) s

/-- REPLICATE_CANCEL: REP_CLOSE, no resume (Table 10.2). -/
def opReplicateCancel (slot : SlotNo) (s : State) : State :=
  repCmd slot.val 3 (fun _ m id chip s => onNamed slot.val (fun x s => closeSess x .cancelled 0 s) m id chip s) s

/-- The status record (Table 10.4). -/
def statusRecord (x : Session) : List Byte :=
  padTo 4096 (leBytes 4 1 ++ leBytes 4 x.num ++ leBytes 8 x.snapid ++ leBytes 8 x.base ++ leBytes 2 x.chip ++ leBytes 1 (sessCode x.st) ++
    leBytes 1 x.reason ++ List.replicate 4 0 ++ leBytes 8 x.listed ++ leBytes 8 x.sent ++ leBytes 8 x.sentBytes ++ leBytes 8 x.found ++
    leBytes 8 x.acked ++ leBytes 8 x.started ++ leBytes 8 x.lastAck ++ leBytes 4 x.retries)

/-- REPLICATE_STATUS (R321). -/
def opReplicateStatus (slot : SlotNo) (s : State) : State :=
  repCmd slot.val 4 (fun _ m id chip s =>
    match namedSess m.sqe.nsid id chip s with
    | some x => doneSlot slot.val { dw0 := x.num } (sendData m (statusRecord x) s)
    | none => doneSlot slot.val stInvalidField s) s

/-! ### The source's messages -/

/-- A session of this head whose target a message comes from. -/
def srcSess (m : RepMsg) (s : State) : Option Session := (sessOf m.session s).filter (fun x => x.mine && x.chip == m.chip && !sessEnded x)

/-- REASON of a refused REP_OPEN (Table 10.2). DESIGN CHOICE, safe: log 21. -/
def refusalReason (r : Nat) (s : State) : Nat :=
  match r with
  | 2 => 4
  | 3 => 2
  | 4 => 3
  | 5 => 6
  | _ => Config.refusedReason s.freeCtr % 256

/-- The command that waits for a session's first answer completes. -/
def answerStart (x : Session) (cqe : Cqe) (s : State) : State :=
  match x.task with
  | some t => completeTask t cqe s
  | none => s

/-- REP_OPEN_REPLY (R311, R318, Table 10.2): the first answer records the session, QUEUED or RUNNING, or FAILED with its REASON; a later one
resumes at the lower of the two addresses. -/
def opRepOpenReply (m : RepMsg) (s : State) : State :=
  match srcSess m s with
  | none => s
  | some x =>
    if x.sends = 0 then s
    else if m.result ≠ 0 then
      let r := refusalReason m.result s
      if x.st = .opening then answerStart x { dw0 := x.num } (recordSess { x with st := .failed, reason := r, sends := 0, task := none } (tickFree s))
      else settleSessions (endSess x .failed r (tickFree s))
    else
      let lo := min x.acked m.resume
      let y := { x with sends := 0, wait := 10, winKey := m.winKey, winGen := m.winGen, resume := lo, acked := lo, ready := false, todo := [],
                        flight := [], owed := [] }
      if x.st = .opening then
        let y := { y with st := if runningCount s < 64 then .running else .queued, task := none }
        settleSessions (answerStart x { dw0 := x.num } (markUse y true (recordSess y s)))
      else settleSessions (setSess y s)

/-- REP_OPEN_RETRY (R310, R311): a REP_OPEN unanswered for 1 s is sent again; after three sends a start completes with REPLICA_UNREACHABLE and
no session stands. A running session whose target is unreachable opens again, its wait doubling to 1 h. -/
def opRepOpenRetry (num : Nat) (s : State) : State :=
  match (sessOf num s).filter (fun x => x.mine && !sessEnded x) with
  | none => s
  | some x =>
    if x.st = .opening then
      if x.sends < 3 then sendOpen x (setSess { x with sends := x.sends + 1 } s)
      else answerStart x stUnreachable (onArr (fun a => { a with sessions := a.sessions.filter (·.num != num) }) s)
    else if x.st = .running ∨ x.st = .queued then
      let y := { x with sends := 1, retries := x.retries + 1, wait := min 3600 (2 * x.wait), ready := false, flight := [], todo := [], owed := [] }
      sendOpen y (setSess y s)
    else if x.st = .committing then sendRep x.chip 0x16 { session := num, snapid := x.snapid } (setSess { x with retries := x.retries + 1 } s)
    else s

/-- The chunk bytes of a batch's extents that the target found it holds. -/
def foundBytes (es : List RepEntry) (need : List Nat) : Nat :=
  (es.zipIdx.filter (fun p => !p.1.trim && !need.contains p.2)).foldl (fun n p => n + p.1.chunkLen) 0

/-- REP_NEED (R315): each needed chunk is shipped; FULL fails the session (Table 10.2). -/
def opRepNeed (m : RepMsg) (s : State) : State :=
  match srcSess m s with
  | none => s
  | some x =>
    match x.flight.find? (·.1 == m.batch) with
    | none => s
    | some f =>
      if m.result = 5 then settleSessions (closeSess x .failed 6 s)
      else
        let s := setSess { x with found := x.found + (if m.index = 0 then foundBytes f.2 m.need else 0) } s
        settleSessions (forEach m.need (fun i s => shipEntry x.num m.batch i s) s)

/-- The address below which every batch is acknowledged. -/
def ackedAddr (x : Session) (flight : List (Nat × List RepEntry)) (gone : List RepEntry) : Nat :=
  match flight with
  | f :: _ => max x.acked ((f.2.head?.map (·.addr)).getD 0)
  | [] => gone.foldl (fun n e => max n (entEnd e)) x.acked

/-- A checkpoint of a session (R318). -/
def checkpoint (x : Session) (s : State) : State := recordSess { x with ckpt := x.acked, ckptBytes := x.ackedBytes } s

/-- REP_BATCH_ACK (R316, R318): the acknowledged address advances; after 1 GiB of listed bytes a checkpoint is written. -/
def opRepBatchAck (m : RepMsg) (s : State) : State :=
  match srcSess m s with
  | none => s
  | some x =>
    match x.flight.find? (·.1 == m.batch) with
    | none => s
    | some f =>
      if m.result = 5 then settleSessions (closeSess x .failed 6 s)
      else
        let rest := x.flight.filter (·.1 != m.batch)
        let n := (f.2.filter (fun e => !e.trim)).foldl (fun n e => n + e.len) 0
        let y : Session := { x with
          flight := rest, owed := x.owed.filter (·.1 != m.batch), acked := ackedAddr x rest f.2, ackedBytes := x.ackedBytes + n,
          lastAck := opsec s }
        settleSessions (if y.ckptBytes + 2 ^ 30 ≤ y.ackedBytes then checkpoint y s else setSess y s)

/-- REP_CHECKPOINT (R318): 10 s have passed: every session of this head writes a checkpoint. -/
def opRepCheckpoint (s : State) : State :=
  forEach (s.arr.sessions.filter (fun x => x.mine && !sessEnded x && x.st != .opening && x.acked != x.ckpt)) (fun x s => checkpoint x s) s

/-- The chips that a snapshot has a DONE session to. -/
def shippedTo (id : Nat) (s : State) : List Nat := ((s.arr.sessions.filter (fun x => x.snapid == id && x.st == .done)).map (·.chip)).eraseDups

/-- SCHEDULED snapshots deleted automatically (R309). DESIGN CHOICE, unsafe: log 68. -/
def autoDelete (nsid : Nat) (s : State) : State :=
  let l := s.arr.snaps.filter (fun x => snapNs x.snapid == nsid && x.scheduled && !x.deleting)
  forEach l (fun x s =>
    let chips := shippedTo x.snapid s
    let newer := l.filter (fun y => decide (x.point < y.point) && chips.all (fun c => (shippedTo y.snapid s).contains c))
    if x.inUse = 0 ∧ 2 ≤ newer.length then transact (some (groupOfNs nsid s)) [.snapPut { x with deleting := true }] s else s) s

/-- REP_COMMIT_REPLY (Table 10.2): the session is DONE, its marks removed, LAST_TARGET set. -/
def opRepCommitReply (m : RepMsg) (s : State) : State :=
  match srcSess m s with
  | none => s
  | some x =>
    if x.st ≠ .committing then s
    else if m.result = 5 then settleSessions (closeSess x .failed 6 s)
    else if m.result ≠ 0 then s
    else
      let s := endSess x .done 0 s
      let s := match snapOf x.snapid s with
        | some y => transact none [.snapPut { y with lastTarget := x.chip }] s
        | none => s
      settleSessions (autoDelete (snapNs x.snapid) s)

/-- The newest snapshot of a namespace with a DONE session to a chip (R309). -/
def deltaBase (nsid chip : Nat) (s : State) : Nat :=
  ((s.arr.snaps.filter (fun x => snapNs x.snapid == nsid && !x.deleting && (shippedTo x.snapid s).contains chip)).foldl
    (fun (b : Nat × Nat) x => if b.1 ≤ x.point then (x.point, x.snapid) else b) (0, 0)).2

/-- REP_SCHEDULE (R92, R93, R309): the owner of the namespace's group makes the SCHEDULED snapshot and starts a session to the chip that
REPLICATION_SELECT chose; at the snapshot limit the interval is skipped. DESIGN CHOICE, unsafe: log 68. -/
def opRepSchedule (nsid : Nat) (choice : Option (Nat × Nat)) (s : State) : State :=
  if kget 0 s.arr.schedule nsid = 0 ∨ (nsOf nsid s).isNone ∨ !(owns (groupOfNs nsid s) s || solo s) then s
  else if snapLimit nsid s then recordFw Ev.REPL_SKIPPED srcSUP 0 (pack [(4, nsid)]) s
  else
    let (id, s) := makeSnap nsid true s
    let s := autoDelete nsid s
    match pairingsOf nsid s with
    | [] => s
    | first :: rest =>
      let called : Bool := hookOn 3 s
      let go := fun (p : Pairing) (full : Bool) (s : State) =>
        let base := if full then 0 else deltaBase nsid p.chip s
        if sessClash id p s || 1024 ≤ queuedCount s then s else beginSess id base p none s
      match (if called then choice else none) with
      | none => go first false s
      | some (c, f) =>
        if c = 0xFFFF ∧ f ≤ 1 then s
        else match (first :: rest).find? (·.chip == c) with
          | some p => if f ≤ 1 then go p (f == 1) s else go first false (hookErr srcSUP 3 false s)
          | none => go first false (hookErr srcSUP 3 false s)

/-! ### The target (R313 to R317) -/

/-- A target session of a source's message. -/
def inSess (m : RepMsg) (s : State) : Option InSession := s.arr.inSessions.find? (fun x => x.chip == m.chip && x.num == m.session)

/-- A target session replaced. -/
def setIn (x : InSession) (s : State) : State :=
  onArr (fun a => { a with inSessions := a.inSessions.map (fun y => if y.nsid = x.nsid ∧ y.num = x.num ∧ y.snapid = x.snapid then x else y) }) s

/-- A target session gone: the holds its batches took and did not give to writes are given up. -/
def releaseIn (x : InSession) (s : State) : State :=
  let kd := kdOf x.nsid s
  let held := (x.batches.filter (fun b => !b.applied)).flatMap (fun b =>
    (b.entries.zipIdx.filter (fun p => !p.1.trim && !b.need.contains p.2 && !b.dup.contains p.2)).map (·.1))
  if dedupNs x.nsid s then forEach held (fun e s => transact none (dropHold e.fp kd s.arr) s) s else s

/-- The latest REPLICA_POINT snapshot of a namespace. -/
def latestReplica (nsid : Nat) (s : State) : Option Snapshot :=
  (s.arr.snaps.filter (fun x => snapNs x.snapid == nsid && x.replicaPoint && !x.deleting)).foldl
    (fun b x => match b with | some y => if y.point < x.point then some x else b | none => some x) none

/-- REP_OPEN checked (R313). -/
def openResult (m : RepMsg) (s : State) : Nat :=
  let paired : Bool := ((nsOf m.dstNsid s).map (·.replica)).getD false && (pairingsOf m.dstNsid s).any (fun p => p.chip == m.chip && p.nsid == m.srcNsid)
  let cur := s.arr.inSessions.find? (fun x => x.nsid == m.dstNsid && !x.done)
  let same : Bool := match cur with | some x => x.num == m.session && x.snapid == m.snapid | none => false
  if !paired then 1
  else if cur.isSome && !same then 2
  else if m.probe ≠ saltProbe m.dstNsid s then 3
  else if m.base ≠ 0 ∧ same = false ∧ (latestReplica m.dstNsid s).map (·.sourceSnapid) ≠ some m.base then 4
  else 0

/-- REP_OPEN at the owner of the replica namespace's group (R313, R318): a session reopened drops the batches not applied and goes on from its
durable address. DESIGN CHOICE, unsafe: log 68. -/
def targetOpen (m : RepMsg) (s : State) : State :=
  let r := openResult m s
  let reply : RepMsg := { result := r, session := m.session, snapid := ((latestReplica m.dstNsid s).map (·.sourceSnapid)).getD 0 }
  if r ≠ 0 then sendRep m.chip 0x11 reply s else
  match s.arr.inSessions.find? (fun x => x.nsid == m.dstNsid && x.num == m.session && x.snapid == m.snapid && !x.done) with
  | some x =>
    let s := releaseIn x s
    let y := { x with chip := m.chip, batches := x.batches.filter (·.applied), kept := [] }
    sendRep m.chip 0x11 { reply with resume := y.resume, winKey := y.winKey } (setIn y s)
  | none =>
    let (k, s) := drawBytes 4 s
    let x : InSession := { num := m.session, chip := m.chip, nsid := m.dstNsid, srcNsid := m.srcNsid, snapid := m.snapid, base := m.base, winKey := ofLe k }
    let s := onArr (fun a => { a with inSessions := a.inSessions.filter (fun y => !(y.nsid == x.nsid && y.done)) ++ [x] }) s
    sendRep m.chip 0x11 { reply with winKey := x.winKey } s

/-- A batch of a session replaced. -/
def setBatch (x : InSession) (b : InBatch) (s : State) : State :=
  setIn { x with batches := x.batches.map (fun y => if y.batch = b.batch then b else y) } s

/-- A chunk of the session is on its way for another entry. -/
def comingIn (x : InSession) (b : InBatch) (fp : Digest) : Bool :=
  (x.batches ++ [b]).any (fun y => y.need.any (fun i => (y.entries[i]?).any (fun e => e.fp == fp)))

/-- Confirm of one entry at the target (R314): a hit takes a hold, a NEW result is needed, once in a session. -/
def confirmEntry (x : InSession) (kd : Nat) (dd : Bool) (e : RepEntry) (i : Nat) (b : InBatch) (s : State) : InBatch × State :=
  if e.trim then (b, s)
  else if !dd then ({ b with need := b.need ++ [i] }, s)
  else
    let known := if strainerHas s.arr.strainer e.fp then (findEntry e.fp kd s).filter (fun y => !y.lost && y.holds != 0xFFFF) else none
    match known with
    | some y => (b, transact none [.entryPut { y with holds := y.holds + 1 }] s)
    | none => if comingIn x b e.fp then ({ b with dup := b.dup ++ [i] }, s) else ({ b with need := b.need ++ [i] }, s)

/-- Confirms of a batch's entries in order. DESIGN CHOICE, unsafe: log 68. -/
def confirmEntries (x : InSession) (kd : Nat) (dd : Bool) : List (RepEntry × Nat) → InBatch → State → InBatch × State
  | [], b, s => (b, s)
  | (e, i) :: l, b, s =>
    let (b, s) := confirmEntry x kd dd e i b s
    confirmEntries x kd dd l b s

/-- A WSEQ for a change that no TAKE record carries (R249, R316): it takes a position of the open epoch. -/
def newWseq (s : State) : Nat × State :=
  let s := if 65536 ≤ s.mir.takes then closeEpoch s else s
  (rget F.PNL_EPOCH_SEQ_NUMBER s * 65536 + s.mir.takes, { s with mir := { s.mir with takes := s.mir.takes + 1 } })

/-- A frame of a namespace without dedup sealed and placed for a write's chunk (R184): its stripe notes the write it belongs to. -/
def placeDirect (nsid w : Nat) (fp : Digest) (cl : Nat) (z : List Byte) (s : State) : Bool × State :=
  match sealSlot (kdOf nsid s) s with
  | none => (false, s)
  | some k =>
    match sealWith k cl z s with
    | (0, f, s) =>
      match placeSealed (groupOfNs nsid s) 0 nsid (((nsOf nsid s).map (·.width)).getD 16) none none f fp (kdOf nsid s) false (reserveNonces k s) with
      | (some l, s) =>
        (true, match steepOf l.stripe s with | some y => setSteep { y with owners := y.owners ++ [(l.off, w, 0)] } s | none => s)
      | (none, s) => (false, s)
    | (_, _, s) => (false, s)

/-- One entry applied to the live map as a write or a deallocation of the target's own (R316). -/
def applyEntry (x : InSession) (b : InBatch) (p : RepEntry × Nat) (s : State) : Nat × State :=
  let e := p.1
  let (w, s) := newWseq s
  let g := groupOfNs x.nsid s
  let kd := kdOf x.nsid s
  let s := if b.dup.contains p.2 then
      match findEntry e.fp kd s with
      | some y => transact none [.entryPut { y with holds := y.holds + 1 }] s
      | none => s
    else s
  let d : Dirty := if e.trim then { wseq := w, kind := .dealloc, nsid := x.nsid, ranges := [(e.addr, e.len)], group := g, acked := true, started := true }
    else { wseq := w, nsid := x.nsid, addr := e.addr, len := e.len, group := g, bytes := caddySize (caddyFor e.len), acked := true, started := true,
           chunks := [{ coff := e.coff, len := e.len, fp := e.fp, settled := true }] }
  let s := onArr (fun a => { a with dirty := a.dirty ++ [d] }) s
  match b.raw.find? (·.1 == p.2) with
  | some r => (w, (placeDirect x.nsid w e.fp r.2.1 r.2.2 s).2)
  | none => (w, s)

/-- The entries of a batch applied in order; answers their WSEQs. -/
def applyEntries (x : InSession) (b : InBatch) : List (RepEntry × Nat) → List Nat → State → List Nat × State
  | [], ws, s => (ws, s)
  | p :: l, ws, s =>
    let (w, s) := applyEntry x b p s
    applyEntries x b l (ws ++ [w]) s

/-- A chunk that another entry brings stands in the index. -/
def dupReady (x : InSession) (b : InBatch) (s : State) : Bool :=
  b.dup.all (fun i => ((b.entries[i]?).bind (fun e => findEntry e.fp (kdOf x.nsid s) s)).isSome)

/-- Every batch whose chunks are all here is applied, in batch order (R316). -/
def applyReady (x : InSession) (s : State) : State :=
  match x.batches.find? (fun b => !b.applied) with
  | none => s
  | some b =>
    let room : Bool := b.raw.isEmpty || ((placeShelf s).isSome && (sealSlot (kdOf x.nsid s) s).isSome)
    if !b.need.isEmpty || !dupReady x b s || !room then s else
    let (ws, s) := applyEntries x b b.entries.zipIdx [] s
    commitReady (setBatch x { b with applied := true, wseqs := ws, raw := [] } s)

/-- A write of a batch is held under its mirror epoch: released, or its map commit durable (R316). -/
def writeHeld (w : Nat) (s : State) : Bool :=
  match dirtyOf w s with
  | some d => commitDurable d s
  | none => true

/-- Applied batches that are durable are acknowledged, oldest first, and the durable address follows (R316, R318). DESIGN CHOICE, unsafe: log 68. -/
def ackBatches : Nat → InSession → State → State
  | 0, _, s => s
  | n + 1, x, s =>
    match x.batches with
    | b :: rest =>
      if b.applied ∧ b.wseqs.all (fun w => writeHeld w s) then
        let top := b.entries.foldl (fun t e => max t (entEnd e)) x.top
        let y := { x with batches := rest, top := top, resume := match rest with | r :: _ => max x.resume ((r.entries.head?.map (·.addr)).getD 0) | [] => top }
        ackBatches n y (sendRep x.chip 0x15 { session := x.num, batch := b.batch } (setIn y s))
      else s
    | [] => s

/-- A frame received and checked (R315): the entry it made PENDING with a hold, the frame sealed and placed. Answers whether it found its
place. -/
def storeFrame (x : InSession) (e : RepEntry) (cl : Nat) (z : List Byte) (s : State) : Bool × State :=
  let kd := kdOf x.nsid s
  match sealSlot kd s, placeShelf s with
  | some k, some _ =>
    match sealWith k cl z s with
    | (0, f, s) =>
      match placeSealed (groupOfNs x.nsid s) 0 x.nsid (((nsOf x.nsid s).map (·.width)).getD 16) none none f e.fp kd true (reserveNonces k s) with
      | (some _, s) => (true, createEntry e.fp kd cl (((nsOf x.nsid s).map (fun n => scopeOf n s == .domain)).getD false) s)
      | (none, s) => (false, s)
    | (_, _, s) => (false, s)
  | _, _ => (false, s)

/-- What an entry's frame holds, once decrypted, decompressed and checked (R315). DESIGN CHOICE, unsafe: log 69. -/
def checkFrame (x : InSession) (e : RepEntry) (m : RepMsg) (s : State) : Option (List Byte) :=
  (sessKey x.chip x.num s).bind (fun k =>
    let z := sessCtr k x.num x.chip m.counter m.frame s
    match decodeFrame z, saltOf (kdOf x.nsid s) s with
    | some c, some salt => if c.length = e.chunkLen ∧ fpOf salt c = e.fp then some z else none
    | _, _ => none)

/-- REP_DATA at the target (R315): a frame that fails a check is asked for again, three requests in all; then the session fails. One that finds
no place yet is kept. -/
def targetData (m : RepMsg) (s : State) : State :=
  match inSess m s with
  | none => s
  | some x =>
    match x.batches.find? (·.batch == m.batch) with
    | none => s
    | some b =>
      match (b.entries[m.index]?).filter (fun _ => b.need.contains m.index) with
      | none => s
      | some e =>
        let got := { b with need := b.need.filter (· != m.index) }
        match checkFrame x e m s with
        | some z =>
          if !dedupNs x.nsid s then setBatch x { got with raw := b.raw ++ [(m.index, e.chunkLen, z)] } s
          else match storeFrame x e e.chunkLen z s with
            | (true, s) => setBatch x got s
            | (false, s) => setIn { x with kept := x.kept.filter (fun y => !(y.batch == m.batch && y.index == m.index)) ++ [m] } s
        | none =>
          let n := kget 0 b.tries m.index + 1
          if n < 3 then
            sendRep m.chip 0x13 { session := m.session, batch := m.batch, need := [m.index], index := n }
              (setBatch x { b with tries := kput b.tries m.index n } s)
          else
            let s := releaseIn x s
            let s := onArr (fun a => { a with inSessions := a.inSessions.filter (fun y => !(y.nsid == x.nsid && y.num == x.num && !y.done)) }) s
            sendRep m.chip 0x18 { result := 1, session := m.session, reason := 5 } s

/-- What the target sessions can do now: frames kept are tried again, batches applied and acknowledged. -/
def settleTargets (s : State) : State :=
  forEach s.arr.inSessions (fun x0 s =>
    let again := fun (s : State) => s.arr.inSessions.find? (fun y => y.nsid == x0.nsid && y.num == x0.num && y.snapid == x0.snapid)
    let s := match again s with
      | some x => forEach x.kept targetData (setIn { x with kept := [] } s)
      | none => s
    let s := match again s with | some x => applyReady x s | none => s
    let s := match again s with | some x => applyReady x s | none => s
    match again s with | some x => ackBatches 8 x s | none => s) s

/-- REP_FPS at the target (R314): every entry is confirmed and REP_NEED sent; FULL when the space of R250 is wanting. -/
def targetFps (m : RepMsg) (s : State) : State :=
  match inSess m s with
  | none => s
  | some x =>
    if x.done || x.batches.any (·.batch == m.batch) then s
    else if noSpace ((m.entries.filter (fun e => !e.trim)).foldl (fun n e => n + e.len) 0) s then
      sendRep m.chip 0x13 { result := 5, session := m.session, batch := m.batch } s
    else
      let (b, s) := confirmEntries x (kdOf x.nsid s) (dedupNs x.nsid s) m.entries.zipIdx { batch := m.batch, entries := m.entries } s
      settleTargets (sendRep m.chip 0x13 { session := m.session, batch := m.batch, need := b.need } (setIn { x with batches := x.batches ++ [b] } s))

/-- REP_COMMIT at the target (R317): the REPLICA_POINT snapshot in one transaction, then the mark cleared on the previous one. -/
def targetCommit (m : RepMsg) (s : State) : State :=
  match inSess m s with
  | none => s
  | some x =>
    let reply := fun (r : Nat) (s : State) => sendRep m.chip 0x17 { result := r, session := m.session, snapid := m.snapid } s
    if x.done then reply 0 s
    else if !x.batches.isEmpty then s
    else if snapLimit x.nsid s then reply 5 s
    else
      let old := latestReplica x.nsid s
      let g := some (groupOfNs x.nsid s)
      let id := x.nsid * 2 ^ 32 + kget 0 s.arr.snapSerial x.nsid + 1
      let s := transact g [.snapPut { snapid := id, point := newPoint s, created := opsec s, replicaPoint := true, sourceSnapid := m.snapid }] s
      let s := match old with
        | some y => transact g [.snapPut { y with replicaPoint := false }] s
        | none => s
      reply 0 (setIn { x with done := true } s)

/-- REP_CLOSE at the target (R311). -/
def targetClose (m : RepMsg) (s : State) : State :=
  match inSess m s with
  | none => s
  | some x =>
    if x.done then s else
    let s := releaseIn x s
    onArr (fun a => { a with inSessions := a.inSessions.filter (fun y => !(y.nsid == x.nsid && y.num == x.num && !y.done)) }) s

/-- A message for a target, by its TYPE, at the head that owns the replica namespace's group. -/
def targetMsg (typ : Nat) (m : RepMsg) (s : State) : State :=
  match typ with
  | 0x10 => targetOpen m s
  | 0x12 => targetFps m s
  | 0x14 => settleTargets (targetData m s)
  | 0x16 => targetCommit m s
  | 0x18 => targetClose m s
  | _ => s

/-- A message that reached this head (R308): the owner of the namespace's group takes it, the other head passes it on. -/
def routeRep (typ : Nat) (m : RepMsg) (s : State) : State :=
  let here : Bool := if typ = 0x10 then owns (groupOfNs m.dstNsid s) s else (inSess m s).isSome
  if here || solo s then targetMsg typ m s else sendPartner (.rep typ m) s

/-- REP_CLOSE (R311, R315): from a source it ends the target session; from a target whose checks failed three times it fails the session. DESIGN CHOICE, unsafe: log 67. -/
def opRepClose (m : RepMsg) (s : State) : State :=
  if m.result = 0 then routeRep 0x18 m s else
  match srcSess m s with
  | some x => settleSessions (endSess x .failed m.reason s)
  | none => s

/-! ### Lost chunks (R298, R320) -/

/-- A lost chunk. -/
def lostOf (fp : Digest) (kd : Nat) (s : State) : Option Lost := s.arr.lost.find? (fun l => l.fp == fp && l.kd == kd)

/-- A lost chunk replaced. -/
def setLost (x : Lost) (s : State) : State :=
  onArr (fun a => { a with lost := a.lost.map (fun l => if l.fp = x.fp ∧ l.kd = x.kd then x else l) }) s

/-- REP_FETCH to the first peer left. -/
def askPeer (x : Lost) (s : State) : State :=
  match x.peers with
  | p :: _ => sendRep p.chip 0x19 { session := p.session, srcNsid := p.src, dstNsid := p.dst, fp := x.fp, probe := saltProbe p.src s } s
  | [] => s

/-- The peers of a lost chunk (R320): the paired chips with a DONE session from a namespace that names it, newest session first; a target's
source counts as paired. -/
def peersOf (fp : Digest) (kd : Nat) (s : State) : List LostPeer :=
  let nss := ((s.arr.maps ++ s.arr.retained.map (·.rec_)).filter (fun r => r.fp == some fp && r.kd == kd)).map (·.nsid) |>.eraseDups
  let fromSrc := (s.arr.sessions.reverse.filter (fun x => x.st == .done && nss.contains (snapNs x.snapid))).map (fun x =>
    { chip := x.chip, dst := x.dstNsid, src := snapNs x.snapid, session := x.num, keyChip := ownChip s : LostPeer })
  let fromDst := (s.arr.inSessions.reverse.filter (fun x => x.done && nss.contains x.nsid)).map (fun x =>
    { chip := x.chip, dst := x.srcNsid, src := x.nsid, session := x.num, keyChip := x.chip : LostPeer })
  (fromSrc ++ fromDst).foldl (fun l p => if l.any (fun q => q.chip == p.chip && q.dst == p.dst) then l else l ++ [p]) []

/-- Step 4: the replicas are asked. -/
def askReplicas (x : Lost) (s : State) : State :=
  let y := { x with domain := none, peers := peersOf x.fp x.kd s }
  askPeer y (setLost y s)

/-- The bytes of a chunk in dirty data. -/
def dirtyChunk (fp : Digest) (kd : Nat) (s : State) : Option (List Byte) :=
  s.arr.dirty.findSome? (fun d =>
    if d.handle.isSome && kdOf d.nsid s == kd then
      (d.chunks.find? (fun c => c.fp == fp && c.coff == 0)).map (fun c => ((dirtyData d s).drop c.off).take c.len)
    else none)

/-- A lost chunk sought (R298): dirty data; another entry of the array; under scope DOMAIN the domain's directory; then the replicas. -/
def seekOne (x : Lost) (s : State) : State :=
  let x := { x with sought := true }
  let s := setLost x s
  match dirtyChunk x.fp x.kd s with
  | some b => restoreChunk x.fp x.kd b s
  | none =>
    match s.arr.index.find? (fun e => e.fp == x.fp && e.kd == x.kd && !e.lost && e.state == .live && (match e.kind with | .chunk _ => true | _ => false)) with
    | some e =>
      match (match e.kind with | .chunk l => readStored l e.frameLen s | _ => (none, s)) with
      | (some b, s) => restoreChunk x.fp x.kd b s
      | (none, s) => askReplicas x s
    | none =>
      if !domainKd x.kd s then askReplicas x s else
      let h := homeOf x.fp s
      if h = s.arr.arrayNum then
        match (dirEntry x.fp x.kd s).map (fun (e : IndexEntry) => e.kind) with
        | some (EntryKind.dir y) =>
          if y = s.arr.arrayNum then askReplicas x s
          else sendDedup y 8 { kd := x.kd, fp := x.fp, loc := s.arr.arrayNum } (setLost { x with domain := some y } s)
        | _ => askReplicas x s
      else sendDedup h 1 { kd := x.kd, fp := x.fp } (setLost { x with domain := some h } s)

/-- The chunks lost and not yet sought are sought. -/
def settleLost (s : State) : State := arSettle (forEach (s.arr.lost.filter (fun l => !l.sought)) (fun l s => seekOne l s) s)

/-- DIR_REPLY: of a lost chunk it names the array to fetch from; else it answers a chunk's probe. -/
def dirReplyAll (m : DedupMsg) (s : State) : State :=
  match (lostOf m.fp m.kd s).filter (fun l => l.domain == some m.from_ && (domOf m.fp m.kd s).isNone) with
  | none => opDirReply m s
  | some l =>
    if m.result = 0 ∧ m.loc % 32 ≠ s.arr.arrayNum then
      sendDedup (m.loc % 32) 8 { kd := m.kd, fp := m.fp, loc := s.arr.arrayNum } (setLost { l with domain := some (m.loc % 32) } s)
    else askReplicas l s

/-- FETCH: the answer for a lost chunk restores it or leads to the replicas; the answer for a session's imported chunk lets the session go on, GONE
failing it; else it is a read's, or another array's question. -/
def fetchAll (m : DedupMsg) (s : State) : State :=
  match (lostOf m.fp m.kd s).filter (fun l => l.domain == some m.from_ && !s.arr.fetches.any (fun f => f.fp == m.fp && f.exporter == m.from_)) with
  | some l =>
    if m.result = 4 then sendDedup m.from_ 8 { kd := m.kd, fp := m.fp, loc := s.arr.arrayNum } s
    else match (if m.result = 0 then chunkOf m.frame s else none) with
      | some b => restoreChunk m.fp m.kd b (setLost { l with domain := none } s)
      | none => askReplicas l s
  | none =>
    let ss := (s.arr.fetches.filter (fun f => f.fp == m.fp && f.kd == m.kd && f.exporter == m.from_ && 4096 ≤ f.slot)).map (·.slot - 4096)
    let s := opFetch m s
    if m.result = 2 then forEach ss (fun n s => match sessOf n s with | some x => if sessEnded x then s else closeSess x .failed 5 s | none => s) s
    else s

/-- REP_FETCH (R320): the peer ships the frame of a LIVE entry; on a sleeping shelf it answers NOT_READY and queues a wake of priority 5; else
GONE. -/
def opRepFetch (m : RepMsg) (s : State) : State :=
  let reply := fun (r crd : Nat) (s : State) => sendRep m.chip 0x1A { result := r, session := m.session, fp := m.fp, crd := crd } s
  if m.probe ≠ saltProbe m.dstNsid s then reply 3 0 s else
  let kd := kdOf m.dstNsid s
  match s.arr.index.find? (fun e => e.fp == m.fp && e.kd == kd && e.state == .live && !e.lost && (match e.kind with | .chunk _ => true | _ => false)) with
  | none => reply 7 0 s
  | some e =>
    match e.kind with
    | .chunk l =>
      if (steepOf l.stripe s).isNone && !shelfReads l.shelf s then reply 6 (crdOf l.shelf s) (requestWake l.shelf .rep s)
      else
        let key : Option (Nat × Option InSession × Option Session) := match sessKey m.chip m.session s with
          | some k => some (k, s.arr.inSessions.find? (fun x => x.chip == m.chip && x.num == m.session), none)
          | none => (sessKey (ownChip s) m.session s).map (fun k => (k, none, sessOf m.session s))
        match readFrame l e.frameLen s, key with
        | some (z, cl), some (k, i, o) =>
          let seq := match i, o with | some x, _ => x.seq | none, some y => y.dataSeq | none, none => 0
          let s' := match i, o with
            | some x, _ => setIn { x with seq := x.seq + 1 } s
            | none, some y => setSess { y with dataSeq := y.dataSeq + 1 } s
            | none, none => s
          reply 0 0 (sendRep m.chip 0x14 { session := m.session, fp := m.fp, chunkLen := cl, counter := seq, frame := sessCtr k m.session (ownChip s) seq z s } s')
        | none, _ => reply 7 0 (loseChunk e s)
        | _, none => reply 1 0 s
    | _ => reply 7 0 s

/-- REP_FETCH_REPLY (R298, R320), with the frame that REP_DATA placed in the fetch window: bytes that pass their check are restored; NOT_READY asks
again after its delay; else the next peer is asked. -/
def opRepFetchReply (m : RepMsg) (s : State) : State :=
  match s.arr.lost.find? (fun l => l.fp == m.fp && (l.peers.head?).any (fun p => p.chip == m.chip)) with
  | none => s
  | some x =>
    let next := fun (s : State) => let y := { x with peers := x.peers.drop 1 }; askPeer y (setLost y s)
    if m.result = 6 then askPeer x s
    else if m.result ≠ 0 then next s
    else
      let bytes := (x.peers.head?).bind (fun p => (sessKey p.keyChip p.session s).bind (fun k =>
        decodeFrame (sessCtr k p.session m.chip m.counter m.frame s)))
      match bytes, saltOf x.kd s with
      | some b, some salt => if fpOf salt b = x.fp then restoreChunk x.fp x.kd b s else next s
      | _, _ => next s

/-! ### Rows that let sessions go on -/

/-- What follows a change of the tables: target sessions, source sessions and lost chunks. -/
def settleRep (s : State) : State := settleLost (settleSessions (settleTargets s))

end Sys2Proof.Machine
end

