-- ==== Sys2Proof/Machine/Security.lean ====
section
/-! DEFINITION. The security block: identity keys, measurements, reports, the array wrapping key and key transport, images and the boot
flash (chapter "Identity, keys and firmware", R444 to R469). -/

namespace Sys2Proof.Machine

open Sys2Proof

/-! ### Identity (R444 to R447) -/

/-- The bytes of an ASCII label. -/
def ascii (t : String) : List Byte := t.toList.map (fun c => BitVec.ofNat 8 c.toNat)

/-- TEST_MODE as sampled (R447). -/
def testMode (s : State) : Bool := rbit F.SEC_STATUS_TEST s

/-- The seed that the derivation unit uses: 32 zero bytes in TEST mode (R447). -/
def seedBytes (s : State) : List Byte :=
  if testMode s then List.replicate 32 0 else (List.range 32).map Config.deviceSeed

/-- Measurement `i` (Table 15.2); M0 is fixed. -/
def measOf (i : Nat) (s : State) : Digest := if i = 0 then Config.romHash else s.sec.meas.getD i 0

/-- MEAS of R445: M0, M1, M2 and M4. -/
def measCat (s : State) : List Byte := ([0, 1, 2, 4].map (fun i => digestBytes (measOf i s))).flatten

/-- The seed of an identity key: 0 DevID, 1 alias; 2 and 3 are d and z of the transport key (Table 15.1). -/
def identitySeed (k : Nat) (s : State) : List Byte :=
  match k with
  | 0 => sha3 (ascii "THAGAN-DEVID" ++ seedBytes s)
  | 1 => sha3 (ascii "THAGAN-ALIAS" ++ seedBytes s ++ measCat s)
  | 2 => sha3 (ascii "THAGAN-KEM-D" ++ seedBytes s ++ measCat s)
  | _ => sha3 (ascii "THAGAN-KEM-Z" ++ seedBytes s ++ measCat s)

/-- The DevID public key. -/
def devidPub (s : State) : List Byte := padTo 1312 (Config.mldsaPub (identitySeed 0 s))

/-- The alias public key. -/
def aliasPub (s : State) : List Byte := padTo 1312 (Config.mldsaPub (identitySeed 1 s))

/-- The transport public key. -/
def transportPub (s : State) : List Byte := padTo 1184 (Config.mlkemPub (identitySeed 2 s) (identitySeed 3 s))

/-- SVN_F (R460). -/
def svnF (s : State) : Nat := rget F.SEC_SVN_FUSED s

/-- A field of an image header (Table 15.6). -/
def hdrField (o n : Nat) (img : List Byte) : Nat := ofLe ((img.drop o).take n)

/-- Bytes 0–399 of the attestation report, with a nonce (Table 15.3). -/
def reportBody (nonce : List Byte) (s : State) : List Byte :=
  let flags := headSlot s + (if testMode s then 2 else 0) + (if rget F.SEC_STATUS_STAGE s = 3 then 4 else 0) +
    (if rbit F.SEC_STATUS_TRIAL s then 8 else 0)
  leBytes 2 1 ++ leBytes 1 0 ++ leBytes 1 6 ++ leBytes 4 2820 ++ leBytes 8 (rget F.CHIP_ID_SERIAL s) ++
    leBytes 2 (rget F.CHIP_ESTATE_NUM_NUM s) ++ leBytes 1 flags ++ leBytes 1 (svnF s) ++ leBytes 2 s.sec.m3 ++ leBytes 2 s.sec.m5 ++
    leBytes 8 (rget F.CLK_OPTIME_OPSEC s) ++ leBytes 8 (rget F.CLK_POWER_CYCLES_COUNT s) ++ leBytes 8 (rget F.CLK_TICK_TICK s) ++
    padTo 32 nonce ++ sha3 (devidPub s) ++ sha3 (aliasPub s) ++ ((List.range 6).map (fun i => digestBytes (measOf i s))).flatten ++
    List.replicate 64 0

/-- The extension of the built certificates (R446). -/
def certExt (s : State) : List Byte :=
  ((List.range 6).map (fun i => digestBytes (measOf i s))).flatten ++ leBytes 1 (svnF s) ++ (s.sec.s1.drop 16).take 8 ++ (s.sec.rt.drop 16).take 8

/-- The item of REPORT_SEL (R449); none for a value that it does not define. -/
def reportItem (sel : Nat) (nonce : List Byte) (s : State) : Option (List Byte) × State :=
  match sel with
  | 0 =>
    let (r, s) := drawBytes 32 s
    let b := reportBody nonce s
    (some (b ++ padTo 2420 (Config.mldsaSign (identitySeed 1 s) (ascii "THAGAN-ATT") b r)), s)
  | 1 => (some ((Config.certArea 1).take 8192), s)
  | 2 => (some ((Config.certBuild 2 (aliasPub s) (certExt s) (identitySeed 0 s)).take 8192), s)
  | 3 => (some ((Config.certBuild 3 (transportPub s) (certExt s) (identitySeed 1 s)).take 8192), s)
  | 4 => (some ((Config.certArea 4).take 8192), s)
  | _ => (none, s)

/-! ### Images and the boot flash (R453 to R456) -/

/-- The key of a slot in the boot flash: class 1 to 3, slot 0 A or 1 B. -/
def imageKey (cls slot : Nat) : Nat := 2 * (cls - 1) + slot

/-- The bytes of a slot (Table 15.5). -/
def slotSize (cls : Nat) : Nat := match cls with | 1 => 2 * 2 ^ 20 | 2 => 24 * 2 ^ 20 | _ => 4 * 2 ^ 20

/-- The image of a slot that the part wrote itself; none where the slot still holds what the board put there. -/
def slotImage (cls slot : Nat) (s : State) : Option (List Byte) := kfind s.sec.images (imageKey cls slot)

/-- The header in a slot. -/
def slotHeader (cls slot : Nat) (s : State) : List Byte :=
  match slotImage cls slot s with
  | some b => b.take 4096
  | none => (List.range 4096).map (Config.imageByte (imageKey cls slot))

/-- The directory copy in force: the one with the higher SEQ (R454). -/
def dirIdx (s : State) : Nat := if (s.sec.dirs.getD 0 {}).seq < (s.sec.dirs.getD 1 {}).seq then 1 else 0

/-- The directory in force. -/
def bootDir (s : State) : BootDir := s.sec.dirs.getD (dirIdx s) {}

/-- A class byte of SEC_IMAGE_SLOT (R469). -/
def classByte (cls running : Nat) (s : State) : Nat :=
  let d := bootDir s
  let valid := fun k => match slotImage cls k s with | some [] => 0 | _ => 1
  running + 2 * d.committed.getD (cls - 1) 0 + (if (d.trial.getD (cls - 1) none).isSome then 4 else 0) + 8 * valid 0 + 16 * valid 1

/-- SEC_IMAGE_SLOT follows the directory and the slots; the RUNNING bits stay. -/
def syncSlots (s : State) : State :=
  let run := fun (f : Field) => rget f s % 2
  let s1 := rset F.SEC_IMAGE_SLOT_STAGE1 (classByte 1 (run F.SEC_IMAGE_SLOT_STAGE1) s) s
  let s2 := rset F.SEC_IMAGE_SLOT_RUNTIME (classByte 2 (run F.SEC_IMAGE_SLOT_RUNTIME) s) s1
  let s3 := rset F.SEC_IMAGE_SLOT_POLICY (classByte 3 (run F.SEC_IMAGE_SLOT_POLICY) s) s2
  rset F.SEC_IMAGE_SLOT_DIR_SEQ (bootDir s).seq s3

/-- SET_DIR and the writes of the boot stages (R454): the copy with the lower SEQ is written, with SEQ + 1 of the one in force. -/
def writeDir (f : BootDir → BootDir) (s : State) : State :=
  let d := bootDir s
  let d' := { f d with seq := d.seq + 1 }
  syncSlots { s with sec := { s.sec with dirs := listSet s.sec.dirs (1 - dirIdx s) d' } }

/-- A class's TRIAL set to a slot, TRIES to 0 (Table 15.8). -/
def setTrial (cls slot : Nat) (s : State) : State :=
  writeDir (fun d => { d with trial := listSet d.trial (cls - 1) (some slot), tries := listSet d.tries (cls - 1) 0 }) s

/-- A class's COMMITTED set to a slot, TRIAL cleared (R462). -/
def setCommitted (cls slot : Nat) (s : State) : State :=
  let s := writeDir (fun d => { d with committed := listSet d.committed (cls - 1) slot, trial := listSet d.trial (cls - 1) none }) s
  { s with sec := { s.sec with commitAt := rget F.CLK_OPTIME_OPSEC s } }

/-- KEY_ID is allowed for the class, and an owner key is fused (check 8). -/
def keyAllowed (cls k : Nat) (s : State) : Bool :=
  (decide (1 ≤ k) && decide (k ≤ 4)) || (cls == 3 && (k == 16 || k == 17) && rtest F.SEC_FUSE_STATUS_OWNER_KEY (k - 16) s)

/-- POLICY_SVN_MIN of the configuration store (R456); of it the spec gives no default. DESIGN CHOICE, unsafe: log 71. -/
def policySvnMin (s : State) : Nat := s.arr.settings.policySvnMin

/-- The first check of Table 15.7 that an image fails, 0 when it passes all of 1 to 13. DESIGN CHOICE, safe: log 23. -/
def checkImage (cls : Nat) (img : List Byte) (s : State) : Nat :=
  let f := fun o n => hdrField o n img
  let key := f 9 1
  let pub := (img.drop 2676).take 1312
  if img.length < 4096 then 1
  else if f 0 4 ≠ 0x74101A6E then 2
  else if f 4 2 ≠ 1 then 3
  else if f 6 2 ≠ 0x7410 then 4
  else if f 8 1 ≠ cls then 5
  else if f 11 1 ≠ 0 ∨ f 10 1 / 16 ≠ 0 ∨ f 69 187 ≠ 0 ∨ f 3988 108 ≠ 0 then 6
  else if f 24 4 = 0 ∨ slotSize cls - 4096 < f 24 4 then 7
  else if !keyAllowed cls key s then 8
  else if decide (key ≤ 4) && rtest F.SEC_FUSE_STATUS_SYH_REVOKED (key - 1) s then 9
  else if digestOf (sha3 pub) ≠ Config.keyHash key then 10
  else if f 12 4 < svnF s ∨ 128 < f 12 4 ∨ (cls = 3 ∧ f 12 4 < policySvnMin s) then 11
  else if !Config.mldsaVerify pub (ascii "THAGAN-IMG") (img.take 256) ((img.drop 256).take 2420) then 12
  else if digestOf (sha3 ((img.drop 4096).take (f 24 4))) ≠ digestOf ((img.drop 32).take 32) then 13
  else 0

/-- IMAGE_REFUSED (R456): recorded with class, slot and code; LAST_REFUSE and REFUSALS follow. -/
def refuseImage (cls slot code : Nat) (s : State) : State :=
  let s := rinc F.SEC_STATUS_REFUSALS 1 (rset F.SEC_STATUS_LAST_REFUSE code s)
  record Ev.IMAGE_REFUSED srcSUP 0 (leBytes 1 cls ++ leBytes 1 slot ++ leBytes 1 code) s

/-- The code of a slot: of an image the part wrote, checked here; of what the board put there `dflt` says whether it passes, a slot that fails
reading as erased flash does (MAGIC). -/
def slotCode (cls slot : Nat) (dflt : Bool) (s : State) : Nat :=
  match slotImage cls slot s with
  | some b => checkImage cls b s
  | none => if dflt then 0 else 2

/-! ### The operation block of SEC_ATTEST_CTL (R448 to R451, Table 15.12) -/

/-- RESULT codes (Table 15.11). -/
def resOk := 0
def resBadAddr := 2
def resNoKey := 3
def resVerifyFail := 4
def resPolicy := 5
def resTest := 6
def resBadOp := 7

/-- The end of an operation. DESIGN CHOICE, unsafe: log 34. -/
def secDone (r : Nat) (s : State) : State := rset F.SEC_ATTEST_CTL_RESULT r (rflag F.SEC_ATTEST_CTL_BUSY false s)

/-- The `n` bytes of a block at byte `o`; none when they do not lie in the pair's SRAM or DRAM, or cannot be read. -/
def blockRead (c : CoreId) (addr o n : Nat) (s : State) : Option (List Byte) × State :=
  if !dataPlace c (addr + o) true s || !dataPlace c (addr + o + (n - 1)) true s then (none, s) else readMem (physKey c (addr + o)) n s

/-- Bytes written into a block at byte `o`. -/
def blockWrite (c : CoreId) (addr o : Nat) (l : List Byte) (s : State) : State := memWrite (physKey c (addr + o)) l s

/-- REPORT (op 1): nonce at 0, REPORT_SEL at 32, the item at 64. DESIGN CHOICE, unsafe: log 70. -/
def secReport (c : CoreId) (addr : Nat) (s : State) : State :=
  match blockRead c addr 0 33 s with
  | (none, s) => secDone resBadAddr s
  | (some b, s) =>
    if !rbit F.SEC_STATUS_ALIAS_READY s then secDone resNoKey s else
    match reportItem (ofLe (b.drop 32)) (b.take 32) s with
    | (none, s) => secDone resBadOp s
    | (some l, s) => secDone resOk (blockWrite c addr 64 l s)

/-- The image that a block names: its address at 0, its class at 8. -/
def blockImage (c : CoreId) (addr cls : Nat) (s : State) : Option (List Byte) × State :=
  match blockRead c addr 0 4096 s with
  | (none, s) => (none, s)
  | (some h, s) => blockRead c addr 0 (4096 + min (hdrField 24 4 h) (slotSize cls - 4096)) s

/-- VERIFY (op 2): checks 2 to 13 on the image at the address at 0, of the class at 8; the code of the first failure at 16. DESIGN CHOICE, unsafe: log 70. -/
def secVerify (c : CoreId) (addr : Nat) (s : State) : State :=
  match blockRead c addr 0 9 s with
  | (none, s) => secDone resBadAddr s
  | (some b, s) =>
    let cls := ofLe (b.drop 8)
    match blockImage c (ofLe (b.take 8)) cls s with
    | (none, s) => secDone resBadAddr s
    | (some img, s) =>
      let code := checkImage cls img s
      let s := blockWrite c addr 16 (leBytes 1 code) s
      if code = 0 then secDone resOk s else secDone resVerifyFail (refuseImage cls 0xFF code s)

/-- A measurement written. -/
def setMeas (i : Nat) (d : Digest) (s : State) : State := { s with sec := { s.sec with meas := listSet s.sec.meas i d } }

/-- STAGE 2 (R445, R448): the alias and transport keys are derived and their certificates built. -/
def enterStage2 (s : State) : State := rflag F.SEC_STATUS_ALIAS_READY true (rset F.SEC_STATUS_STAGE 2 s)

/-- MEASURE of a value into a slot (Table 15.2): slot 2 by Stage 1, once, setting STAGE; slots 3 and 5 by supervisor pair 0 once the Runtime
runs, counted; any other write is BAD_OP. -/
def measure (slot : Nat) (d : Digest) (s : State) : State :=
  let stage := rget F.SEC_STATUS_STAGE s
  if slot = 2 ∧ stage = 1 then secDone resOk (enterStage2 (setMeas 2 d s))
  else if slot = 3 ∧ 2 ≤ stage then secDone resOk (setMeas 3 d { s with sec := { s.sec with m3 := s.sec.m3 + 1 } })
  else if slot = 5 ∧ 2 ≤ stage then secDone resOk (setMeas 5 d { s with sec := { s.sec with m5 := s.sec.m5 + 1 } })
  else secDone resBadOp s

/-- MEASURE (op 3): slot number at 0, value at 8. DESIGN CHOICE, unsafe: log 70. -/
def secMeasure (c : CoreId) (addr : Nat) (s : State) : State :=
  match blockRead c addr 0 40 s with
  | (none, s) => secDone resBadAddr s
  | (some b, s) => measure (ofLe (b.take 8)) (digestOf (b.drop 8)) s

/-- SK of R450. -/
def sealKey (s : State) : List Byte := sha3 (ascii "THAGAN-SEAL" ++ seedBytes s)

/-- Bytes sealed under a key: nonce, ciphertext, tag. -/
def sealBytes (key aad l : List Byte) (s : State) : List Byte × State :=
  let (iv, s) := drawBytes 12 s
  let (ct, tag) := gcmEnc key iv aad l
  (iv ++ ct ++ tag, s)

/-- Sealed bytes opened; `n` is the length of the clear bytes. DESIGN CHOICE, unsafe: log 70. -/
def openSealed (key aad b : List Byte) (n : Nat) : Option (List Byte) := gcmDec key (b.take 12) aad ((b.drop 12).take n) ((b.drop (12 + n)).take 16)

/-- The AWK installed; the key domains open (R166). In TEST mode none is loaded (R447). DESIGN CHOICE, unsafe: log 86. -/
def setAwk (k : List Byte) (s : State) : State :=
  if testMode s then s else
  openDomains (rflag F.SEC_STATUS_AWK_LOADED true { s with keys := { s.keys with awk := some k, noAwk := false } })

/-- The blob of the AWK kept in the configuration store (R450). -/
def keepBlob (b : List Byte) (s : State) : State := { s with keys := { s.keys with blob := some (padTo 64 b) } }

/-- The AWK received from another part: installed, and this head's own blob of it kept (R450). -/
def takeAwk (k : List Byte) (s : State) : State :=
  let (b, s) := sealBytes (sealKey s) [] k s
  setAwk k (keepBlob b s)

/-- The AWK unsealed at start from this head's blob (R450); where it does not unseal the head serves no group until it has the AWK. -/
def startAwk (s : State) : State :=
  match s.keys.awk, s.keys.blob with
  | none, some b =>
    let s := { s with keys := { s.keys with noAwk := true } }
    match openSealed (sealKey s) [] b 32 with
    | some k => setAwk k s
    | none => s
  | _, _ => s

/-- AWK_GENERATE (op 4): the sealed blob of 64 bytes, written at 0. -/
def secAwkGenerate (c : CoreId) (addr : Nat) (s : State) : State :=
  if testMode s then secDone resTest s
  else if s.keys.awk.isSome then secDone resPolicy s
  else if !dataPlace c addr true s then secDone resBadAddr s
  else
    let (k, s) := drawBytes 32 s
    let (b, s) := sealBytes (sealKey s) [] k s
    secDone resOk (setAwk k (keepBlob b (blockWrite c addr 0 (padTo 64 b) s)))

/-- AWK_UNSEAL (op 5): the blob at 0. -/
def secAwkUnseal (c : CoreId) (addr : Nat) (s : State) : State :=
  if testMode s then secDone resTest s else
  match blockRead c addr 0 64 s with
  | (none, s) => secDone resBadAddr s
  | (some b, s) =>
    match openSealed (sealKey s) [] b 32 with
    | none => secDone resVerifyFail s
    | some k => secDone resOk (setAwk k s)

/-- The key that seals a transport's payload (R451). -/
def xferKey (ss : List Byte) : List Byte := sha3 (ascii "THAGAN-XFER" ++ ss)

/-- The PROG key of a session (Table 15.4). DESIGN CHOICE, unsafe: log 67. -/
def progKey (ss : List Byte) (session : Nat) : List Byte := sha3 (ascii "THAGAN-REP" ++ ss ++ leBytes 4 session)

/-- The first 16 bytes of a PROG load block. DESIGN CHOICE, unsafe: log 69. -/
def progHead (keyId : Nat) : List Byte := leBytes 2 1 ++ leBytes 1 4 ++ leBytes 1 0 ++ leBytes 2 0 ++ leBytes 2 0 ++ leBytes 8 keyId

/-- What SEND_KEY makes: a result, the ciphertext, the sealed payload, and for PURPOSE 1 the own wrapped PROG load block. -/
structure XferOut where
  result : Nat := 0
  ct : List Byte := []
  payload : List Byte := []
  block : List Byte := []

/-- SEND_KEY against a peer's transport key (R451, Table 15.4). DESIGN CHOICE, safe: log 23. DESIGN CHOICE, unsafe: log 71. -/
def sendKey (purpose session : Nat) (peer rec_ : List Byte) (s : State) : XferOut × State :=
  if testMode s then ({ result := resTest }, s) else
  match s.keys.awk with
  | none => ({ result := resNoKey }, s)
  | some awk =>
    if 3 ≤ purpose then ({ result := resBadOp }, s) else
    let (m, s) := drawBytes 32 s
    let (ct, ss) := Config.mlkemEncaps peer m
    let ct := padTo 1088 ct
    match purpose with
    | 0 =>
      let (p, s) := sealBytes (xferKey ss) [] awk s
      ({ ct := ct, payload := p }, s)
    | 1 =>
      let (iv, s) := drawBytes 12 s
      ({ ct := ct, block := padTo 128 (wrapRecord awk (progHead (ownChip s * 2 ^ 32 + session)) iv (progKey ss session)) }, s)
    | _ =>
      match unwrap awk rec_ with
      | none => ({ result := resVerifyFail }, s)
      | some mat =>
        let (p, s) := sealBytes (xferKey ss) [] (rec_.take 16 ++ padTo 64 mat) s
        ({ ct := ct, payload := p }, s)

/-- SEND_KEY (op 6): PURPOSE at 0, session number at 4, the peer's key at 64, the record at 1248; the ciphertext at 2048, the sealed payload at
3136 and the load block at 3264. DESIGN CHOICE, unsafe: log 70. -/
def secSendKey (c : CoreId) (addr : Nat) (s : State) : State :=
  match blockRead c addr 0 3392 s with
  | (none, s) => secDone resBadAddr s
  | (some b, s) =>
    let (o, s) := sendKey (ofLe (b.take 1)) (ofLe ((b.drop 4).take 4)) ((b.drop 64).take 1184) ((b.drop 1248).take 128) s
    if o.result ≠ 0 then secDone o.result s
    else secDone resOk (blockWrite c addr 2048 (padTo 1088 o.ct) (blockWrite c addr 3136 o.payload (blockWrite c addr 3264 o.block s)))

/-- RECEIVE_KEY (R451, Table 15.4): a result and what it brings: an installed AWK, a PROG load block, or the record wrapped again. DESIGN CHOICE, unsafe: log 71. -/
def receiveKey (purpose session keyId : Nat) (ct payload : List Byte) (s : State) : Nat × List Byte × State :=
  if testMode s then (resTest, [], s) else
  let ss := Config.mlkemDecaps (identitySeed 2 s) (identitySeed 3 s) ct
  match purpose with
  | 0 =>
    match openSealed (xferKey ss) [] payload 32 with
    | none => (resVerifyFail, [], s)
    | some k => if s.keys.awk = some k then (resOk, [], s) else if s.keys.awk = none then (resOk, [], takeAwk k s) else (resPolicy, [], s)
  | 1 =>
    match s.keys.awk with
    | none => (resNoKey, [], s)
    | some awk =>
      let (iv, s) := drawBytes 12 s
      (resOk, padTo 128 (wrapRecord awk (progHead keyId) iv (progKey ss session)), s)
  | 2 =>
    match s.keys.awk, openSealed (xferKey ss) [] payload 80 with
    | none, _ => (resNoKey, [], s)
    | _, none => (resVerifyFail, [], s)
    | some awk, some p =>
      let (iv, s) := drawBytes 12 s
      (resOk, padTo 128 (wrapRecord awk (p.take 16) iv (p.drop 16)), s)
  | _ => (resBadOp, [], s)

/-- RECEIVE_KEY (op 7): PURPOSE at 0, session number at 4, KEY_ID at 8, the ciphertext at 64, the sealed payload at 1152; what it brings at
2048. DESIGN CHOICE, unsafe: log 70. -/
def secReceiveKey (c : CoreId) (addr : Nat) (s : State) : State :=
  match blockRead c addr 0 2176 s with
  | (none, s) => secDone resBadAddr s
  | (some b, s) =>
    let (r, l, s) := receiveKey (ofLe (b.take 1)) (ofLe ((b.drop 4).take 4)) (ofLe ((b.drop 8).take 8)) ((b.drop 64).take 1088) ((b.drop 1152).take 128) s
    secDone r (if r = resOk then blockWrite c addr 2048 l s else s)

/-- An image written to a slot and read back (R461). -/
def writeSlot (cls slot : Nat) (img : List Byte) (s : State) : State :=
  syncSlots { s with sec := { s.sec with images := kput s.sec.images (imageKey cls slot) img } }

/-- WRITE_SLOT (op 8): the image's address at 0, class at 8, slot at 9. DESIGN CHOICE, unsafe: log 70. -/
def secWriteSlot (c : CoreId) (addr : Nat) (s : State) : State :=
  match blockRead c addr 0 10 s with
  | (none, s) => secDone resBadAddr s
  | (some b, s) =>
    let cls := ofLe ((b.drop 8).take 1)
    let slot := ofLe (b.drop 9)
    if cls = 0 ∨ 3 < cls ∨ 1 < slot then secDone resBadOp s else
    match blockImage c (ofLe (b.take 8)) cls s with
    | (none, s) => secDone resBadAddr s
    | (some img, s) => secDone resOk (writeSlot cls slot img s)

/-- SET_DIR (op 9): class at 0, TRIAL (0) or COMMIT (1) at 1, slot at 2. DESIGN CHOICE, unsafe: log 70. -/
def secSetDir (c : CoreId) (addr : Nat) (s : State) : State :=
  match blockRead c addr 0 3 s with
  | (none, s) => secDone resBadAddr s
  | (some b, s) =>
    let cls := ofLe (b.take 1)
    let act := ofLe ((b.drop 1).take 1)
    let slot := ofLe (b.drop 2)
    if cls = 0 ∨ 3 < cls ∨ 1 < slot ∨ 1 < act then secDone resBadOp s
    else secDone resOk (if act = 0 then setTrial cls slot s else setCommitted cls slot s)

/-- A write of SEC_ATTEST_CTL by a core that may make it (R468): OBJ and INDEX are stored and the operation runs, whole in this step. DESIGN CHOICE, unsafe: log 49. -/
def writeAttest (c : CoreId) (v : Nat) (s : State) : State :=
  let s := rset F.SEC_ATTEST_CTL_OBJ (bits v 54 52) (rset F.SEC_ATTEST_CTL_INDEX (bits v 51 42) s)
  let addr := bits v 41 0 * 64
  match bits v 63 60 with
  | 1 => secReport c addr s
  | 2 => secVerify c addr s
  | 3 => secMeasure c addr s
  | 4 => secAwkGenerate c addr s
  | 5 => secAwkUnseal c addr s
  | 6 => secSendKey c addr s
  | 7 => secReceiveKey c addr s
  | 8 => secWriteSlot c addr s
  | 9 => secSetDir c addr s
  | _ => secDone resBadOp s

/-- A read of SEC_ID_WIN (R468): word INDEX of object OBJ, and INDEX advances; words past the object's end read 0. -/
def readIdWin (s : State) : Word × State :=
  let i := rget F.SEC_ATTEST_CTL_INDEX s
  let l := match rget F.SEC_ATTEST_CTL_OBJ s with
    | 0 => if rbit F.SEC_STATUS_DEVID_READY s then devidPub s else []
    | 1 => if rbit F.SEC_STATUS_ALIAS_READY s then aliasPub s else []
    | 2 => if rbit F.SEC_STATUS_ALIAS_READY s then transportPub s else []
    | 3 => ((List.range 6).map (fun i => digestBytes (measOf i s))).flatten
    | _ => []
  (BitVec.ofNat 64 (ofLe ((l.drop (8 * i)).take 8)), rset F.SEC_ATTEST_CTL_INDEX (i + 1) s)

/-! ### Anti-rollback (R460) -/

/-- A write of SEC_SVN by supervisor pair 0: ADVANCE above either running SVN or above 128 is refused with RESULT 5; SVN_F never falls; with
APPLY_REVOKE the running Runtime's REVOKE bits blow, but for the key that signed it. DESIGN CHOICE, unsafe: log 34. -/
def writeSvn (v : Nat) (s : State) : State :=
  let n := bits v 63 56
  if rget F.SEC_SVN_S1_SVN s < n ∨ rget F.SEC_SVN_RT_SVN s < n ∨ 128 < n then rset F.SEC_ATTEST_CTL_RESULT resPolicy s
  else if n ≤ svnF s then s
  else
    let s := rset F.SEC_SVN_FUSED n s
    let s := if v.testBit 48 then
        forEach (List.range 4) (fun j s =>
          if (hdrField 10 1 s.sec.rt).testBit j && hdrField 9 1 s.sec.rt != j + 1 then rputBit F.SEC_FUSE_STATUS_SYH_REVOKED j true s else s) s
      else s
    record Ev.SVN_ADVANCED srcSUP 0 (leBytes 1 n) s

/-- The Array Runtime advances SVN_F (R460): with committed images at both heads, the same version in the partner's health word, and 24 h after
the last commit, to the lower running SVN. DESIGN CHOICE, unsafe: log 34. -/
def advanceSvn (s : State) : State :=
  if rget F.SEC_STATUS_STAGE s = 2 ∧ rbit F.SEC_STATUS_TRIAL s = false ∧ partnerHere s = true ∧ s.mir.partnerFirm = false ∧
      versionsDiffer s = false ∧ s.sec.commitAt + 86400 ≤ rget F.CLK_OPTIME_OPSEC s then
    writeSvn (min (rget F.SEC_SVN_S1_SVN s) (rget F.SEC_SVN_RT_SVN s) * 2 ^ 56) s
  else s

/-! ### Key transport between arrays (R451, R452) -/

/-- A key transport message sent. -/
def sendKeyMsg (chip typ : Nat) (m : KeyMsg) (s : State) : State := egress (.key chip typ { m with chip := ownChip s }) s

/-- KEY_QUERY: the three certificates and a report on the asker's nonce go back. -/
def opKeyQuery (m : KeyMsg) (s : State) : State :=
  let (rep, s) := reportItem 0 m.nonce s
  let (ce, s) := [3, 2, 1].foldl (fun (p : List Byte × State) k =>
    let (x, s) := reportItem k [] p.2
    (p.1 ++ x.getD [], s)) ([], s)
  sendKeyMsg m.chip 0x21 { purpose := m.purpose, session := m.session, nonce := m.nonce, peerKey := transportPub s, svn := svnF s,
                           payload := ce ++ rep.getD [] } s

/-- A PROG load block installed by the Array Runtime, from slot 0xFFF downward (R221). -/
def loadBlock (b : List Byte) (s : State) : State := loadRecord 0 0 b s

/-- The record of a new generation that a chip has not accepted (R219). -/
def pendingRecord (m : KeyMsg) (s : State) : Option (List Byte) :=
  if s.keys.pend.any (fun p => p.kd * 65536 + p.gen == m.session && p.chips.contains m.chip) then
    s.keys.records.find? (fun b => ofLe ((b.drop 2).take 1) == 1 && ofLe ((b.drop 4).take 2) * 65536 + ofLe ((b.drop 6).take 2) == m.session)
  else none

/-- A session of this head that waits for its key from a chip. -/
def keyWaiter (m : KeyMsg) (s : State) : Option Session :=
  s.arr.sessions.find? (fun x => x.mine && x.chip == m.chip && x.num == m.session && x.sends != 0 && !sessEnded x &&
    (sessKey (ownChip s) x.num s).isNone)

/-- KEY_CERTS (R451 steps 2 to 4), for a session's key or for a record of a new generation (R219, R452): the Array Runtime checks the peer, whose SVN_F must be at least this part's, executes SEND_KEY and sends the
offer; its own copy of the session key is loaded. -/
def opKeyCerts (m : KeyMsg) (s : State) : State :=
  if m.purpose = 2 then
    match pendingRecord m s with
    | none => s
    | some b =>
      if !m.ok || decide (m.svn < svnF s) then s else
      let (o, s) := sendKey 2 m.session m.peerKey (padTo 128 b) s
      if o.result ≠ 0 then s
      else sendKeyMsg m.chip 0x22 { purpose := 2, session := m.session, ciphertext := o.ct, payload := o.payload } s
  else
  match keyWaiter m s with
  | none => s
  | some x =>
    if !m.ok || decide (m.svn < svnF s) then s else
    let (o, s) := sendKey 1 x.num m.peerKey [] s
    if o.result ≠ 0 then s
    else sendKeyMsg m.chip 0x22 { purpose := 1, session := x.num, ciphertext := o.ct, payload := o.payload } (loadBlock o.block s)

/-- KEY_OFFER (R451 step 5): RECEIVE_KEY; a session's key is loaded, a record kept and opened (R452); KEY_ACCEPT carries the result. -/
def opKeyOffer (m : KeyMsg) (s : State) : State :=
  let (r, l, s) := receiveKey m.purpose m.session (m.chip * 2 ^ 32 + m.session) m.ciphertext m.payload s
  let s := if r ≠ resOk then s else if m.purpose = 1 then loadBlock l s else if m.purpose = 2 then takeRecord l s else s
  sendKeyMsg m.chip 0x23 { purpose := m.purpose, session := m.session, result := r } s

/-- KEY_ACCEPT: a part took a new generation (R219); with RESULT OK the session's REP_OPEN follows; otherwise its key is given up and REP_OPEN_RETRY asks again. -/
def opKeyAccept (m : KeyMsg) (s : State) : State :=
  if m.purpose = 2 ∧ m.result = 0 then
    { s with keys := { s.keys with pend := s.keys.pend.map (fun p =>
        if p.kd * 65536 + p.gen = m.session then { p with chips := p.chips.filter (· != m.chip) } else p) } }
  else if m.purpose ≠ 1 then s
  else if m.result = 0 then
    match sessOf m.session s with
    | some x => if x.chip = m.chip then onSessionKey m.session s else s
    | none => s
  else
    match sessKey (ownChip s) m.session s with
    | some i => setKey i {} s
    | none => s

/-! ### Attestation Report (R449) -/

/-- ATTESTATION_REPORT: 64 bytes of data, of which the last 32 are 0; the item kept for log page C5h, its length in DW0. DESIGN CHOICE, unsafe: log 49. -/
def opAttestationReport (slot : SlotNo) (s : State) : State :=
  adminCmd slot.val 0xC5 (fun _ m s =>
    let d := m.data
    let sel := m.sqe.cdw10
    if 4 < sel ∨ m.sqe.cdw11 ≠ 0 ∨ m.sqe.cdw12 ≠ 0 ∨ m.sqe.cdw13 ≠ 0 ∨ m.sqe.cdw14 ≠ 0 ∨ m.sqe.cdw15 ≠ 0 ∨ dataLen m ≠ 64 ∨ (d.drop 32).any (· != 0) then failSlot slot.val stInvalidField s else
    match reportItem sel (d.take 32) s with
    | (none, s) => failSlot slot.val stInvalidField s
    | (some l, s) =>
      let s := { s with host := { s.host with attest := kput s.host.attest m.id.cntlid l } }
      doneSlot slot.val { dw0 := l.length } s) s

end Sys2Proof.Machine
end

