-- ==== Sys2Proof/Machine/Firmware.lean ====
section
/-! DEFINITION. Firmware: staging, the Commit actions, the policy load (R69, R461, R462, R464, R466). -/

namespace Sys2Proof.Machine

open Sys2Proof

/-- The staging buffer's size (R461). -/
def stageMax : Nat := 24 * 2 ^ 20

/-- FIRMWARE_IMAGE_DOWNLOAD (R461): NUMD + 1 dwords at dword OFST; OFST 0 starts a new image; a gap, an overlap or data past 24 MiB spoils it. DESIGN CHOICE, unsafe: log 51. -/
def opDownload (slot : SlotNo) (s : State) : State :=
  adminCmd slot.val 0x11 (fun _ m s =>
    let n := 4 * (m.sqe.cdw10 + 1)
    let o := 4 * m.sqe.cdw11
    if dataLen m ≠ n then failSlot slot.val stInvalidField s else
    let old := if o = 0 then [] else s.host.staged
    let bad : Bool := decide (o ≠ 0 ∧ (s.sec.badStage = true ∨ o ≠ old.length)) || decide (stageMax < o + n)
    let s := { s with sec := { s.sec with badStage := bad },
                      host := { s.host with staged := if bad then old else old ++ padTo n m.data } }
    doneSlot slot.val stOk s) s

/-- The class of the staged image; Runtime where nothing is staged. DESIGN CHOICE, unsafe: log 51. -/
def stagedClass (s : State) : Nat :=
  let c := hdrField 8 1 s.host.staged
  if s.host.staged = [] ∨ c = 0 ∨ 3 < c then 2 else c

/-- The slot that FS names (R461): 1 slot A, 2 slot B, 0 the one that is not COMMITTED for the staged image's class. -/
def fsSlot (fs : Nat) (s : State) : Option Nat :=
  match fs with
  | 0 => some (1 - (bootDir s).committed.getD (stagedClass s - 1) 0)
  | 1 => some 0
  | 2 => some 1
  | _ => none

/-- The RUNNING slot of a class (R469). -/
def runningSlotOf (cls : Nat) (s : State) : Nat :=
  (match cls with
   | 1 => rget F.SEC_IMAGE_SLOT_STAGE1 s
   | 2 => rget F.SEC_IMAGE_SLOT_RUNTIME s
   | _ => rget F.SEC_IMAGE_SLOT_POLICY s) % 2

/-- RUNNING of a class set. -/
def setRunning (cls slot : Nat) (s : State) : State :=
  match cls with
  | 1 => rset F.SEC_IMAGE_SLOT_STAGE1 (classByte 1 slot s) s
  | 2 => rset F.SEC_IMAGE_SLOT_RUNTIME (classByte 2 slot s) s
  | _ => rset F.SEC_IMAGE_SLOT_POLICY (classByte 3 slot s) s

/-- The image in a slot, as far as its header says it reaches. -/
def wholeImage (cls slot : Nat) (s : State) : List Byte :=
  match slotImage cls slot s with
  | some b => b
  | none =>
    let n := 4096 + min (hdrField 24 4 (slotHeader cls slot s)) (slotSize cls - 4096)
    (List.range n).map (Config.imageByte (imageKey cls slot))

/-- A Runtime header's CFG_FMT may be activated (R466). -/
def cfgMayActivate (hd : List Byte) (s : State) : Bool :=
  let f := hdrField 28 2 hd
  if cfgInUse s ≤ f then true else
  match cfgGen f s, cfgGen (cfgInUse s) s with
  | some g, some cur => decide (cur - 1 ≤ g)
  | _, _ => false

/-- A region of a core's hooks: its first byte and its size. -/
def hookRegion (c : CoreId) (i : Nat) (s : State) : Nat × Nat :=
  let w := fun (j : Nat) => bits (((coreOf s c).hrg.getD j 0).toNat) 47 12 * 4096
  (w (2 * i), w (2 * i + 1) - w (2 * i))

/-- A Policy body copied into the hook code region of each data-path core, and what is left of it into its policy data region (R464). DESIGN CHOICE,
unsafe: log 51. -/
def copyPolicy (body : List Byte) (s : State) : State :=
  forEach (List.range 64) (fun n s =>
    let c : CoreId := Fin.ofNat 66 n
    let code := hookRegion c 0 s
    let data := hookRegion c 1 s
    memWrite (physKey c data.1) ((body.drop code.2).take data.2) (memWrite (physKey c code.1) (body.take code.2) s)) s

/-- Policy load (R464): HOOK_EN cleared, the body copied, M3 measured, HOOK_EN set from HOOKS; SYNC.I finds no cached instruction in this model. DESIGN
CHOICE, unsafe: log 51. -/
def loadPolicy (slot : Nat) (s : State) : State :=
  let hd := slotHeader 3 slot s
  let hooks := hdrField 68 1 hd % 16
  let s := copyPolicy ((wholeImage 3 slot s).drop 4096) (rset F.DPC_HOOK_BUDGET_HOOK_EN 0 s)
  let s := setRunning 3 slot { s with task := { s.task with policyHooks := hooks } }
  let s := { s with sec := { s.sec with m3 := s.sec.m3 + 1 } }
  rset F.DPC_HOOK_BUDGET_HOOK_EN hooks (setMeas 3 (digestOf (sha3 (hd.take 256))) s)

/-- The activation of R69 begins: TRIAL is set, the groups are handed to the partner, the tasks drain; the restart follows when no task is left. DESIGN CHOICE, unsafe: log 48. -/
def beginActivation (cls slot : Nat) (t : Task) (i : Nat) (s : State) : State :=
  let s := freeSlot i (handAll (setTrial cls slot s))
  startDrain { s with mir := { s.mir with activating := true }, chip := { s.chip with commit := some (t, cls, slot) } }

/-- A Commit's write of the staged image into a slot (action 000b and 001b): `f` goes on when it is written. -/
def commitStaged (i sl : Nat) (f : Nat → State → State) (s : State) : State :=
  let cls := stagedClass s
  if s.sec.badStage ∨ s.host.staged = [] then failSlot i stInvalidImage s
  else if sl = runningSlotOf cls s then failSlot i stInvalidSlot s
  else
    let code := checkImage cls s.host.staged s
    if code ≠ 0 then failSlot i stInvalidImage (refuseImage cls sl code s)
    else f cls (writeSlot cls sl (s.host.staged.take (4096 + hdrField 24 4 s.host.staged)) s)

/-- A Commit's check of the image in a slot (actions 010b and 011b). -/
def commitSlot (i sl : Nat) (f : Nat → State → State) (s : State) : State :=
  let cls := stagedClass s
  let code := checkImage cls (wholeImage cls sl s) s
  if s.sec.badStage ∨ code ≠ 0 then failSlot i stInvalidImage (if code = 0 then s else refuseImage cls sl code s) else f cls s

/-- TRIAL is set to a slot, where R466 allows its configuration format. -/
def commitTrial (i sl cls : Nat) (s : State) : State :=
  if cls = 2 ∧ cfgMayActivate (slotHeader 2 sl s) s = false then failSlot i stActivationProhibited s
  else doneSlot i stOk (setTrial cls sl s)

/-- A Firmware Commit in a slot, for its action (R69, R461): CDW10 [2:0] FS, [5:3] action. Action 0 stands for the undefined ones too. DESIGN CHOICE, unsafe: log 51. -/
def commitCmd (i action : Nat) (f : Task → Nat → State → State) (s : State) : State :=
  match slotCmd i true 0x10 s with
  | none => s
  | some m =>
    let a := m.sqe.cdw10 / 8 % 8
    if a ≠ action ∧ !(action == 0 && decide (3 < a)) then s else
    adminCmd i 0x10 (fun t m s =>
      if 3 < a then failSlot i stInvalidField s else
      match fsSlot (m.sqe.cdw10 % 8) s with
      | none => failSlot i stInvalidSlot s
      | some sl => f t sl s) s

/-- COMMIT_ACTION_000: VERIFY the staged image; WRITE_SLOT. -/
def opCommit000 (slot : SlotNo) (s : State) : State :=
  commitCmd slot.val 0 (fun _ sl s => commitStaged slot.val sl (fun _ s => doneSlot slot.val stOk s) s) s

/-- COMMIT_ACTION_001: as 000b, then TRIAL. -/
def opCommit001 (slot : SlotNo) (s : State) : State :=
  commitCmd slot.val 1 (fun _ sl s => commitStaged slot.val sl (commitTrial slot.val sl) s) s

/-- COMMIT_ACTION_010: VERIFY the image in the slot, then TRIAL. -/
def opCommit010 (slot : SlotNo) (s : State) : State :=
  commitCmd slot.val 2 (fun _ sl s => commitSlot slot.val sl (commitTrial slot.val sl) s) s

/-- COMMIT_ACTION_011 (R69, R462, R464): unless the partner is absent, fenced, activating or rejoining, a Policy is loaded without restart and a
Stage 1 or Runtime is activated. -/
def opCommit011 (slot : SlotNo) (s : State) : State :=
  commitCmd slot.val 3 (fun t sl s =>
    if !partnerHere s || s.mir.partnerFirm then failSlot slot.val stActivationProhibited s
    else commitSlot slot.val sl (fun cls s =>
      if cls = 3 then doneSlot slot.val stOk (loadPolicy sl s)
      else if cls = 2 ∧ cfgMayActivate (slotHeader 2 sl s) s = false then failSlot slot.val stActivationProhibited s
      else beginActivation cls sl t slot.val s) s) s

end Sys2Proof.Machine
end

