-- ==== Sys2Proof/Machine/Runtime.lean ====
section
/-! DEFINITION. How the Array Runtime starts: the configuration it takes up, the chunking parameters, the key domains, the dedup domain and the strainer
(R162, R166, R173, R175, R181, R185, R191, R219, R450). -/

namespace Sys2Proof.Machine

open Sys2Proof

/-! ### What a reset keeps of the keys and of dedup -/

/-- The keys after a reset: the configuration store's, with the store's slots, its AWK and the counts of sends cleared (R218, R222, R450). -/
def durableKeys (k : Keys) : Keys :=
  { reserved := k.reserved, blob := k.blob, records := k.records, use := k.use, pend := k.pend.map (fun p => { p with epoch := 0 }) }

/-! ### ING_CHUNK_CFG (R162) -/

/-- The parameter fields of ING_CHUNK_CFG as they stand. -/
def chunkCfgWord (s : State) : Nat :=
  rget F.ING_CHUNK_CFG_L_BITS s * 2 ^ 40 + rget F.ING_CHUNK_CFG_S_BITS s * 2 ^ 32 + rget F.ING_CHUNK_CFG_MAX_4K s * 2 ^ 24 +
    rget F.ING_CHUNK_CFG_AVG_4K s * 2 ^ 16 + rget F.ING_CHUNK_CFG_MIN_4K s * 2 ^ 8

/-- The value that the configuration store holds for the parameter fields. -/
def storedCfg (s : State) : Nat := bits s.arr.chunkCfg 47 8 * 2 ^ 8

/-- DEDUP_SCOPE_REFUSED. -/
def scopeRefused (s : State) : State := recordFw Ev.DEDUP_SCOPE_REFUSED srcSUP 0 [] s

/-- ING_CHUNK_CFG at a start (R162): written from the store and locked at power-on; after a warm reset, which finds it locked, compared with the store:
where they differ this head serves no group until power-on reset. -/
def startChunkCfg (s : State) : State :=
  if !rbit F.ING_CHUNK_CFG_LOCK s then writeChunkCfg (BitVec.ofNat 64 (2 ^ 63 + storedCfg s)) s
  else if chunkCfgWord s = storedCfg s ∨ s.arr.noServe then s
  else scopeRefused (onArr (fun a => { a with noServe := true }) s)

/-! ### The dedup domain (R162, R185, R191) -/

/-- The DIR entries of a place of HOME that names another array now, sent there and removed here, before the new table takes effect (R185). -/
def moveHome (i x : Nat) (s : State) : State :=
  let s := if x = s.arr.arrayNum then s else
    forEach (s.arr.index.filter (fun e => digestField e.fp 2 2 % 4096 == i && (match e.kind with | .dir _ => true | _ => false))) (fun e s =>
      match e.kind with
      | .dir y => transact none [.entryDel e] (strainerDelete e.fp e.strSel (egress (.dirMove x e.fp e.kd y) s))
      | _ => s) s
  onArr (fun a => { a with home := kput a.home i x }) s

/-- The IMPORT entries that name a removed array are lost (R191), with one IMPORT_LOST for each namespace and LBA range that reads through them. -/
def loseImports (x : Nat) (s : State) : State :=
  let es := s.arr.index.filter (fun e => e.kind == .importFrom x && !e.lost)
  let s := transact none (es.flatMap (fun e => [.lostPut e.fp e.kd 0, .entryPut { e with lost := true }])) s
  recordRanges Ev.IMPORT_LOST x [] (es.flatMap (fun e => s.arr.maps.filter (fun r => r.fp == some e.fp && r.kd == e.kd))) s

/-- EVICT for every EXT_REF entry, with the frame of its chunk, before the array leaves the domain by plan (R191). -/
def evictAll (s : State) : State :=
  forEach s.arr.index (fun e s =>
    match e.kind with
    | .extRef x =>
      let m : DedupMsg := { kd := e.kd, serial := e.serial, fp := e.fp }
      match referenced m s with
      | some c =>
        let frame := match c.kind with | .chunk l => (frameAt l c.frameLen s).getD [] | _ => []
        sendDedup x 8 { m with chunkLen := c.chunkLen, frameLen := c.frameLen, frame := frame } s
      | none => s
    | _ => s) s

/-- The configuration that the store and the domain hold, taken up (R162, R185, R191). DESIGN CHOICE, unsafe: log 90. -/
def applyDomain (d : DomainCfg) (s : State) : State :=
  let s := forEach d.home (fun p s => moveHome p.1 p.2 s) s
  let s := forEach d.dirs (fun p s => if (dirEntry p.1 p.2.1 s).isSome then s else makeDir p.1 p.2.1 p.2.2 s) s
  let s := match d.domainCfg with
    | some n => if bits n 47 8 * 2 ^ 8 = storedCfg s then onArr (fun a => { a with noDomain := false }) s
                else scopeRefused (onArr (fun a => { a with noDomain := true }) s)
    | none => s
  let s := forEach d.removed loseImports s
  if d.leave then evictAll s else s

/-- Every copy of the journal is lost: the write pointers of this head's open zones are to be read (R252). -/
def loseJournal (s : State) : State :=
  onArr (fun a =>
    let zones := (a.zoneSets.filter (fun p => p.2.own && p.2.isOpen)).flatMap (fun p => p.2.members)
    { a with journal := [], pointers := [], unread := zones.eraseDups }) s

/-- The store's own values taken up. DESIGN CHOICE, unsafe: log 90. -/
def takeConfig (d : DomainCfg) (s : State) : State :=
  let s := onArr (fun a => { a with arrayNum := d.array.getD a.arrayNum, chips := d.chips.getD a.chips, width := d.width.getD a.width,
                                    settings := d.settings.getD a.settings, chunkCfg := d.chunkCfg.getD a.chunkCfg, cfg := none }) s
  let s := if d.journalLost then loseJournal s else s
  { s with keys := { s.keys with records := s.keys.records ++ d.records.map (padTo 112) } }

/-! ### The start -/

/-- The strainer at a start (R173, R175): empty after power loss, of the size the members ask for, until it is rebuilt from the index. -/
def startStrainer (s : State) : State :=
  if s.arr.strainer.rebuilding then
    onArr (fun a => { a with strainer := { b := strainerB (dataInService s) s, rebuilding := true, noted := a.strainer.noted } }) s
  else s

/-- M5 written at a start (R448). DESIGN CHOICE, safe: log 92. -/
def measureStore (s : State) : State :=
  tickFree (setMeas 5 (Config.cfgMeasure s.freeCtr) { s with sec := { s.sec with m5 := s.sec.m5 + 1 } })

/-- The Array Runtime starts: the configuration and its measurement, ING_CHUNK_CFG, the AWK and the key domains, the dedup domain, the strainer, and the chunks whose frames
were lost on their way (R181). DESIGN CHOICE, unsafe: log 90. -/
def startRuntime (s : State) : State :=
  let cfg := s.arr.cfg
  let s := match cfg with | some d => takeConfig d s | none => s
  let s := startAwk (startChunkCfg (measureStore s))
  markOrphans (match cfg with | some d => applyDomain d (startStrainer s) | none => startStrainer s)

end Sys2Proof.Machine
end

