-- ==== Sys2Proof/Machine/Reset.lean ====
section
/-! DEFINITION. Resets, the boot chain, the vault image and DRAM training (R402, R454 to R459, R465, R477 to R490, R511). -/

namespace Sys2Proof.Machine

open Sys2Proof

/-! ### What a reset keeps (R480, R481, R511) -/

/-- A key of the register file belongs to the field. -/
def keyIn (k : Nat) (f : Field) : Bool :=
  k % 64 == f.lsb && decide (f.addr ≤ k / 64) && (k / 64 - f.addr) % 8 == 0 && decide ((k / 64 - f.addr) / 8 < f.cnt)

/-- Every field of the register map. -/
def allFields : List Field := (List.range 20).flatMap F.ofBlock

/-- What a power-on reset keeps in registers: the part's identity and fuses. -/
def porFields : List Field :=
  [F.CHIP_ID_SERIAL, F.SEC_FUSE_STATUS_FUSE_ECC_ERR, F.SEC_FUSE_STATUS_OWNER_KEY, F.SEC_FUSE_STATUS_SYH_REVOKED,
   F.SEC_FUSE_STATUS_SEED_OK, F.SEC_FUSE_STATUS_MFG_LOCKED, F.SEC_SVN_FUSED, F.CHIP_STRAPS_GPIO_IN]

/-- What a warm reset keeps beside the RWS fields (Table 16.5): counters of time, retirements, the live pins, CRIT_LOST and what the recorder
shows of its flash and FIFO. -/
def warmFields : List Field :=
  [F.CLK_TICK_TICK, F.CLK_OPTIME_OPSEC, F.CLK_POWER_CYCLES_COUNT, F.CLK_ALARM_RTC_SEC, F.SEC_STATUS_REFUSALS,
   F.TSK_DISPATCH_CNT_COUNT, F.ING_KAT_CTL_KAT_PASSES, F.CMP_VERIFY_CFG_KAT_PASSES, F.EVR_LOST_TOTAL, F.FLT_CTR_VAL_PEAK,
   F.DPC_CORE_RETIRED_CORES, F.DPC_CORE_STATUS_RETIRED, F.ING_ENGINE_STATUS_SHA3_RETIRED, F.ING_ENGINE_STATUS_CHUNK_RETIRED,
   F.CMP_RETIRED_DEC, F.CMP_RETIRED_COMP, F.CIP_LANE_STATUS_RETIRED, F.PAR_STATUS_RETIRED, F.MEM_RETIRE_CNT_NO_SPARE, F.MEM_RETIRE_CNT_ROWS,
   F.EVR_STATUS_CRIT_LOST, F.EVR_STATUS_READY, F.EVR_STATUS_BIRTH_LOCKED, F.EVR_STATUS_WEAR_LIMITED, F.EVR_STATUS_ERASE_BUSY,
   F.EVR_STATUS_OPEN, F.EVR_STATUS_RESERVE_USED, F.EVR_STATUS_FIFO_LEVEL, F.EVR_HEAD_SEQ_SEQ, F.EVR_TAIL_SEQ_SEQ,
   F.EVR_BIRTH_COUNT_LOCKED, F.EVR_BIRTH_COUNT_COUNT, F.CHIP_STRAPS_TEST_MODE_PIN, F.CHIP_STRAPS_BOOT_SRC_PIN,
   F.CHIP_STRAPS_HEAD_SLOT_PIN, F.CHIP_STRAPS_TEST_MODE, F.SHF_STATE_EN_SENSE, F.SHF_STATE_PG, F.SHF_STATE_ALERT,
   F.PNL_FENCE_STATUS_CAUSE, F.PNL_FENCE_STATUS_HB_IN_LIVE, F.PNL_FENCE_STATUS_ARMED, F.PNL_FENCE_STATUS_PTN_PRESENT,
   F.PNL_FENCE_STATUS_PTN_PWRGOOD, F.PNL_FENCE_STATUS_FENCE_IN, F.PNL_FENCE_STATUS_FENCE_OUT, F.PNL_FENCE_STATUS_GATED,
   F.PNL_FENCE_STATUS_FENCE_DONE]

/-- What a warm reset with DRAM_KEEP keeps of the DRAM controllers. -/
def dramFields : List Field :=
  [F.MEM_TRAIN_STATUS_CH_TRAINED, F.MEM_TRAIN_STATUS_CH_FAILED, F.MEM_TRAIN_STATUS_SPEED, F.MEM_TRAIN_STATUS_CAPACITY_GIB,
   F.MEM_TRAIN_STATUS_INIT_DONE, F.MEM_TRAIN_STATUS_READY]

/-- The register file cut to some fields. DEDUCED, unsafe: log 60. -/
def keepRegs (l : List Field) (s : State) : KMap Nat := s.regs.filter (fun p => l.any (keyIn p.1))

/-- The dirty data after a reset: its chunks are processed again from its buffers (R181). -/
def redoDirty (d : Dirty) : Dirty := { d with chunks := [], commitEpoch := 0, redo := !d.committed, started := d.committed }

/-- Dirty data that a reset left behind: a write whose completion was still on its way goes on like an acknowledged one. DESIGN CHOICE, unsafe: log 55. -/
def keptDirty (d : Dirty) : Dirty := { redoDirty d with acked := true }

/-- A session after a reset: it goes on from its last checkpoint once its target answers a new REP_OPEN (R311). -/
def resetSess (x : Session) : Session :=
  if sessEnded x then x
  else { x with st := .opening, sends := 1, retries := 0, task := none, ready := false, todo := [], flight := [], owed := [],
                resume := x.ckpt, acked := x.ckpt, ackedBytes := x.ckptBytes }

/-- What the array's tables hold after a reset: the index tier, the drives, the configuration store, and with DRAM kept the dirty data and the
strainer. Work on its way is lost. -/
def durableArr (dram : Bool) (a : Arr) : Arr :=
  { strainer := if dram then a.strainer else { b := a.strainer.b, rebuilding := true, noted := a.strainer.noted },
    recent := a.recent, pages := a.pages, pageWrites := a.pageWrites, mapPages := a.mapPages, tier := a.tier, chips := a.chips, width := a.width, noDomain := a.noDomain,
    noServe := a.noServe, chunkCfg := a.chunkCfg, cfg := a.cfg, settings := a.settings,
    index := a.index.map (fun e => { e with holds := 0 }), home := a.home, arrayNum := a.arrayNum, importSerial := a.importSerial,
    nextUid := a.nextUid, maps := a.maps, retained := a.retained, dirty := if dram then a.dirty.map keptDirty else [],
    jseq := a.jseq, journal := a.journal, unread := a.unread, pointers := a.pointers, nextStripe := a.nextStripe, stripes := a.stripes, zoneSets := a.zoneSets.map (fun p => (p.1, { p.2 with readers := 0 })),
    nextZoneSet := a.nextZoneSet, zones := a.zones, strips := a.strips, members := a.members, rebuildList := a.rebCkpt.list,
    rebuilds := a.rebuilds, rebPos := a.rebCkpt.pos, rebuiltBytes := a.rebCkpt.bytes, rebCkpt := a.rebCkpt,
    rebCkptB := a.rebCkptB, evacuating := a.evacuating,
    scrubPos := a.scrubCkpt, scrubCkpt := a.scrubCkpt, snaps := a.snaps, snapSerial := a.snapSerial, pairings := a.pairings,
    schedule := a.schedule, sessions := a.sessions.map resetSess, sessNum := a.sessNum,
    lost := a.lost.map (fun x => { x with sought := false, domain := none, peers := [] }), indexDegraded := a.indexDegraded,
    shelves := a.shelves.map (fun p => (p.1, { p.2 with holds := [], drained := [false, false], planned := [false, false], retention := false })),
    rtcSaved := a.rtcSaved }

/-- After power loss: this power-on has recorded no STRAINER_SATURATED (R172), and the head may serve groups again (R162). -/
def powerArr (a : Arr) : Arr :=
  let a := durableArr false a
  { a with strainer := { a.strainer with noted := false }, noServe := false }

/-- The fault counters after a reset: counter 1's slots stand in the configuration store (R416); row retirements last until power-on. -/
def resetFlt (warm : Bool) (f : Flt) : Flt :=
  { slots := f.slots.filter (fun p => p.1 / 65536 == 1), retired := if warm then f.retired else [],
    retiredAt := if warm then f.retiredAt else [], katFails := if warm then f.katFails else 0 }

/-- The core state a reset leaves: supervisor pair 0 at the start of the boot ROM (R457). -/
def resetCpu : Cpu := State.reset.cpu

/-! ### The straps, the fuses and the boot chain (R454 to R459, R465) -/

/-- Step 1 and 2 of the boot ROM: the straps are sampled, the fuses read, the DevID key derived; the PLLs are locked and the references present. DEDUCED, unsafe: log 7. DESIGN CHOICE, unsafe: log 51. DESIGN CHOICE, unsafe: log 72. -/
def bootStart (s : State) : State :=
  let s := rset F.CHIP_STRAPS_HEAD_SLOT (rget F.CHIP_STRAPS_HEAD_SLOT_PIN s) s
  let s := rset F.CHIP_STRAPS_BOOT_SRC (rget F.CHIP_STRAPS_BOOT_SRC_PIN s) s
  let s := rflag F.SEC_STATUS_TEST (rbit F.CHIP_STRAPS_TEST_MODE s) s
  let s := rflag F.SEC_STATUS_STRAP_BAD (rget F.CHIP_STRAPS_BOOT_SRC s == 3) s
  let s := rflag F.SEC_FUSE_STATUS_SEED_OK true (rflag F.SEC_FUSE_STATUS_MFG_LOCKED true (rflag F.SEC_STATUS_DEVID_READY true s))
  let s := rset F.CLK_PLL_STATUS_LOCKED 0xFFFF (rflag F.CLK_PLL_STATUS_RTC_OK true (rflag F.CLK_PLL_STATUS_REFSYS_OK true s))
  let s := rset F.CLK_PLL_STATUS_PCIE_REF_OK 0xF (rset F.CLK_PLL_STATUS_ETH_REF_OK 3 (rflag F.CLK_PLL_STATUS_PNL_REF_OK true s))
  let s := forEach (List.range 16) (fun n s => rset F.CLK_ISLAND_FREQ_MHZ (rget F.PWR_DVFS_MHZ s n) s n) s
  syncSlots s

/-- The slot a stage boots for a class, before its checks (R458). -/
def bootChoice (cls : Nat) (s : State) : Nat × State :=
  let d := bootDir s
  let com := d.committed.getD (cls - 1) 0
  if rget F.CHIP_STRAPS_BOOT_SRC s = 1 then (1 - com, s) else
  match d.trial.getD (cls - 1) none with
  | none => (com, s)
  | some t =>
    if d.tries.getD (cls - 1) 0 = 0 then (t, writeDir (fun d => { d with tries := listSet d.tries (cls - 1) 1 }) s)
    else (com, refuseImage cls t 14 (writeDir (fun d => { d with trial := listSet d.trial (cls - 1) none }) s))

/-- The slot a stage boots for a class (R458): the chosen one, else the other; none when both are refused. `ok` says whether an image of the
board's own passes its checks. -/
def bootSlot (cls : Nat) (ok : Bool) (s : State) : Option Nat × State :=
  let (a, s) := bootChoice cls s
  let x := slotCode cls a ok s
  if x = 0 then (some a, s) else
  let s := refuseImage cls a x s
  let y := slotCode cls (1 - a) ok s
  if y = 0 then (some (1 - a), s) else (none, refuseImage cls (1 - a) y s)

/-- TRIAL of SEC_STATUS once a trial slot runs. -/
def noteTrial (cls slot : Nat) (s : State) : State :=
  if (bootDir s).trial.getD (cls - 1) none = some slot then rflag F.SEC_STATUS_TRIAL true s else s

/-- Recovery (R459): the images fetched by TFTP run with STAGE = 3, go to the COMMITTED slots of their classes, and the part halts. DESIGN CHOICE, unsafe: log 72. -/
def recover (s : State) : State :=
  let d := bootDir s
  let drop := fun (cls : Nat) (s : State) =>
    { s with sec := { s.sec with images := kdel s.sec.images (imageKey cls (d.committed.getD (cls - 1) 0)) } }
  let s := drop 2 (drop 1 (rset F.SEC_STATUS_STAGE 3 s))
  let s := syncSlots { s with chip := { s.chip with recovery := true, stage1Ok := true, runtimeOk := true } }
  recordFw Ev.IMAGE_ACTIVATED srcSUP 0 [] s

/-- The measurement of an image: SHA3-256 of its header bytes 0–255 (R448). DESIGN CHOICE, safe: log 22. DESIGN CHOICE, unsafe: log 72. -/
def headerMeas (hd : List Byte) : Digest := digestOf (sha3 (hd.take 256))

/-- M4: the fuse summary and straps (Table 15.2). -/
def fuseDigest (s : State) : Digest :=
  Config.fuseMeas [svnF s, rget F.SEC_FUSE_STATUS_SYH_REVOKED s, (Config.keyHash 16).toNat, (Config.keyHash 17).toNat, headSlot s,
    rget F.CHIP_STRAPS_BOOT_SRC s, rget F.CHIP_STRAPS_TEST_MODE s]

/-- The boot ROM (R457): steps 3 to 5. -/
def bootRom (s : State) : State :=
  let s := bootStart s
  if rget F.CHIP_STRAPS_BOOT_SRC s = 2 then recover s else
  match bootSlot 1 s.chip.stage1Ok s with
  | (none, s) => recover s
  | (some a, s) =>
    let hd := slotHeader 1 a s
    let s := noteTrial 1 a (setRunning 1 a { s with sec := { s.sec with s1 := hd } })
    let s := setMeas 4 (fuseDigest s) (setMeas 1 (headerMeas hd) s)
    rset F.SEC_SVN_S1_SVN (hdrField 12 4 hd) (rset F.SEC_STATUS_STAGE 1 s)

/-- The newest copy of the configuration store. DESIGN CHOICE, unsafe: log 29. -/
def newestCfg (s : State) : Nat × Nat :=
  s.sec.cfg.foldl (fun b p => if b.2 < p.2 then p else b) (0, 0)

/-- CFG_FMT of the Runtime in a slot; an image of the board's own wrote the newest copy. DESIGN CHOICE, unsafe: log 29. -/
def slotFmt (slot : Nat) (s : State) : Nat :=
  match slotImage 2 slot s with
  | some b => hdrField 28 2 b
  | none => (newestCfg s).1

/-- Configuration migration (R465): false when the Runtime refuses itself. -/
def migrate (fmt : Nat) (s : State) : Bool × State :=
  if (cfgGen fmt s).isSome then (true, s) else
  let ok := s.sec.cfg.filter (fun p => decide (8 ≤ p.1) && decide (p.1 < fmt) && p.2 != 0)
  match ok.foldl (fun (b : Option (Nat × Nat)) p => match b with | some x => if x.2 < p.2 then some p else b | none => some p) none with
  | none => (false, s)
  | some src =>
    let other := if s.sec.cfg.getD 0 (0, 0) = src then 1 else 0
    (true, { s with sec := { s.sec with cfg := listSet s.sec.cfg other (fmt, src.2 + 1) } })

/-- COMMIT of the running trial images once migration ends (R462). -/
def commitTrials (s : State) : State :=
  forEach [1, 2] (fun cls s =>
    if (bootDir s).trial.getD (cls - 1) none = some (runningSlotOf cls s) ∧ rget F.CHIP_STRAPS_BOOT_SRC s ≠ 1 then
      recordFw Ev.IMAGE_ACTIVATED srcSUP 0 (leBytes 1 cls ++ leBytes 1 (runningSlotOf cls s))
        (rflag F.SEC_STATUS_TRIAL false (setCommitted cls (runningSlotOf cls s) s))
    else s) s

/-- The committed Policy slot, checked by Stage 1 and loaded by the Array Runtime (R457, R464); a slot the part never wrote holds none. -/
def bootPolicy (s : State) : State :=
  let sl := (bootDir s).committed.getD 2 0
  match slotImage 3 sl s with
  | none => s
  | some [] => s
  | some b => let x := checkImage 3 b s; if x = 0 then loadPolicy sl s else refuseImage 3 sl x s

/-- The RTC never runs backward (R493): after VDD_AON was lost the Array Runtime sets it from the latest time that it recorded. DEDUCED, unsafe: log 59. -/
def restoreRtc (s : State) : State := rset F.CLK_ALARM_RTC_SEC (max (rget F.CLK_ALARM_RTC_SEC s) s.arr.rtcSaved) s

/-- Stage 1 (R457): the Runtime slot is chosen and checked, M2 written, the alias keys derived; the Runtime migrates its configuration. DESIGN CHOICE, unsafe: log 86. -/
def bootStage1 (s : State) : State :=
  match bootSlot 2 s.chip.runtimeOk s with
  | (none, s) => recover s
  | (some a, s) =>
    let hd := slotHeader 2 a s
    let s := noteTrial 2 a (setRunning 2 a { s with sec := { s.sec with rt := hd } })
    let s := rset F.SEC_SVN_RT_SVN (hdrField 12 4 hd) (enterStage2 (setMeas 2 (headerMeas hd) s))
    match migrate (slotFmt a s) s with
    | (false, s) => refuseImage 2 a 15 { s with chip := { s.chip with recovery := true } }
    | (true, s) => bootPolicy (resumeRebuild (commitTrials (startRuntime (restoreRtc s))))

/-- The boot goes on as far as it can: Stage 1 needs DRAM. DESIGN CHOICE, safe: log 11. DEDUCED, unsafe: log 60. -/
def bootChain (s : State) : State :=
  let s := if rget F.SEC_STATUS_STAGE s = 0 then bootRom s else s
  if rget F.SEC_STATUS_STAGE s = 1 ∧ rbit F.MEM_TRAIN_STATUS_READY s then bootStage1 s else s

/-! ### Warm reset (R479 to R481) -/

/-- HB_OUT stops as HB_EN is cleared, and is driven low (R342, R510). -/
def resetFence (s : State) : Fence := { edges := s.fence.edges, held := [], discard := s.fence.discard, window := false, fenced := s.fence.fenced }

/-- The state after a warm reset, before its cause is written. DEDUCED, unsafe: log 60. -/
def warmState (dram : Bool) (s : State) : State :=
  let keep := allFields.filter (fun f => f.acc == .rws) ++ warmFields ++ (if dram then dramFields else [])
  { regs := keepRegs (porFields ++ keep) s,
    mem := if dram then (layTable s).mem.filter (fun p => isDramKey p.1) else [],
    pending := s.pending, outbox := s.outbox, freeCtr := s.freeCtr, cpu := resetCpu, task := {}, bpm := {},
    keys := durableKeys s.keys, arr := durableArr dram s.arr,
    evr := { s.evr with snap := List.replicate 8 0 },
    flt := resetFlt true s.flt, phys := if dram then s.phys else {},
    host := { ns := s.host.ns },
    mir := { journal := s.mir.journal, attempts := s.mir.attempts, refused := s.mir.refused },
    fence := resetFence s,
    pwr := { tj := s.pwr.tj, core := s.pwr.core },
    sec := { dirs := s.sec.dirs, images := s.sec.images, cfg := s.sec.cfg, commitAt := s.sec.commitAt },
    chip := { s.chip with plls := [], refLost := false, recovery := false, replayDue := false, replaying := [] } }

/-- A warm reset for a cause (R479, R481): the kept state, WARM_COUNT, the cause bit, the BOOT record, and the boot. -/
def warmReset (cause : Field) (s : State) : State :=
  let dram : Bool := rbit F.CHIP_RESET_CTL_DRAM_KEEP s && rbit F.MEM_TRAIN_STATUS_READY s
  let s := warmState dram s
  let s := rset F.TSK_SLOT_MAP_CORE_EN (F.TSK_SLOT_MAP_CORE_EN.reset 0 - rget F.DPC_CORE_RETIRED_CORES s) s
  let s := rflag F.PNL_FENCE_STATUS_GATED (rbit F.PNL_FENCE_STATUS_FENCE_IN s) s
  let s := rinc F.CHIP_RESET_CAUSE_WARM_COUNT 1 (rflag F.CHIP_RESET_CAUSE_POR_PIN false s)
  let s := rflag F.CHIP_RESET_CAUSE_DRAM_KEPT dram (rflag cause true s)
  let s := emit (.pin "HB_OUT" false) s
  let s := if rbit F.EVR_STATUS_READY s then recordBoot s else s
  bootChain s

/-! ### Power-on reset (R475, R480, R481, R526) -/

/-- The newest record written at or after the last power-on's BOOT record that satisfies `p`. -/
def sinceBoot (p : EvEntry → Bool) (s : State) : Option EvEntry :=
  let isPor := fun (e : EvEntry) => e.code == Ev.BOOT && (bits (ofLe (e.payload.drop 8)) 15 8 != 0)
  let from_ := ((newestBy isPor s).map (fun e => e.seq.getD 0)).getD 0
  newestBy (fun e => p e && decide (from_ ≤ e.seq.getD 0)) s

/-- PF_DESTAGED, PF_INCOMPLETE and THERMAL, from the records of the power-on that ended (R481, R526). -/
def setPastCause (s : State) : State :=
  let vd := sinceBoot (fun e => e.code == Ev.VAULT_DESTAGE_DONE || e.code == Ev.VAULT_DESTAGE_FAIL) s
  let s := rflag F.CHIP_RESET_CAUSE_PF_DESTAGED (vd.any (fun e => e.code == Ev.VAULT_DESTAGE_DONE)) s
  let s := rflag F.CHIP_RESET_CAUSE_PF_INCOMPLETE (vd.any (fun e => e.code == Ev.VAULT_DESTAGE_FAIL)) s
  rflag F.CHIP_RESET_CAUSE_THERMAL (sinceBoot (fun e => e.code == Ev.THERMAL_TRIP) s).isSome s

/-- The state that a power-on reset leaves of the old one: flash, fuses, the vault SSD, the drives; the RTC while VDD_AON stayed good. DEDUCED, unsafe: log 60. -/
def porState (rtc : Bool) (s : State) : State :=
  let old := s
  let pins := [F.PNL_FENCE_STATUS_PTN_PRESENT, F.PNL_FENCE_STATUS_PTN_PWRGOOD, F.PNL_FENCE_STATUS_FENCE_IN, F.PNL_FENCE_STATUS_GATED,
    F.CHIP_STRAPS_TEST_MODE_PIN, F.CHIP_STRAPS_BOOT_SRC_PIN, F.CHIP_STRAPS_HEAD_SLOT_PIN, F.SHF_STATE_PG, F.SHF_STATE_ALERT]
  { regs := keepRegs (porFields ++ pins ++ (if rtc then [F.CLK_ALARM_RTC_SEC] else [])) old,
    pending := old.pending, outbox := old.outbox, freeCtr := old.freeCtr, cpu := resetCpu,
    keys := durableKeys old.keys, arr := powerArr old.arr,
    evr := { flash := old.evr.flash, locked := old.evr.locked, commits := old.evr.commits, wearAt := old.evr.wearAt },
    flt := resetFlt false old.flt, host := { ns := old.host.ns }, mir := { journal := old.mir.journal },
    fence := { hbStopped := false }, pwr := { tj := old.pwr.tj },
    sec := { dirs := old.sec.dirs, images := old.sec.images, cfg := old.sec.cfg, commitAt := old.sec.commitAt },
    chip := { vault := old.chip.vault, vaultFitted := old.chip.vaultFitted, pfLow := old.chip.pfLow, stage1Ok := old.chip.stage1Ok,
              runtimeOk := old.chip.runtimeOk, memCh := rget F.MEM_CFG_CH_EN old, memSpeed := rget F.MEM_CFG_SPEED_MAX old } }

/-- A power-on reset: the state it leaves, then `f` for its cause, then the boot. The flash records tell how the last power-on ended. DESIGN CHOICE, unsafe: log 51. -/
def powerOnReset (rtc : Bool) (f : State → State) (s : State) : State :=
  let s := f (setPastCause (porState rtc s))
  let s := rset F.CHIP_STRAPS_TEST_MODE (rget F.CHIP_STRAPS_TEST_MODE_PIN s) s
  let s := { s with chip := { s.chip with replayDue := s.chip.vault.isSome && s.chip.vaultFitted } }
  bootChain (emit (.pin "THERMTRIPN" true) (emit (.pin "PWR_OFFREQN" true) (emit (.pin "FENCE_OUT" false) (emit (.pin "HB_OUT" false) s))))

/-- PORN (R480): the pins and the board as `p` gives them. A destage that PORn cut short left its image void (R475). DESIGN CHOICE, unsafe: log 8. -/
def opPorn (p : PowerOn) (s : State) : State :=
  powerOnReset true (fun s =>
    let s := rflag F.CHIP_STRAPS_HEAD_SLOT_PIN p.headSlot (rset F.CHIP_STRAPS_BOOT_SRC_PIN p.bootSrc.val s)
    let s := rflag F.CHIP_STRAPS_TEST_MODE_PIN p.testMode s
    let s := rflag F.CHIP_RESET_CAUSE_SEQ_ERR p.seqErr (rflag F.CHIP_RESET_CAUSE_EARLY_POR p.earlyPor s)
    let s := rflag F.PNL_FENCE_STATUS_PTN_PRESENT p.ptnPresent (rflag F.PNL_FENCE_STATUS_PTN_PWRGOOD p.ptnPwrgood s)
    let s := rflag F.PNL_FENCE_STATUS_FENCE_IN p.fenceIn (rflag F.PNL_FENCE_STATUS_GATED p.fenceIn s)
    let s := onArr (fun a => { a with cfg := p.domain.or a.cfg }) s
    { s with chip := { s.chip with vaultFitted := p.vaultPresent, vault := if p.vaultValid then s.chip.vault else none,
                                   stage1Ok := p.stage1Ok, runtimeOk := p.runtimeOk } }) s

/-- BROWNOUT (R475): a power-on reset at once; of VDD_AON the RTC is lost too. -/
def opBrownout (rail : Fin 3) (s : State) : State :=
  powerOnReset (rail.val != 0) (fun s =>
    rset F.CHIP_RESET_CAUSE_BROWNOUT_RAIL rail.val
      (rflag F.CHIP_RESET_CAUSE_BROWNOUT true (rflag F.CHIP_RESET_CAUSE_POR_PIN false s))) s

/-- SRAM_DROP (R475). -/
def opSramDrop (s : State) : State :=
  powerOnReset true (fun s => rflag F.CHIP_RESET_CAUSE_SRAM_DROP true (rflag F.CHIP_RESET_CAUSE_POR_PIN false s)) s

/-- REFCLK_RETURN (R478): only a clock that had stopped returns. -/
def opRefclkReturn (s : State) : State := if s.chip.refLost then warmReset F.CHIP_RESET_CAUSE_REFCLK_LOST s else s

/-! ### DRAM (R482 to R484) -/

/-- DRAM_TRAINING_COMPLETE (R482): the channels that MEM_CFG lets train are in use or mapped out; with fewer than 4 of
them, or less than 512 GiB, the head serves no group; Stage 1 goes on. DESIGN CHOICE, unsafe: log 86. -/
def opTrained (trained failed : BitVec 8) (speed gib : Nat) (s : State) : State :=
  if rbit F.MEM_TRAIN_STATUS_READY s then s else
  let en := s.chip.memCh
  let top := if s.chip.memSpeed = 0 ∨ 4 < s.chip.memSpeed then 4 else s.chip.memSpeed
  let ok := trained.toNat &&& en &&& (0xFF - failed.toNat)
  let s := rset F.MEM_TRAIN_STATUS_CH_TRAINED ok (rset F.MEM_TRAIN_STATUS_CH_FAILED (failed.toNat &&& en) s)
  let s := rset F.MEM_TRAIN_STATUS_SPEED (min speed top) (rset F.MEM_TRAIN_STATUS_CAPACITY_GIB gib s)
  let n := ((List.range 8).filter (fun c => ok.testBit c)).length
  let s := { s with chip := { s.chip with lowMem := decide (n < 4) || decide (gib < 512) } }
  bootChain (rflag F.MEM_TRAIN_STATUS_READY true s)

/-- INIT_DONE (R483). -/
def opInitDone (s : State) : State := if rbit F.MEM_TRAIN_STATUS_READY s then rflag F.MEM_TRAIN_STATUS_INIT_DONE true s else s

/-- PATROL_SCRUB (R484): one line that patrol scrub read holds an error. -/
def opPatrol (addr : Nat) (ch : Fin 8) (row : Nat) (uncorr : Bool) (s : State) : State :=
  if !rbit F.MEM_PATROL_CFG_EN s || !rbit F.MEM_TRAIN_STATUS_READY s then s
  else if uncorr then memUe addr ch.val s else memCe ch.val row true s

/-- TRSTN (R479): it resets the JTAG TAP alone, of which the spec gives no register. DEDUCED, unsafe: log 60. -/
def opTrstn (s : State) : State := s

/-- RTC_HOURLY_RECORD (R493). DEDUCED, unsafe: log 59. -/
def opRtcRecord (s : State) : State := onArr (fun a => { a with rtcSaved := max a.rtcSaved (rget F.CLK_ALARM_RTC_SEC s) }) s

/-- STRAINER_REBUILD_DONE (R175): every entry of the index stands in the strainer again. -/
def opStrainerDone (s : State) : State :=
  if s.arr.strainer.rebuilding then buildStrainer s.arr.strainer.b s else s

end Sys2Proof.Machine
end

