-- ==== Sys2Proof/Machine/Mirror.lean ====
section
/-! DEFINITION. The mirror's two ends: RECORD and BARRIER jobs, applying an epoch, replies, resends, forwarding, handover at the new owner,
takeover, and the state copy (R324 to R339, R348 to R352, R356). -/

namespace Sys2Proof.Machine

open Sys2Proof

/-! ### Tasks that partner messages make (Table 3.2) -/

/-- A partner message placed as a TYPE 5 task on Q0: its type; the payload words, which the manual does not lay out, are left open. DESIGN CHOICE, unsafe: log 53. -/
def partnerTask (typ : Nat) (s : State) : State :=
  let w := (List.range 4).map (fun i => ofLe ((List.range 8).map (fun j => Config.undefByte (s.freeCtr * 32 + 8 * i + j))))
  enqueueTask { typ := 5, queue := 0, t := [typ] ++ w ++ [0, 0, 0, 0, 0, intakeTick s] } (tickFree s)

/-! ### RECORD and BARRIER jobs (R332, Table 11.3) -/

/-- A 16-bit, 16-bit, 32-bit name of a command at byte 16. -/
def recId (b : List Byte) : CmdId := { cntlid := hdrField 16 2 b, qid := hdrField 18 2 b, cmdseq := hdrField 20 4 b }

/-- The SQE that bytes spell, as far as the rules read it. -/
def sqeOf (b : List Byte) : Sqe :=
  let f := fun o n => hdrField o n b
  { opc := f 0 1, cdwFlags := f 1 1, cid := f 2 2, nsid := f 4 4, cdw10 := f 40 4, cdw11 := f 44 4, cdw12 := f 48 4, cdw13 := f 52 4,
    cdw14 := f 56 4, cdw15 := f 60 4, sglAddr := f 24 8, sglLen := f 32 3, sglKey := f 35 4, sglType := f 39 1 }

/-- The groups of a 32-byte bitmap. -/
def mapGroups (b : List Byte) : List Nat := (List.range 256).filter (fun g => (ofLe b).testBit g)

/-- A pour journal entry from its 256 bytes (Table 8.4); `none` where the CRC, the state or a reserved bit does not hold. It carries no frame directory. DESIGN CHOICE, unsafe: log 53. -/
def parseJournal (b : List Byte) : Option JEntry :=
  let f := fun o n => hdrField o n b
  let word := fun (sh i : Nat) => let w := f (56 + 4 * i) 4; (sh * 52 + w / 2 ^ 26, w % 2 ^ 26)
  let j := fun (st : JState) =>
    ({ stripe := f 0 8, state := st, shelf := f 9 1, k := f 10 1, group := f 11 1, cls := f 12 1, row := f 16 4, dataBytes := f 20 4, frames := f 24 4,
       zoneSet := f 28 4, epoch := f 32 8, jseq := f 40 8, members := (List.range (f 10 1 + 2)).map (word (f 9 1)) } : JEntry)
  let st := match f 8 1 with
    | 1 => some JState.steeping | 2 => some .pouring | 3 => some .landed | 4 => some .committed | 5 => some .discarded | _ => none
  (st.map j).filter (fun x => journalBytes x == b)

/-- A record as a RECORD job places it (Table 11.2): the types whose bodies the table lays out, and any other as its bytes. DESIGN CHOICE, unsafe: log 53. -/
def parseRec (b : List Byte) : ERec :=
  let f := fun o n => hdrField o n b
  match f 0 1 with
  | 0x01 =>
    let q := sqeOf (b.drop 32)
    .take ((f 1 1).testBit 0) (isWriteSqe (f 18 2) q) (recId b) (f 24 8) q
  | 0x04 => match parseJournal ((b.drop 16).take 256) with | some j => .journal j | none => .raw 4 (b.drop 16)
  | 0x05 => .strainer (f 16 8) (f 24 2) (f 26 1) (f 32 8)
  | 0x09 => .data (recId b) ((b.drop 32).take (f 24 4))
  | 0x0A => .handover (mapGroups ((b.drop 16).take 32)) (f 48 1 == 1)
  | 0x0B => .release ((List.range ((b.length - 16) / 8)).map (fun i => f (16 + 8 * i) 8))
  | t => .raw t (b.drop 16)

/-- The open epoch takes no further record: its window is full and its bytes stand at MAX_MIB (R327). -/
def epochFull (s : State) : Bool := rbit F.PNL_EPOCH_SEQ_HELD_OPEN s && decide (epochMaxBytes s ≤ openBytes s)

/-- RECORD (op 0): the record at AUX, of PARAM [31:0] bytes; with FWD a DATA record of IN follows. A write TAKE's WSEQ is written back. DESIGN CHOICE, unsafe: log 53. -/
def recordJob (c : Chain) (d : Desc) (s : State) : JobRes × State :=
  let n := d.param % 2 ^ 32
  let a := d.aux % 2 ^ 48
  let core := ctxCore c.ctx
  if a % 16 ≠ 0 ∨ n < 16 ∨ 4096 < n ∨ n % 16 ≠ 0 then justStatus jBadDesc s
  else if !dataPlace core a false s || !dataPlace core (a + n - 1) false s then justStatus jBadDesc s else
  match readMem (physKey core a) n s with
  | (none, s) => justStatus jBufFault s
  | (some b, s) =>
    if hdrField 4 4 b ≠ n ∨ hdrField 0 1 b = 0x02 then justStatus jBadDesc s else
    let g := if (hdrField 9 1 b).testBit 0 then some (hdrField 8 1 b) else none
    let r := parseRec b
    let place := fun (s : State) =>
      let (w, s) := addRec c.ctx g r s
      if isWriteTake r then memWrite (physKey core (a + 24)) (leBytes 8 w) s else s
    if d.param.testBit 32 then
      let (h, o, m) := inputOf c d s
      match readBuf d h o m s with
      | (none, s) => justStatus jBufFault s
      | (some data, s) => ({}, (addRec c.ctx g (.data (recId b) data) (place s)).2)
    else ({}, place s)

/-- RECORD: a job waits while the open epoch is full. -/
def opRecordJob (s : State) : State := if epochFull s then s else runUnit 8 0 (fun d => d.op == 0) recordJob s

/-- BARRIER: the job leaves the queue and completes once every earlier record of its slot is confirmed. -/
def opBarrier (s : State) : State :=
  if islandOff (engIsland 8) s then s else
  match engQueue 8 0 s with
  | [] => s
  | c :: rest =>
    match c.descs with
    | [] => setEngQueue 8 0 rest s
    | d :: _ =>
      if d.op ≠ 1 then s
      else if slotUnconfirmed c.ctx (rget F.PNL_EPOCH_SEQ_NUMBER s) s then
        settleBarriers { s with eng := { s.eng with q := kput s.eng.q (8 * 1024) rest },
                                mir := { s.mir with barriers := s.mir.barriers ++ [{ chain := c, slot := c.ctx, upto := rget F.PNL_EPOCH_SEQ_NUMBER s }] } }
      else finishJob c d {} (setEngQueue 8 0 rest s)

/-! ### The tables of the other head -/

/-- A pour journal entry of the partner. -/
def putJournal (j : JEntry) (s : State) : State := onArr (fun a => { a with journal := journalPut j a.journal }) s

/-- A change as the other head applies it: a zone set or a checkpoint that is the sender's own is not this head's, and the reverse. -/
def mirrored (c : IndexChange) : IndexChange :=
  match c with
  | .zsPut n sh k rows own isOpen l => .zsPut n sh k rows (!own) isOpen l
  | .rebCkpt mine c => .rebCkpt (!mine) c
  | c => c

/-- A strainer change of the partner (Table 11.2): a stash insert sets OVERFLOW in its bucket, and its key joins the stash or is counted as dropped
(R172). DESIGN CHOICE, unsafe: log 93. -/
def applyStrainer (bucket tag op key : Nat) (s : State) : State :=
  onArr (fun a =>
    let st := a.strainer
    let upd := fun (f : Bucket → Bucket) => { st with buckets := kmod {} st.buckets bucket (fun b => { f b with version := (b.version + 2) % 256 }) }
    let stashed := fun (x : Strainer) =>
      if key = 0 then x else if x.stash.length < stashSize then { x with stash := x.stash ++ [key] } else { x with dropped := x.dropped + 1 }
    { a with strainer := match op with
      | 1 => upd (fun b => { b with tags := b.tags ++ [tag] })
      | 2 => if key = 0 then upd (fun b => { b with tags := removeTag tag b.tags }) else { st with stash := st.stash.erase key }
      | 3 => stashed (upd (fun b => { b with overflow := true }))
      | _ => st }) s

/-- A zone taken or freed by the partner. -/
def applyZone (drive zone : Nat) (taken : Bool) (s : State) : State :=
  onArr (fun a => { a with zones := if taken then kput a.zones (drive * 2 ^ 26 + zone) true else kdel a.zones (drive * 2 ^ 26 + zone) }) s

/-- A queue of the partner's: made, with a CREDIT of its first CMDSEQ_LIMIT on the Rearn binding (R43), or its reset begun (R68 step 1). -/
def applyQueue (cntlid qid depth : Nat) (create sq cq : Bool) (cqid conn : Nat) (s : State) : State :=
  let k := 512 * cntlid + qid
  let q := hqOf s k
  if create then
    if sq && !q.sq then
      let s := setHq k { freshQueue q depth (conn != 0) conn with cq := cq, cqid := cqid } s
      if conn = 0 ∧ (ctrlOf s cntlid).live then sendCredit cntlid qid s else s
    else setHq k { q with cq := cq, cqid := cqid, depth := depth } s
  else if q.sq && !q.closing then
    settleQueues (beginReset k { s with host := { s.host with resets := s.host.resets ++ [(cntlid, qid, none)] } })
  else s

/-- A controller's state of the partner's; the grant and the landed bytes are each head's own, and so are the event requests it holds and the
SESSION it has seen. A new controller of the Rearn binding has its first CREDIT (R64). -/
def applyCtrl (n : Nat) (c : Ctrl) (s : State) : State :=
  let old := ctrlOf s n
  let s := setCtrl n { c with grant := old.grant, landed := old.landed, aers := old.aers, session := if c.tcp then c.session else old.session } s
  if c.live && !old.live && !c.tcp then sendCredit n 0 (raiseGrant n s) else s

/-- A namespace made, changed or deleted by the partner. -/
def applyNs (n : Nat) (x : Option Namespace) (s : State) : State :=
  let m := match x with | some y => kput s.host.ns n y | none => kdel s.host.ns n
  let gone := fun (c : Ctrl) => if x.isNone then { c with attached := c.attached.filter (· != n) } else c
  nsChanged n (cfgChanged { s with host := { s.host with ns := m, ctrls := s.host.ctrls.map (fun p => (p.1, gone p.2)) } })

/-! ### Records of a command at the shadow (R333) -/

/-- The bytes of data a command carries, by its SQE: those of a Write and the ranges of Dataset Management. -/
def sqeBytes (qid : Nat) (q : Sqe) : Nat :=
  if qid = 0 then 0 else if q.opc = 1 then 4096 * sqeNlb q else if q.opc = 9 then 16 * (q.cdw10 % 256 + 1) else 0

/-- A TAKE record applied: the command stands in the ring with its SQE and WSEQ. -/
def applyTake (id : CmdId) (w : Nat) (q : Sqe) (s : State) : State :=
  let n := sqeBytes id.qid q
  let r := match ringOf id s with
    | some r => { r with sqeHeld := true, take := some w }
    | none =>
      { m := { tcp := (ctrlOf s id.cntlid).tcp, id := id, sqe := q, dlen := 64 + n, bodyLen := 64 + n, landed := n == 0 },
        dataHeld := n == 0, take := some w }
  let s := openCmd id s
  let s := if r.m.tcp then s else passSeq (idKey id) id.cmdseq s
  shadowDirty id (putRing r s)

/-- A DATA record applied: the data stands in a set D buffer; with none free the command stays not held. -/
def applyData (id : CmdId) (b : List Byte) (s : State) : State :=
  match ringOf id s with
  | none => s
  | some r =>
    if r.dataHeld then s else
    let s := dropAll r.handle.toList s
    match landData 1 { r.m with dlen := 64 + b.length, data := b } s with
    | (none, s) => putRing { r with handle := none } s
    | (some h, s) =>
      shadowDirty id (putRing { r with m := { r.m with dlen := 64 + b.length, landed := true, xferOk := true }, dataHeld := true, handle := some h } s)

/-- CSN `c` of a space comes before its next one: the record is a second one of a completion (R336). DEDUCED, unsafe: log 52. -/
def csnSeen (c next : Nat) : Bool := c != next && decide ((next + 2 ^ 31 - c) % 2 ^ 31 < 2 ^ 30)

/-- A CPL record applied (R333 steps 2 and 3): sent when its command is held, else PENDING. A second record of one completion changes nothing, or
stands for the first in the list of those PENDING. -/
def applyCplRec (num idx : Nat) (r : ERecord) (s : State) : List ReplyEntry × State :=
  match r.body with
  | .cpl _ _ _ id csn _ =>
    let k := idKey id
    let q := hqOf s k
    let low : Bool := decide (csn < 0x80000000)
    let c := if low then csn else csn - 0x80000000
    let nx := c + 1
    let same : Nat × Nat × ERecord → Bool := fun p => match p.2.2.body with | .cpl _ _ _ id' csn' _ => id' == id && csn' == csn | _ => false
    if csnSeen c (if low then q.nextA else q.nextB) then
      if s.mir.shadowPend.any same then
        ([.pending num idx], { s with mir := { s.mir with shadowPend := s.mir.shadowPend.map (fun p => if same p then (num, idx, r) else p) } })
      else ([], s)
    else
      let s := setHq k (if low then { q with nextA := nx } else { q with nextB := nx }) s
      if cplHeld r s then ([], applyCpl r s)
      else ([.pending num idx], { s with mir := { s.mir with shadowPend := s.mir.shadowPend ++ [(num, idx, r)] } })
  | _ => ([], s)

/-- A change that names a rebuild's target. -/
def isRebuild (c : IndexChange) : Bool := match c with | .rebuild .. => true | .rebuildEnd _ => true | _ => false

/-- A change of an index-tier drive's state. -/
def isTier (c : IndexChange) : Bool := match c with | .member d _ => decide (512 ≤ d) | _ => false

/-- An INDEX record applied (R334): the parts of a slot are kept until the last; a target that the master took changes the rebuild list (R280), and an
index-tier drive the tier (R290, R292). -/
def applyIndex (slot : Nat) (more : Bool) (cs : List IndexChange) (s : State) : State :=
  let old := ((s.mir.parts.find? (·.1 == slot)).map (·.2)).getD []
  let rest := s.mir.parts.filter (·.1 != slot)
  if more then { s with mir := { s.mir with parts := rest ++ [(slot, old ++ cs)] } }
  else
    let s := applyChanges ((old ++ cs).map mirrored) { s with mir := { s.mir with parts := rest } }
    let s := if (old ++ cs).any isRebuild then writeList s else s
    if (old ++ cs).any isTier then tierChanged s else s

/-- RELEASE applied: the shadow's copies of writes whose commit is durable are dropped. -/
def applyRelease (ws : List Nat) (s : State) : State :=
  forEach ws (fun w s =>
    match dirtyOf w s with
    | none => s
    | some d =>
      let s := onArr (fun a => { a with dirty := a.dirty.filter (·.wseq != w) }) s
      let ringUses : Bool := s.host.ring.any (fun r => r.handle.isSome && r.handle == d.handle)
      if ringUses then s else dropAll d.handle.toList s) s

/-! ### Groups that come to this head (R349, R351, R181) -/

/-- The dirty writes that satisfy `p` become this head's own, and those not committed are processed again from their dirty copies, each once it is
acknowledged (R19). -/
def adoptDirty (p : Dirty → Bool) (s : State) : State :=
  startAcked (onArr (fun a => { a with dirty := a.dirty.map (fun d => if p d then { redoDirty d with own := true } else d) }) s)

/-- Commands of the ring, per queue in CMDSEQ order. -/
def ringOrder (l : List RingCmd) : List RingCmd :=
  l.mergeSort (fun a b => decide (idKey a.m.id < idKey b.m.id) || (idKey a.m.id == idKey b.m.id && !seqBefore b.m.id.cmdseq a.m.id.cmdseq))

/-- A command of the ring becomes a task of this head; its buffer goes with it. -/
def placeRing (replay : Bool) (r : RingCmd) (s : State) : State :=
  let s := { s with host := { s.host with ring := s.host.ring.filter (fun x => x.m.id != r.m.id) } }
  let t := hostTask r.m (groupOfCmd r.m s) false replay r.handle s
  enqueueTask { t with wseq := if replay then r.take.getD 0 else 0 } s

/-- Step 3 of R351 at N: the map bits name it; what the ring holds with neither a TAKE nor a CPL record becomes tasks; it commits the groups'
writes not yet committed. -/
def takeGroups (gs : List Nat) (s : State) : State :=
  let s := forEach gs (fun g s => setOwner g (headSlot s) s) s
  let mine := fun (r : RingCmd) => gs.contains (groupOfCmd r.m s) && r.take.isNone && !r.cpl && ringHeld r
  let s := forEach (ringOrder (s.host.ring.filter mine)) (placeRing false) s
  let s := adoptDirty (fun d => gs.contains d.group && !d.own) (markOrphans s)
  let s := noticeAll 4 (anaChanged (record Ev.HANDOVER srcPNL 0 [] (if gs.contains 0 then resumeShelves s else s)))
  if servesNone s then startMove gs (headSlot s == 0) none s else s

/-- A Commit that waited for its groups to be back completes (R69): OK when the slot it activated runs, Invalid Firmware Image from the previous
image. -/
def endActivation (s : State) : State :=
  match s.chip.commit with
  | none => s
  | some (t, cls, sl) =>
    let ok : Bool := runningSlotOf cls s == sl
    let s := { s with chip := { s.chip with commit := none, mark := none }, mir := { s.mir with activating := false } }
    match t.cmd with
    | some m => sendCpl m.id m.tcp false 0 (if ok then stOk else stInvalidImage) s
    | none => s

/-- A planned handover that this head asked for, complete once its epoch's REPLY is sent or received (R351): DW0 counts the groups. -/
def endMoves (p : (Nat × List Nat × Bool × Option Task) → Bool) (s : State) : State :=
  let (done, left) := s.mir.moving.partition p
  forEach done (fun x s => match x.2.2.2 with | some t => completeTask t { dw0 := x.2.1.length } s | none => s)
    { s with mir := { s.mir with moving := left } }

/-- The commands that a draining partner hands over for replay (R90): those this head's ring holds become replay tasks, in CMDSEQ order. -/
def replayNamed (ids : List CmdId) (s : State) : State :=
  forEach (ringOrder (s.host.ring.filter (fun r => ids.contains r.m.id && !r.cpl && ringHeld r))) (placeRing true) s

/-! ### Partner messages (PMSG) -/

/-- The Retain messages are answered by the power controller's rules (Power.lean); every other message acts here. -/
def onPartnerMsg (m : PartnerMsg) (s : State) : State :=
  match m with
  | .shelfDecision n t =>
    let s := applyShelf n t s
    if t = .awake then settleRep (settleStage (startWaiting (awakeWork n (startHolds n s)))) else s
  | .drainReport n => if n < 8 then opDrainReport (Fin.ofNat 8 n) (headSlot s == 0) s else s
  | .plannedReport n => if n < 8 then opPlannedDownReport (Fin.ofNat 8 n) (headSlot s == 0) s else s
  | .memberReport d st => if isMaster s then decideMember d st s else s
  | .memberDecision d st => applyMember d st s
  | .removalSeen d => onRemovalSeen d s
  | .handoverRequest gs toB =>
    let gs := gs.filter (fun g => owns g s)
    if toB == (headSlot s == 1) || gs.isEmpty then s
    else startMove gs toB none s
  | .wakeRequest n => onWakeRequest n s
  | .scrubDone n => onScrubDone n s
  | .snapRequest nsid req => onSnapRequest nsid req s
  | .snapDone req id ok => onSnapDone req id ok s
  | .rep typ m => targetMsg typ m s
  | .healthException => s
  | .powerFail => s
  | .replay ids => replayNamed ids s
  | .keyRecord b => takeRecord b s
  | .writeShelves w n => onWriteShelves w n s
  | .uplink n lost => if lost then uplinkLost n (1 - headSlot s) s else uplinkBack n (1 - headSlot s) s
  | .retainPropose _ _ => s
  | .agree _ => s
  | .refuse _ _ => s

/-- The number of a partner message's type in t1 (the model's own numbering). -/
def pmsgType (m : PartnerMsg) : Nat :=
  match m with
  | .shelfDecision .. => 1 | .drainReport _ => 2 | .plannedReport _ => 3 | .memberReport .. => 4 | .memberDecision .. => 5
  | .handoverRequest .. => 6 | .healthException => 7 | .powerFail => 8 | .wakeRequest _ => 9 | .scrubDone _ => 10
  | .retainPropose .. => 11 | .agree _ => 12 | .refuse .. => 13 | .replay _ => 14 | .snapRequest .. => 15 | .snapDone .. => 16 | .rep .. => 17
  | .keyRecord _ => 18 | .writeShelves .. => 19 | .uplink .. => 20 | .removalSeen _ => 21

/-! ### Applying an epoch (R328, R333) -/

/-- One record applied; answers the PENDING entry it makes. -/
def applyRecord (num idx : Nat) (r : ERecord) (s : State) : List ReplyEntry × State :=
  match r.body with
  | .cpl .. => applyCplRec num idx r s
  | .take _ _ id w q => ([], applyTake id w q s)
  | .index more cs => ([], applyIndex r.slot more cs s)
  | .journal j => ([], putJournal j s)
  | .strainer b t o k => ([], applyStrainer b t o k s)
  | .zone d z t => ([], applyZone d z t s)
  | .queue c q n cr sq cq cqid conn => ([], applyQueue c q n cr sq cq cqid conn s)
  | .ctrl n c => ([], applyCtrl n c s)
  | .ns n x => ([], applyNs n x s)
  | .pmsg m => ([], onPartnerMsg m (partnerTask (pmsgType m) s))
  | .data id b => ([], applyData id b s)
  | .handover gs toB =>
    if toB == (headSlot s == 1) then ([], takeGroups gs s)
    else ([], forEach gs (fun g s => setOwner g (if toB then 1 else 0) s) s)
  | .release ws => ([], applyRelease ws s)
  | .raw _ _ => ([], s)

/-- The records of an epoch in order. -/
def applyRecords (num : Nat) (l : List ERecord) (s : State) : List ReplyEntry × State :=
  l.zipIdx.foldl (fun (p : List ReplyEntry × State) r =>
    let (e, s) := applyRecord num r.2 r.1 p.2
    (p.1 ++ e, s)) ([], s)

/-- READ_RESEND_EPOCHS as it acts (R74): 0 as 1, above 8 as 8. -/
def resendEpochs (s : State) : Nat := min 8 (max 1 (rget F.HQ_DUALSEND_CFG_READ_RESEND_EPOCHS s))

/-- The epochs that are kept for repeats and for reads (R328, R335). -/
def keptEpochs (s : State) : Nat := max (epochWindow s) (resendEpochs s)

/-- Read commands whose CPL record no longer stands in the last READ_RESEND_EPOCHS applied leave the ring. -/
def pruneReads (s : State) : State :=
  let recent := (s.mir.applied.take (resendEpochs s)).flatMap (·.recs)
  let keep := fun (id : CmdId) => recent.any (fun r => match r.body with | .cpl _ _ _ i _ _ => i == id | _ => false)
  forEach (s.host.ring.filter (fun r => r.cpl && !keep r.m.id)) (fun r s => dropRing r.m.id s) s

/-- A REPLY sent: the entries and the receipts that wait. -/
def sendReply (num : Nat) (es : List ReplyEntry) (s : State) : State :=
  let out := es ++ s.mir.receipts
  emit (.reply { number := num, ack := s.mir.lastApplied, entries := out }) { s with mir := { s.mir with receipts := [] } }

/-- A RESEND naming the last epoch applied. -/
def sendResend (s : State) : State := emit (.reply { resend := true, number := s.mir.lastApplied, ack := s.mir.lastApplied }) s

/-- ACK of a partner message (R328). -/
def noteAck (n : Nat) (s : State) : State :=
  let s := { s with mir := { s.mir with ackSeen := max s.mir.ackSeen n } }
  match s.mir.roundFrom with
  | some l => if l < s.mir.ackSeen then { s with mir := { s.mir with roundFrom := none } } else s
  | none => s

/-- What follows when groups or work moved. -/
def afterEpoch (s : State) : State := settleLost (settleRep (arSettle (partnerShort (settleShadow s))))

/-- Some record of an epoch hands groups to this head. -/
def handsHere (rs : List ERecord) (s : State) : Bool :=
  rs.any (fun r => match r.body with | .handover _ toB => toB == (headSlot s == 1) | _ => false)

/-- The entry's completion still waits for its command at the shadow. -/
def stillPending (s : State) (e : ReplyEntry) : Bool :=
  match e with
  | .pending a b => s.mir.shadowPend.any (fun p => p.1 == a && p.2.1 == b)
  | _ => true

/-- The HELD receipt of an entry that the same REPLY would list PENDING is left out. -/
def dropHeld (pend : List ReplyEntry) (s : State) : State :=
  { s with mir := { s.mir with receipts := s.mir.receipts.filter (fun e => match e with | .held a b => !pend.contains (.pending a b) | _ => true) } }

/-- The epoch follows the last one applied, in the link's version and of known record types (R328). -/
def epochFits (m : EpochMsg) (s : State) : Bool :=
  !(decide (m.mpv ≠ rget F.PNL_LINK_STATUS_MPV s) || !m.typesOk || (decide (m.prev ≠ s.mir.lastApplied) && decide (m.prev ≠ 0)) ||
    (decide (m.prev = 0) && decide (s.mir.lastApplied ≠ 0)))

/-- A HANDOVER of groups to this head ends what waited for it. -/
def endHandover (s : State) : State := endActivation (endMoves (fun x => x.1 == 0 && x.2.1.all (owns · s)) s)

/-- EPOCH (R328, R333): applied whole, answered again, or discarded with a RESEND. DEDUCED, unsafe: log 52. -/
def opEpoch (m : EpochMsg) (s : State) : State :=
  if !rbit F.PNL_LINK_STATUS_LINK_UP s then s else
  let l := s.mir.lastApplied
  if !m.crcOk then sendResend s
  else if m.number ≤ l then
    let pend := (s.mir.shadowPend.filter (fun p => p.1 == m.number)).map (fun p => ReplyEntry.pending p.1 p.2.1)
    sendReply m.number pend (noteAck m.ack s)
  else if !epochFits m s then sendResend s
  else
    let moved := handsHere m.records s
    let s := noteAck m.ack s
    let s := { s with mir := { s.mir with lastApplied := m.number, recvMax := max s.mir.recvMax m.number } }
    let (pend, s) := applyRecords m.number m.records s
    let s := { s with mir := { s.mir with applied := ({ num := m.number, prev := m.prev, recs := m.records } :: s.mir.applied).take (keptEpochs s) } }
    let s := settleShadow (pruneReads s)
    let s := sendReply m.number (pend.filter (stillPending s)) (dropHeld pend s)
    afterEpoch (if moved then endHandover s else s)

/-- The ranges of a deallocation with the steps of each joined again (R58). -/
def wholeRanges (l : List (Nat × Nat)) : List (Nat × Nat) :=
  (l.foldl (fun (acc : List (Nat × Nat)) p =>
    match acc with
    | q :: rest => if q.1 + q.2 = p.1 ∧ q.2 % 0x200000 = 0 then (q.1, q.2 + p.2) :: rest else p :: acc
    | [] => [p]) []).reverse

/-- The data that a change came with: a write's bytes, or a deallocation's ranges of 16 bytes each. -/
def cmdData (d : Dirty) (s : State) : List Byte :=
  if d.kind = .dealloc then (wholeRanges d.ranges).flatMap (fun p => leBytes 4 0 ++ leBytes 4 (p.2 / 4096) ++ leBytes 8 (p.1 / 4096)) else dirtyData d s

/-! ### Replies (R328, R334, R337) -/

/-- A RECEIPT at the owner: LANDED is noted, and ends a command of a queue in reset that only the shadow holds (R68); OVER_GRANT decides a write not
past its cancellation point (R337), also one whose own copy has not come yet (R66). -/
def onReceipt (id : CmdId) (landed over_ : Bool) (s : State) : State :=
  let s := if landed then { s with mir := { s.mir with seen := if s.mir.seen.contains id then s.mir.seen else s.mir.seen ++ [id] } } else s
  let s := if landed && (hqOf s (idKey id)).closing then abortSeen id s else s
  if !over_ then s else
  let s := if neverTaken id s then { s with mir := { s.mir with overSeen := s.mir.overSeen.filter (· != id) ++ [id] } } else s
  let is := fun (t : Task) => (t.cmd.map (·.id)) == some id
  let mark := fun (t : Task) => if is t then { t with refused := true } else t
  let s := setQ 1 ((s.task.q.getD 1 []).map mark) s
  forEach (List.range 512) (fun i s =>
    let x := slotOf s i
    if slotBusy s i && is x.task && !x.passed then setSlot i { x with task := mark x.task } s else s) s

/-- HELD: a record listed PENDING earlier is confirmed. -/
def onHeld (e i : Nat) (s : State) : State :=
  let hit := fun (p : Nat × Nat × ERecord) => p.1 == e && p.2.1 == i
  let l := s.mir.await.filter hit
  forEach l (fun p s => confirmRec p.2.2 s) { s with mir := { s.mir with await := s.mir.await.filter (fun p => !hit p) } }

/-- The epoch that a REPLY answers: its records are confirmed but those listed PENDING. -/
def confirmEpoch (n : Nat) (es : List ReplyEntry) (s : State) : State :=
  match s.mir.sent.find? (·.num == n) with
  | none => s
  | some e =>
    let s := syncSent { s with mir := { s.mir with sent := s.mir.sent.filter (·.num != n) } }
    forEach e.recs.zipIdx (fun p s =>
      if es.contains (.pending n p.2) then { s with mir := { s.mir with await := s.mir.await ++ [(n, p.2, p.1)] } } else confirmRec p.1 s) s

/-- The epochs after `l` that are sent and not confirmed, sent again in order (R328). -/
def resendFrom (l : Nat) (s : State) : State :=
  let s := { s with mir := { s.mir with roundFrom := some l, roundAt := rget F.CLK_TICK_TICK s } }
  forEach (s.mir.sent.filter (fun e => decide (l < e.num))) (fun e s =>
    emit (.epoch { mpv := rget F.PNL_LINK_STATUS_MPV s, number := e.num, prev := e.prev, ack := s.mir.lastApplied, records := e.recs }) s) s

/-- What follows a confirmation: barriers, handovers, an epoch held open, commits that became durable. -/
def afterReply (n : Nat) (s : State) : State :=
  let moved : Bool := s.mir.moving.any (fun x => x.1 == n && n != 0)
  let s := endMoves (fun x => x.1 == n && n != 0) (settleBarriers s)
  let s := if moved then noticeAll 4 (anaChanged s) else s
  let s := settleQueues s
  let s := if rbit F.PNL_EPOCH_SEQ_HELD_OPEN s then closeEpoch s else s
  settleLost (settleRep (afterConfirm s))

/-- One entry of a REPLY. -/
def onEntry (e : ReplyEntry) (s : State) : State :=
  match e with
  | .held a b => onHeld a b s
  | .receipt id landed over_ _ => onReceipt id landed over_ s
  | .pending _ _ => s

/-- REPLY (R328, R334). DEDUCED, unsafe: log 52. -/
def opReply (m : ReplyMsg) (s : State) : State :=
  if !m.crcOk || !rbit F.PNL_LINK_STATUS_LINK_UP s then s
  else if m.resend then
    let s := noteAck m.ack s
    if s.mir.roundFrom = some m.number ∧ rget F.CLK_TICK_TICK s ≤ s.mir.roundAt + 2 then s else resendFrom m.number s
  else
    let s := confirmEpoch m.number m.entries (noteAck m.ack s)
    afterReply m.number (forEach m.entries onEntry s)

/-- RESEND_ROUND_TIMEOUT (R328): the partner's ACK still names the round's epoch 4 µs after the round. DESIGN CHOICE, unsafe: log 3. DEDUCED, unsafe: log 52. -/
def opRoundTimeout (s : State) : State :=
  match s.mir.roundFrom with
  | none => s
  | some l => if s.mir.ackSeen ≤ l ∧ s.mir.sent.any (fun e => decide (l < e.num)) then resendFrom l s else { s with mir := { s.mir with roundFrom := none } }

/-- REPLY_LOST (R328): an epoch at or below the partner's ACK has no REPLY; it is sent again as a repeat. -/
def opReplyLost (n : Nat) (s : State) : State :=
  if s.mir.ackSeen < n then s else
  match s.mir.sent.find? (·.num == n) with
  | none => s
  | some e => emit (.epoch { mpv := rget F.PNL_LINK_STATUS_MPV s, number := e.num, prev := e.prev, ack := s.mir.lastApplied, records := e.recs }) s

/-- CPL_FORWARD (R336): under version 4 the write's data and its CPL record go in the open epoch. DEDUCED, unsafe: log 52. -/
def opCplForward (n i : Nat) (s : State) : State :=
  match s.mir.await.find? (fun p => p.1 == n && p.2.1 == i) with
  | none => s
  | some p =>
    match p.2.2.body with
    | .cpl _ _ _ id _ _ =>
      match s.arr.dirty.find? (fun d => d.id == id && d.kind != .zeroes) with
      | none => s
      | some d =>
        if rget F.PNL_LINK_STATUS_MPV s < 4 then s else
        let s := { s with mir := { s.mir with await := s.mir.await.filter (fun q => !(q.1 == n && q.2.1 == i)) } }
        let s := (addRec p.2.2.slot p.2.2.group (.data id (cmdData d s)) s).2
        (addRec p.2.2.slot p.2.2.group p.2.2.body s).2
    | _ => s

/-! ### Takeover (R348 to R350) -/

/-- A read completion re-sent with its data and its original CSN (R49); a read whose data is not at hand is issued again, and one whose command is
no longer held is not sent. -/
def resendRead (r : ERecord) (s : State) : State :=
  match r.body with
  | .cpl true reissue _ id csn cqe =>
    match ringOf id s with
    | none => s
    | some x =>
      let m := x.m
      let lbas := (List.range (sqeNlb m.sqe)).map (sqeSlba m.sqe + ·)
      let srcs := lbas.map (fun b => lbaSrc m.sqe.nsid (4096 * b) s)
      let (cs, s') := recChunks (recsOf srcs) s
      let l := srcs.map (fun y => lbaBytes cs y s')
      if cqe.sct ≠ 0 ∨ cqe.sc ≠ 0 ∨ rangeStatus m (sqeSlba m.sqe) (sqeNlb m.sqe) s ≠ none then
        sendCpl id m.tcp reissue csn cqe (dropRing id s)
      else if l.any (·.isNone) then placeRing true { x with cpl := false } s'
      else sendCpl id m.tcp reissue csn cqe (sendData m (l.map (·.getD [])).flatten (dropRing id s'))
  | _ => s

/-- A zone set that only the journal names, as its entry gives it (R253). -/
def zsOfEntry (j : JEntry) (s : State) : State :=
  if j.row = 0xFFFFFFFF ∨ (kfind s.arr.zoneSets j.zoneSet).isSome then s
  else setZs j.zoneSet { shelf := j.shelf, k := j.k, members := j.members, own := false, nextRow := j.row + 1, rows := j.row + 1 } s

/-- The failed head's pour journal and zone sets (R253): every zone set of it is finished, each LANDED entry committed and the others discarded; their
writes are processed again from the shadow copies. -/
def finishPartner (s : State) : State :=
  let l := s.arr.journal.filter (fun j => j.stripe % 2 != headSlot s && !jFinal j)
  let s := forEach l zsOfEntry s
  let s := forEach (s.arr.zoneSets.filter (fun p => !p.2.own && p.2.isOpen)) (fun p s => finishZs p.1 s) s
  let s := onArr (fun a => { a with zoneSets := a.zoneSets.map (fun p => (p.1, { p.2 with own := true })) }) s
  forEach l (fun j s => if j.state = .landed then commitEntry j s else discardEntry j s) s

/-- The partner's sessions go on from their checkpoints at this head (R311). -/
def adoptSessions (s : State) : State :=
  forEach s.arr.sessions (fun x s =>
    if x.mine || sessEnded x then s
    else sendOpen { resetSess x with mine := true } (setSess { resetSess x with mine := true } s)) s

/-- An epoch as the journal ring takes it: the data of its writes with it (R338). -/
def withData (s : State) (e : EpochSt) : EpochSt :=
  { e with recs := e.recs.flatMap (fun r => match r.body with
    | .take _ true id w _ =>
      match dirtyOf w s with
      | some d => if d.kind = .zeroes then [r] else [r, { r with body := .data id (cmdData d s) }]
      | none => [r]
    | _ => [r]) }

/-- The head enters SOLO (R338): what was sent and not confirmed goes to the journal ring and is confirmed there. DEDUCED, unsafe: log 54. -/
def enterSolo (s : State) : State :=
  if solo s then s else
  let sent := s.mir.sent.map (withData s)
  let await := s.mir.await
  let s := rflag F.PNL_CTL_SOLO true s
  let s := syncSent { s with mir := { s.mir with sent := [], await := [], journal := s.mir.journal ++ sent, partnerShadow := false, copying := false,
                                                 roundFrom := none } }
  let s := forEach sent (fun e s => forEach e.recs confirmRec s) s
  settleBarriers (forEach await (fun p s => confirmRec p.2.2 s) s)

/-- What every takeover does (R348): the map names this head, SOLO, the partner's unapplied parts discarded, the event, the NOTICE and the ANA change
(R51). -/
def takeAll (s : State) : State :=
  let s := forEach (List.range 256) (fun g s => setOwner g (headSlot s) s) s
  let s := enterSolo s
  let s := { s with mir := { s.mir with parts := [], shadowPend := [], receipts := [], joiner := false } }
  let s := anaChanged (noticeAll 1 (record Ev.TAKEOVER srcPNL 0 [] s))
  endMoves (fun x => x.1 == 0) s

/-- The failed head's work taken over (R181, R249, R253, R289, R311, R350): holds start over, its zone sets are finished, what it had not
committed is processed from the dirty copies, its rebuild and its sessions go on. -/
def takeWork (s : State) : State :=
  let s := onArr (fun a => { a with index := a.index.map (fun e => { e with holds := 0 }), dom := [], replies := [] }) s
  let s := adoptDirty (fun d => !d.committed || !d.own) (markOrphans (finishPartner s))
  settleLost (settleRep (arSettle (resumeRebuild (adoptSessions (writeOpened (resumeShelves s))))))

/-- The replay from the shadow ring (R349): the first replay task as a partner message on Q0, the commands without a CPL record as tasks, the
reads of the last epochs sent again. -/
def replayRing (s : State) : State :=
  let reads := ((s.mir.applied.take (resendEpochs s)).reverse).flatMap (·.recs)
  let s := partnerTask 14 s
  let s := forEach (ringOrder (s.host.ring.filter (fun r => !r.cpl && ringHeld r))) (placeRing true) s
  let s := forEach reads resendRead s
  forEach s.host.ring (fun r s => dropRing r.m.id s) s

/-! ### The state copy (R356) -/

/-- The COPY messages of the survivor: the strainer and its stash, the index tier's state that the joiner may lack, dirty data, journal, zone and rebuild
state, controllers, queues with their CSN spaces, and the key domains. -/
def copyItems (s : State) : List CopyMsg :=
  let a := s.arr
  [CopyMsg.strainer a.strainer.b a.strainer.dropped] ++ s.keys.records.map (fun b => CopyMsg.keyRecord (ofLe ((b.drop 4).take 2) % 4096) b) ++
  a.strainer.buckets.map (fun p => .strainerBucket p.1 p.2.overflow p.2.tags) ++
  a.strainer.stash.map .stash ++ a.index.map .entry ++ a.maps.map .map ++
  a.retained.map (fun r => .change (.retPut r)) ++ a.stripes.map (fun r => .change (.stripePut r)) ++
  a.snaps.map (fun x => .change (.snapPut x)) ++ a.lost.map (fun x => .change (.lostPut x.fp x.kd x.stripe)) ++
  a.members.map (fun p => .change (.member p.1 p.2.st)) ++ a.members.map (fun p => .change (.split p.1 p.2.split)) ++
  a.rebuilds.map (fun r => .change (.rebuild r.drive r.target)) ++ [.change (.rebCkpt true a.rebCkpt)] ++ a.shelves.map (fun p => .change (.shelf p.1 p.2)) ++
  a.zoneSets.map (fun p => .change (.zsPut p.1 p.2.shelf p.2.k p.2.rows p.2.own p.2.isOpen p.2.members)) ++
  a.sessions.map (fun x => .change (.sessPut x.num x.snapid x.base x.chip x.dstNsid (sessCode x.st) x.reason x.ckpt)) ++
  (a.journal.map CopyMsg.journal) ++
  (a.zones.map (fun p => CopyMsg.zone (p.1 / 2 ^ 26) (p.1 % 2 ^ 26) p.2)) ++
  (s.host.ns.map (fun p => CopyMsg.ns p.1 (some p.2))) ++ (s.host.ctrls.map (fun p => CopyMsg.ctrl p.1 p.2)) ++
  (s.host.queues.map (fun p => CopyMsg.queue (p.1 / 512) (p.1 % 512) p.2.depth p.2.nextA p.2.nextB)) ++
  (a.dirty.map (fun d => CopyMsg.dirty d.id d.wseq
    { opc := match d.kind with | .write => 1 | .zeroes => 8 | .dealloc => 9, nsid := d.nsid, cdw10 := d.addr / 4096 % 2 ^ 32,
      cdw11 := d.addr / 4096 / 2 ^ 32, cdw12 := d.len / 4096 - 1 }
    (cmdData d s)))

/-- The copy begins (R356 step 3). DEDUCED, unsafe: log 54. -/
def beginCopy (s : State) : State :=
  let s := forEach (copyItems s) (fun m s => emit (.copy m) s) { s with mir := { s.mir with copying := true, copyDone := false } }
  let s := forEach (List.range 8) (fun n s => sendPartner (.shelfDecision n (shelfSt n s)) s) s
  sendPartner (.writeShelves s.arr.writeShelf s.arr.nextShelf) s

/-- A dirty write that came with its data: of the survivor's, a shadow copy at the joiner; of the journal ring's, this head's own. -/
def copyDirty (own : Bool) (id : CmdId) (w : Nat) (q : Sqe) (data : List Byte) (s : State) : State :=
  if (dirtyOf w s).isSome then s else
  let (h, s) := if q.opc = 1 then landData 1 { dlen := 64 + data.length, data := data } s else (none, s)
  if q.opc = 1 ∧ h.isNone then s else
  let d := { dirtyFrom id w q h data own s with acked := true }
  let e := fun (i : Nat) => data.drop (16 * i)
  let rs := (List.range (data.length / 16)).flatMap (fun i =>
    let n := 4096 * ofLe (((e i).drop 4).take 4)
    dsmSteps (n / 0x200000 + 1) (4096 * ofLe (((e i).drop 8).take 8)) n)
  onArr (fun a => { a with dirty := a.dirty ++ [if d.kind = .dealloc then { d with ranges := rs } else d] }) s

/-- STATE_COPY (R356 step 3): the joiner applies one item; a later copy of a region takes the place of what stood there. DESIGN CHOICE, unsafe: log 53. -/
def opStateCopy (m : CopyMsg) (s : State) : State :=
  if !s.mir.joiner then s else
  match m with
  | .strainerBucket b o ts =>
    onArr (fun a => { a with strainer := { a.strainer with
      rebuilding := false
      buckets := kmod {} a.strainer.buckets b (fun x => { x with overflow := o, tags := ts }) } }) s
  | .stash k => onArr (fun a => { a with strainer := { a.strainer with stash := if a.strainer.stash.contains k then a.strainer.stash else a.strainer.stash ++ [k] } }) s
  | .entry e => applyChanges [.entryPut { e with holds := 0 }] s
  | .map r => applyChanges [.mapPut r] s
  | .journal j => putJournal j s
  | .dirty id w q data => copyDirty false id w q data s
  | .zone d z t => applyZone d z t s
  | .queue c q depth a b =>
    let k := 512 * c + q
    let x := hqOf s k
    let x := if x.sq then x else { freshQueue x depth (ctrlOf s c).tcp (if (ctrlOf s c).tcp then (ctrlOf s c).session else 0) with synced := false }
    setHq k { x with depth := depth, nextA := a, nextB := b } s
  | .strainer b n => onArr (fun a => { a with strainer := { a.strainer with b := b, dropped := n } }) s
  | .keyRecord _ b => takeRecord b s
  | .awk k => if s.keys.awk.isNone then takeAwk k s else s
  | .change c => applyChanges [mirrored c] s
  | .ctrl n c => applyCtrl n c s
  | .ns n x => applyNs n x s

/-- The groups whose home is head `h` (R322). DEDUCED, unsafe: log 54. -/
def homeGroups (h : Nat) (s : State) : List Nat := (List.range 256).filter (fun g => homeHead g s == h)

/-- The survivor leaves SOLO as the joiner becomes shadow, and the joiner's groups move back by planned handover (R356 steps 4 and 5). DEDUCED, unsafe: log 54. -/
def endCopy (s : State) : State :=
  let s := rflag F.PNL_CTL_MIRROR_EN true (rflag F.PNL_CTL_SOLO false s)
  let s := { s with mir := { s.mir with copying := false, partnerShadow := true, partnerFirm := false, prev := 0, sent := [], journal := [] } }
  let gs := (homeGroups (1 - headSlot s) s).filter (fun g => owns g s)
  if gs.isEmpty then s else startMove gs (headSlot s == 0) none s

/-- The joiner's egress lifts: it is the shadow of every group (R356 step 4), and its dedup holds start over (R181). -/
def becomeShadow (s : State) : State :=
  let s := { s with mir := { s.mir with joiner := false, partnerShadow := true, attempts := [] } }
  noticeAll 2 (rflag F.PNL_CTL_MIRROR_EN true (onArr (fun a => { a with index := a.index.map (fun e => { e with holds := 0 }) }) s))

end Sys2Proof.Machine
end

