-- ==== Sys2Proof/Machine/Vault.lean ====
section
/-! DEFINITION. What the vault image and the journal ring give back after a reset (R355, R488, R490). -/

namespace Sys2Proof.Machine

open Sys2Proof

/-- The vault image of the present state (R488): dirty data own and shadow, what is not durable, queue and controller state. DESIGN CHOICE, unsafe: log 55. -/
def vaultImage (s : State) : Vault :=
  { dirty := s.arr.dirty.map (fun d => (d, dirtyData d s)), epochs := s.mir.sent ++ s.mir.journal, queues := s.host.queues, ctrls := s.host.ctrls,
    serial := rget F.CHIP_ID_SERIAL s,
    bytes := dirtyBytes true s + dirtyBytes false s + ((s.mir.sent ++ s.mir.journal).flatMap (·.recs)).foldl (fun n r => n + recBytes r.body) 0,
    pcycle := rget F.CLK_POWER_CYCLES_COUNT s, made := s.mir.prev, applied := s.mir.lastApplied }

/-- A dirty write of the image back in set D; one that finds no buffer is lost. `own` says that this head replays it. -/
def restoreDirty (own : Bool) (d : Dirty) (data : List Byte) (s : State) : State :=
  if (dirtyOf d.wseq s).isSome then s
  else if d.kind = .write then
    match landData 1 { dlen := 64 + data.length, data := data } s with
    | (some h, s) => onArr (fun a => { a with dirty := a.dirty ++ [{ keptDirty d with handle := some h, own := own }] }) s
    | (none, s) => s
  else onArr (fun a => { a with dirty := a.dirty ++ [{ keptDirty d with own := own }] }) s

/-- The image is voided once every replayed commit is durable (R490), as the dirty copies' release shows. -/
def settleVault (s : State) : State :=
  if s.chip.replaying.isEmpty || s.arr.dirty.any (fun d => s.chip.replaying.contains d.wseq) then s
  else { s with chip := { s.chip with vault := none, replaying := [] } }

/-- VAULT_REPLAY (R490): buffers, records and queue state come back, each CSN space stands above every CSN of the image, and the writes are
replayed in WSEQ order: the head's own, and those it shadowed when it runs alone. DESIGN CHOICE, unsafe: log 55. -/
def restoreVault (v : Vault) (s : State) : State :=
  let ds := v.dirty.mergeSort (fun a b => decide (a.1.wseq ≤ b.1.wseq))
  let s := forEach ds (fun p s => restoreDirty (p.1.own || solo s) p.1 p.2 s) s
  let more := v.epochs.filter (fun e => !(s.mir.journal.map (fun (x : EpochSt) => x.num)).contains e.num)
  let s : State := { s with mir := { s.mir with journal := s.mir.journal ++ more } }
  let s := { s with host := { s.host with
    queues := v.queues.foldl (fun m p => kput m p.1 p.2) s.host.queues
    ctrls := v.ctrls.foldl (fun m p => kput m p.1 p.2) s.host.ctrls } }
  let s := rset F.PNL_EPOCH_SEQ_NUMBER (max (rget F.PNL_EPOCH_SEQ_NUMBER s) (max v.made v.applied + 1)) s
  let ws := (s.arr.dirty.filter (fun d => d.own && !d.committed)).map (·.wseq)
  let s := { s with chip := { s.chip with replayDue := false, replaying := ws } }
  let s := record Ev.VAULT_REPLAY srcPCI 0 (pack [(4, ws.length)]) s
  settleVault (adoptDirty (fun d => d.own && ws.contains d.wseq) s)

/-- The SOLO writes of the journal ring that no durable commit shows complete are this head's dirty data again (R355). DESIGN CHOICE, unsafe: log 55. -/
def replayJournal (s : State) : State :=
  let recs := s.mir.journal.flatMap (·.recs)
  let dataOf := fun (id : CmdId) => (recs.findSome? (fun r => match r.body with | .data i b => if i == id then some b else none | _ => none)).getD []
  let s := forEach recs (fun r s => match r.body with
    | .take _ true id w q => copyDirty true id w q (dataOf id) s
    | _ => s) s
  adoptDirty (fun d => d.own && !d.committed) s

/-- With set D enabled, what the vault and the journal ring hold is restored: the image at a power-on that found it valid, the journal by a head
that started alone. -/
def restoreStored (s : State) : State :=
  if !setOn 1 s then s else
  let s := if s.mir.joiner then s else recoverJournal (fun _ => true) s
  let s := match s.chip.vault with
    | some v => if s.chip.replayDue && s.chip.replaying.isEmpty then restoreVault v s else s
    | none => s
  if solo s && s.fence.why == 1 then replayJournal s else s

/-- D_EN as the Array Runtime sees it: an emptied set D holds no dirty data; then what is stored comes back. DESIGN CHOICE, unsafe: log 55. -/
def afterDEn (s : State) : State :=
  let s := if rbit F.BPM_CTL_D_KEEP s then s else onArr (fun a => { a with dirty := a.dirty.filter (fun d => d.handle.isNone) }) s
  restoreStored s

end Sys2Proof.Machine
end

