-- ==== Sys2Proof/Machine/Link.lean ====
section
/-! DEFINITION. The partner link: lanes, versions, tests, health words, loss (R340, R341, R353, R354, R512). -/

namespace Sys2Proof.Machine

open Sys2Proof

/-! ### Health words (R354, Table 11.7) -/

/-- Every known-answer test passed in the last 10 ms. -/
def testsPassed (s : State) : Bool := s.mir.healthTest == 0 || decide (s.mir.healthTest + 10000 ≤ rget F.CLK_TICK_TICK s + 1)

/-- FLAGS of this head's word. -/
def healthFlags (s : State) : Nat :=
  let b := fun (x : Bool) (n : Nat) => if x then 2 ^ n else 0
  headSlot s + b (solo s) 1 + b s.mir.activating 2 + b (rbit F.TSK_CTL_DRAIN s) 3 + b s.mir.joiner 4 + b (rbit F.PNL_FENCE_STATUS_FENCE_IN s) 5 +
    b (testsPassed s) 6 + b (rbit F.EVR_STATUS_CRIT_LOST s) 7

/-- Channels with a row retired in the last 24 h. -/
def recentRows (s : State) : Nat :=
  (List.range 8).foldl (fun m c => match kfind s.flt.retiredAt c with
    | some t => if rget F.CLK_OPTIME_OPSEC s < t + 86400 then m + 2 ^ c else m
    | none => m) 0

/-- Ethernet ports with LINK_UP. -/
def portsUp (s : State) : Nat := (List.range 16).foldl (fun m p => if rbit F.NET_PORT_STATUS_LINK_UP s p then m + 2 ^ p else m) 0

/-- The health word of sequence number `seq`. DEDUCED, unsafe: log 56. -/
def healthWord (seq : Nat) (s : State) : List Byte :=
  let mib := fun (own : Bool) => dirtyBytes own s / 2 ^ 20
  let tj := (BitVec.ofInt 16 (2 * s.pwr.tj)).toNat
  let b := leBytes 1 1 ++ leBytes 1 (healthFlags s) ++ leBytes 2 0x0402 ++ leBytes 4 seq ++ leBytes 8 (rget F.CLK_TICK_TICK s) ++
    leBytes 8 (rget F.CIP_LANE_STATUS_RETIRED s) ++ leBytes 8 (rget F.DPC_CORE_RETIRED_CORES s) ++
    leBytes 1 (rget F.ING_ENGINE_STATUS_CHUNK_RETIRED s % 16 + (if rbit F.PAR_STATUS_RETIRED s then 16 else 0)) ++
    leBytes 1 (rget F.ING_ENGINE_STATUS_SHA3_RETIRED s) ++ leBytes 1 (rget F.CMP_RETIRED_COMP s) ++ leBytes 1 (rget F.CMP_RETIRED_DEC s) ++
    leBytes 1 (recentRows s) ++ leBytes 1 (rget F.PNL_LINK_STATUS_LANES_UP s) ++ leBytes 2 (portsUp s) ++ leBytes 4 (mib true) ++
    leBytes 4 (mib false) ++ leBytes 4 s.flt.katFails ++ leBytes 2 (min 0xFFFF (rget F.EVR_LOST_TOTAL s 3)) ++ leBytes 2 tj ++ leBytes 4 0
  b ++ leBytes 4 (crc32c b)

/-- The link carries this head's messages. -/
def mayTalk (s : State) : Bool := rbit F.PNL_LINK_STATUS_LINK_UP s && !s.mir.sendPaused && islandRuns 18 s

/-- HEALTH_SEND (R354). -/
def opHealthSend (s : State) : State :=
  if !mayTalk s then s else
  let n := (s.mir.healthSeq + 1) % 2 ^ 32
  emit (.health (healthWord n s)) { s with mir := { s.mir with healthSeq := n } }

/-- HEALTH (R354): a word whose CRC fails is discarded; bytes 0 to 7 are shown, and a word whose flags or retirements differ from the
previous one is placed as a task. DEDUCED, unsafe: log 56. -/
def opHealth (w : HealthWord) (s : State) : State :=
  if !w.crcOk then s else
  let old := s.mir.healthLast
  let s := rset F.PNL_PARTNER_HEALTH_FORMAT w.format (rset F.PNL_PARTNER_HEALTH_FLAGS w.flags s)
  let s := rset F.PNL_PARTNER_HEALTH_VERSION w.version (rset F.PNL_PARTNER_HEALTH_SEQ w.seq s)
  let s := { s with mir := { s.mir with healthLast := w, partnerFirm := w.flags.testBit 2 || w.flags.testBit 4 } }
  if old.flags = w.flags ∧ old.retirement = w.retirement then s else partnerTask 7 s

/-- PARTNER_HEALTH_LOST (R354): no group moves. -/
def opHealthLost (s : State) : State :=
  if rbit F.PNL_LINK_STATUS_LINK_UP s then record Ev.PARTNER_HEALTH_LOST srcPNL 0 [] s else s

/-! ### Loss of the link (R341) -/

/-- HB_OUT stops and stays stopped until a reset (R342). -/
def stopHeart (s : State) : State := { s with fence := { s.fence with hbOut := false, hbStopped := true } }

/-- Own egress held (R346): FENCE_GATED shows on every network and PCIe port. DESIGN CHOICE, safe: log 82. -/
def setGated (on : Bool) (s : State) : State :=
  let s := rflag F.PNL_FENCE_STATUS_GATED on s
  let s := forEach (List.range 16) (fun p s => rflag F.NET_PORT_STATUS_FENCE_GATED on s p) s
  forEach (List.range 17) (fun p s => rflag F.PCI_PORT_STATUS_FENCE_GATED on s p) s

/-- SELF_STOP (R361): HB_OUT stops and own egress is held until a reset. -/
def selfStop (s : State) : State := setGated true (rflag F.PNL_FENCE_STATUS_SELF_STOPPED true (stopHeart s))

/-- The Retain entry has passed step 4, or the part sleeps: a loss of the link has no consequence (Table 14.6). -/
def linkLossQuiet (s : State) : Bool := decide (4 ≤ rget F.PWR_STATUS_STEP s) || decide (2 ≤ rget F.PWR_STATUS_STATE s)

/-- Rejoin attempts of the last hour (R357). -/
def recentAttempts (s : State) : List Nat := s.mir.attempts.filter (fun t => decide (rget F.CLK_OPTIME_OPSEC s < t + 3600))

/-- The Array Runtime can act: the boot did not end in recovery, neither pair is halted, and SUP runs. DEDUCED, unsafe: log 56. -/
def runtimeUp (s : State) : Bool :=
  !s.chip.recovery && !(coreOf s 64).lockHalt && !(coreOf s 65).lockHalt && islandRuns 1 s

/-- The restart toward rejoin (R346, R357): a warm reset that the Array Runtime applies; a fourth within an hour is not made. DEDUCED, unsafe: log 54. -/
def restartToRejoin (s : State) : State :=
  if 3 ≤ (recentAttempts s).length then
    if s.mir.refused then s else recordFw Ev.REJOIN_REFUSED srcPNL 0 [] { s with mir := { s.mir with refused := true } }
  else
    warmReset F.CHIP_RESET_CAUSE_WARM_SW { s with mir := { s.mir with attempts := recentAttempts s ++ [rget F.CLK_OPTIME_OPSEC s] } }

/-- The consequence of a lost link while HB_IN still toggles (R341): head B stops itself and restarts toward rejoin; head A stops sending. DEDUCED, unsafe: log 54. -/
def linkLossRule (s : State) : State :=
  if !rbit F.PNL_FENCE_STATUS_HB_IN_LIVE s || !s.mir.partnerShadow || linkLossQuiet s then s
  else if headSlot s = 1 then
    let s := record Ev.PARTNER_LINK_LOST srcPNL 0 [] (selfStop s)
    if runtimeUp s then restartToRejoin s else s
  else { s with mir := { s.mir with sendPaused := true } }

/-- The link is lost: no lane carries traffic. -/
def linkDown (s : State) : State :=
  rset F.PNL_LINK_STATUS_LANES_UP 0 (rflag F.PNL_LINK_STATUS_FRAMES_OK false (rflag F.PNL_LINK_STATUS_LINK_UP false s))

/-- PARTNER_LINK_LOST (R341). -/
def opLinkLost (s : State) : State := if rbit F.PNL_LINK_STATUS_LINK_UP s then linkLossRule (linkDown s) else s

/-- SEND_PAUSE_END (R341). -/
def opSendPauseEnd (s : State) : State := { s with mir := { s.mir with sendPaused := false } }

/-! ### Lanes (R341, R353) -/

/-- Lane `l` carries traffic. -/
def laneUp (l : Nat) (s : State) : Bool := (rget F.PNL_LINK_STATUS_LANES_UP s).testBit l

/-- PNL_LANE_DROPPED (R341): the link runs on without the lane; without any lane it is lost. -/
def dropLane (l : Nat) (s : State) : State :=
  let s := rputBit F.PNL_LINK_STATUS_LANES_UP l false (rputBit F.PNL_LINK_STATUS_LANES_DROPPED l true s)
  let s := record Ev.PNL_LANE_DROPPED srcPNL l [] (rinc F.PNL_LINK_STATUS_LANE_DROPS 1 s)
  if rget F.PNL_LINK_STATUS_LANES_UP s = 0 then opLinkLost s else s

/-- One partner-link CRC error on a lane in service (R415, counter 3). -/
def laneError (l : Nat) (s : State) : State :=
  if !laneUp l s then s else
  let (hit, s) := fltError 3 l s
  if hit then if fltActs 3 s then dropLane l s else record Ev.PNL_LANE_DROPPED srcPNL l [] s else s

/-- IDLE (R341). -/
def opIdle (s : State) : State := if mayTalk s then emit .idle s else s

/-- TEST (R353): one from the partner is returned unchanged; one of this head's that came back different counts an error. -/
def opTest (l : Fin 8) (returned same : Bool) (s : State) : State :=
  if !laneUp l.val s then s
  else if returned then if same then s else laneError l.val s
  else if mayTalk s then emit (.test l.val true) s else s

/-- The next lane in service from `l` up. -/
def nextLane (l : Nat) (s : State) : Option Nat := ((List.range 8).map (fun i => (l + i) % 8)).find? (fun i => laneUp i s)

/-- TEST_SEND (R353): the lanes take turns. -/
def opTestSend (s : State) : State :=
  match nextLane s.mir.laneTest s with
  | none => s
  | some l => if mayTalk s then emit (.test l false) { s with mir := { s.mir with laneTest := (l + 1) % 8 } } else s

/-- The lane test at once (Table 11.9): every lane is tested, and those of `failing` return a different message. -/
def loopbackNow (failing : List Nat) (s : State) : State :=
  forEach (List.range 8) (fun l s =>
    if !laneUp l s || !mayTalk s then s else
    let s := emit (.test l false) s
    if failing.contains l then laneError l s else s) s

/-- LANE_RETRAIN (R341): a dropped lane returns to service once it passes its test. -/
def opLaneRetrain (l : Fin 8) (pass : Bool) (s : State) : State :=
  if !pass || !(rget F.PNL_LINK_STATUS_LANES_DROPPED s).testBit l.val || !rbit F.PNL_CTL_PNL_EN s then s else
  let s := rputBit F.PNL_LINK_STATUS_LANES_DROPPED l.val false s
  if rbit F.PNL_LINK_STATUS_LINK_UP s then rputBit F.PNL_LINK_STATUS_LANES_UP l.val true s else s

/-! ### Link up (R325, R340, R356, R512) -/

/-- PERIOD_NS as it acts (Table 11.10). -/
def periodClamp (n : Nat) : Nat := min 16000 (max 2000 n)

/-- The period in force: the larger of the two; at or above 2^47 at least 4,000 ns (R325, R326). -/
def setPeriod (other : Nat) (s : State) : State :=
  let p := max (periodClamp (rget F.PNL_EPOCH_PERIOD_PERIOD_NS s)) (periodClamp other)
  longPeriod (rset F.PNL_EPOCH_PERIOD_ACTIVE_NS p s)

/-- The pair forms: each head is the other's shadow, and both streams begin (R328, Table 11.9). -/
def formPair (s : State) : State :=
  rflag F.PNL_CTL_MIRROR_EN true { s with mir := { s.mir with partnerShadow := true, prev := 0, lastApplied := 0, sent := [], applied := [] } }

/-- PARTNER_LINK_UP (R340): the lanes both ends hold aligned, the highest common version; equal straps form no pair (R512); a serving head goes
on in SOLO, one whose FENCE_IN is high is the joiner, and otherwise the pair forms. -/
def opLinkUp (lanes : BitVec 8) (mpvMin mpvMax : Nat) (slot : Bool) (period : Nat) (s : State) : State :=
  let up := lanes.toNat &&& (0xFF - rget F.PNL_LINK_STATUS_LANES_DROPPED s)
  if !rbit F.PNL_CTL_PNL_EN s || up == 0 || !islandRuns 18 s then s else
  let s := rset F.PNL_LINK_STATUS_LANES_UP up (rflag F.PNL_LINK_STATUS_LINK_UP true (rflag F.PNL_LINK_STATUS_FRAMES_OK true s))
  let s := rset F.PNL_LINK_STATUS_PARTNER_MPV_MAX mpvMax (rflag F.PNL_LINK_STATUS_PARTNER_SLOT slot s)
  let v := min 4 mpvMax
  let ok : Bool := decide (3 ≤ v) && decide (mpvMin ≤ v)
  let s := rset F.PNL_LINK_STATUS_MPV (if ok then v else 0) (rflag F.PNL_LINK_STATUS_VERSION_OK ok s)
  if !ok then recordFw Ev.PARTNER_VERSION_REFUSED srcPNL 0 [] s
  else if slot == (headSlot s == 1) then
    let s := recordFw Ev.REJOIN_REFUSED srcPNL 0 [] s
    if solo s then s else rflag F.PNL_CTL_MIRROR_EN false { s with chip := { s.chip with noPair := true } }
  else
    let s := setPeriod period s
    if s.mir.partnerShadow || solo s || s.chip.noPair || s.mir.refused then s
    else if rbit F.PNL_FENCE_STATUS_FENCE_IN s then { s with mir := { s.mir with joiner := true } }
    else formPair s

end Sys2Proof.Machine
end

