-- ==== Sys2Proof/Machine/Fence.lean ====
section
/-! DEFINITION. Heartbeat, loss detection and the fence; takeover, starting alone and rejoin (R342 to R348, R355 to R357, R361, R478). -/

namespace Sys2Proof.Machine

open Sys2Proof

/-! ### Heartbeat (R342, R343) -/

/-- HB_EN written (R342): AON toggles HB_OUT, unless it was stopped until a reset or REFCLK_SYS stopped; the watchdog starts anew. -/
def setHeart (on : Bool) (s : State) : State :=
  let s := rflag F.PNL_HB_CFG_HB_EN on s
  let run : Bool := on && !s.fence.hbStopped && !s.chip.refLost
  { s with fence := { s.fence with
    kickAt := if on && !s.fence.hbOut then rget F.CLK_TICK_TICK s else s.fence.kickAt
    hbOut := run } }

/-- KICK (R342): the watchdog starts anew. -/
def kickDog (s : State) : State := { s with fence := { s.fence with kickAt := rget F.CLK_TICK_TICK s } }

/-- KICK_WINDOW_US as it acts (Table 11.11). -/
def kickWindow (s : State) : Nat := min 1000 (max 2 (rget F.PNL_HB_CFG_KICK_WINDOW_US s))

/-- WDOG_TRIP (R342): no KICK for the window stops HB_OUT until a reset. DESIGN CHOICE, unsafe: log 3. DEDUCED, unsafe: log 56. -/
def opWdogTrip (s : State) : State :=
  if s.fence.hbOut && decide (s.fence.kickAt + kickWindow s ≤ rget F.CLK_TICK_TICK s) then rflag F.PNL_HB_CFG_WDOG_TRIP true (stopHeart s) else s

/-- Loss detection disarmed: 8 new edges are needed (R343). -/
def disarm (s : State) : State :=
  let s := rflag F.PNL_FENCE_STATUS_ARMED false s
  { s with fence := { s.fence with edges := 0 } }

/-- HB_IN_EDGE (R343, R434): HB_IN is live; the edges toward arming, or in P2 toward waking, count. -/
def opHbInEdge (s : State) : State :=
  let s := rflag F.PNL_FENCE_STATUS_HB_IN_LIVE true s
  if rget F.PWR_STATUS_STATE s = 2 then { s with pwr := { s.pwr with edges := min 8 (s.pwr.edges + 1) } }
  else { s with fence := { s.fence with edges := min 8 (s.fence.edges + 1) } }

/-- ARMED (R343): 8 edges since the latest disarm point, while the part holds no fence, PWR_FAILn is high and it does not sleep. -/
def opArmed (s : State) : State :=
  if decide (8 ≤ s.fence.edges) && !rbit F.PNL_FENCE_STATUS_FENCE_OUT s && !s.chip.pfLow && !linkLossQuiet s then
    rflag F.PNL_FENCE_STATUS_ARMED true s
  else s

/-! ### Asserting and releasing the fence (R344, R345) -/

/-- FENCE_OUT asserted for a cause, unless FENCE_IN makes the part the fenced head. -/
def assertFence (cause : Nat) (s : State) : State :=
  if rbit F.PNL_FENCE_STATUS_FENCE_IN s || rbit F.PNL_FENCE_STATUS_FENCE_OUT s then s else
  disarm (emit (.pin "FENCE_OUT" true) (rset F.PNL_FENCE_STATUS_CAUSE cause (rflag F.PNL_FENCE_STATUS_FENCE_OUT true s)))

/-- FENCE_OUT deasserted: a disarm point. -/
def releaseFence (s : State) : State :=
  if !rbit F.PNL_FENCE_STATUS_FENCE_OUT s then s else
  let s := rflag F.PNL_FENCE_STATUS_FENCE_OUT false (rflag F.PNL_FENCE_STATUS_FENCE_DONE false s)
  disarm (emit (.pin "FENCE_OUT" false) { s with fence := { s.fence with why := 0 } })

/-- PULSE (R344, R356): FENCE_OUT driven for 200 ns; it is no assertion. DEDUCED, unsafe: log 56. -/
def pulseFence (s : State) : State :=
  if rbit F.PNL_FENCE_STATUS_FENCE_OUT s then s else emit (.pin "FENCE_OUT" false) (emit (.pin "FENCE_OUT" true) s)

/-- A declared loss (R343, R344): IRQ line 0, and with AUTO_EN the fence. -/
def declareLoss (cause : Nat) (s : State) : State :=
  let s := raiseIrq 0 s
  if rbit F.PNL_FENCE_CTL_AUTO_EN s then assertFence cause s else s

/-- HB_LOST (R343): no HB_IN edge for LOSS_NS; armed, the partner is lost. -/
def opHbLost (s : State) : State :=
  let s := rflag F.PNL_FENCE_STATUS_HB_IN_LIVE false s
  if rbit F.PNL_FENCE_STATUS_ARMED s then declareLoss 1 (rflag F.PNL_FENCE_STATUS_HB_LOST true s) else s

/-- PWRGOOD_LOST (R343): PTN_PWRGOOD low for 100 ns; armed, the partner is lost. -/
def opPwrgoodLost (s : State) : State :=
  let s := rflag F.PNL_FENCE_STATUS_PTN_PWRGOOD false s
  if rbit F.PNL_FENCE_STATUS_ARMED s then declareLoss 2 (rflag F.PNL_FENCE_STATUS_PWRGOOD_LOST true s) else s

/-! ### FENCE_IN (R345, R346) -/

/-- The shelf lines follow EN_DRIVE and the hold (R263). -/
def redriveShelves (s : State) : State := forEach (List.range 8) (fun n s => driveShelf n (rtest F.SHF_CTL_EN_DRIVE n s) s) s

/-- FENCE_IN rises (R345, R346, R356): in a WIRE_TEST window it is latched; otherwise egress is held and the shelf lines released. In a conflict
head A keeps its fence and head B withdraws. -/
def opFenceIn (conflict : Bool) (s : State) : State :=
  let s := rflag F.PNL_FENCE_STATUS_FENCE_IN true s
  if s.fence.window then rflag F.PNL_FENCE_STATUS_TEST_SEEN true s else
  let s := redriveShelves (setGated true s)
  if conflict && rbit F.PNL_FENCE_STATUS_FENCE_OUT s && headSlot s == 1 then
    record Ev.FENCE_ARB_LOST srcAON 0 [] (rflag F.PNL_FENCE_STATUS_ARB_LOST true (releaseFence s))
  else s

/-- FENCED (R346): FENCE_IN beyond the window while the part holds no fence: recorded once, then dispatch stops and the part restarts. DEDUCED, unsafe: log 54. -/
def opFenced (s : State) : State :=
  if !rbit F.PNL_FENCE_STATUS_FENCE_IN s || rbit F.PNL_FENCE_STATUS_FENCE_OUT s || s.fence.window || s.fence.fenced then s else
  let s := record Ev.FENCED srcAON 0 [] (raiseIrq 0 { s with fence := { s.fence with fenced := true } })
  if runtimeUp s then restartToRejoin (rflag F.TSK_CTL_DISPATCH_EN false s) else s

/-- EGRESS_DISCARD (R346): what was held for 1 µs is discarded, and what follows. -/
def opEgressDiscard (s : State) : State :=
  if rbit F.PNL_FENCE_STATUS_GATED s then { s with fence := { s.fence with held := [], discard := true } } else s

/-- The hold lifts: held traffic is sent unless it was discarded. -/
def liftHold (s : State) : State :=
  let out := s.fence.held
  let s := redriveShelves (setGated false { s with fence := { s.fence with held := [], discard := false } })
  forEach out emit s

/-- FENCE_IN falls (R346, R356 step 4): the hold lifts unless SELF_STOP keeps it; a joiner whose copy has ended is shadow of every group. -/
def opFenceInFall (s : State) : State :=
  let s := rflag F.PNL_FENCE_STATUS_FENCE_IN false { s with fence := { s.fence with fenced := false } }
  if s.fence.window || rbit F.PNL_FENCE_STATUS_SELF_STOPPED s then s else
  let s := liftHold s
  if s.mir.joiner && s.mir.copyDone then becomeShadow s else s

/-! ### FENCE_DONE and takeover (R347, R348, R355, R437) -/

/-- The takeover, by what caused the assertion. DEDUCED, unsafe: log 54. -/
def takeover (s : State) : State :=
  let shadow := s.mir.partnerShadow
  let s := takeAll s
  if s.fence.why = 2 then finishPartner s
  else
    let s := takeWork (if shadow then replayRing s else s)
    if s.fence.why = 1 then restoreStored s else s

/-- FENCE_DONE (R344, R347, R348): recorded and counted, IRQ line 0, and the Array Runtime takes over. -/
def opFenceDone (s : State) : State :=
  if !rbit F.PNL_FENCE_STATUS_FENCE_OUT s || rbit F.PNL_FENCE_STATUS_FENCE_DONE s then s else
  let s := rinc F.PNL_FENCE_STATUS_FENCE_COUNT 1 (rflag F.PNL_FENCE_STATUS_FENCE_DONE true s)
  let s := raiseIrq 0 (record Ev.FENCE_ASSERTED srcAON 0 [] s)
  if runtimeUp s && !s.chip.noPair && !servesNone s then takeover s else s

/-- START_ALONE (R355): with FENCE_IN low the head fences and runs SOLO, with FENCE_IN high it is the joiner. A fence that AON held through the
reset has reached FENCE_DONE already. -/
def opStartAlone (s : State) : State :=
  if !runtimeUp s || solo s || s.mir.partnerShadow || s.chip.noPair || s.mir.refused || servesNone s then s
  else if rbit F.PNL_FENCE_STATUS_FENCE_IN s then onArr (fun a => { a with journal := [] }) { s with mir := { s.mir with joiner := true } }
  else
    let s := { s with fence := { s.fence with why := 1 } }
    if rbit F.PNL_FENCE_STATUS_FENCE_DONE s then takeover s else assertFence 3 s

/-! ### Rejoin (R356) -/

/-- WIRE_TEST: TEST_SEEN cleared, the window open. -/
def openWindow (s : State) : State :=
  rflag F.PNL_FENCE_STATUS_TEST_SEEN false { s with fence := { s.fence with window := true } }

/-- WIRE_TEST_END (R356 step 2): both wires proven, the survivor's copy begins; otherwise the rejoin is refused. -/
def opWireTestEnd (joinerOk : Bool) (s : State) : State :=
  if s.mir.joiner then
    if joinerOk then s else recordFw Ev.FENCE_WIRE_FAULT srcPNL 0 [] { s with mir := { s.mir with joiner := false } }
  else if !s.fence.window then s
  else
    let s := { s with fence := { s.fence with window := false } }
    if rbit F.PNL_FENCE_STATUS_TEST_SEEN s && joinerOk then if solo s then beginCopy s else s
    else recordFw Ev.FENCE_WIRE_FAULT srcPNL 0 [] s

/-- STATE_COPY_DONE (R356 step 4): the survivor writes RELEASE and leaves SOLO; the joiner is shadow once its egress lifts. -/
def opStateCopyDone (s : State) : State :=
  if s.mir.joiner then
    let s := { s with mir := { s.mir with copyDone := true } }
    if rbit F.PNL_FENCE_STATUS_FENCE_IN s then s else becomeShadow s
  else if solo s && s.mir.copying then endCopy (releaseFence s)
  else s

/-! ### Reference clock (R478) -/

/-- REFCLK_LOST (R478): HB_OUT stops with REFCLK_SYS. -/
def opRefclkLost (s : State) : State :=
  let s := rflag F.CLK_PLL_STATUS_REFSYS_OK false s
  { s with chip := { s.chip with refLost := true }, fence := { s.fence with hbOut := false } }

end Sys2Proof.Machine
end

