-- ==== Sys2Proof/Machine/Power.lean ====
section
/-! DEFINITION. Power states, islands, levels, thermal caps, clocks of islands, power failure (R421 to R443, R472, R477, R487 to R489, R524 to
R526). -/

namespace Sys2Proof.Machine

open Sys2Proof

/-! ### Levels (R422 to R425, R472, R525) -/

/-- The level an island runs at: LEVEL, with 0 as 1 while FBB_EN is clear or a regulator does not answer, and no faster than CAP. DESIGN CHOICE, unsafe: log 57. -/
def effLevel (n : Nat) (s : State) : Nat :=
  let l := rget F.PWR_DVFS_LEVEL s n
  let l := if l = 0 ∧ (rbit F.PWR_BIAS_CFG_FBB_EN s = false ∨ rbit F.CLK_PLL_STATUS_AVS_FAULT s = true) then 1 else l
  max l (rget F.PWR_DVFS_CAP s n)

/-- The frequency of a level (Table 14.2). -/
def levelMhz (n lvl : Nat) (s : State) : Nat := rget F.CLK_ISLAND_FREQ_L0_MHZ s n * (10 - 2 * lvl) / 10

/-- The level that VDD_CORE must carry for an island: during a change the faster of the two, so that the voltage rises first and falls last (R423); the
three fixed islands count as L1. -/
def heldLevel (n : Nat) (s : State) : Nat :=
  if fixedLevel n then 1
  else if rbit F.PWR_DVFS_CHANGING s n then min (rget F.PWR_DVFS_CUR_LEVEL s n) (kget 1 s.pwr.target n)
  else rget F.PWR_DVFS_CUR_LEVEL s n

/-- VDD_CORE (R471): the higher of the voltage of the highest level that any island holds and the voltage of the mesh stage time. DESIGN CHOICE, safe: log 91. -/
def coreVolt (s : State) : Nat :=
  max (Config.fusedVolt ((List.range 16).foldl (fun l n => min l (heldLevel n s)) 3)) (Config.fusedVolt 4)

/-- VDD_CORE commanded where it is to change; a regulator that does not answer takes no command (R472). -/
def syncCore (s : State) : State :=
  if rbit F.CLK_PLL_STATUS_AVS_FAULT s || coreVolt s == s.pwr.core then s
  else emit (.avs 0 (coreVolt s)) { s with pwr := { s.pwr with core := coreVolt s } }

/-- Those of every island but AON. -/
def setElecs (s : State) : State := forEach (List.range 18) (fun i s => setElec (i + 1) s) s

/-- A level change starts when the level in force is another and none runs (R423); the voltage of a raise rises first. -/
def startLevel (n : Nat) (s : State) : State :=
  if fixedLevel n || rbit F.PWR_DVFS_CHANGING s n || effLevel n s == rget F.PWR_DVFS_CUR_LEVEL s n then s else
  let t := effLevel n s
  syncCore (rflag F.PWR_DVFS_CHANGING true { s with pwr := { s.pwr with target := kput s.pwr.target n t } } n)

/-- Every island's level asked for anew. -/
def startLevels (s : State) : State := forEach (List.range 16) startLevel s

/-- LEVEL written (R422, R423): a fixed island ignores it; during a change it is held. -/
def writeLevel (n lvl : Nat) (s : State) : State := if fixedLevel n then s else startLevel n (rset F.PWR_DVFS_LEVEL lvl s n)

/-- LEVEL_CHANGE_DONE (R423): the level is in force, the voltage of a lowering falls, and a held write is applied. -/
def opLevelDone (n : Fin 16) (s : State) : State :=
  if !rbit F.PWR_DVFS_CHANGING s n.val then s else
  let t := kget 1 s.pwr.target n.val
  let f := levelMhz n.val t s
  let s := rset F.PWR_DVFS_MHZ f (rset F.PWR_DVFS_CUR_LEVEL t s n.val) n.val
  let s := if (kfind s.chip.plls n.val).isNone then rset F.CLK_ISLAND_FREQ_MHZ f s n.val else s
  startLevel n.val (syncCore (setElec (n.val + 1) (rflag F.PWR_DVFS_CHANGING false s n.val)))

/-- AVS_FAULT (R472): three unanswered commands. -/
def opAvsFault (s : State) : State := startLevels (rflag F.CLK_PLL_STATUS_AVS_FAULT true s)

/-- AVS_RETRY (R472): the regulator is commanded again; once it answers, the levels follow. -/
def opAvsRetry (answered : Bool) (s : State) : State :=
  if !rbit F.CLK_PLL_STATUS_AVS_FAULT s then s else
  let s := emit (.avs 0 (coreVolt s)) s
  if answered then startLevels (rflag F.CLK_PLL_STATUS_AVS_FAULT false { s with pwr := { s.pwr with core := coreVolt s } }) else s

/-- The cap that a junction temperature asks for (Table 18.7). -/
def capAt (t : Int) : Nat := if 114 ≤ t then 3 else if 110 ≤ t then 2 else if 106 ≤ t then 1 else 0

/-- The threshold of a cap. -/
def capThreshold (c : Nat) : Int := if c = 3 then 114 else if c = 2 then 110 else 106

/-- The cap in force. -/
def capNow (s : State) : Nat := rget F.PWR_DVFS_CAP s 1

/-- A cap step (R525): CAP, THROTTLE, the event, and the levels that follow. -/
def setCap (c : Nat) (s : State) : State :=
  let s := forEach (List.range 16) (fun n s => if fixedLevel n then s else rset F.PWR_DVFS_CAP c s n) s
  let s := if rbit F.PWR_STATUS_THROTTLE s == (c != 0) then s else emit (.pin "THERM_ALERTN" (c == 0)) s
  startLevels (record Ev.THERMAL_THROTTLE srcAON 0 [] (rflag F.PWR_STATUS_THROTTLE (c != 0) s))

/-- SMB_ALERTN is driven low (R510). DESIGN CHOICE, safe: log 82. -/
def smbAlert (s : State) : Bool := rget F.FLT_CTR_STATE_TRIPPED s != 0 || rbit F.EVR_STATUS_CRIT_LOST s || rbit F.PWR_STATUS_THROTTLE s

/-- THERM_ALERTN is driven low (R510). DESIGN CHOICE, safe: log 82. -/
def thermAlert (s : State) : Bool := rbit F.PWR_STATUS_THROTTLE s

/-- DW0 of the asynchronous event of a temperature threshold. -/
def noticeTemp : Nat := 0x020101

/-- A threshold of the Temperature Threshold feature passed between two samples: over (THSEL 0) or under (THSEL 1), in kelvin (R524). -/
def tempCrossed (old new : Int) (t : Nat × Nat) : Bool :=
  let k := fun (x : Int) => decide ((t.2 : Int) ≤ x + 273)
  if t.1 % 16 ≠ 0 then false
  else if t.1 / 16 = 0 then !k old && k new
  else decide (t.1 / 16 = 1) && (k old && decide ((new + 273) ≤ (t.2 : Int)) && decide (new < old))

/-- Controllers whose threshold was passed, and that asked for it, have the event. PRESUMED, unsafe: log 46. -/
def tempEvents (old new : Int) (s : State) : State :=
  forEach (s.host.ctrls.map (·.1)) (fun n s =>
    let c := ctrlOf s n
    if c.live && c.aerCfg.testBit 1 && c.temps.any (tempCrossed old new) then asyncEvent n noticeTemp s else s) s

/-- THERMAL_SAMPLE (R524, R525): Tj is the highest reading; a cap applies at its threshold and lifts a step once Tj has stayed 5 °C below it for
100 ms. In P2 only the trip acts. DESIGN CHOICE, unsafe: log 57. -/
def opThermalSample (temps : List Int) (heldBelow : Nat) (s : State) : State :=
  match temps with
  | [] => s
  | t :: l =>
    if 2 ≤ rget F.PWR_STATUS_STATE s ∨ s.pwr.tripped then s else
    let tj := l.foldl max t
    let old := s.pwr.tj
    let s := tempEvents old tj { s with pwr := { s.pwr with tj := tj } }
    let c := capNow s
    if c < capAt tj then setCap (capAt tj) s
    else if capAt tj < c ∧ tj ≤ capThreshold c - 5 ∧ 100 ≤ heldBelow then setCap (max (capAt tj) (c - 1)) s
    else s

/-- THERMAL_TRIP (R526): latched until PORn. DESIGN CHOICE, safe: log 82. -/
def opThermalTrip (s : State) : State :=
  let s := record Ev.THERMAL_TRIP srcAON 0 [] (emit (.pin "THERMTRIPN" false) s)
  let s := rset F.PWR_STATUS_PG 0x7FFFE (stopHeart s)
  { s with pwr := { s.pwr with tripped := true },
           chip := { s.chip with destaging := false, vault := if s.chip.destaging then none else s.chip.vault } }

/-! ### Islands (R426 to R429) -/

/-- The engines of an island. -/
def islandEngines (i : Nat) : List Nat :=
  match i with
  | 11 => [2, 3] | 12 => [4, 5] | 13 => [6] | 14 => [7] | _ => []

/-- A job is queued or running on the island's engines. -/
def islandBusy (i : Nat) (s : State) : Bool := s.eng.q.any (fun p => (islandEngines i).contains (p.1 / 1024) && !p.2.isEmpty)

/-- The slots of a DPC island. -/
def islandSlots (i : Nat) : List Nat := if 2 ≤ i ∧ i < 10 then (List.range 64).map (64 * (i - 2) + ·) else []

/-- Idle for clock gating (Table 14.4). -/
def clockIdle (i : Nat) (s : State) : Bool :=
  if 2 ≤ i ∧ i < 10 then (islandSlots i).all (fun n => (slotOf s n).st == .free || (slotOf s n).st == .waiting)
  else 11 ≤ i && i < 15 && !islandBusy i s

/-- Idle for power gating (Table 14.4). -/
def powerIdle (i : Nat) (s : State) : Bool :=
  if 3 ≤ i ∧ i < 10 then
    (islandSlots i).all (fun n => !slotBusy s n && (List.range 16).all (fun e => tokFree (tokOf s n e)))
  else 11 ≤ i && i < 15 && !islandBusy i s

/-- CLOCK_GATE (R426): in P1 an idle island's clock stops. -/
def opClockGate (i : Fin 19) (s : State) : State :=
  if rget F.PWR_STATUS_STATE s = 1 ∧ clockIdle i.val s = true ∧ islandOff i.val s = false then
    setElec i.val (rputBit F.PWR_STATUS_CG i.val true s)
  else s

/-- POWER_GATE (R426): in P1 an idle island whose AUTO_PG bit is set is power-gated with retention. -/
def opPowerGate (i : Fin 19) (s : State) : State :=
  if rget F.PWR_STATUS_STATE s = 1 ∧ powerIdle i.val s = true ∧ rtest F.PWR_ISLAND_GATE_AUTO_PG i.val s = true then
    setElec i.val (rputBit F.PWR_STATUS_PG i.val true s)
  else s

/-- The known-answer tests that fell due on units whose island was off, on islands that are on again (R428). DESIGN CHOICE, unsafe: log 57. -/
def runDue (s : State) : State :=
  let (now, later) := s.pwr.katDue.partition (fun p => !islandOff (engIsland (p.1 / 1024)) s)
  forEach now (fun p s =>
    let u := p.1 % 1024
    let bad : Bool := p.2 == 1
    match p.1 / 1024 with
    | 2 => ingKatOne u bad s
    | 3 => ingKatOne (4 + u) bad s
    | 4 => cmpKatOne u bad s
    | 5 => cmpKatOne (8 + u) bad s
    | 6 => cipKatOne u bad s
    | _ => parKatOne bad s) { s with pwr := { s.pwr with katDue := later } }

/-- WAKE (R427). -/
def wakeIslands (mask : Nat) (s : State) : State :=
  runDue (forEach (List.range 19) (fun i s => if mask.testBit i then ungateIsland i s else s) s)

/-- The islands that accept FORCE_OFF (R429). -/
def forceable (i : Nat) : Bool := (3 ≤ i && i < 10) || (11 ≤ i && i < 15)

/-- FORCE_OFF is refused: a job, a slot not Free, or a core whose TSK_SLOT_MAP bit is 1 (R429). -/
def forceRefused (i : Nat) (s : State) : Bool :=
  islandBusy i s || (islandSlots i).any (slotBusy s) ||
  (decide (3 ≤ i) && decide (i < 10) && (List.range 8).any (fun k => rtest F.TSK_SLOT_MAP_CORE_EN (8 * (i - 2) + k) s))

/-- The register fields of an island, without the retirements that it keeps. -/
def islandFields (i : Nat) : List Field :=
  match i with
  | 11 => F.ofBlock 10 | 12 => F.ofBlock 11 | 13 => F.ofBlock 12 | 14 => F.ofBlock 13 | _ => []

/-- Fields kept through a forced-off period (R429). DESIGN CHOICE, unsafe: log 57. -/
def keptOff : List Field :=
  [F.ING_ENGINE_STATUS_SHA3_RETIRED, F.ING_ENGINE_STATUS_CHUNK_RETIRED, F.CMP_RETIRED_DEC, F.CMP_RETIRED_COMP, F.CIP_LANE_STATUS_RETIRED,
   F.PAR_STATUS_RETIRED, F.DPC_CORE_STATUS_RETIRED]

/-- A key of the register file that belongs to core registers of DPC island `i`. -/
def coreKey (i k : Nat) : Bool :=
  [F.DPC_CORE_CTL_START, F.DPC_CORE_CTL_HALT, F.DPC_CORE_CTL_EN, F.DPC_CORE_STATUS_PARITY_ERRS, F.DPC_CORE_STATUS_LAST_CAUSE,
   F.DPC_CORE_STATUS_BUDGET_HITS, F.DPC_CORE_STATUS_TOKENS_HELD, F.DPC_CORE_STATUS_SLOTS_BUSY].any (fun f =>
    keyIn k f && decide ((k / 64 - f.addr) / 8 / 8 = i - 2))

/-- Whether a key of memory lies in the SRAM of DPC island `i`: its cores' own and its cluster's. -/
def islandMem (i k : Nat) : Bool :=
  if 2 ≤ i ∧ i < 10 then
    (decide (2 ^ 48 ≤ k) && decide (k / 2 ^ 48 - 1 < 64) && (k / 2 ^ 48 - 1) / 8 == i - 2) ||
    (decide (0x10000000 + 0x800000 * (i - 2) ≤ k) && decide (k < 0x10000000 + 0x800000 * (i - 1)))
  else false

/-- An island forced off loses what it holds (R429). DESIGN CHOICE, unsafe: log 57. -/
def clearIsland (i : Nat) (s : State) : State :=
  let dpc : Bool := decide (2 ≤ i) && decide (i < 10)
  let gone := fun (k : Nat) => ((islandFields i).any (keyIn k) && !keptOff.any (keyIn k)) || (dpc && coreKey i k)
  let s := { s with regs := s.regs.filter (fun p => !gone p.1), mem := s.mem.filter (fun p => !islandMem i p.1) }
  let s := if dpc then { s with cpu := { s.cpu with
      cores := s.cpu.cores.filter (fun p => !(p.1 / 8 == i - 2 && decide (p.1 < 64)))
      banks := s.cpu.banks.filter (fun p => !(p.1 / 64 == i - 2 && decide (p.1 < 512)))
      toks := s.cpu.toks.filter (fun p => !(p.1 / 16 / 64 == i - 2 && decide (p.1 / 16 < 512))) } } else s
  let s := if i = 14 then { s with par := [] } else s
  if i = 13 then { s with keys := { s.keys with slots := [] } } else s

/-- FORCE_OFF written (R429): a rising bit powers the island off or is refused, a falling one powers it on. -/
def writeForceOff (v : Nat) (s : State) : State :=
  forEach (List.range 19) (fun i s =>
    let old := rtest F.PWR_ISLAND_GATE_FORCE_OFF i s
    if !forceable i || old == v.testBit i then s
    else if v.testBit i then
      if forceRefused i s then rflag F.PWR_ISLAND_GATE_REFUSED true s
      else setElec i (clearIsland i (rputBit F.PWR_STATUS_PG i true (rputBit F.PWR_ISLAND_GATE_FORCE_OFF i true s)))
    else runDue (setElec i (rputBit F.PWR_STATUS_CG i false (rputBit F.PWR_STATUS_PG i false (rputBit F.PWR_ISLAND_GATE_FORCE_OFF i false s))))) s

/-! ### Refusers (R430, Table 14.5) -/

/-- The refusers that block P2 and P3. -/
def blocksMask (target : Nat) : Nat := if target = 2 then 0xFFFF else if target = 3 then 0x8FD5 else 0

/-- The refusers that the silicon finds. DESIGN CHOICE, safe: log 24. DESIGN CHOICE, unsafe: log 84. -/
def siliconFound (target : Nat) (s : State) : Nat :=
  let b := fun (n : Nat) (x : Bool) => if x then 2 ^ n else 0
  let any8 := fun (p : Nat → Bool) => (List.range 8).any p
  let alarm := rget F.CLK_ALARM_ALARM s
  b 1 (any8 (fun n => rbit F.SHF_STATE_EN_SENSE s n || rbit F.SHF_STATE_PG s n)) +
  b 2 ((List.range 512).any (slotBusy s) || !(s.task.q.getD 1 []).isEmpty || (target == 3 && (List.range 256).any (owns · s))) +
  b 4 (!s.evr.fifo.isEmpty || s.evr.erasing.isSome) +
  b 5 (solo s && rbit F.PNL_FENCE_STATUS_PTN_PRESENT s) +
  b 7 (s.eng.q.any (fun p => !p.2.isEmpty)) +
  b 8 (!s.rrn.ops.isEmpty || !s.rrn.leases.isEmpty || !s.rrn.ctxs.isEmpty) +
  b 9 (s.eng.q.any (fun p => p.1 / 1024 == 9 && !p.2.isEmpty)) +
  b 10 (rbit F.CIP_KEYSLOT_STATUS_BUSY s || rbit F.SEC_ATTEST_CTL_BUSY s) +
  b 12 (alarm != 0 && decide (alarm ≤ rget F.CLK_ALARM_RTC_SEC s + 10)) +
  b 13 (any8 (fun n => rbit F.SHF_STATE_ALERT s n && rtest F.PWR_WAKE_EN_SHELF n s)) +
  b 14 (rbit F.PNL_FENCE_STATUS_FENCE_IN s || rbit F.PNL_FENCE_STATUS_FENCE_OUT s || rbit F.PNL_FENCE_STATUS_SELF_STOPPED s)

/-- The refusers of a request: the silicon's and VETO's, those that block the state. DESIGN CHOICE, unsafe: log 84. -/
def refusers (target : Nat) (s : State) : Nat := (siliconFound target s ||| rget F.PWR_MODE_VETO s) &&& blocksMask target

/-- The lowest refuser of a mask. -/
def lowestId (m : Nat) : Nat := (lowest 16 (fun i => m.testBit i)).getD 0

/-- What a WAITP that waits, or the Array Runtime's own request, gets: `waitp` names the register, 32 for the Array Runtime's. -/
def returnWaitp (v : Word) (s : State) : State :=
  match s.pwr.waitp with
  | none => s
  | some d =>
    let s := { s with pwr := { s.pwr with waitp := none } }
    if h : d < 32 then retire 64 4 (setPc 64 (pcOf s 64 + 4) (wr 64 ⟨d, h⟩ v s)) else s

/-- Bit 63 and the refuser (R118). -/
def refusedWord (id : Nat) : Word := BitVec.ofNat 64 (2 ^ 63 + id)

/-- A refusal (R430): each refuser counted, PWR_LAST_REFUSE, the event, and WAITP's return. -/
def refusePower (target found : Nat) (s : State) : State :=
  let s := forEach (List.range 16) (fun i s => if found.testBit i then rinc F.PWR_REFUSE_CNT_COUNT 1 s i else s) s
  let s := rset F.PWR_LAST_REFUSE_ID (lowestId found) (rset F.PWR_LAST_REFUSE_TARGET target (rset F.PWR_LAST_REFUSE_FOUND found s))
  let s := record Ev.PWR_REFUSED srcAON 0 (pack [(1, target), (1, lowestId found), (2, found)]) s
  let s := rset F.PWR_STATUS_TARGET 0 (rset F.PWR_STATUS_STEP 0 (rflag F.PWR_STATUS_AGREED false (rflag F.PWR_STATUS_BUSY false s)))
  returnWaitp (refusedWord (lowestId found)) s

/-! ### Entry (R432, R439) and exit (R436) -/

/-- Step 2 of Table 14.6. -/
def pwrStep2 (s : State) : State :=
  let s := { s with pwr := { s.pwr with dispatchWas := rbit F.TSK_CTL_DISPATCH_EN s, intakeWas := rbit F.HQ_CTL_INTAKE_EN s } }
  let s := rset F.PWR_STATUS_STEP 2 (rflag F.TSK_CTL_DISPATCH_EN false (rflag F.HQ_CTL_INTAKE_EN false s))
  opRecordProgrammed (opRecordClose s)

/-- Step 2 undone. -/
def undoStep2 (s : State) : State := rflag F.TSK_CTL_DISPATCH_EN s.pwr.dispatchWas (rflag F.HQ_CTL_INTAKE_EN s.pwr.intakeWas s)

/-- An Ethernet port's link down. -/
def netDown (p : Nat) (s : State) : State :=
  rset F.NET_PORT_STATUS_SPEED 0 (rset F.NET_PORT_STATUS_WIDTH 0 (rset F.NET_PORT_STATUS_FEC 0 (rflag F.NET_PORT_STATUS_AN_DONE false
    (rflag F.NET_PORT_STATUS_PCS_LOCK false (rflag F.NET_PORT_STATUS_LINK_UP false s p) p) p) p) p) p

/-- Ethernet, PCIe and vault links taken down, the PCIe ones as planned. -/
def linksDown (s : State) : State :=
  let en := (List.range 17).filter (fun n => rbit F.PCI_PORT_CFG_EN s n)
  let s := { s with pwr := { s.pwr with plannedWas := rget F.PCI_PLANNED_DOWN_PLANNED s } }
  let s := forEach en (fun n s => rputBit F.PCI_PLANNED_DOWN_PLANNED n true s) s
  let s := forEach (List.range 17) (fun n s => if n < 17 then opPciLinkPlanned (Fin.ofNat 17 n) s else s) s
  forEach (List.range 16) netDown s

/-- Step 4 of Table 14.6: HB_OUT stops, loss detection is disarmed, the links go down. -/
def pwrStep4 (s : State) : State :=
  let s := rset F.PWR_STATUS_STEP 4 { s with fence := { s.fence with hbOut := false } }
  linkDown (linksDown (disarm s))

/-- The rails of Retain (R471): VDD_CORE at 0.30 V or less before VDD_SRAM falls to 0.60 V. DESIGN CHOICE, safe: log 91. -/
def railsDown (s : State) : State :=
  let v := min 3000 Config.retainVolt
  emit (.avs 1 6000) (emit (.avs 0 v) { s with pwr := { s.pwr with core := v } })

/-- The rails at the exit (R436, R471): VDD_SRAM at 0.85 V before VDD_CORE rises. -/
def railsUp (s : State) : State :=
  let s := emit (.avs 1 8500) s
  emit (.avs 0 (coreVolt s)) { s with pwr := { s.pwr with core := coreVolt s } }

/-- Steps 5 and 6: DRAM in self-refresh, the islands other than AON power-gated with retention, the rails lowered; P2 is reached. -/
def pwrStep6 (s : State) : State :=
  let s := railsDown s
  let s := rset F.PWR_STATUS_PG 0x7FFFE (rset F.PWR_STATUS_CG 0 s)
  let s := rset F.PWR_STATUS_STATE 2 (rset F.PWR_STATUS_STEP 0 (rset F.PWR_STATUS_TARGET 0 (rflag F.PWR_STATUS_BUSY false (rflag F.PWR_STATUS_AGREED false s))))
  record Ev.PWR_STATE srcAON 0 [] (setElecs { s with pwr := { s.pwr with edges := 0, offered := none } })

/-- Steps 4 to 6 after the agreement. -/
def enterRetain (s : State) : State := pwrStep6 (pwrStep4 s)

/-- P3 (R439): OPTIME_MARK, HB_OUT stopped, the links down, PWR_OFFREQn low; WAITP never returns. -/
def enterOff (s : State) : State :=
  let s := opOptimeMark (pwrStep2 s)
  let s := linkDown (linksDown { s with fence := { s.fence with hbOut := false } })
  let s := rset F.PWR_STATUS_STATE 3 (rset F.PWR_STATUS_STEP 0 (rset F.PWR_STATUS_TARGET 0 (rflag F.PWR_STATUS_BUSY false s)))
  emit (.pin "PWR_OFFREQN" false) { s with pwr := { s.pwr with off := true } }

/-- Step 3 ended by a matching POWER message. -/
def agreed (s : State) : State := enterRetain (rflag F.PWR_STATUS_AGREED true { s with pwr := { s.pwr with offered := none } })

/-- Every island runs, but those forced off. -/
def ungateAll (s : State) : State :=
  runDue (rset F.PWR_STATUS_CG 0 (rset F.PWR_STATUS_PG (rget F.PWR_ISLAND_GATE_FORCE_OFF s) s))

/-- The part in another state: a change of PWR_BIAS_CFG takes effect (R423, R425). -/
def stateChanged (s : State) : State := setElecs (startLevels s)

/-- The request that PWR_MODE.STATE holds, presented with `waitp` set (R430): P0 and P1 at once; P2 and P3 after the refuser checks. No P2 while a
regulator does not answer (R472); that refusal has no number. DESIGN CHOICE, safe: log 24. -/
def presentRequest (s : State) : State :=
  let t := rget F.PWR_MODE_STATE s
  if t < 2 then
    let was := rget F.PWR_STATUS_STATE s
    let s := rset F.PWR_STATUS_STATE t (if t = 0 then ungateAll s else s)
    returnWaitp 0 (if was = t then s else stateChanged s)
  else
    let s := { s with pwr := { s.pwr with before := rget F.PWR_STATUS_STATE s } }
    let found := refusers t s
    if found ≠ 0 then refusePower t found s
    else if t = 3 then enterOff (rset F.PWR_STATUS_TARGET 3 s)
    else if rbit F.CLK_PLL_STATUS_AVS_FAULT s then returnWaitp (refusedWord (Config.avsRefuser s.freeCtr).toNat) (tickFree s)
    else
      let s := pwrStep2 (rset F.PWR_STATUS_TARGET 2 (rflag F.PWR_STATUS_BUSY true s))
      if !rbit F.PNL_FENCE_STATUS_PTN_PRESENT s then enterRetain s
      else
        let a := rget F.PWR_MODE_AGREE_SEQ s
        let s := emit (.power a) (rset F.PWR_STATUS_STEP 3 s)
        if s.pwr.offered = some a then agreed s else s

/-- WAITP (R118): pair 0 in S presents the request and returns once it has ended; U and H raise PRIV, the others ILLEGAL. -/
def runWaitp (c : CoreId) (d a b : Rn) (s : State) : State :=
  runInstr c 4 [] (a.val + b.val != 0 || (privOf s c == 0 && c.val != 64)) [0] (fun s =>
    .stay (presentRequest { s with pwr := { s.pwr with waitp := some d.val } })) s

/-- The Array Runtime's own request: it writes PWR_MODE and executes WAITP. -/
def requestState (target agree veto : Nat) (s : State) : State :=
  if s.pwr.waitp.isSome || 2 ≤ rget F.PWR_STATUS_STATE s then s else
  let s := rset F.PWR_MODE_STATE target (rset F.PWR_MODE_AGREE_SEQ agree (rset F.PWR_MODE_VETO veto s))
  presentRequest { s with pwr := { s.pwr with waitp := some 32 } }

/-- The entry stands at step 3. -/
def atStep3 (s : State) : Bool := rget F.PWR_STATUS_STEP s == 3

/-- The wake noted (R434). -/
def noteWake (src inst : Nat) (s : State) : State :=
  rset F.PWR_LAST_WAKE_SOURCE src (rset F.PWR_LAST_WAKE_INSTANCE inst (rset F.PWR_LAST_WAKE_TICK (rget F.CLK_TICK_TICK s) s))

/-- An entry aborted at its safe point (R433): step 2 undone, counted under WAKE, the part in P0. DESIGN CHOICE, unsafe: log 57. -/
def abortEntry (src inst mode : Nat) (s : State) : State :=
  let s := rset F.PWR_STATUS_STATE 0 (rset F.PWR_MODE_STATE mode (noteWake src inst (undoStep2 s)))
  refusePower 2 1 s

/-- Exit from P2 (R436). -/
def exitRetain (src inst : Nat) (s : State) : State :=
  let s := railsUp s
  let s := rset F.PWR_STATUS_STATE s.pwr.before (rset F.PWR_MODE_STATE s.pwr.before s)
  let s := stateChanged (ungateAll s)
  let run : Bool := rbit F.PNL_HB_CFG_HB_EN s && !s.fence.hbStopped && !s.chip.refLost
  let s := undoStep2 { s with fence := { s.fence with hbOut := run, kickAt := rget F.CLK_TICK_TICK s } }
  let s := rset F.PCI_PLANNED_DOWN_PLANNED s.pwr.plannedWas s
  let s := record Ev.PWR_WAKE srcAON 0 (pack [(1, src), (1, inst)]) (noteWake src inst s)
  returnWaitp (BitVec.ofNat 64 src) { s with pwr := { s.pwr with restoreOnly := false, edges := 0 } }

/-- A wake source (R433, R434): in P2 it wakes the part, while an entry waits it aborts it. -/
def wakeSource (src inst : Nat) (s : State) : State :=
  if rget F.PWR_STATUS_STATE s = 2 then if s.pwr.restoreOnly && src != 6 then s else exitRetain src inst s
  else if atStep3 s then abortEntry src inst 0 s
  else s

/-- PWR_MODE written (R433, R440): with an entry waiting, the state being entered is absorbed, P0 or P1 aborts it, and P3 aborts it and starts. -/
def writePwrMode (v : Nat) (s : State) : State :=
  let t := v % 4
  let s := rset F.PWR_MODE_VETO (bits v 63 48) (rset F.PWR_MODE_PG_IDLE_US (bits v 47 32) (rset F.PWR_MODE_CG_IDLE_10NS (bits v 31 24) s))
  let s := rset F.PWR_MODE_STATE t (rset F.PWR_MODE_AGREE_SEQ (bits v 23 8) s)
  if !atStep3 s || t == 2 then s
  else if t < 2 then abortEntry 7 0 t s
  else
    let w := s.pwr.waitp
    let s := abortEntry 7 0 3 { s with pwr := { s.pwr with waitp := none } }
    presentRequest { s with pwr := { s.pwr with waitp := w } }

/-! ### Agreement of the heads (R329, R431, R432) -/

/-- POWER (R329): matched against AGREE_SEQ in step 3; one that comes before is kept. -/
def opPower (target agree : Nat) (s : State) : State :=
  if target ≠ 2 then s
  else if atStep3 s then if agree = rget F.PWR_MODE_AGREE_SEQ s then agreed s else s
  else { s with pwr := { s.pwr with offered := some agree } }

/-- POWER_AGREE_TIMEOUT (R432): refused with PARTNER_DISAGREE. -/
def opPowerTimeout (s : State) : State := if atStep3 s then refusePower 2 0x20 (undoStep2 s) else s

/-- The refusers that the Array Runtime finds (Table 14.5). DESIGN CHOICE, unsafe: log 57. -/
def arVeto (s : State) : Nat :=
  let b := fun (n : Nat) (x : Bool) => if x then 2 ^ n else 0
  let a := s.arr
  b 3 (!a.rebuildList.isEmpty || !a.evacuating.isEmpty || a.scrubPos.isSome || a.indexDegraded) +
  b 6 (!a.dirty.isEmpty || a.steeps.any (fun x => x.je.state == .steeping) || !s.mir.sent.isEmpty || !s.mir.opened.isEmpty) +
  b 11 (s.mir.activating || !s.mir.moving.isEmpty || s.mir.joiner || s.mir.copying) +
  b 15 (a.sessions.any (fun x => x.st == .running))

/-- RETAIN_PROPOSE (R431): the head answers AGREE and asks for P2, or REFUSE with the lowest ID it found, its refusal counted. DESIGN CHOICE, unsafe: log 57. -/
def opRetainPropose (agree : Nat) (s : State) : State :=
  let v := arVeto s
  if v = 0 then requestState 2 agree 0 (sendPartner (.agree agree) s)
  else requestState 2 agree v (sendPartner (.refuse agree (lowestId v)) s)

/-- AGREE (R431). -/
def opAgree (agree : Nat) (s : State) : State := requestState 2 agree 0 s

/-- REFUSE (R431): the entry is refused with PARTNER_DISAGREE. DESIGN CHOICE, unsafe: log 57. -/
def opRefuse (agree : Nat) (s : State) : State :=
  if atStep3 s then refusePower 2 0x20 (undoStep2 s) else requestState 2 agree 0x20 s

/-! ### Wake sources (Table 14.7) -/

/-- SMBUS_MATCH (R435): a matching address byte is counted, and wakes. -/
def opSmbusMatch (addr : BitVec 7) (s : State) : State :=
  let m := rget F.PWR_SMB_WAKE_ADDR_MASK s
  if addr.toNat &&& m ≠ rget F.PWR_SMB_WAKE_ADDR_ADDR s &&& m then s else
  let s := rinc F.PWR_SMB_WAKE_ADDR_MATCHES 1 s
  if rbit F.PWR_WAKE_EN_SMBUS s then wakeSource 1 0 s else s

/-- GPIO_WAKE (R434, R510): an edge held for 1 µs. -/
def opGpioWake (n : Fin 8) (s : State) : State :=
  let s := rputBit F.CHIP_STRAPS_GPIO_IN n.val (!rtest F.CHIP_STRAPS_GPIO_IN n.val s) s
  if rtest F.PWR_WAKE_EN_GPIO n.val s then wakeSource 4 n.val s else s

/-- HEARTBEAT_WAKE (R434): 8 HB_IN edges while in P2. -/
def opHeartbeatWake (s : State) : State :=
  if rget F.PWR_STATUS_STATE s = 2 ∧ 8 ≤ s.pwr.edges ∧ rbit F.PWR_WAKE_EN_HEARTBEAT s then wakeSource 5 0 s else s

/-- The Array Runtime's part of an alarm: it runs, and the part is in P0 or P1. DESIGN CHOICE, unsafe: log 58. -/
def alarmWork (s : State) : State := if runtimeUp s ∧ rget F.PWR_STATUS_STATE s < 2 then retentionWakes s else s

/-- ALARM (R267, R493): the RTC reaches ALARM; IRQ line 8 pends, an enabled wake follows, and the shelves that are due are woken. DESIGN CHOICE, unsafe: log 58. -/
def opAlarm (s : State) : State :=
  let a := rget F.CLK_ALARM_ALARM s
  if a = 0 then s else
  let s := rset F.CLK_ALARM_RTC_SEC (max a (rget F.CLK_ALARM_RTC_SEC s)) s
  alarmWork (if rbit F.PWR_WAKE_EN_RTC s then wakeSource 2 0 s else s)

/-- RTC_HOURLY_RECORD (R493): the time is recorded, and the shelves that are due are looked at again. DESIGN CHOICE, unsafe: log 58. -/
def opRtcHourly (s : State) : State := alarmWork (opRtcRecord s)

/-- CLK_ALARM written (R493): ALARM taken, RTC_SEC unless it is 0. -/
def writeClkAlarm (v : Nat) (s : State) : State :=
  let s := rset F.CLK_ALARM_ALARM (bits v 63 32) s
  if bits v 31 0 = 0 then s else rset F.CLK_ALARM_RTC_SEC (bits v 31 0) s

/-- SHELF_ALERT (R264, R434): its level also wakes. -/
def opShelfAlert (n : Fin 8) (level : Bool) (s : State) : State :=
  let s := shelfAlert n.val level s
  if level && rtest F.PWR_WAKE_EN_SHELF n.val s then wakeSource 3 n.val s else s

/-- HB_IN_ABSENT (R437): no HB_IN edge within 100 ms of a wake: the head asserts the fence and will take every group, with nothing to replay. -/
def opHbInAbsent (s : State) : State :=
  if linkLossQuiet s || s.fence.edges != 0 || !s.mir.partnerShadow || !runtimeUp s then s
  else assertFence 3 { s with fence := { s.fence with why := 2 } }

/-- PARTNER_LINK_NOT_UP (R437): HB_IN toggles but the link is not up within 1 s of a wake. -/
def opLinkNotUp (s : State) : State := if rbit F.PNL_LINK_STATUS_LINK_UP s then s else linkLossRule s

/-! ### Island PLLs (R477) -/

/-- PLL_LOCK_LOST: the island's clock stops. -/
def opPllLost (n : Fin 16) (s : State) : State :=
  if (kfind s.chip.plls n.val).isSome then s else
  let s := rset F.CLK_ISLAND_FREQ_MHZ 0 (rputBit F.CLK_PLL_STATUS_LOCKED n.val false s) n.val
  { s with chip := { s.chip with plls := kput s.chip.plls n.val 0 } }

/-- An island treated as failed. -/
def islandFailed (n : Nat) (s : State) : State :=
  let i := n + 1
  if 1 ≤ n ∧ n ≤ 8 then forEach ((List.range 8).map (8 * (n - 1) + ·)) retireCore s
  else match islandEngines i with
    | [] => stopHeart s
    | l => forEach l (fun e s => forEach (List.range (max 1 (engUnits e))) (retireUnit e) s) s

/-- PLL_RELOCK_RETRY: after three failed tries the island has failed. DESIGN CHOICE, unsafe: log 57. -/
def opPllRetry (n : Fin 16) (ok : Bool) (s : State) : State :=
  match kfind s.chip.plls n.val with
  | none => s
  | some k =>
    if 3 ≤ k then s
    else if ok then
      let s := { s with chip := { s.chip with plls := kdel s.chip.plls n.val } }
      rset F.CLK_ISLAND_FREQ_MHZ (rget F.PWR_DVFS_MHZ s n.val) (rinc F.CLK_ISLAND_FREQ_RELOCKS 1 (rputBit F.CLK_PLL_STATUS_LOCKED n.val true s) n.val) n.val
    else
      let s := { s with chip := { s.chip with plls := kput s.chip.plls n.val (k + 1) } }
      if k + 1 = 3 then islandFailed n.val (rputBit F.CLK_PLL_STATUS_LOCK_FAIL n.val true s) else s

/-- MESH_STALL (R16). -/
def opMeshStall (i : Fin 19) (s : State) : State :=
  record Ev.MESH_STALL i.val 0 [] (rputBit F.CHIP_ISLAND_ERR_STALL i.val true s)

/-! ### Power failure (R438, R487 to R489) -/

/-- POWER_FAIL (R487, Table 16.6): recorded, IRQ line 1; intake stops, the partner is told, and takes every group unless its own power fails too;
links go down, ING, CMP and PAR are forced off, DPC islands go to L3; the destage to the vault starts. In P2 no destage starts (R438). -/
def opPowerFail (partnerFailing : Bool) (s : State) : State :=
  if s.chip.pfLow then s else
  let s := record Ev.POWER_FAIL srcAON 0 [] { s with chip := { s.chip with pfLow := true } }
  if 2 ≤ rget F.PWR_STATUS_STATE s then s else
  let s := rflag F.HQ_CTL_INTAKE_EN false (disarm (raiseIrq 1 { s with pwr := { s.pwr with intakeWas := rbit F.HQ_CTL_INTAKE_EN s } }))
  let s := sendPartner .powerFail s
  let s := if partnerFailing then closeEpoch s else if partnerHere s then closeEpoch (handAll s) else s
  let s := linksDown s
  let s := forEach [11, 12, 14] (fun i s => setElec i (rputBit F.PWR_STATUS_PG i true (rputBit F.PWR_ISLAND_GATE_FORCE_OFF i true s))) s
  let s := forEach [1, 2, 3, 4, 5, 6, 7, 8] (fun n s => writeLevel n 3 s) s
  let s := opRecordProgrammed (opRecordClose s)
  { s with chip := { s.chip with destaging := true, vault := none } }

/-- PWR_RESTORE (R489): PWR_FAILn rises; in P2 the part wakes and the vault image is voided. -/
def pwrRestored (s : State) : State :=
  let s := { s with chip := { s.chip with vault := none } }
  let s := forEach [11, 12, 14] (fun i s => rputBit F.PWR_ISLAND_GATE_FORCE_OFF i false s) s
  wakeSource 6 0 s

/-- VAULT_DESTAGE_DONE (R487, R488): the header is written last; P2 follows by steps 2, 4, 5 and 6 with PWR_RESTORE as its only wake source. If
PWR_FAILn has risen meanwhile the part wakes at once. Without a vault SSD the destage fails. -/
def opDestageDone (s : State) : State :=
  if !s.chip.destaging then s else
  let ok := s.chip.vaultFitted
  let s := { s with chip := { s.chip with destaging := false, vault := if ok then some (vaultImage s) else none } }
  let s := record (if ok then Ev.VAULT_DESTAGE_DONE else Ev.VAULT_DESTAGE_FAIL) srcPCI 16 [] (drainFifo s)
  let was := s.pwr.intakeWas
  let s := pwrStep2 { s with pwr := { s.pwr with before := rget F.PWR_STATUS_STATE s, restoreOnly := true } }
  let s := enterRetain { s with pwr := { s.pwr with intakeWas := was } }
  if s.chip.pfLow then s else pwrRestored s

/-- PWR_RESTORE (R343, R434, R489): PWR_FAILn rises, a disarm point of loss detection. -/
def opPwrRestore (s : State) : State :=
  if !s.chip.pfLow then s else
  let s := disarm { s with chip := { s.chip with pfLow := false } }
  if rget F.PWR_STATUS_STATE s ≠ 2 then s
  else if s.pwr.restoreOnly then pwrRestored s
  else if rbit F.PWR_WAKE_EN_PWR_RESTORE s then wakeSource 6 0 s else s

end Sys2Proof.Machine
end

