-- ==== Sys2Proof/Machine/ExecArray.lean ====
section
/-! DEFINITION. The commands of the engines, the Array Runtime's deduplication, stripes, members and shelves. One definition per command: its effect on the state, which is always a next state. -/

namespace Sys2Proof.Machine

open Sys2Proof

/-- CUT (R160). -/
def execCut (u : Fin 4) (s : State) : Host.Outcome State Fault Refusal :=
  .next (arSettle (opCut u (runDue s)))

/-- FP_LIST (R167). -/
def execFpList (u : Fin 8) (s : State) : Host.Outcome State Fault Refusal :=
  .next (arSettle (opFpList u (runDue s)))

/-- CHECK (R167). -/
def execCheck (u : Fin 8) (s : State) : Host.Outcome State Fault Refusal :=
  .next (arSettle (opCheck u (runDue s)))

/-- HASH (R167). -/
def execHash (u : Fin 8) (s : State) : Host.Outcome State Fault Refusal :=
  .next (arSettle (opHash u (runDue s)))

/-- ING_KAT (R192). -/
def execIngKat (u : Fin 12) (out : Option (List Byte)) (s : State) : Host.Outcome State Fault Refusal :=
  .next (arSettle (opIngKat u out s))

/-- CONFIRM (R182). -/
def execConfirm (q : ConfirmReq) (s : State) : Host.Outcome State Fault Refusal :=
  .next (arSettle (settleReplies (opConfirm q s)))

/-- CONFIRM_RETRY (R180). -/
def execConfirmRetry (q : ConfirmReq) (s : State) : Host.Outcome State Fault Refusal :=
  .next (arSettle (settleReplies (opConfirm q s)))

/-- DIR_PROBE (R187). -/
def execDirProbe (m : DedupMsg) (s : State) : Host.Outcome State Fault Refusal :=
  .next (opDirProbe m s)

/-- DIR_PROBE_TIMEOUT (R187). -/
def execDirProbeTimeout (fp : Digest) (kd : Nat) (s : State) : Host.Outcome State Fault Refusal :=
  .next (arSettle (opDirProbeTimeout fp kd s))

/-- DIR_REPLY (R187). -/
def execDirReply (m : DedupMsg) (s : State) : Host.Outcome State Fault Refusal :=
  .next (arSettle (dirReplyAll m s))

/-- DIR_DROP (R179). -/
def execDirDrop (m : DedupMsg) (s : State) : Host.Outcome State Fault Refusal :=
  .next (opDirDrop m s)

/-- RELEASE (R188). -/
def execRelease (m : DedupMsg) (s : State) : Host.Outcome State Fault Refusal :=
  .next (opRelease m s)

/-- RELEASE_REPLY (R188). -/
def execReleaseReply (m : DedupMsg) (s : State) : Host.Outcome State Fault Refusal :=
  .next (opReleaseReply m s)

/-- RELEASE_RESEND (R190). -/
def execReleaseResend (serial : Nat) (s : State) : Host.Outcome State Fault Refusal :=
  .next (opReleaseResend serial s)

/-- EVICT (R191). -/
def execEvict (m : DedupMsg) (s : State) : Host.Outcome State Fault Refusal :=
  .next (arSettle (opEvict m s))

/-- COMPRESS (R200). -/
def execCompress (u : Fin 8) (verifyBad : Bool) (s : State) : Host.Outcome State Fault Refusal :=
  .next (arSettle (opCompress u verifyBad (runDue s)))

/-- DECOMPRESS (R204). -/
def execDecompress (u : Fin 8) (s : State) : Host.Outcome State Fault Refusal :=
  .next (arSettle (opDecompress u (runDue s)))

/-- GCM_SEAL (R212). -/
def execGcmSeal (u : Fin 64) (twin : Twin) (s : State) : Host.Outcome State Fault Refusal :=
  .next (arSettle (opGcmSeal u twin (runDue s)))

/-- GCM_OPEN (R212). -/
def execGcmOpen (u : Fin 64) (twin : Twin) (s : State) : Host.Outcome State Fault Refusal :=
  .next (arSettle (opGcmOpen u twin (runDue s)))

/-- XTS_ENC (R213). -/
def execXtsEnc (u : Fin 64) (twin : Twin) (s : State) : Host.Outcome State Fault Refusal :=
  .next (arSettle (opXtsEnc u twin (runDue s)))

/-- XTS_DEC (R213). -/
def execXtsDec (u : Fin 64) (twin : Twin) (s : State) : Host.Outcome State Fault Refusal :=
  .next (arSettle (opXtsDec u twin (runDue s)))

/-- CBC_ENC (R214). -/
def execCbcEnc (u : Fin 64) (twin : Twin) (s : State) : Host.Outcome State Fault Refusal :=
  .next (arSettle (opCbcEnc u twin (runDue s)))

/-- CBC_DEC (R214). -/
def execCbcDec (u : Fin 64) (twin : Twin) (s : State) : Host.Outcome State Fault Refusal :=
  .next (arSettle (opCbcDec u twin (runDue s)))

/-- CFB_ENC (R214). -/
def execCfbEnc (u : Fin 64) (twin : Twin) (s : State) : Host.Outcome State Fault Refusal :=
  .next (arSettle (opCfbEnc u twin (runDue s)))

/-- CFB_DEC (R214). -/
def execCfbDec (u : Fin 64) (twin : Twin) (s : State) : Host.Outcome State Fault Refusal :=
  .next (arSettle (opCfbDec u twin (runDue s)))

/-- CTR (R214). -/
def execCtr (u : Fin 64) (twin : Twin) (s : State) : Host.Outcome State Fault Refusal :=
  .next (arSettle (opCtr u twin (runDue s)))

/-- CMP_KAT (R225). -/
def execCmpKat (u : Fin 16) (out : Option (List Byte)) (s : State) : Host.Outcome State Fault Refusal :=
  .next (arSettle (opCmpKat u out s))

/-- CIP_KAT (R225). -/
def execCipKat (u : Fin 64) (fail : Bool) (s : State) : Host.Outcome State Fault Refusal :=
  .next (arSettle (opCipKat u fail s))

/-- PQ_OPEN (R235). -/
def execPqOpen (s : State) : Host.Outcome State Fault Refusal :=
  .next (arSettle (opPqOpen (runDue s)))

/-- PQ_ADD (R235). -/
def execPqAdd (s : State) : Host.Outcome State Fault Refusal :=
  .next (arSettle (opPqAdd (runDue s)))

/-- PQ_EMIT (R235). -/
def execPqEmit (s : State) : Host.Outcome State Fault Refusal :=
  .next (arSettle (opPqEmit (runDue s)))

/-- PQ_CHECK (R235). -/
def execPqCheck (s : State) : Host.Outcome State Fault Refusal :=
  .next (arSettle (opPqCheck (runDue s)))

/-- RECON (R237). -/
def execRecon (s : State) : Host.Outcome State Fault Refusal :=
  .next (arSettle (opRecon (runDue s)))

/-- PQ_FREE (R235). -/
def execPqFree (s : State) : Host.Outcome State Fault Refusal :=
  .next (arSettle (opPqFree (runDue s)))

/-- PAR_KAT (R271). -/
def execParKat (fail : Bool) (s : State) : Host.Outcome State Fault Refusal :=
  .next (arSettle (opParKat fail s))

/-- NVME_READ (R242). -/
def execNvmeRead (drive : DriveNo) (r : DriveResp) (s : State) : Host.Outcome State Fault Refusal :=
  .next (memberSettle (arSettle (opNvmeRead drive r s)))

/-- APPEND (R241). -/
def execAppend (drive : DriveNo) (r : DriveResp) (s : State) : Host.Outcome State Fault Refusal :=
  .next (memberSettle (arSettle (opAppend drive r s)))

/-- NVME_WRITE (R242). -/
def execNvmeWrite (drive : DriveNo) (r : DriveResp) (s : State) : Host.Outcome State Fault Refusal :=
  .next (memberSettle (arSettle (opNvmeWrite drive r s)))

/-- ZONE_CLOSE (R242). -/
def execZoneClose (drive : DriveNo) (r : DriveResp) (s : State) : Host.Outcome State Fault Refusal :=
  .next (arSettle (opZoneSend 1 drive r s))

/-- ZONE_FINISH (R242). -/
def execZoneFinish (drive : DriveNo) (r : DriveResp) (s : State) : Host.Outcome State Fault Refusal :=
  .next (arSettle (opZoneSend 2 drive r s))

/-- ZONE_OPEN (R242). -/
def execZoneOpen (drive : DriveNo) (r : DriveResp) (s : State) : Host.Outcome State Fault Refusal :=
  .next (arSettle (opZoneSend 3 drive r s))

/-- ZONE_RESET (R242). -/
def execZoneReset (drive : DriveNo) (r : DriveResp) (s : State) : Host.Outcome State Fault Refusal :=
  .next (arSettle (opZoneSend 4 drive r s))

/-- ZONE_REPORT (R242). -/
def execZoneReport (drive : DriveNo) (r : DriveResp) (s : State) : Host.Outcome State Fault Refusal :=
  .next (zoneReportSeen drive r s)

/-- NVME_ADMIN (R242). -/
def execNvmeAdmin (drive : DriveNo) (r : DriveResp) (s : State) : Host.Outcome State Fault Refusal :=
  .next (arSettle (opNvmeAdmin drive r s))

/-- CMD_TIMEOUT (R243). -/
def execCmdTimeout (drive : DriveNo) (s : State) : Host.Outcome State Fault Refusal :=
  .next (memberSettle (arSettle (opCmdTimeout drive s)))

/-- DRIVE_REMOVED (R544). -/
def execDriveRemoved (drive : DriveNo) (both : Bool) (s : State) : Host.Outcome State Fault Refusal :=
  .next (opDriveRemoved drive both s)

/-- STEEP_MAX (R246). -/
def execSteepMax (group : Fin 256) (cls : Fin 4) (s : State) : Host.Outcome State Fault Refusal :=
  .next (arSettle (opSteepMax group cls s))

/-- POUR (R247). -/
def execPour (stripe : Nat) (s : State) : Host.Outcome State Fault Refusal :=
  .next (pourOrSplit stripe s)

/-- COMMIT (R249). -/
def execCommit (stripe : Nat) (s : State) : Host.Outcome State Fault Refusal :=
  .next (settleRep (arSettle (opCommit stripe s)))

/-- DIRTY_RELEASE (R250). -/
def execDirtyRelease (wseq : Nat) (s : State) : Host.Outcome State Fault Refusal :=
  .next (settleVault (settleRep (retryR2t (opDirtyRelease wseq s))))

/-- GC (R254). -/
def execGc (shelf : Fin 8) (s : State) : Host.Outcome State Fault Refusal :=
  .next (settleLost (opGc shelf s))

/-- ZONE_SET_RECLAIM (R256). -/
def execZoneSetReclaim (zs : Nat) (s : State) : Host.Outcome State Fault Refusal :=
  .next (opZoneSetReclaim zs s)

/-- NEXT_WRITE_SHELF (R262). -/
def execNextWriteShelf (storedRate : Nat) (s : State) : Host.Outcome State Fault Refusal :=
  .next (opNextWriteShelf storedRate s)

/-- SHELF_WAKE_GRANT (R265). -/
def execShelfWakeGrant (s : State) : Host.Outcome State Fault Refusal :=
  .next (opShelfWakeGrant s)

/-- MIN_OFF (R264). -/
def execMinOff (shelf : Fin 8) (s : State) : Host.Outcome State Fault Refusal :=
  .next (opMinOff shelf s)

/-- SHELF_PG_ASSERT (R264). -/
def execShelfPgAssert (shelf : Fin 8) (s : State) : Host.Outcome State Fault Refusal :=
  .next (opShelfPgAssert shelf s)

/-- SHELF_PG_TIMEOUT (R264). -/
def execShelfPgTimeout (shelf : Fin 8) (s : State) : Host.Outcome State Fault Refusal :=
  .next (opShelfPgTimeout shelf s)

/-- SHELF_LINKED (R264). -/
def execShelfLinked (shelf : Fin 8) (s : State) : Host.Outcome State Fault Refusal :=
  .next (settleRep (settleStage (opShelfLinked shelf s)))

/-- SHELF_READY_TIMEOUT (R264). -/
def execShelfReadyTimeout (shelf : Fin 8) (notReady : List Nat) (s : State) : Host.Outcome State Fault Refusal :=
  .next (settleRep (settleStage (opShelfReadyTimeout shelf notReady s)))

/-- SHELF_RELEASE (R264). -/
def execShelfRelease (shelf : Fin 8) (s : State) : Host.Outcome State Fault Refusal :=
  .next (opShelfRelease shelf s)

/-- DRAIN_REPORT (R264). -/
def execDrainReport (shelf : Fin 8) (head : Bool) (s : State) : Host.Outcome State Fault Refusal :=
  .next (opDrainReport shelf head s)

/-- PLANNED_DOWN_REPORT (R264). -/
def execPlannedDownReport (shelf : Fin 8) (head : Bool) (s : State) : Host.Outcome State Fault Refusal :=
  .next (opPlannedDownReport shelf head s)

/-- SHELF_PG_DEASSERT (R264). -/
def execShelfPgDeassert (shelf : Fin 8) (s : State) : Host.Outcome State Fault Refusal :=
  .next (opShelfPgDeassert shelf s)

/-- SHELF_PG_STUCK (R264). -/
def execShelfPgStuck (shelf : Fin 8) (s : State) : Host.Outcome State Fault Refusal :=
  .next (opShelfPgStuck shelf s)

/-- SHELF_PG_LOST (R264). -/
def execShelfPgLost (shelf : Fin 8) (s : State) : Host.Outcome State Fault Refusal :=
  .next (opShelfPgLost shelf s)

/-- SHELF_FAULT_RETRY (R264). -/
def execShelfFaultRetry (shelf : Fin 8) (s : State) : Host.Outcome State Fault Refusal :=
  .next (opShelfFaultRetry shelf s)

/-- PCI_LINK_PLANNED (R260). -/
def execPciLinkPlanned (n : Fin 17) (s : State) : Host.Outcome State Fault Refusal :=
  .next (opPciLinkPlanned n s)

/-- PCI_LINK_LOST (R261). -/
def execPciLinkLost (n : Fin 17) (s : State) : Host.Outcome State Fault Refusal :=
  .next (opPciLinkLost n s)

/-- PCI_RETRAIN_RETRY (R261). -/
def execPciRetrainRetry (n : Fin 17) (s : State) : Host.Outcome State Fault Refusal :=
  .next (opPciRetrainRetry n s)

/-- PCI_LINK_STABLE (R261). -/
def execPciLinkStable (n : Fin 17) (s : State) : Host.Outcome State Fault Refusal :=
  .next (opPciLinkStable n s)

/-- PCI_LINK_UP (R273). -/
def execPciLinkUp (n : Fin 17) (gen : Fin 8) (lanes : Fin 32) (s : State) : Host.Outcome State Fault Refusal :=
  .next (opPciLinkUp n gen.val lanes.val s)

/-- PERST_RELEASE (R507). -/
def execPerstRelease (n : Fin 17) (s : State) : Host.Outcome State Fault Refusal :=
  .next (opPerstRelease n s)

/-- SMART_POLL (R274). -/
def execSmartPoll (drive : DriveNo) (warning : BitVec 8) (s : State) : Host.Outcome State Fault Refusal :=
  .next (opSmartPoll drive warning s)

/-- NOT_READY_TIMEOUT (R274). -/
def execNotReadyTimeout (drive : DriveNo) (s : State) : Host.Outcome State Fault Refusal :=
  .next (opNotReadyTimeout drive s)

/-- UNREACHABLE_TIMEOUT (R274). -/
def execUnreachableTimeout (drive : DriveNo) (s : State) : Host.Outcome State Fault Refusal :=
  .next (opUnreachableTimeout drive s)

/-- MEMBER_REPORT (R276). -/
def execMemberReport (drive : DriveNo) (r : MemberReport) (s : State) : Host.Outcome State Fault Refusal :=
  .next (opMemberReport drive r s)

/-- ZONE_SET_SWITCH (R281). -/
def execZoneSetSwitch (zs : Nat) (s : State) : Host.Outcome State Fault Refusal :=
  .next (settleLost (opZoneSetSwitch zs s))

/-- REBUILD_CHECKPOINT (R288). -/
def execRebuildCheckpoint (s : State) : Host.Outcome State Fault Refusal :=
  .next (settleLost (opRebuildCheckpoint s))

/-- DRIVE_INSERTED (R277). -/
def execDriveInserted (drive : DriveNo) (i : DriveInfo) (s : State) : Host.Outcome State Fault Refusal :=
  .next (opDriveInserted drive i s)

/-- SCRUB (R294). -/
def execScrub (zs row : Nat) (r : ScrubResult) (s : State) : Host.Outcome State Fault Refusal :=
  .next (settleLost (opScrub zs row r s))

/-- SCRUB_CHECKPOINT (R294). -/
def execScrubCheckpoint (s : State) : Host.Outcome State Fault Refusal :=
  .next (opScrubCheckpoint s)

/-- PCI_CORRECTABLE_ERROR (R272). -/
def execPciCorrectableError (n : Fin 17) (s : State) : Host.Outcome State Fault Refusal :=
  .next (opPciCorrectableError n s)

/-- IMPORT (R187). -/
def execImport_ (m : DedupMsg) (s : State) : Host.Outcome State Fault Refusal :=
  .next (opImport m s)

/-- IMPORT_REPLY (R187). -/
def execImportReply (m : DedupMsg) (s : State) : Host.Outcome State Fault Refusal :=
  .next (arSettle (opImportReply m s))

/-- IMPORT_TIMEOUT (R189). -/
def execImportTimeout (serial : Nat) (s : State) : Host.Outcome State Fault Refusal :=
  .next (arSettle (opImportTimeout serial s))

end Sys2Proof.Machine
end

