-- ==== Sys2Proof/Machine/Net.lean ====
section
/-! DEFINITION. The Ethernet ports (R32 to R37, R70, R71): negotiation, links, PAUSE and dropped frames. -/

namespace Sys2Proof.Machine

open Sys2Proof

/-- The WIDTH encoding a port runs at: its quad's mode, set by the quad's first lane (R32). DEDUCED, unsafe: log 79. -/
def quadWidth (p : Nat) (s : State) : Nat := rget F.NET_PORT_CFG_WIDTH s (p / 4 * 4)

/-- A width fits a port's position: x4 at 4q, x2 at an even port, x1 at every port; 3 holds a port down. DEDUCED, unsafe: log 79. -/
def laneFits (w p : Nat) : Bool := match w with | 0 => true | 1 => p % 2 == 0 | 2 => p % 4 == 0 | _ => false

/-- The port may come up: enabled, its transmitter too (R70), and its own WIDTH and its quad's mode fit its position (R32). DEDUCED, unsafe: log 79. -/
def netMayUp (p : Nat) (s : State) : Bool :=
  rbit F.NET_PORT_CFG_PORT_EN s p && rbit F.NET_PORT_CFG_TX_EN s p && laneFits (quadWidth p s) p && laneFits (rget F.NET_PORT_CFG_WIDTH s p) p

/-- The highest speed of a width (Table 2.1). -/
def widthSpeed (w : Nat) : Nat := match w with | 0 => 3 | 1 => 4 | _ => 5

/-- The lanes of a speed, as WIDTH encodes them: 10 Gb/s and up to 100 Gb/s take one lane. -/
def speedLanes (v : Nat) : Nat := match v with | 5 => 2 | 4 => 1 | _ => 0

/-- The link partner's ability bit of a PHY type (IEEE 802.3 Clause 73). PRESUMED, unsafe: log 46. -/
def abilityBit (v : Nat) (abil : BitVec 32) : Bool :=
  let b := fun n => abil.toNat.testBit n
  match v with
  | 0 => b 2
  | 1 => b 9 || b 10
  | 2 => b 13
  | 3 => b 16
  | 4 => b 17
  | _ => b 18

/-- The speed a port settles on: the highest that both ends advertise, or MAX_SPEED without negotiation (R33); at 25 Gb/s without RS-FEC the port
falls back to 10 Gb/s (R34). DEDUCED, unsafe: log 79. -/
def settledSpeed (p : Nat) (abil : BitVec 32) (rsFec : Bool) (s : State) : Option Nat :=
  let top := min (rget F.NET_PORT_CFG_MAX_SPEED s p) (widthSpeed (quadWidth p s))
  let v := if rbit F.NET_PORT_CFG_AN_EN s p then (lowest (top + 1) (fun i => abilityBit (top - i) abil)).map (fun i => top - i) else some top
  v.map (fun v => if v = 1 ∧ rsFec = false ∧ rget F.NET_PORT_CFG_FEC_MODE s p ≠ 1 then 0 else v)

/-- The link comes up or goes down: IRQ line 6 and NET_LINK_CHANGE (Table 4.6). -/
def noteLink (p : Nat) (s : State) : State := record Ev.NET_LINK_CHANGE srcNET p [] (raiseIrq 6 s)

/-- NET_LINK_CHANGE (R33, R34): a port that negotiates shows the partner's abilities, also where no PHY type is common (R71). -/
def opNetLinkChange (p : Fin 16) (up : Bool) (abil : BitVec 32) (rsFec : Bool) (s : State) : State :=
  let p := p.val
  if !up then if rbit F.NET_PORT_STATUS_LINK_UP s p then noteLink p (netDown p s) else s
  else if !netMayUp p s || rbit F.NET_PORT_STATUS_LINK_UP s p then s
  else
    let an := rbit F.NET_PORT_CFG_AN_EN s p
    let speed := settledSpeed p abil rsFec s
    let s := if an then rset F.NET_AN_RESULT_PARTNER_ABIL abil.toNat s p else s
    match speed with
    | none => s
    | some v =>
      let s := rset F.NET_PORT_STATUS_SPEED v (rset F.NET_PORT_STATUS_WIDTH (speedLanes v) s p) p
      let s := rset F.NET_PORT_STATUS_FEC (if v = 0 then 0 else if v = 1 then 1 else 2) s p
      noteLink p (rflag F.NET_PORT_STATUS_LINK_UP true (rflag F.NET_PORT_STATUS_PCS_LOCK true (rflag F.NET_PORT_STATUS_AN_DONE an s p) p) p)

/-- AN_RESTART (R33, R71): a port that negotiates and found no common PHY type starts again. -/
def opAnRestart (p : Fin 16) (s : State) : State :=
  if rbit F.NET_PORT_CFG_PORT_EN s p.val && rbit F.NET_PORT_CFG_AN_EN s p.val && !rbit F.NET_PORT_STATUS_LINK_UP s p.val then
    rflag F.NET_PORT_STATUS_AN_DONE false (rinc F.NET_AN_RESULT_AN_RESTARTS 1 s p.val) p.val
  else s

/-- PAUSE_FRAME (R35): discarded without action. DEDUCED, unsafe: log 79. -/
def opPauseFrame (_p : Fin 16) (s : State) : State := s

/-- The MAC passes a frame on (R36): at most 9,216 bytes, and with TAG_EN tagged with VID, without it untagged. DEDUCED, unsafe: log 79. -/
def frameAccepted (len : Nat) (tag : Option Nat) (s : State) : Bool :=
  decide (len ≤ 9216) && (if rbit F.NET_VLAN_CFG_TAG_EN s then tag == some (rget F.NET_VLAN_CFG_VID s) else tag.isNone)

/-- FRAME_DROP (R36): a frame that the MAC drops passes nothing on and no register counts it; what one that it passes carries comes as a command
of its own. DEDUCED, unsafe: log 79. -/
def opFrameDrop (_p : Fin 16) (len : Nat) (tag : Option Nat) (s : State) : State := if frameAccepted len tag s then s else s

/-- A port whose configuration no longer lets it run goes down. -/
def settleNet (s : State) : State :=
  forEach (List.range 16) (fun p s => if rbit F.NET_PORT_STATUS_LINK_UP s p && !netMayUp p s then noteLink p (netDown p s) else s) s

end Sys2Proof.Machine
end

