-- ==== Sys2Proof/Machine/Rearn.lean ====
section
/-! DEFINITION. Rearn (R364 to R399): windows, credit leases, the receive checks, reassembly, receipts, the directory and its HELLOs, and the
operations that this part issues. -/

namespace Sys2Proof.Machine

open Sys2Proof

/-- Rearn's state changed. -/
def onRrn (f : Rrn → Rrn) (s : State) : State := { s with rrn := f s.rrn }

/-! ### Nodes, paths and packets (R364, R365, R369, R370, R383) -/

/-- Operations (Table 12.3). -/
def oWrite := 0x01
def oNotify := 0x02
def oReadReq := 0x03
def oReadResp := 0x04
def oSend := 0x05
def oAtomic := 0x06
def oCreditReq := 0x08
def oCreditGrant := 0x09
def oAck := 0x0A
def oNak := 0x0B

/-- A node number outside the reserved ranges (Table 12.1). -/
def nodeValid (n : Nat) : Bool := decide (n ≤ 0x3FF) || (decide (0x8000 ≤ n) && decide (n ≤ 0xBFFF))

/-- A directory entry. -/
def nodeOf (n : Nat) (s : State) : RNode := kget {} s.rrn.nodes n

/-- A directory entry replaced. -/
def setNode (n : Nat) (x : RNode) (s : State) : State := onRrn (fun r => { r with nodes := kput r.nodes n x }) s

/-- The Ethernet port of path `p` (Table 12.14). -/
def pathPort (p : Nat) (s : State) : Nat :=
  rget (match p with | 0 => F.RRN_PATH_CFG_PORT_0 | 1 => F.RRN_PATH_CFG_PORT_1 | 2 => F.RRN_PATH_CFG_PORT_2 | _ => F.RRN_PATH_CFG_PORT_3) s

/-- The paths whose port has its link up and is not gated, numbered in order (R383); none while Rearn does not run. -/
def livePaths (s : State) : List Nat :=
  if !rbit F.RRN_CTL_EN s then [] else
  (List.range (rget F.RRN_PATH_CFG_PATHS s + 1)).filter (fun p =>
    rbit F.NET_PORT_STATUS_LINK_UP s (pathPort p s) && !rbit F.NET_PORT_STATUS_FENCE_GATED s (pathPort p s))

/-- The bytes of a packet-size encoding. -/
def pktSize (n : Nat) : Nat := 1024 * 2 ^ (n % 4)

/-- Transmission `r` of a packet on path (MSG_ID + j + r) mod M; with M = 0 nothing is sent (R383). -/
def sendPkt (p : RrnPkt) (r : Nat) (s : State) : State :=
  match livePaths s with
  | [] => s
  | l => egress (.rearn { p with path := l.getD ((p.msgId + p.offset / pktSize p.pkt + r) % l.length) 0, retry := min 3 r }) s

/-- The next MSG_ID; 0 is skipped (R370). -/
def nextMsg (s : State) : Nat × State :=
  let n := (s.rrn.lastMsg + 1) % 2 ^ 32
  let n := if n = 0 then 1 else n
  (n, onRrn (fun r => { r with lastMsg := n }) s)

/-- A reply to a packet: back to its source, with its MSG_ID. DEDUCED, unsafe: log 73. -/
def replyTo (p : RrnPkt) (op : Nat) (s : State) : RrnPkt :=
  { addr := p.addr, ver := p.ver, op := op, pkt := p.pkt, src := ownChip s, dst := p.src, msgId := p.msgId, window := p.window }

/-! ### Windows (R372 to R374) -/

/-- A window. -/
def winOf (n : Nat) (s : State) : Window := kget {} s.rrn.windows n

/-- A window replaced. -/
def setWin (n : Nat) (w : Window) (s : State) : State := onRrn (fun r => { r with windows := kput r.windows n w }) s

/-- GEN counts every arm and disarm and wraps from 0xFFFF to 1 (R373). -/
def nextGen (n : Nat) : Nat := if n = 0xFFFF then 1 else n + 1

/-- A BASE that R372 allows: 64-byte aligned in the network buffer, cluster SRAM or DRAM. -/
def baseOk (b : Nat) (s : State) : Bool :=
  decide (b % 64 = 0) && (match regionOf 0 b s with | some .netbuf | some .cluster | some .dram => true | _ => false)

/-- RRN_WIN_CFG_REFUSED (R372). -/
def winRefused (s : State) : State := record Ev.RRN_WIN_CFG_REFUSED srcNET 0 [] s

/-- A window armed (R373). -/
def armWindow (n : Nat) (s : State) : State := let w := winOf n s; setWin n { w with armed := true, gen := nextGen w.gen } s

/-- A window disarmed (R373). -/
def disarmWindow (n : Nat) (s : State) : State := let w := winOf n s; setWin n { w with armed := false, gen := nextGen w.gen } s

/-- WIN_ARM: a new BASE, LEN and KEY where they are not 0, then the arm; a BASE that R372 refuses leaves the configuration as it is. DESIGN CHOICE, unsafe: log 77. -/
def opWinArm (r : WinReq) (s : State) : State :=
  let n := r.window.val
  let w := winOf n s
  let good := decide (r.base = 0) || baseOk r.base s
  let s := if good then
      setWin n { w with base := if r.base = 0 then w.base else r.base, len := if r.len = 0 then w.len else r.len % 2 ^ 32,
                        key := if r.key = 0 then w.key else r.key % 2 ^ 32 } s
    else winRefused s
  armWindow n s

/-- WIN_DISARM. -/
def opWinDisarm (r : WinReq) (s : State) : State := disarmWindow r.window.val s

/-- The word of Table 12.5 that RRN_WIN_SEL selects. -/
def readWinCfg (s : State) : Word :=
  let w := winOf (rget F.RRN_WIN_SEL_WINDOW s) s
  BitVec.ofNat 64 (match rget F.RRN_WIN_SEL_WORD s with
    | 0 => w.perm * 2 ^ 52 + w.base
    | 1 => w.key * 2 ^ 32 + w.len
    | 2 => (if w.armed then 2 ^ 17 else 0) + w.gen
    | _ => 0)

/-- A write of the selected word (R372, R373): words 0 and 1 only while the window is not armed; word 2 arms and disarms. DESIGN CHOICE, unsafe: log 77. -/
def writeWinCfg (v : Word) (s : State) : State :=
  let n := rget F.RRN_WIN_SEL_WINDOW s
  let w := winOf n s
  let x := v.toNat
  match rget F.RRN_WIN_SEL_WORD s with
  | 0 => if w.armed then s else if baseOk (bits x 47 0) s then setWin n { w with base := bits x 47 0, perm := bits x 55 52 } s else winRefused s
  | 1 => if w.armed then s else if bits x 31 0 = 0 then winRefused s else setWin n { w with key := bits x 63 32, len := bits x 31 0 } s
  | 2 =>
    let s := if x.testBit 1 then armWindow n s else s
    if x.testBit 0 then disarmWindow n s else s
  | _ => s

/-! ### Credit leases (R375 to R378) -/

/-- TTL_US as it acts (Table 12.13). -/
def leaseTtl (s : State) : Nat := min 500 (max 20 (rget F.RRN_LEASE_TTL_TTL_US s))

/-- LEASE_MAX in bytes (Table 12.13). -/
def leaseMax (s : State) : Nat := 65536 * max 1 (rget F.RRN_LEASE_TTL_LEASE_MAX_64K s)

/-- The bytes of a pool: 0 FAB, 1 HOST, 2 RMA. -/
def poolSize (pool : Nat) (s : State) : Nat :=
  4096 * rget (match pool with | 0 => F.RRN_CREDIT_POOL_FAB_4K | 1 => F.RRN_CREDIT_POOL_HOST_4K | _ => F.RRN_CREDIT_POOL_RMA_4K) s

/-- The pool a data-bearing message uses (Table 12.3). -/
def poolFor (op window : Nat) : Nat := if op = oSend then (if window = 0 then 0 else 1) else 2

/-- The bytes a pool has granted and not had returned: the uncharged rest of its leases, and what its open messages were charged. -/
def poolOut (pool : Nat) (s : State) : Nat :=
  (s.rrn.leases.foldl (fun n p => if p.2.pool = pool then n + (p.2.bytes - p.2.charged) else n) 0) +
  (s.rrn.ctxs.foldl (fun n c => if poolFor c.op c.first.window = pool then n + c.charged else n) 0)

/-- LEASES_OUT follows the lease table. -/
def syncLeases (s : State) : State := rset F.RRN_LEASE_TTL_LEASES_OUT s.rrn.leases.length s

/-- A lease granted under R376, or none. DEDUCED, unsafe: log 74. -/
def grantLease (node pool req : Nat) (s : State) : Option LeaseIn × State :=
  let free := poolSize pool s - poolOut pool s
  let g := min (min ((req + 4095) / 4096 * 4096) (leaseMax s)) free
  if free < min req 65536 then (none, s) else
  match lowest 4096 (fun e => (kfind s.rrn.leases e).isNone) with
  | none => (none, s)
  | some e =>
    let i := (s.rrn.issue + 1) % 2 ^ 20
    let i := if i = 0 then 1 else i
    let l : LeaseIn := { num := i * 4096 + e, node := node, pool := pool, bytes := g }
    (some l, syncLeases (onRrn (fun r => { r with issue := i, leases := kput r.leases e l }) s))

/-- LEASE_EXPIRY (R377): the lease is gone, and its uncharged rest with it. -/
def expireLease (lease : Nat) (s : State) : State :=
  match kfind s.rrn.leases (lease % 4096) with
  | some l => if l.num = lease then syncLeases (onRrn (fun r => { r with leases := kdel r.leases (lease % 4096) }) s) else s
  | none => s

/-! ### Refusals (R390 to R392, R399) -/

/-- What an event about a window carries (R392). -/
def violBytes (p : RrnPkt) : List Byte := pack [(2, p.src), (2, p.window), (1, p.op), (4, p.msgId)]

/-- A refusal counted, recorded and, the first of codes 0x03 to 0x06 and 0x08, captured (R392, R399). -/
def noteRefusal (code : Nat) (p : RrnPkt) (s : State) : State :=
  let s := match code with
    | 1 => rinc F.RRN_LEASE_TTL_NO_CREDIT 1 s
    | 3 => record Ev.GEN_STALE_SEEN srcNET 0 (violBytes p) (rinc F.RRN_VIOL_STATUS_GEN_STALE 1 s)
    | 4 | 5 | 6 => record Ev.WIN_VIOLATION srcNET 0 (violBytes p) (rinc F.RRN_VIOL_STATUS_VIOLATIONS 1 s)
    | 7 => rinc F.RRN_VIOL_STATUS_TOO_OLD 1 s
    | 8 => rinc F.RRN_VIOL_STATUS_BAD_HDR 1 s
    | _ => s
  if rbit F.RRN_VIOL_STATUS_CAPTURED s || code < 3 || code == 7 || 8 < code then s else
  rset F.RRN_VIOL_INFO_SRC p.src (rset F.RRN_VIOL_INFO_WINDOW p.window (rset F.RRN_VIOL_INFO_MSG_ID p.msgId
    (rset F.RRN_VIOL_STATUS_FIRST_CODE code (rflag F.RRN_VIOL_STATUS_CAPTURED true s))))

/-- A packet refused: noted, and one NAK sent; NO_CREDIT carries the retry hint of R376. -/
def nakPkt (p : RrnPkt) (code : Nat) (s : State) : State :=
  sendPkt { replyTo p oNak s with code := code, arg := if code = 1 then leaseTtl s / 4 else 0 } 0 (noteRefusal code p s)

/-! ### Receive checks (Table 12.6) -/

/-- The operation carries data under a lease. -/
def dataOp (op : Nat) : Bool := op == oWrite || op == oNotify || op == oSend || op == oAtomic

/-- The operation keeps a receipt (R380). -/
def keepsReceipt (op : Nat) : Bool := op == oNotify || op == oSend || op == oAtomic

/-- The AMO that CODE or ATOP names (Table 4.13). -/
def amoNamed (code : Nat) : Option AmoOp := if 32 ≤ code then none else AmoOp.every.find? (fun o => o.code == code % 16)

/-- The access width of an ATOMIC: 4 bytes with W = 1. -/
def amoWidth (code : Nat) : Nat := if code.testBit 4 then 4 else 8

/-- The rules of R371 broken, or an operation's own fields. DEDUCED, unsafe: log 73. -/
def shapeBad (p : RrnPkt) (s : State) : Bool :=
  let n := p.payload.length
  let size := pktSize p.pkt
  if dataOp p.op || p.op == oReadResp then
    p.totalLen == 0 || decide ((nodeOf p.src s).maxMsg < p.totalLen) || decide (3 < p.pkt) || p.offset % size != 0 || n == 0 || decide (size < n) ||
    decide (p.totalLen < p.offset + n) || (n != size && p.offset + n != p.totalLen) || (p.op == oSend && decide (1 < p.window)) ||
    (p.op == oAtomic && (p.totalLen != 16 || (amoNamed p.code).isNone))
  else if p.op = oReadReq then
    p.totalLen == 0 || decide ((nodeOf p.src s).maxMsg < p.totalLen) || decide (3 < p.pkt) || p.offset != 0 || n != 0
  else n != 0 || (p.op == oCreditReq && decide (2 < p.code))

/-- The context a packet belongs to (R384). -/
def ctxFor (p : RrnPkt) (s : State) : Option RCtx := s.rrn.ctxs.find? (fun c => c.first.src == p.src && c.first.msgId == p.msgId)

/-- A packet differs from its open context (R384). -/
def ctxDiffers (c : RCtx) (p : RrnPkt) : Bool :=
  c.op != p.op || c.first.totalLen != p.totalLen || c.first.pkt != p.pkt || c.first.window != p.window || c.first.key != p.key || c.first.gen != p.gen

/-- Check 2 (R364, R367, R371, R384). DEDUCED, unsafe: log 73. -/
def hdrBad (p : RrnPkt) (s : State) : Bool :=
  let n := nodeOf p.src s
  !p.reservedOk || p.dst != ownChip s || !nodeValid p.src || !n.bound || !n.addrs.contains p.addr || p.ver != n.ver || shapeBad p s ||
    (match ctxFor p s with | some c => ctxDiffers c p | none => false)

/-- Check 4 (R378). -/
def leaseCheck (p : RrnPkt) (s : State) : Option Nat :=
  match kfind s.rrn.leases (p.lease % 4096) with
  | some l => if l.num ≠ p.lease then some 7 else if l.node ≠ p.src ∨ l.pool ≠ poolFor p.op p.window then some 8 else none
  | none => some 7

/-- The PERM bit of an operation (Table 12.5). -/
def permBit (op : Nat) : Nat := if op = oReadReq then 0 else if op = oWrite then 1 else if op = oNotify then 2 else 3

/-- Checks 5 to 8. DESIGN CHOICE, unsafe: log 77. -/
def windowCheck (p : RrnPkt) (s : State) : Option Nat :=
  let w := winOf p.window s
  if w.len = 0 ∨ w.key ≠ p.key then some 4
  else if w.len < p.raddr + p.totalLen ∨ (p.op = oAtomic ∧ p.raddr % amoWidth p.code ≠ 0) then some 5
  else if w.perm.testBit (permBit p.op) = false then some 6
  else if w.armed = false ∨ w.gen ≠ p.gen then some 3
  else none

/-- Checks 2 to 8 in order: the code of the first that fails. -/
def firstBad (p : RrnPkt) (s : State) : Option Nat :=
  if hdrBad p s then some 8 else
  match (if dataOp p.op then leaseCheck p s else none) with
  | some c => some c
  | none => if (dataOp p.op && p.op != oSend) || p.op == oReadReq then windowCheck p s else none

/-- Checks 1 to 8, then `f`. While Rearn does not run nothing is received. DEDUCED, unsafe: log 73. -/
def checked (p : RrnPkt) (f : State → State) (s : State) : State :=
  if !rbit F.RRN_CTL_EN s then s
  else if !p.crcOk then rinc F.RRN_VIOL_STATUS_BAD_HDR 1 s
  else match firstBad p s with
    | some c => nakPkt p c s
    | none => f s

/-! ### Contexts and receipts (R380, R384, R385) -/

/-- The receipt entries, and IN_USE with them. -/
def setReceipts (l : List Receipt) (s : State) : State := rset F.RRN_RECEIPT_CFG_IN_USE l.length (onRrn (fun r => { r with receipts := l }) s)

/-- A message's receipt entry. -/
def isReceipt (src msgId : Nat) (r : Receipt) : Bool := r.src == src && r.msgId == msgId

/-- A context closed. -/
def dropCtx (src msgId : Nat) (s : State) : State :=
  onRrn (fun r => { r with ctxs := r.ctxs.filter (fun c => !(c.first.src == src && c.first.msgId == msgId)) }) s

/-- A context kept. -/
def putCtx (c : RCtx) (s : State) : State :=
  onRrn (fun r => { r with ctxs := r.ctxs.filter (fun x => !(x.first.src == c.first.src && x.first.msgId == c.first.msgId)) ++ [c] }) s

/-- The message executed: its receipt holds the reply (R380). -/
def makeReceipt (p : RrnPkt) (reply : RrnPkt) (s : State) : State :=
  setReceipts (s.rrn.receipts.map (fun r => if isReceipt p.src p.msgId r && !r.live then { r with live := true, reply := reply } else r)) s

/-- The ACK of a message; with MORE it carries a new lease of the same pool, or 0 (R377). -/
def ackFor (p : RrnPkt) (value : Nat) (s : State) : RrnPkt × State :=
  let a := { replyTo p oAck s with value := value }
  if p.more && decide (2 ≤ p.ver) then
    match grantLease p.src (poolFor p.op p.window) p.totalLen s with
    | (some l, s) => ({ a with lease := l.num, arg := l.bytes, ttl := leaseTtl s }, s)
    | (none, s) => (a, s)
  else (a, s)

/-- The task of a fabric message (Table 3.2). -/
def fabricTask (p : RrnPkt) (handle : Nat) (s : State) : Task :=
  { typ := 2, queue := 2,
    t := [p.op * 2 ^ 48 + (p.src % 1024) * 2 ^ 32 + p.msgId, p.totalLen * 2 ^ 32 + handle,
          if p.op = oNotify then p.window * 2 ^ 48 + p.gen * 2 ^ 32 + p.arg else 0, if p.op = oNotify then p.raddr else 0,
          0, 0, 0, 0, 0, 0, intakeTick s] }

/-- The host-binding message in a payload (Tables 2.3 and 2.4); the submission queue entry as NVMe lays it out. -/
def parseHb (l : List Byte) : HbMsg :=
  let f := fun o n => ofLe ((l.drop o).take n)
  { ver := f 0 1, typ := f 1 1, id := { cntlid := f 4 2, qid := f 2 2, cmdseq := f 8 4 }, dual := (f 6 2).testBit 0, loc := (f 6 2).testBit 1,
    rdgen := f 16 2, dlen := f 20 4, bodyLen := l.length - 32, session := f 24 8,
    sqe := { opc := f 32 1, cdwFlags := f 33 1, cid := f 34 2, nsid := f 36 4, sglAddr := f 56 8, sglLen := f 64 3, sglKey := f 67 4, sglType := f 71 1,
             cdw10 := f 72 4, cdw11 := f 76 4, cdw12 := f 80 4, cdw13 := f 84 4, cdw14 := f 88 4, cdw15 := f 92 4 },
    data := l.drop 96 }

/-- The NAKs of host-binding messages that the part has sent or holds. -/
def hostNaks (s : State) : Nat := (s.outbox.map (·.out) ++ s.fence.held).foldl (fun n o => match o with | .hostNak .. => n + 1 | _ => n) 0

/-- A host-binding message delivered (R40, R151); `false` when no buffer was free, and its NAK is sent. -/
def deliverHost (l : List Byte) (s : State) : Bool × State :=
  let m := parseHb l
  if l.length < 32 || badHeader m then (true, record Ev.HB_MSG_DISCARDED srcNET 0 [] s)
  else if m.typ = 1 then
    let t := opCmd m s
    (hostNaks t == hostNaks s, t)
  else if m.typ = 5 then
    (true, if !rbit F.HQ_CTL_REARN_EN s then s else match ofLe ((l.drop 32).take 2) with
      | 1 => opControllerReset m.id.cntlid s
      | 2 => opShutdown m.id.cntlid s
      | 3 => opDisassociate m.id.cntlid s
      | _ => s)
  else (true, s)

/-- A context's payload in order. -/
def ctxData (c : RCtx) : List Byte :=
  (List.range c.slots.length).foldl (fun l j => l ++ ((c.data.find? (fun d => d.1 == j * pktSize c.first.pkt)).map (·.2)).getD []) []

/-- The AMO of an ATOMIC at an address: the old value and the state after it (R385, R114). -/
def doAtomic (code addr : Nat) (payload : List Byte) (s : State) : Nat × State :=
  match amoNamed code with
  | none => (0, s)
  | some o =>
    let n := amoWidth code
    let (nw, ret) := amoResult o (n == 4) (ofLe (memRead s addr n)) (BitVec.ofNat 64 (ofLe (payload.take 8))) (BitVec.ofNat 64 (ofLe (payload.drop 8)))
    (ret.toNat, memWrite addr (leBytes n nw) (wakeAt addr s))

/-- A message whose placed bytes equal TOTAL_LEN (R385); `p` is its last packet. -/
def completeMsg (c : RCtx) (p : RrnPkt) (s : State) : State :=
  let s := dropCtx p.src p.msgId s
  let p := { p with more := p.more || c.first.more }
  let finish := fun (v : Nat) (s : State) =>
    let (a, s) := ackFor p v s
    sendPkt a 0 (if keepsReceipt p.op then makeReceipt p a s else s)
  if p.op = oWrite then finish 0 s
  else if p.op = oNotify then finish 0 (enqueueTask (fabricTask p 0 s) s)
  else if p.op = oAtomic then
    let (v, s) := doAtomic p.code ((winOf p.window s).base + p.raddr) p.payload s
    finish v s
  else match c.handle with
    | some h => finish 0 (enqueueTask (fabricTask p h s) (setFill h p.totalLen s))
    | none =>
      match deliverHost (ctxData c) s with
      | (true, s) => finish 0 s
      | (false, s) => setReceipts (s.rrn.receipts.filter (fun r => !isReceipt p.src p.msgId r)) s

/-- A packet's payload placed (R384). DESIGN CHOICE, unsafe: log 77. -/
def placePkt (c : RCtx) (p : RrnPkt) (s : State) : State :=
  if p.op = oWrite ∨ p.op = oNotify then
    let x := (winOf p.window s).base + p.raddr + p.offset
    memWrite x p.payload (wakeRange x p.payload.length s)
  else match c.handle with
    | some h => memWrite (bufAddr h s + p.offset) p.payload s
    | none => s

/-- The lease cannot take a packet's bytes (check 11). -/
def leaseFull (p : RrnPkt) (s : State) : Bool :=
  match kfind s.rrn.leases (p.lease % 4096) with
  | some l => decide (l.bytes < l.charged + p.payload.length)
  | none => false

/-- A packet that passed checks 11 and 12: charged, placed, its slot filled; the message completes with its last byte. -/
def takePkt (c : RCtx) (p : RrnPkt) (s : State) : State :=
  let n := p.payload.length
  let s := onRrn (fun r => { r with leases := kmod {} r.leases (p.lease % 4096) (fun l => { l with charged := l.charged + n }) }) s
  let s := placePkt c p s
  let c := { c with slots := c.slots ++ [p.offset / pktSize p.pkt], placed := c.placed + n, charged := c.charged + n,
                    data := if p.op = oSend ∧ c.handle.isNone then c.data ++ [(p.offset, p.payload)] else c.data }
  if c.placed = p.totalLen then completeMsg c p s else putCtx c s

/-- The first packet of a message (checks 9 to 12). DEDUCED, unsafe: log 73. -/
def openMsg (p : RrnPkt) (s : State) : State :=
  let rec_ := keepsReceipt p.op
  let whole : Bool := p.payload.length == p.totalLen
  if (!whole || rec_) && decide (8192 ≤ s.rrn.ctxs.length) then nakPkt p 2 s
  else if rec_ && decide (16384 ≤ s.rrn.receipts.length) then nakPkt p 2 (rinc F.RRN_RECEIPT_CFG_FULL_REFUSED 1 s)
  else
    let caddy : Bool := p.op == oSend && p.window == 0
    match (if caddy then bpmAlloc .fab 0 (caddyFor p.totalLen) s else (none, s)) with
    | (h, t) =>
      if caddy && h.isNone then nakPkt p 2 t
      else if leaseFull p s then nakPkt p 1 s
      else
        let t := if rec_ then setReceipts (t.rrn.receipts ++ [{ src := p.src, msgId := p.msgId, op := p.op }]) t else t
        takePkt { first := p, op := p.op, handle := h } p t

/-- A data-bearing packet (Table 12.6, checks 9 to 12). -/
def recvData (p : RrnPkt) (s : State) : State :=
  checked p (fun s =>
    match ctxFor p s with
    | some c =>
      if c.slots.contains (p.offset / pktSize p.pkt) then s
      else if leaseFull p s then nakPkt p 1 s
      else takePkt c p s
    | none =>
      match (if keepsReceipt p.op then s.rrn.receipts.find? (isReceipt p.src p.msgId) else none) with
      | some r => sendPkt r.reply 0 (rinc F.RRN_RECEIPT_CFG_HITS 1 s)
      | none => openMsg p s) s

/-- RRN_WRITE. -/
def opRrnWrite (p : RrnPkt) (s : State) : State := recvData { p with op := oWrite } s
/-- WRITE_NOTIFY. -/
def opWriteNotify (p : RrnPkt) (s : State) : State := recvData { p with op := oNotify } s
/-- RRN_SEND. -/
def opRrnSend (p : RrnPkt) (s : State) : State := recvData { p with op := oSend } s
/-- ATOMIC. -/
def opAtomic (p : RrnPkt) (s : State) : State := recvData { p with op := oAtomic } s

/-- The packet starts of a message of `n` bytes cut into packets of `size`. -/
def packetCount (n size : Nat) : Nat := (n + size - 1) / size

/-- READ_REQ (R387): READ_RESP packets from the window. -/
def opReadReq (p : RrnPkt) (s : State) : State :=
  let p := { p with op := oReadReq }
  checked p (fun s =>
    let size := pktSize p.pkt
    let base := (winOf p.window s).base + p.raddr
    let s := wakeRange base p.totalLen s
    forEach (List.range (packetCount p.totalLen size)) (fun j s =>
      sendPkt { replyTo p oReadResp s with totalLen := p.totalLen, offset := j * size,
                                           payload := memRead s (base + j * size) (min size (p.totalLen - j * size)) } p.retry s) s) s

/-- CREDIT_REQ (R376). -/
def opCreditReq (p : RrnPkt) (s : State) : State :=
  let p := { p with op := oCreditReq }
  checked p (fun s =>
    match grantLease p.src p.code p.totalLen s with
    | (some l, s) => sendPkt { replyTo p oCreditGrant s with lease := l.num, arg := l.bytes, ttl := leaseTtl s } 0 s
    | (none, s) => nakPkt p 1 s) s

/-- CTX_IDLE (R385): a context abandoned; its caddy is dropped, its charge returned, its receipt entry no longer reserved. DESIGN CHOICE, unsafe: log 3. -/
def opCtxIdle (src msgId : Nat) (s : State) : State :=
  match s.rrn.ctxs.find? (fun c => c.first.src == src && c.first.msgId == msgId) with
  | none => s
  | some c =>
    let s := dropCtx src msgId s
    let s := setReceipts (s.rrn.receipts.filter (fun r => !(isReceipt src msgId r && !r.live))) s
    dropAll c.handle.toList s

/-- RECEIPT_EXPIRY (R380). -/
def opReceiptExpiry (src msgId : Nat) (s : State) : State :=
  setReceipts (s.rrn.receipts.filter (fun r => !(isReceipt src msgId r && r.live))) s

/-! ### Operations of this part (R387, R388) -/

/-- An operation by its MSG_ID. -/
def opBy (msgId : Nat) (s : State) : Option ROp := s.rrn.ops.find? (fun o => o.msgId == msgId)

/-- An operation replaced. -/
def putOp (o : ROp) (s : State) : State := onRrn (fun r => { r with ops := r.ops.map (fun x => if x.msgId = o.msgId then o else x) }) s

/-- The microsecond tick. -/
def nowUs (s : State) : Nat := rget F.CLK_TICK_TICK s

/-- The token of an operation completes and the operation is gone (R388). -/
def finishOp (o : ROp) (status : Nat) (s : State) : State :=
  let s := onRrn (fun r => { r with ops := r.ops.filter (fun x => x.msgId != o.msgId) }) s
  tokComplete o.ctx o.entry o.serial
    { outBytes := if status = 0 then o.req.length else 0, status := status, descAddr := o.addr, outHandle := o.req.local_ % 2 ^ 32, tag := o.req.tag } s

/-- What the operation transmits, in bytes: the 16 bytes of an ATOMIC, else LENGTH. -/
def opBytes (o : ROp) : Nat := if o.req.op = oAtomic then 16 else o.req.length

/-- The buffer bytes LOCAL names from an offset on. -/
def localAddr (r : RrnReq) (s : State) : Nat := bufAddr (r.local_ % 2 ^ 32) s + r.local_ / 2 ^ 32

/-- The negotiated packet size toward a node. -/
def nodePkt (n : Nat) (s : State) : Nat := (nodeOf n s).pkt

/-- The header of an operation's packets (Table 12.2). -/
def opHeader (o : ROp) (s : State) : RrnPkt :=
  let n := nodeOf o.req.dst s
  { addr := n.addrs.headD 0, ver := n.ver, op := o.req.op, retx := decide (0 < o.sends), more := o.req.flags.testBit 0 && decide (2 ≤ n.ver),
    pkt := n.pkt, src := ownChip s, dst := o.req.dst, msgId := o.msgId, totalLen := opBytes o, window := o.req.window, key := o.req.key, gen := o.req.gen,
    code := if o.req.op = oAtomic then o.req.atop else 0, raddr := o.req.raddr, lease := o.lease, arg := if o.req.op = oNotify then o.req.notify else 0 }

/-- Packet `j` of an operation: its bytes are read at each transmission (R381). -/
def opPacket (o : ROp) (j : Nat) (s : State) : RrnPkt :=
  let size := pktSize (nodePkt o.req.dst s)
  let n := min size (opBytes o - j * size)
  let body := if o.req.op = oAtomic then leBytes 8 o.req.operand ++ leBytes 8 o.req.compare else memRead s (localAddr o.req s + j * size) n
  { opHeader o s with offset := j * size, payload := body }

/-- R382: no packet later than 500 µs after the first transmission. -/
def maySend (o : ROp) (s : State) : Bool := match o.firstAt with | some t => decide (nowUs s ≤ t + 500) | none => true

/-- The leases held whose life lasts. DEDUCED, unsafe: log 74. -/
def liveHeld (s : State) : List LeaseOut := s.rrn.held.filter (fun l => decide (nowUs s < l.till))

/-- A held lease replaced. -/
def putHeld (l : LeaseOut) (s : State) : State :=
  onRrn (fun r => { r with held := r.held.map (fun x => if x.num = l.num ∧ x.node = l.node then l else x) }) s

/-- A CREDIT_REQ for the bytes of an operation not yet sent. DEDUCED, unsafe: log 74. -/
def askLease (o : ROp) (s : State) : State :=
  let (n, s) := nextMsg s
  let size := pktSize (nodePkt o.req.dst s)
  let o := { o with phase := .lease, asked := n, askedAt := nowUs s }
  let s := putOp o s
  sendPkt { opHeader o s with op := oCreditReq, retx := false, more := false, msgId := n, totalLen := opBytes o - size * o.slots.length, window := 0,
                              key := 0, gen := 0, code := poolFor o.req.op o.req.window, raddr := 0, lease := 0, arg := 0 } 0 s

/-- The packets of `js` not yet sent in this round go out under the lease while it has bytes for them (R377). -/
def sendUnder : List Nat → ROp → LeaseOut → State → ROp × LeaseOut × State
  | [], o, l, s => (o, l, s)
  | j :: js, o, l, s =>
    if o.slots.contains j then sendUnder js o l s else
    let p := opPacket o j s
    if l.used + p.payload.length ≤ l.bytes then
      sendUnder js { o with slots := o.slots ++ [j] } { l with used := l.used + p.payload.length } (sendPkt p o.sends s)
    else (o, l, s)

/-- Transmission under a held lease; what the lease cannot carry asks for another. -/
def transmit (o : ROp) (l : LeaseOut) (s : State) : State :=
  if !maySend o s then putOp { o with phase := .sent } s else
  let count := packetCount (opBytes o) (pktSize (nodePkt o.req.dst s))
  let o := { o with lease := l.num, firstAt := some (o.firstAt.getD (nowUs s)) }
  let (o, l, s) := sendUnder (List.range count) o l s
  let s := putHeld l s
  if o.slots.length = count then putOp { o with phase := .sent } s else askLease o s

/-- Bytes of outstanding READ operations (R387). -/
def readOut (s : State) : Nat := s.rrn.ops.foldl (fun n o => if o.req.op = oReadReq ∧ o.phase = .sent then n + o.req.length else n) 0

/-- READ_MAX_MIB in bytes; 0 acts as 1. -/
def readMax (s : State) : Nat := 2 ^ 20 * max 1 (rget F.RRN_CTL_READ_MAX_MIB s)

/-- A negotiated operation goes out: a READ when there is room for it, another one under a held lease or after a CREDIT_REQ; with 1,024
leases in use it waits (R379). -/
def launch (o : ROp) (s : State) : State :=
  if o.req.op = oReadReq then
    if readOut s + o.req.length ≤ readMax s then
      let s := putOp { o with phase := .sent, firstAt := some (nowUs s) } s
      sendPkt (opHeader o s) o.sends s
    else putOp { o with phase := .room } s
  else
    let s := onRrn (fun r => { r with held := liveHeld s }) s
    let size := pktSize (nodePkt o.req.dst s)
    let next := min size (opBytes o - size * o.slots.length)
    match s.rrn.held.find? (fun l => l.node == o.req.dst && l.pool == poolFor o.req.op o.req.window && decide (l.used + next ≤ l.bytes)) with
    | some l => transmit o l s
    | none => if 1024 ≤ (s.rrn.held.filter (fun l => decide (l.used < l.bytes))).length then putOp { o with phase := .room } s else askLease o s

/-- This node's HELLO (Table 12.4). -/
def ownHello (withdraw conflict : Bool) (s : State) : HelloBody :=
  { node := ownChip s, verMin := rget F.RRN_CTL_VER_MIN s, verMax := rget F.RRN_CTL_VER_MAX s, maxMsg := 2101248, pkt := rget F.RRN_CTL_PKT s,
    withdraw := withdraw, conflict := conflict, domain := rget F.RRN_CHIP_NUM_DOMAIN s, array := rget F.RRN_CHIP_NUM_ARRAY s,
    identity := digestOf (sha3 (devidPub s)) }

/-- A HELLO or HELLO_REPLY sent. -/
def sendHelloBody (dst msgId : Nat) (reply : Bool) (h : HelloBody) (s : State) : State :=
  if (livePaths s).isEmpty then s else egress (.hello dst msgId reply h) s

/-- A HELLO sent to a node, the first of an exchange under a new MSG_ID. -/
def sendHello (dst : Nat) (s : State) : State :=
  let x := nodeOf dst s
  let (n, s) := if x.sends = 0 then nextMsg s else (x.helloId, s)
  sendHelloBody dst n false (ownHello false false s) (setNode dst { x with sends := x.sends + 1, helloId := n } s)

/-- Token statuses (R126). -/
def stBadDesc := 0x07
def stBufFault := 0x08

/-- The largest message toward a node: the part's own maximum before the node's is known. -/
def maxMsgTo (n : Nat) (s : State) : Nat := if (nodeOf n s).ver = 0 then 2101248 else (nodeOf n s).maxMsg

/-- An operation that waits goes on as far as it can. DEDUCED, unsafe: log 76. -/
def advanceOp (o : ROp) (s : State) : State :=
  match o.phase with
  | .hello =>
    let x := nodeOf o.req.dst s
    if x.ver = 0 then if x.sends = 0 then sendHello o.req.dst s else s
    else if o.req.op ≠ oAtomic ∧ x.maxMsg < o.req.length then finishOp o stBadDesc s
    else launch o s
  | .room => launch o s
  | _ => s

/-- The operations that wait for room or a HELLO go on. -/
def settleOps (s : State) : State :=
  forEach (s.rrn.ops.map (·.msgId)) (fun m s => match opBy m s with | some o => advanceOp o s | none => s) s

/-- An operation ends; others may take its room. DEDUCED, unsafe: log 76. -/
def endOp (o : ROp) (status : Nat) (s : State) : State := settleOps (finishOp o status s)

/-- A lease granted to this part (R377). -/
def holdLease (p : RrnPkt) (pool from_ : Nat) (s : State) : State :=
  if p.lease = 0 ∨ 1024 ≤ (liveHeld s).length then s
  else onRrn (fun r => { r with held := r.held ++ [{ num := p.lease, node := p.src, pool := pool, bytes := p.arg, till := from_ + p.ttl }] }) s

/-- CREDIT_GRANT (R377): the operation that asked goes on under the lease; a reply no operation waits for is discarded. -/
def opCreditGrant (p : RrnPkt) (s : State) : State :=
  let p := { p with op := oCreditGrant }
  checked p (fun s =>
    match s.rrn.ops.find? (fun o => o.phase == .lease && o.asked == p.msgId && o.req.dst == p.src) with
    | none => s
    | some o => launch o (holdLease p (poolFor o.req.op o.req.window) o.askedAt s)) s

/-- ACK (R388): the operation ends OK; for ATOMIC the old value is written to LOCAL first. A lease in it is held (R377). -/
def opAck (p : RrnPkt) (s : State) : State :=
  let p := { p with op := oAck }
  checked p (fun s =>
    match opBy p.msgId s with
    | none => s
    | some o =>
      if o.req.dst ≠ p.src ∨ o.req.op = oReadReq ∨ o.firstAt.isNone then s else
      let s := holdLease p (poolFor o.req.op o.req.window) (o.firstAt.getD 0) s
      let s := if o.req.op = oAtomic then writeBuf (o.req.local_ % 2 ^ 32) (o.req.local_ / 2 ^ 32) (leBytes 8 p.value) s else s
      endOp o 0 s) s

/-- READ_RESP (R387): the payload placed at LOCAL + OFFSET, a slot already filled discarded; the last byte ends the operation. -/
def opReadResp (p : RrnPkt) (s : State) : State :=
  let p := { p with op := oReadResp }
  checked p (fun s =>
    match opBy p.msgId s with
    | none => s
    | some o =>
      let j := p.offset / pktSize p.pkt
      if o.req.dst ≠ p.src ∨ o.req.op ≠ oReadReq ∨ p.totalLen ≠ o.req.length ∨ o.slots.contains j then s else
      let s := memWrite (localAddr o.req s + p.offset) p.payload s
      let o := { o with slots := o.slots ++ [j] }
      if o.slots.length = packetCount o.req.length (pktSize p.pkt) then
        endOp o 0 (setFill (o.req.local_ % 2 ^ 32) (o.req.local_ / 2 ^ 32 + o.req.length) s)
      else putOp o s) s

/-- Every packet of a message again (R387, R388): under the lease in use while it lives, else under a new one. DEDUCED, unsafe: log 76. -/
def resend (fresh : Bool) (o : ROp) (s : State) : State :=
  if !maySend o s then s else
  let o := { o with sends := o.sends + 1 }
  if o.req.op = oReadReq then sendPkt (opHeader o s) o.sends (putOp o s)
  else if !fresh && (liveHeld s).any (fun l => l.num == o.lease && l.node == o.req.dst) then
    forEach (List.range (packetCount (opBytes o) (pktSize (nodePkt o.req.dst s)))) (fun j s => sendPkt (opPacket o j s) o.sends s) (putOp o s)
  else
    let o := { o with slots := [] }
    launch o (putOp o s)

/-- RTO (R387): no reply came. A CREDIT_REQ is sent again likewise; an operation that waits for room tries again. DESIGN CHOICE, unsafe: log 3. -/
def opRto (msgId : Nat) (s : State) : State :=
  match s.rrn.ops.find? (fun o => o.msgId == msgId || (o.phase == .lease && o.asked == msgId)) with
  | none => s
  | some o =>
    match o.phase with
    | .sent => resend false { o with waits := o.waits + 1 } s
    | .lease =>
      if nowUs s ≤ o.askedAt + 500 then
        sendPkt { opHeader o s with op := oCreditReq, retx := true, more := false, msgId := o.asked,
                                    totalLen := opBytes o - pktSize (nodePkt o.req.dst s) * o.slots.length, window := 0, key := 0, gen := 0,
                                    code := poolFor o.req.op o.req.window, raddr := 0, lease := 0, arg := 0 } 1 s
      else s
    | _ => advanceOp o s

/-- TIMEOUT (R388): the operation ends with the last transient code, or with TIMEOUT. -/
def opTimeout (msgId : Nat) (s : State) : State :=
  match s.rrn.ops.find? (fun o => o.msgId == msgId || (o.phase == .lease && o.asked == msgId)) with
  | none => s
  | some o => endOp o (0x40 + o.transient.getD 0x0A) s

/-- RRN_CHIP_NUM.CONFLICT and CHIP_NUM_CONFLICT (R368). -/
def noteConflict (s : State) : State := record Ev.CHIP_NUM_CONFLICT srcNET 0 [] (rflag F.RRN_CHIP_NUM_CONFLICT true s)

/-- Every operation that waits for a node's HELLO_REPLY ends. -/
def endWaiting (node status : Nat) (s : State) : State :=
  let x := nodeOf node s
  forEach (s.rrn.ops.filter (fun o => o.phase == .hello && o.req.dst == node)) (fun o s => finishOp o status s) (setNode node { x with sends := 0 } s)

/-- NAK (R388, R391, R392): a final code ends the operation; the first transient one has it sent again, under a new lease unless the code
was NO_BUFFER. A HELLO refused ends what waited for it. DEDUCED, unsafe: log 76. -/
def opNak (p : RrnPkt) (s : State) : State :=
  let p := { p with op := oNak }
  let body := fun (s : State) =>
    match s.rrn.ops.find? (fun o => o.req.dst == p.src && (o.msgId == p.msgId || (o.phase == .lease && o.asked == p.msgId))) with
    | some o =>
      if p.code = 1 ∨ p.code = 2 ∨ p.code = 7 then
        let first := o.transient.isNone
        let o := { o with transient := some p.code }
        if first ∧ o.phase = .sent then resend (p.code != 2) o (putOp o s) else putOp o s
      else
        let b := pack [(2, o.req.dst), (2, o.req.window), (4, o.msgId)]
        let s := if p.code = 3 then record Ev.GEN_STALE_SEEN srcNET 0 b s
          else if p.code = 4 ∨ p.code = 5 ∨ p.code = 6 then record Ev.WIN_VIOLATION srcNET 0 b s else s
        endOp o (0x40 + p.code) s
    | none => s
  let x := nodeOf p.src s
  if rbit F.RRN_CTL_EN s && p.crcOk && p.dst == ownChip s && x.sends != 0 && x.helloId == p.msgId && (p.code == 8 || p.code == 9) then
    endWaiting p.src (0x40 + p.code) (if p.code = 9 then noteConflict s else s)
  else checked p body s

/-! ### The directory (R366 to R368) -/

/-- A HELLO's or HELLO_REPLY's ranges settle an entry: the highest shared version, the lower maximum message and packet sizes. DEDUCED, unsafe: log 75. -/
def negotiate (h : HelloBody) (addr : Nat) (x : RNode) (s : State) : RNode :=
  { x with ver := min h.verMax (rget F.RRN_CTL_VER_MAX s), maxMsg := min h.maxMsg 2101248, pkt := min h.pkt (rget F.RRN_CTL_PKT s), bound := true,
           identity := h.identity, addrs := if x.addrs.contains addr ∨ 4 ≤ x.addrs.length then x.addrs else x.addrs ++ [addr] }

/-- No version lies in both ranges. -/
def noVersion (h : HelloBody) (s : State) : Bool :=
  decide (min h.verMax (rget F.RRN_CTL_VER_MAX s) < max h.verMin (rget F.RRN_CTL_VER_MIN s))

/-- Check 2 of a HELLO or HELLO_REPLY. -/
def helloBad (p : RrnPkt) (h : HelloBody) (s : State) : Bool :=
  !p.reservedOk || p.ver != 1 || p.dst != ownChip s || !nodeValid p.src || h.node != p.src || decide (3 < h.pkt) || noVersion h s

/-- HELLO (R366 to R368): refused, bound or withdrawn, and answered. DEDUCED, unsafe: log 75. -/
def opHello (p : RrnPkt) (h : HelloBody) (s : State) : State :=
  let p := { p with op := 0x0C }
  if !rbit F.RRN_CTL_EN s then s
  else if !p.crcOk then rinc F.RRN_VIOL_STATUS_BAD_HDR 1 s
  else if helloBad p h s then nakPkt p 8 s
  else
    let x := nodeOf p.src s
    if p.src = ownChip s then nakPkt p 9 (noteConflict s)
    else if x.bound = true ∧ x.identity ≠ h.identity then
      let s := nakPkt p 9 (noteConflict s)
      sendHelloBody p.src p.msgId true (ownHello false true s) s
    else
      let s := if h.withdraw then setNode p.src { x with bound := false, ver := 0 } s else setNode p.src (negotiate h p.addr x s) s
      settleOps (sendHelloBody p.src p.msgId true (ownHello false false s) s)

/-- HELLO_REPLY (R366, R368): it settles the values of an exchange this part began, and binds the node; CONFLICT = 1 tells a bound node of
another that claims its number. DEDUCED, unsafe: log 75. -/
def opHelloReply (p : RrnPkt) (h : HelloBody) (s : State) : State :=
  let p := { p with op := 0x0D }
  if !rbit F.RRN_CTL_EN s then s
  else if !p.crcOk then rinc F.RRN_VIOL_STATUS_BAD_HDR 1 s
  else if helloBad p h s then nakPkt p 8 s
  else if h.conflict then noteConflict s
  else
    let x := nodeOf p.src s
    if x.sends = 0 ∨ x.helloId ≠ p.msgId then s
    else if x.bound = true ∧ x.identity ≠ h.identity then nakPkt p 8 s
    else settleOps (setNode p.src { negotiate h p.addr x s with sends := 0 } s)

/-- HELLO_RETRY (R366): the HELLO is sent again, up to 3 times in all; then what waits for it ends with TIMEOUT. -/
def opHelloRetry (node : Nat) (s : State) : State :=
  let n := (nodeOf node s).sends
  if n = 0 then s else if n < 3 then sendHello node s else endWaiting node 0x4A s

/-- HELLO_REFRESH (R367): a HELLO to every bound node. -/
def opHelloRefresh (s : State) : State :=
  forEach (s.rrn.nodes.filter (fun p => p.2.bound)) (fun p s => sendHello p.1 (setNode p.1 { nodeOf p.1 s with sends := 0 } s)) s

/-- BINDING_LAPSE (R367): the binding ends, and the negotiated values with it. DEDUCED, unsafe: log 75. -/
def opBindingLapse (node : Nat) (s : State) : State :=
  let x := nodeOf node s
  if x.bound then setNode node { x with bound := false, ver := 0, sends := 0 } s else s

/-- LEASE_EXPIRY, and what waited for leases. DEDUCED, unsafe: log 74. -/
def opLeaseExpiry (lease : Nat) (s : State) : State := settleOps (expireLease lease s)

/-! ### SEND (R127, R394) -/

/-- A request descriptor from its 64 bytes (Table 12.8). -/
def parseReq (l : List Byte) : RrnReq :=
  let f := fun o n => ofLe ((l.drop o).take n)
  { op := f 0 1, atop := f 1 1, dst := f 2 2, window := f 4 2, gen := f 6 2, key := f 8 4, length := f 12 4, raddr := f 16 8, local_ := f 24 8,
    notify := f 32 4, flags := f 36 1, rsv := f 37 3, operand := f 40 8, compare := f 48 8, tag := f 56 8 }

/-- BAD_DESC (R394). -/
def reqBad (r : RrnReq) (s : State) : Bool :=
  !([0x01, 0x02, 0x03, 0x05, 0x06, 0x10, 0x11].contains r.op) || r.rsv != 0 || decide (2 ≤ r.flags) ||
  ([0x01, 0x02, 0x03, 0x05].contains r.op && (r.length == 0 || decide (maxMsgTo r.dst s < r.length))) ||
  (r.op == oAtomic && ((amoNamed r.atop).isNone || r.length != amoWidth r.atop))

/-- The bytes of LOCAL an operation touches. -/
def localBytes (r : RrnReq) : Nat := if r.op = oAtomic then 8 else r.length

/-- The message of a request, as a packet that carries all of it. -/
def reqPacket (r : RrnReq) (s : State) : RrnPkt :=
  { op := r.op, src := ownChip s, dst := r.dst, msgId := s.rrn.lastMsg, totalLen := if r.op = oAtomic then 16 else r.length, window := r.window, key := r.key,
    gen := r.gen, code := if r.op = oAtomic then r.atop else 0, raddr := r.raddr, arg := r.notify,
    payload := if r.op = oAtomic then leBytes 8 r.operand ++ leBytes 8 r.compare
               else if r.op = oReadReq then [] else memRead s (localAddr r s) r.length }

/-- A local post (R76): a SEND of a supervisor core to the part itself. How its bytes give the work code and the arguments of Table 3.2 the
spec does not say: they are free values of the bytes. DESIGN CHOICE, safe: log 25. DESIGN CHOICE, unsafe: log 78. -/
def localPost (r : RrnReq) (s : State) : State :=
  let b := memRead s (localAddr r s) r.length
  enqueueTask { typ := 4, queue := 3,
                t := [Config.postWord b 0 % 2 ^ 32, Config.postWord b 1 % 2 ^ 64, Config.postWord b 2 % 2 ^ 64, Config.postWord b 3 % 2 ^ 64,
                      Config.postWord b 4 % 2 ^ 64, 0, 0, 0, 0, 0, intakeTick s] } s

/-- An operation on the part's own node (R394): it passes the checks of Table 12.6 that are left to make, and executes here. Answers its status. DEDUCED, unsafe: log 76. -/
def localOp (r : RrnReq) (s : State) : Nat × State :=
  let p := reqPacket r s
  let h := r.local_ % 2 ^ 32
  let o := r.local_ / 2 ^ 32
  if r.op = oSend then
    if 1 < r.window then (0x48, noteRefusal 8 p s)
    else if r.window = 0 then
      match bpmAlloc .fab 0 (caddyFor p.totalLen) s with
      | (none, s) => (0x42, s)
      | (some c, s) => (0, enqueueTask (fabricTask p c s) (writeBuf c 0 p.payload s))
    else match deliverHost p.payload s with
      | (true, s) => (0, s)
      | (false, s) => (0x42, s)
  else match windowCheck p s with
    | some c => (0x40 + c, noteRefusal c p s)
    | none =>
      let at_ := (winOf r.window s).base + r.raddr
      if r.op = oReadReq then (0, writeBuf h o (memRead s at_ r.length) (wakeRange at_ r.length s))
      else if r.op = oAtomic then
        let (v, s) := doAtomic r.atop at_ p.payload s
        (0, writeBuf h o (leBytes 8 v) s)
      else
        let s := memWrite at_ p.payload (wakeRange at_ p.payload.length s)
        (0, if r.op = oNotify then enqueueTask (fabricTask p 0 s) s else s)

/-- A posted request starts (R394). `pair` says that a supervisor core posted it. DESIGN CHOICE, unsafe: log 78. -/
def startReq (pair : Bool) (o : ROp) (s : State) : State :=
  let r := o.req
  if reqBad r s then finishOp o stBadDesc s
  else if r.op = 0x10 then finishOp o 0 (opWinArm { window := Fin.ofNat 65536 r.window, base := r.local_, len := r.length, key := r.key } s)
  else if r.op = 0x11 then finishOp o 0 (opWinDisarm { window := Fin.ofNat 65536 r.window } s)
  else match checkHandle .engine (r.local_ % 2 ^ 32) (r.local_ / 2 ^ 32 + localBytes r) s with
    | .error _ => finishOp o stBufFault s
    | .ok _ =>
      if r.dst = ownChip s then
        if pair && r.op == oSend then finishOp o 0 (localPost r s)
        else
          let (st, s) := localOp r s
          finishOp o st s
      else advanceOp o (onRrn (fun x => { x with ops := x.ops ++ [o] }) s)

/-- SEND (R127): the descriptor copied, a token entry taken, the request started. DESIGN CHOICE, unsafe: log 78. -/
def runSend (c : CoreId) (d a b : Rn) (s : State) : State :=
  runInstr c 16 [a] (b.val != 0) lvSU (fun s =>
    let x := (rd s c a).toNat
    if !descPlace c x s then .exc { cause := 0x04, sub := 2, addr := BitVec.ofNat 64 x } s else
    match readMem (physKey c x) 64 s with
    | (none, s) => .exc { cause := 0x05, addr := BitVec.ofNat 64 x } s
    | (some l, s) =>
      let k := ctxOf s c
      match tokChoice s k with
      | .full => .exc { cause := 0x09, sub := 1 } s
      | .stall => .stay s
      | .ok e n =>
        let s := tokPost k e n (d.val == 0) s
        let s := wr c d (BitVec.ofNat 64 (mkToken k e n)) s
        let (m, s) := nextMsg s
        .done (startReq (isPair c) { msgId := m, req := parseReq l, ctx := k, entry := e, serial := n, addr := x } s)) s

end Sys2Proof.Machine
end

