-- ==== Sys2Proof/Machine/ControlBus.lean ====
section
/-! DEFINITION. Control space (R9 to R12, R104, R105, R108, R531 to R542): which access is accepted, what a read returns, what a write stores
and does, and LD, SD and the register commands over them; STEP runs one Dyris instruction of a halted core (R132). -/

namespace Sys2Proof.Machine

open Sys2Proof

/-! ### Registers by address (Tables 19.1 and 19.2) -/

/-- The block of a control-space address. -/
def blockOf (a : Nat) : Nat := (a - 0x200000000000) / 0x1000000

/-- The offset of a control-space address in its block. -/
def offsetOf (a : Nat) : Nat := a % 0x1000000

/-- The index of a register family's instance at an address. -/
def fieldAt (a : Nat) (f : Field) : Option Nat :=
  if decide (f.addr ≤ a) && (a - f.addr) % 8 == 0 && decide ((a - f.addr) / 8 < f.cnt) then some ((a - f.addr) / 8) else none

/-- The fields of the register at an address. -/
def fieldsAt (a : Nat) : List (Field × Nat) := (F.ofBlock (blockOf a)).filterMap (fun f => (fieldAt a f).map (fun i => (f, i)))

/-- The BPM families have five instances of every eight (Table 19.2). -/
def bpmHole (a : Nat) : Bool := blockOf a == 4 && decide (0x100 ≤ offsetOf a) && decide (5 ≤ offsetOf a / 8 % 8)

/-- A register that Table 19.2 lists. -/
def regDefined (a : Nat) : Bool := !(fieldsAt a).isEmpty && !bpmHole a

/-- The part of a register's word that writes of it keep: RW and RWS fields at their value, the others 0. -/
def keptWord (a : Nat) (s : State) : Nat :=
  (fieldsAt a).foldl (fun n p => match p.1.acc with | .rw | .rws => n + rget p.1 s p.2 * 2 ^ p.1.lsb | _ => n) 0

/-- A kept word with the bits of a field replaced by `v`. DEDUCED, safe: log 30. -/
def withBits (a hi lo v : Nat) (s : State) : Word :=
  let n := keptWord a s
  BitVec.ofNat 64 (n - bits n hi lo * 2 ^ lo + v % 2 ^ (hi + 1 - lo) * 2 ^ lo)

/-! ### Access checks (R104, R105, R536 to R539) -/

/-- The registers that U may write (Table 4.4): HQ_IND_SEL, EVR_WIN_SEL, RRN_WIN_SEL and CHIP_SCRATCH0–3. -/
def uMayWrite (a : Nat) : Bool :=
  [0x200006000008, 0x200003000018, 0x200008000010, 0x200000000040, 0x200000000048, 0x200000000050, 0x200000000058].contains a

/-- A writer that R537 accepts. DEDUCED, safe: log 30. -/
def writerOk (c : CoreId) (a : Nat) (v : Word) (s : State) : Bool :=
  if a = 0x200009000028 then c.val == 65
  else if a = 0x200000000020 ∨ a = 0x200011000008 then c.val == 64
  else if a = 0x200011000018 then c.val == 64 || (rget F.SEC_STATUS_STAGE s == 1 && bits v.toNat 63 60 == 3)
  else true

/-- The gated island that serves a register (R538); the retirement registers never meet ISLAND_OFF on a read (R539). -/
def servedBy (a : Nat) (write : Bool) : Option Nat :=
  if !write && [0x20000a000008, 0x20000b000018, 0x20000c000020, 0x20000d000008].contains a then none else
  match blockOf a with
  | 10 => some 11 | 11 => some 12 | 12 => some 13 | 13 => some 14 | _ => none

/-- The exception that a control-space access of core `c` meets, in the order of R107, but for ISLAND_OFF. DEDUCED, safe: log 30. -/
def ctlFault (c : CoreId) (a : Nat) (write : Bool) (v : Word) (s : State) : Option Exc :=
  let addr := BitVec.ofNat 64 a
  if privOf s c = 2 then some { cause := 0x07, sub := if write then 1 else 0, addr := addr }
  else if (write && privOf s c != 0 && !uMayWrite a) || (!write && privOf s c != 0 && blockOf a == 0x11) || (write && !writerOk c a v s) then
    some { cause := 0x02, addr := addr }
  else if a % 8 ≠ 0 ∨ regDefined a = false then some { cause := 0x05, addr := addr }
  else none

/-- The island of an access is off. -/
def ctlOff (a : Nat) (write : Bool) (s : State) : Option Nat :=
  match servedBy a write with
  | some i => if islandOff i s then some i else none
  | none => none

/-- An access ungates a clock-gated island (R538). -/
def ctlUngate (a : Nat) (s : State) : State :=
  match servedBy a true with
  | some i => if islandOff i s then s else ungateClock i s
  | none => s

/-! ### Reads -/

/-- A unit of a class runs or holds jobs. -/
def unitBits (e n : Nat) (s : State) : Nat := (List.range n).foldl (fun x u => if (engQueue e u s).isEmpty then x else x + 2 ^ u) 0

/-- The word of HQ_IND_DATA (R73): a queue that does not exist reads 0; the layout of the words that the spec leaves open is free. DESIGN CHOICE, safe: log 26. -/
def hqWord (s : State) : Nat :=
  let k := 512 * rget F.HQ_IND_SEL_CNTLID s + rget F.HQ_IND_SEL_QID s
  let q := hqOf s k
  if 512 ≤ rget F.HQ_IND_SEL_QID s ∨ q.sq = false then 0 else
  match rget F.HQ_IND_SEL_WORD s with
  | 1 => nextCsn q.nextA
  | 2 => 2 ^ 31 + nextCsn q.nextB
  | 3 => (ctrlOf s (k / 512)).grant
  | 4 => cmdseqLimit k s
  | w => Config.queueWord w [k, q.depth, q.done, q.placed, q.nextA, q.nextB, if q.closing then 1 else 0] % 2 ^ 64

/-- What a field reads: WO fields read 0 (R536), some show the state of the block, the others what the register file holds. The fences of a
selection that can name no queue read their reset values. DESIGN CHOICE, unsafe: log 94. -/
def readField (f : Field) (i : Nat) (s : State) : Nat :=
  if f.acc = .wo then 0
  else if f.addr = 0x200013000300 then
    let slots := (List.range 8).map (fun j => 8 * i + j)
    match f.lsb with
    | 0 => if rbit F.DPC_CORE_CTL_EN s i && !rbit F.DPC_CORE_CTL_HALT s i && !rtest F.DPC_CORE_RETIRED_CORES i s then 1 else 0
    | 1 => if rbit F.DPC_CORE_CTL_EN s i && rbit F.DPC_CORE_CTL_HALT s i then 1 else 0
    | 2 => if rtest F.DPC_CORE_RETIRED_CORES i s then 1 else 0
    | 8 => (slots.filter (slotBusy s)).length
    | 16 => slots.foldl (fun n x => n + countBelow 16 (fun e => (tokOf s x e).held)) 0
    | _ => rget f s i
  else if f = F.HQ_IND_DATA_DATA then hqWord s
  else if f.addr = 0x200006000018 then
    let q := hqOf s (512 * rget F.HQ_IND_SEL_CNTLID s + rget F.HQ_IND_SEL_QID s)
    if 256 < rget F.HQ_IND_SEL_QID s then f.reset i else if f.lsb = 0 then q.fenceA else q.fenceB
  else if f = F.FLT_CTR_VAL_COUNT then if i = 1 then 0 else fltCount i (rget F.FLT_CTR_VAL_INSTANCE s i) s
  else if f = F.ING_ENGINE_STATUS_SHA3_BUSY then if islandOff 11 s then 0 else unitBits 3 8 s
  else if f = F.ING_ENGINE_STATUS_CHUNK_BUSY then if islandOff 11 s then 0 else unitBits 2 4 s
  else if f = F.CMP_ENGINE_STATUS_COMP_BUSY then unitBits 4 8 s
  else if f = F.CMP_ENGINE_STATUS_DEC_BUSY then unitBits 5 8 s
  else if f = F.CIP_KEYSLOT_STATUS_SLOTS_LOADED then slotsLoaded s
  else if f = F.CIP_NONCE_LIMIT_LIMIT then (keyOf (rget F.CIP_NONCE_LIMIT_SLOT s) s).limit
  else if f = F.RRN_CHIP_NUM_NUM then ownChip s
  else if f = F.RRN_WIN_CFG_DATA then (readWinCfg s).toNat
  else rget f s i

/-- A read of a register: its word, and the state after the two reads that have side effects (R541). -/
def busRead (a : Nat) (s : State) : Word × State :=
  if a = 0x200003000020 then readWinData s
  else if a = 0x200011000010 then readIdWin s
  else (BitVec.ofNat 64 ((fieldsAt a).foldl (fun n p => n + readField p.1 p.2 s % 2 ^ p.1.width * 2 ^ p.1.lsb) 0), s)

/-! ### Writes -/

/-- A field written by its access class (R11): RW and RWS store, RW1C clears the bits written as 1, RO and WO store nothing. -/
def storeField (v : Nat) (p : Field × Nat) (s : State) : State :=
  let n := bits v p.1.msb p.1.lsb
  match p.1.acc with
  | .rw | .rws => rset p.1 n s p.2
  | .rw1c => rset p.1 (rget p.1 s p.2 - (rget p.1 s p.2 &&& n)) s p.2
  | _ => s

/-- A register written by its fields' access classes. -/
def storeWord (a : Nat) (v : Word) (s : State) : State := forEach (fieldsAt a) (storeField v.toNat) s

/-- Bit `b` of a written word. -/
def wbit (v : Word) (b : Nat) : Bool := v.toNat.testBit b

/-- The latched IRQ line of a block (Table 4.6), which a write to the block services. DESIGN CHOICE, unsafe: log 32. -/
def blockLine (b : Nat) : Option Nat :=
  match b with
  | 9 => some 0 | 1 => some 1 | 14 => some 5 | 7 => some 6 | 16 => some 7 | 17 => some 9 | _ => none

/-- CHIP block (R479, R535). -/
def writeChip (a : Nat) (v : Word) (s : State) : State :=
  match offsetOf a with
  | 0x18 => if rbit F.RRN_CTL_EN s || rbit F.CIP_CTL_LOCK s then s else storeWord a v s
  | 0x20 =>
    let s := storeWord a v s
    if wbit v 0 then warmReset F.CHIP_RESET_CAUSE_WARM_SW s else s
  | _ => storeWord a v s

/-- The islands that AUTO_PG may name: 3 to 9 and 11 to 14 (Table 14.10). -/
def autoPgMask : Nat := 0x7BF8

/-- PWR block (R422, R427, R429, R433). -/
def writePower (a : Nat) (v : Word) (s : State) : State :=
  let o := offsetOf a
  if o = 0 then writePwrMode v.toNat s
  else if o = 0x10 then
    let s := if wbit v 57 then rflag F.PWR_ISLAND_GATE_REFUSED false s else s
    let s := rset F.PWR_ISLAND_GATE_AUTO_PG (bits v.toNat 37 19 &&& autoPgMask) s
    wakeIslands (bits v.toNat 56 38) (writeForceOff (bits v.toNat 18 0) s)
  else if 0x100 ≤ o ∧ o < 0x180 then writeLevel ((o - 0x100) / 8) (bits v.toNat 1 0) s
  else storeWord a v s

/-- EVR block (R411, R412): an event block must lie 32-byte aligned where R411 lets it; RESULT shows a refusal otherwise. -/
def writeEvr (c : CoreId) (a : Nat) (v : Word) (s : State) : State :=
  match offsetOf a with
  | 0x18 => opEvrWinSel v s
  | 0x28 =>
    let x := bits v.toNat 47 0
    if x % 32 ≠ 0 ∨ dataPlace c x true s = false then rset F.EVR_INJECT_RESULT 3 s else
    match readMem (physKey c x) 32 s with
    | (some b, s) => injectBlock c b s
    | (none, s) => rset F.EVR_INJECT_RESULT 3 s
  | _ => storeWord a v s

/-- BPM block (R136, R138, R155, R157). -/
def writeBpm (a : Nat) (v : Word) (s : State) : State :=
  let o := offsetOf a
  if o = 0 then
    let was := rbit F.BPM_CTL_D_EN s
    let s := writeBpmCtl v s
    if !was && rbit F.BPM_CTL_D_EN s then afterDEn s else s
  else if o = 0x08 then writeSetBound F.BPM_SET_BASE_S_BASE 0 v s
  else if o = 0x10 then writeSetBound F.BPM_SET_LIMIT_S_LIMIT 0 v s
  else if o = 0x18 then writeSetBound F.BPM_SET_BASE_D_BASE 1 v s
  else if o = 0x20 then writeSetBound F.BPM_SET_LIMIT_D_LIMIT 1 v s
  else if 0x100 ≤ o ∧ o < 0x200 then writeClassCfg ((o - 0x100) / 8) v s
  else if 0x200 ≤ o ∧ o < 0x300 then if wbit v 63 then lwResetAt ((o - 0x200) / 64) ((o - 0x200) / 8 % 8) s else s
  else storeWord a v s

/-- TSK block (R84, R90): a rising DRAIN marks the busy slots; a bit of a retired core is ignored. -/
def writeTsk (a : Nat) (v : Word) (s : State) : State :=
  match offsetOf a with
  | 0 =>
    let was := rbit F.TSK_CTL_DRAIN s
    let s := storeWord a v s
    if !was && rbit F.TSK_CTL_DRAIN s then startDrain s else s
  | 8 => rset F.TSK_SLOT_MAP_CORE_EN (v.toNat - (v.toNat &&& rget F.DPC_CORE_RETIRED_CORES s)) s
  | _ => storeWord a v s

/-- PNL block (R340, R342, R344, R353, R356, R361). -/
def writePnl (a : Nat) (v : Word) (failing : List Nat) (s : State) : State :=
  match offsetOf a with
  | 0 =>
    let s := storeWord a v s
    if wbit v 2 then loopbackNow failing s else s
  | 0x20 =>
    let s := setHeart (wbit v 0) (storeWord a v s)
    if wbit v 1 then kickDog s else s
  | 0x28 =>
    let s := storeWord a v s
    let s := if wbit v 2 then assertFence 3 s else s
    let s := if wbit v 3 then releaseFence s else s
    let s := if wbit v 4 then selfStop s else s
    let s := if wbit v 5 then pulseFence s else s
    if wbit v 6 then openWindow s else s
  | _ => storeWord a v s

/-- ING, CMP, CIP and PAR blocks (R194, R195, R217, R223, R228, R230, R271). -/
def writeEngine (c : CoreId) (a : Nat) (v : Word) (failing : List Nat) (s : State) : State :=
  if a = 0x20000a000000 then writeChunkCfg v s
  else if a = 0x20000a000010 then
    let s := writeIngKatCtl v s
    if wbit v 1 then ingRunNow failing s else s
  else if a = 0x20000b000008 then
    let s := writeCmpVerifyCfg v s
    if wbit v 3 then cmpRunNow failing s else s
  else if a = 0x20000c000000 then
    let s := writeCipCtl v s
    if wbit v 3 then cipRunNow failing s else s
  else if a = 0x20000c000008 then writeKeyCmd c v s
  else if a = 0x20000c000018 then writeNonceLimit v s
  else if a = 0x20000d000000 then
    let s := writeParCtl v s
    if wbit v 3 then parKatOne (!failing.isEmpty) s else s
  else storeWord a v s

/-- PCI block (R259 to R261): a port that its configuration holds down goes down, as planned where its bit says so. DESIGN CHOICE, unsafe: log 63. -/
def writePci (a : Nat) (v : Word) (s : State) : State :=
  let o := offsetOf a
  let n : Fin 17 := Fin.ofNat 17 ((o - 0x100) / 8)
  let was := rbit F.PCI_PORT_CFG_EN s n.val
  let s := storeWord a v s
  if 0x100 ≤ o ∧ o < 0x200 then
    let s := if was && !rbit F.PCI_PORT_CFG_EN s n.val then emit (.pin (perstPin n.val) false n.val) s else s
    if rbit F.PCI_PORT_STATUS_LINK_UP s n.val && (!rbit F.PCI_PORT_CFG_EN s n.val || rget F.PCI_PORT_CFG_WIDTH s n.val == 3) then
      if rtest F.PCI_PLANNED_DOWN_PLANNED n.val s then opPciLinkPlanned n s else opPciLinkLost n s
    else s
  else s

/-- SHF block (R264). -/
def writeShf (a : Nat) (v : Word) (s : State) : State :=
  if offsetOf a = 0 then
    setPresent (bits v.toNat 63 56) (rset F.SHF_CTL_ALERT_EN (bits v.toNat 47 40) (rset F.SHF_CTL_EN_DRIVE (bits v.toNat 55 48) s))
  else storeWord a v s

/-- SEC block (R460, R468). -/
def writeSec (c : CoreId) (a : Nat) (v : Word) (s : State) : State :=
  match offsetOf a with
  | 0x08 => if bits v.toNat 63 56 = 0 then s else writeSvn v.toNat s
  | 0x18 => writeAttest c v.toNat s
  | _ => storeWord a v s

/-- DPC_CORE_CTL_n (R132, Table 4.17): START, HALT and EN are stored; RETIRE retires as the fault counters do, with CORE_RETIRED; a rising EN releases the core at START in S; a core no longer
halted goes on; STEP with HALT = 1 executes one instruction. -/
def writeCore (stepper : Nat → State → State) (a : Nat) (v : Word) (s : State) : State :=
  let n := (offsetOf a - 0x100) / 8
  let was := rbit F.DPC_CORE_CTL_EN s n
  let halted := rbit F.DPC_CORE_CTL_HALT s n
  let s := storeWord a v s
  let s := if wbit v 3 && decide (n < 64) && !rtest F.DPC_CORE_RETIRED_CORES n s then
      record Ev.CORE_RETIRED (coreSource (Fin.ofNat 66 n)) n [] (retireCore n s) else s
  let s := if wbit v 0 && !was && !rtest F.DPC_CORE_RETIRED_CORES n s then
      setBank (8 * n) { pc := BitVec.ofNat 64 (bits v.toNat 57 16 * 64), priv := 0 }
        { s with cpu := { s.cpu with cores := kput s.cpu.cores n { start := true, first := true } } }
    else s
  let s := if halted && !wbit v 1 then selectNext n s else s
  if wbit v 2 && wbit v 1 then stepper n s else s

/-- DPC block. -/
def writeDpc (stepper : Nat → State → State) (a : Nat) (v : Word) (s : State) : State :=
  if 0x100 ≤ offsetOf a ∧ offsetOf a < 0x300 then writeCore stepper a v s else storeWord a v s

/-- A write of a register that its checks accept: an IRQ line of the block is serviced, then the block stores and acts. `failing` lists what a
known-answer or lane test that the write starts finds failing. -/
def writeReg (stepper : Nat → State → State) (c : CoreId) (a : Nat) (v : Word) (failing : List Nat) (s : State) : State :=
  let s := match blockLine (blockOf a) with | some l => clearIrq l s | none => s
  match blockOf a with
  | 0x00 => writeChip a v s
  | 0x01 => writePower a v s
  | 0x02 => if offsetOf a = 0x28 then writeClkAlarm v.toNat s else storeWord a v s
  | 0x03 => writeEvr c a v s
  | 0x04 => writeBpm a v s
  | 0x05 => writeTsk a v s
  | 0x07 => settleNet (storeWord a v s)
  | 0x08 => if a = 0x200008000018 then writeWinCfg v s else storeWord a v s
  | 0x09 => writePnl a v failing s
  | 0x0A | 0x0B | 0x0C | 0x0D => writeEngine c a v failing s
  | 0x0E => writePci a v s
  | 0x10 => writeShf a v s
  | 0x11 => writeSec c a v s
  | 0x12 => if 0x100 ≤ offsetOf a ∧ offsetOf a < 0x180 then opFltCtrCfgWrite (Fin.ofNat 7 ((offsetOf a - 0x100) / 8)) v s else storeWord a v s
  | 0x13 => writeDpc stepper a v s
  | _ => storeWord a v s

/-! ### LD and SD (R105, R108) -/

/-- The address lies in control space. -/
def isControl (c : CoreId) (a : Word) (s : State) : Bool := decide (a.toNat < 2 ^ 48) && regionOf c a.toNat s == some .control

/-- LD (Table 4.10): normal memory, or a control-space register. -/
def runLd (c : CoreId) (d a : Rn) (i : BitVec 16) (s : State) : State :=
  runInstr c 2 [a] false lvAll (fun s =>
    let x := effAddr s c a i
    if !isControl c x s then loadNormal .ld c d x s else
    match ctlFault c x.toNat false 0 s with
    | some e => .exc e s
    | none =>
      match ctlOff x.toNat false s with
      | some n => .off { cause := 0x06, sub := n, addr := x } (wr c d (BitVec.allOnes 64) (recordAccessOff n x.toNat s))
      | none =>
        let (w, s) := busRead x.toNat (ctlUngate x.toNat s)
        .done (wr c d w s)) s

/-- A control-space store's effect as the core sees it: after a warm reset nothing of the instruction is left; a core that retired itself has left
its slot. -/
def afterStore (c : CoreId) (a : Nat) (v : Word) (s : State) : IRes :=
  if a = 0x200000000020 ∧ wbit v 0 = true then .stay s else if hasStream s c then .done s else .left s

/-- SD (Table 4.10). -/
def runSd (stepper : Nat → State → State) (c : CoreId) (d a : Rn) (i : BitVec 16) (s : State) : State :=
  runInstr c 1 [a, d] false lvAll (fun s =>
    let x := effAddr s c a i
    if !isControl c x s then storeNormal .sd c d x s else
    let v := rd s c d
    match ctlFault c x.toNat true v s with
    | some e => .exc e s
    | none =>
      match ctlOff x.toNat true s with
      | some n => .off { cause := 0x06, sub := n, addr := x } (recordAccessOff n x.toNat s)
      | none => afterStore c x.toNat v (writeReg stepper c x.toNat v [] (ctlUngate x.toNat s))) s

/-! ### STEP (R132) -/

/-- A system instruction (Table 4.12). -/
def runSys (o : SysOp) (c : CoreId) (d a b : Rn) (s : State) : State :=
  match o with
  | .sync | .syncW | .syncR => runSync c d a b s
  | .syncI => runSyncI c d a b s
  | .mfs => runMfs c d a b s
  | .mts => runMts c d a b s
  | .tget => runTget c d a b s
  | .tdone => runTdone c d a b s
  | .wtok => runWtok c d a b s
  | .job => runJob c d a b s
  | .bget => runBget c d a b s
  | .bref => runBref c d a b s
  | .bdrop => runBdrop c d a b s
  | .send => runSend c d a b s
  | .waitp => runWaitp c d a b s
  | .hcall => runHcall c d a b s
  | .hret => runHret c d a b s
  | .eret => runEret c d a b s
  | .svc => runSvc c d a b s
  | .brk => runBrk c d a b s

/-- A decoded instruction runs on a core; a word that no table lists raises ILLEGAL (R111). -/
def runDyris (stepper : Nat → State → State) (i : Option DInstr) (c : CoreId) (s : State) : State :=
  match i with
  | none => runInstr c 1 [] true lvAll (fun s => .done s) s
  | some (.alu o d a b) => runAlu o c d a b s
  | some (.imm o d a x) => runImm o c d a x s
  | some (.mem .ld d a x) => runLd c d a x s
  | some (.mem .sd d a x) => runSd stepper c d a x s
  | some (.mem o d a x) => runMem o c d a x s
  | some (.br o a b x) => runBr o c a b x s
  | some (.jalr d a x) => runJalr c d a x s
  | some (.jump l x) => runJump l c x s
  | some (.sys o d a b) => runSys o c d a b s
  | some (.amo o r ord w d a b) => runAmo o c r ord w d a b s

/-- The word at a core's PC; where the fetch faults no word is needed. DESIGN CHOICE, safe: log 4. -/
def fetchWord (c : CoreId) (s : State) : BitVec 32 :=
  BitVec.ofNat 32 (((loadBytes c (pcOf s c) 4 s).1).getD 0)

/-- STEP: the halted core executes one instruction, at most `fuel` cores stepping one another. DESIGN CHOICE, safe: log 33. -/
def stepCore : Nat → Nat → State → State
  | 0, _, s => s
  | fuel + 1, n, s =>
    if h : n < 64 then
      let c : CoreId := ⟨n, by omega⟩
      let s := selectNext n (rflag F.DPC_CORE_CTL_HALT false s n)
      let s := if executes s c then runDyris (stepCore fuel) (decodeDyris (fetchWord c s)) c s else s
      rflag F.DPC_CORE_CTL_HALT true s n
    else s

/-- The stepper of a write from outside a step. DESIGN CHOICE, safe: log 4. DESIGN CHOICE, safe: log 33. -/
def stepOnce : Nat → State → State := stepCore 64

/-- SD as a command. -/
def opSd (c : CoreId) (d a : Rn) (i : BitVec 16) (s : State) : State := runSd stepOnce c d a i s

/-! ### Register commands -/

/-- A register write of core `who` as a command: the checks of R104, R105 and R536 to R539, then the write; a refused one raises its exception in
that core. A core that executes nothing writes nothing. DEDUCED, safe: log 30. -/
def regCmd (who : CoreId) (a : Nat) (v : Word) (failing : List Nat) (s : State) : State :=
  if !executes s who then s else
  match ctlFault who a true v s with
  | some e => raise who e s
  | none =>
    match ctlOff a true s with
    | some n => raise who { cause := 0x06, sub := n, addr := BitVec.ofNat 64 a, done := true } (recordAccessOff n a s)
    | none => writeReg stepOnce who a v failing (ctlUngate a s)

/-- A command that writes a register at an address outside the register map has no effect on it: the access raises ADDR or BUS_ERR. -/
def opRegisterWrite (who : CoreId) (a : Nat) (v : Word) (s : State) : State :=
  if 0x200000000000 ≤ a ∧ a < 0x200014000000 then regCmd who a v [] s
  else if executes s who then raise who { cause := 0x04, addr := BitVec.ofNat 64 a } s else s

/-- The kept word with a bit set. DEDUCED, safe: log 30. DESIGN CHOICE, safe: log 31. -/
def withBit (a b : Nat) (s : State) : Word := BitVec.ofNat 64 (keptWord a s ||| 2 ^ b)

/-- A command that sets one bit of a register and leaves its RW fields as they are. DEDUCED, safe: log 30. DESIGN CHOICE, safe: log 31. -/
def bitCmd (who : CoreId) (a b : Nat) (failing : List Nat) (s : State) : State := regCmd who a (withBit a b s) failing s

/-- A DPC_CORE_CTL_n command. -/
def coreCmd (who : CoreId) (n : Fin 64) (v : Word) (set_ : Nat) (s : State) : State :=
  regCmd who (0x200013000100 + 8 * n.val) (BitVec.ofNat 64 (v.toNat ||| set_)) [] s

/-- A CIP_KEYSLOT_CMD command (Table 7.8). -/
def keyCmd (who : CoreId) (op typ slot addr : Nat) (s : State) : State :=
  regCmd who 0x20000c000008 (BitVec.ofNat 64 (op * 2 ^ 60 + typ * 2 ^ 56 + slot * 2 ^ 42 + addr / 64 % 2 ^ 42)) [] s

/-- A SEC_ATTEST_CTL operation (Table 15.12): OBJ and INDEX as they are. -/
def secCmd (who : CoreId) (op addr : Nat) (s : State) : State :=
  regCmd who 0x200011000018
    (BitVec.ofNat 64 (op * 2 ^ 60 + rget F.SEC_ATTEST_CTL_OBJ s * 2 ^ 52 + rget F.SEC_ATTEST_CTL_INDEX s * 2 ^ 42 + addr / 64 % 2 ^ 42)) [] s

/-- ARM and DISARM write word 2 of the selected window; with another word selected there is no such write. DESIGN CHOICE, safe: log 31. -/
def winCmd (who : CoreId) (v : Word) (s : State) : State :=
  if rget F.RRN_WIN_SEL_WORD s = 2 then regCmd who 0x200008000018 v [] s else s

/-- A command that reads one of the two registers whose read has a side effect into a register of core `c` (R541). DESIGN CHOICE, safe: log 31. -/
def readCmd (c : CoreId) (a : Nat) (d : Rn) (s : State) : State :=
  if !executes s c then s else
  match ctlFault c a false 0 s with
  | some e => raise c e s
  | none =>
    let (w, s) := busRead a s
    wr c d w s

end Sys2Proof.Machine
end

