-- ==== Sys2Proof/Machine/ExecBus.lean ====
section
/-! DEFINITION. Control space: LD, SD, SEND, WAITP and the commands that write or read one register. One definition per command: its effect on the state, which is always a next state. -/

namespace Sys2Proof.Machine

open Sys2Proof

/-- REGISTER_WRITE (R11). -/
def execRegisterWrite (who : CoreId) (addr : Nat) (v : Word) (s : State) : Host.Outcome State Fault Refusal :=
  .next (opRegisterWrite who addr v s)

/-- LD (R105). -/
def execLd (c : CoreId) (d a : Rn) (imm : BitVec 16) (s : State) : Host.Outcome State Fault Refusal :=
  .next (runLd c d a imm s)

/-- SD (R105). -/
def execSd (c : CoreId) (d a : Rn) (imm : BitVec 16) (s : State) : Host.Outcome State Fault Refusal :=
  .next (opSd c d a imm s)

/-- SEND (R127). -/
def execSend (c : CoreId) (d a b : Rn) (s : State) : Host.Outcome State Fault Refusal :=
  .next (runSend c d a b s)

/-- WAITP (R118). -/
def execWaitp (c : CoreId) (d a b : Rn) (s : State) : Host.Outcome State Fault Refusal :=
  .next (runWaitp c d a b s)

/-- EN (R132). -/
def execEn (who : CoreId) (n : Fin 64) (v : Word) (s : State) : Host.Outcome State Fault Refusal :=
  .next (coreCmd who n v 1 s)

/-- HALT (R132). -/
def execHalt (who : CoreId) (n : Fin 64) (v : Word) (s : State) : Host.Outcome State Fault Refusal :=
  .next (coreCmd who n v 2 s)

/-- STEP (R132). -/
def execStep (who : CoreId) (n : Fin 64) (v : Word) (s : State) : Host.Outcome State Fault Refusal :=
  .next (coreCmd who n v 6 s)

/-- RETIRE (R132). -/
def execRetire (who : CoreId) (n : Fin 64) (v : Word) (s : State) : Host.Outcome State Fault Refusal :=
  .next (coreCmd who n v 8 s)

/-- DRAIN (R90). -/
def execDrain (who : CoreId) (s : State) : Host.Outcome State Fault Refusal :=
  .next (bitCmd who 0x200005000000 1 [] s)

/-- S_EN (R136). -/
def execSEn (who : CoreId) (s : State) : Host.Outcome State Fault Refusal :=
  .next (bitCmd who 0x200004000000 0 [] s)

/-- D_EN (R138). -/
def execDEn (who : CoreId) (s : State) : Host.Outcome State Fault Refusal :=
  .next (bitCmd who 0x200004000000 1 [] s)

/-- LW_RESET (R157). -/
def execLwReset (who : CoreId) (set : Fin 2) (cls : Fin 5) (s : State) : Host.Outcome State Fault Refusal :=
  .next (regCmd who (0x200004000200 + 64 * set.val + 8 * cls.val) (BitVec.ofNat 64 (2 ^ 63)) [] s)

/-- ING_CHUNK_CFG_WRITE (R194). -/
def execIngChunkCfgWrite (who : CoreId) (v : Word) (s : State) : Host.Outcome State Fault Refusal :=
  .next (regCmd who 0x20000a000000 v [] s)

/-- RUN_NOW (R195). -/
def execRunNow (who : CoreId) (failing : List Nat) (s : State) : Host.Outcome State Fault Refusal :=
  .next (bitCmd who 0x20000a000010 1 failing s)

/-- KAT_RUN_NOW (R228). -/
def execKatRunNow (who : CoreId) (failing : List Nat) (s : State) : Host.Outcome State Fault Refusal :=
  .next (bitCmd who 0x20000b000008 3 failing s)

/-- CIP_KAT_RUN_NOW (R230). -/
def execCipKatRunNow (who : CoreId) (failing : List Nat) (s : State) : Host.Outcome State Fault Refusal :=
  .next (bitCmd who 0x20000c000000 3 failing s)

/-- LOAD (R223). -/
def execLoad (who : CoreId) (typ : Fin 16) (slot : Fin 4096) (addr : Nat) (s : State) : Host.Outcome State Fault Refusal :=
  .next (keyCmd who 1 typ.val slot.val addr s)

/-- GENERATE (R223). -/
def execGenerate (who : CoreId) (typ : Fin 16) (slot : Fin 4096) (addr : Nat) (s : State) : Host.Outcome State Fault Refusal :=
  .next (keyCmd who 2 typ.val slot.val addr s)

/-- ZEROIZE (R224). -/
def execZeroize (who : CoreId) (slot : Fin 4096) (s : State) : Host.Outcome State Fault Refusal :=
  .next (keyCmd who 3 0 slot.val 0 s)

/-- QUERY (R223). -/
def execQuery (who : CoreId) (typ : Fin 16) (slot : Fin 4096) (addr : Nat) (s : State) : Host.Outcome State Fault Refusal :=
  .next (keyCmd who 4 typ.val slot.val addr s)

/-- ZEROIZE_ALL (R223). -/
def execZeroizeAll (who : CoreId) (s : State) : Host.Outcome State Fault Refusal :=
  .next (keyCmd who 5 0 0 0 s)

/-- NONCE_LIMIT_SET (R217). -/
def execNonceLimitSet (who : CoreId) (v : Word) (s : State) : Host.Outcome State Fault Refusal :=
  .next (regCmd who 0x20000c000018 (v ||| 0x8000) [] s)

/-- PAR_KAT_RUN_NOW (R271). -/
def execParKatRunNow (who : CoreId) (fail : Bool) (s : State) : Host.Outcome State Fault Refusal :=
  .next (bitCmd who 0x20000d000000 3 (if fail then [0] else []) s)

/-- PRESENT (R264). -/
def execPresent (who : CoreId) (mask : BitVec 8) (s : State) : Host.Outcome State Fault Refusal :=
  .next (regCmd who 0x200010000000 (withBits 0x200010000000 63 56 mask.toNat s) [] s)

/-- CLK_ALARM (R493). -/
def execClkAlarm (who : CoreId) (v : Word) (s : State) : Host.Outcome State Fault Refusal :=
  .next (regCmd who 0x200002000028 v [] s)

/-- LOOPBACK_RUN (R353). -/
def execLoopbackRun (who : CoreId) (failing : List Nat) (s : State) : Host.Outcome State Fault Refusal :=
  .next (bitCmd who 0x200009000000 2 failing s)

/-- PNL_EN (R340). -/
def execPnlEn (who : CoreId) (s : State) : Host.Outcome State Fault Refusal :=
  .next (bitCmd who 0x200009000000 0 [] s)

/-- HB_EN (R342). -/
def execHbEn (who : CoreId) (on : Bool) (s : State) : Host.Outcome State Fault Refusal :=
  .next (regCmd who 0x200009000020 (withBits 0x200009000020 0 0 (if on then 1 else 0) s) [] s)

/-- KICK (R342). -/
def execKick (who : CoreId) (s : State) : Host.Outcome State Fault Refusal :=
  .next (bitCmd who 0x200009000020 1 [] s)

/-- ASSERT (R344). -/
def execAssert (who : CoreId) (s : State) : Host.Outcome State Fault Refusal :=
  .next (bitCmd who 0x200009000028 2 [] s)

/-- FENCE_RELEASE (R344). -/
def execFenceRelease (who : CoreId) (s : State) : Host.Outcome State Fault Refusal :=
  .next (bitCmd who 0x200009000028 3 [] s)

/-- SELF_STOP (R361). -/
def execSelfStop (who : CoreId) (s : State) : Host.Outcome State Fault Refusal :=
  .next (bitCmd who 0x200009000028 4 [] s)

/-- PULSE (R344). -/
def execPulse (who : CoreId) (s : State) : Host.Outcome State Fault Refusal :=
  .next (bitCmd who 0x200009000028 5 [] s)

/-- WIRE_TEST (R356). -/
def execWireTest (who : CoreId) (s : State) : Host.Outcome State Fault Refusal :=
  .next (bitCmd who 0x200009000028 6 [] s)

/-- ARM (R373). -/
def execArm (who : CoreId) (s : State) : Host.Outcome State Fault Refusal :=
  .next (winCmd who 2 s)

/-- DISARM (R373). -/
def execDisarm (who : CoreId) (s : State) : Host.Outcome State Fault Refusal :=
  .next (winCmd who 1 s)

/-- EVR_WIN_SEL (R412). -/
def execEvrWinSel (who : CoreId) (v : Word) (s : State) : Host.Outcome State Fault Refusal :=
  .next (regCmd who 0x200003000018 v [] s)

/-- EVR_WIN_DATA (R412). -/
def execEvrWinData (c : CoreId) (d : Rn) (s : State) : Host.Outcome State Fault Refusal :=
  .next (readCmd c 0x200003000020 d s)

/-- EVR_INJECT (R411). -/
def execEvrInject (who : CoreId) (addr : Nat) (s : State) : Host.Outcome State Fault Refusal :=
  .next (regCmd who 0x200003000028 (BitVec.ofNat 64 (addr % 2 ^ 48)) [] s)

/-- FLT_CTR_CFG_WRITE (R417). -/
def execFltCtrCfgWrite (who : CoreId) (k : Fin 7) (v : Word) (s : State) : Host.Outcome State Fault Refusal :=
  .next (regCmd who (0x200012000100 + 8 * k.val) v [] s)

/-- PWR_MODE (R433). -/
def execPwrMode (who : CoreId) (v : Word) (s : State) : Host.Outcome State Fault Refusal :=
  .next (regCmd who 0x200001000000 v [] s)

/-- WAKE (R427). -/
def execWake (who : CoreId) (mask : BitVec 19) (s : State) : Host.Outcome State Fault Refusal :=
  .next (regCmd who 0x200001000010 (withBits 0x200001000010 56 38 mask.toNat s) [] s)

/-- FORCE_OFF (R429). -/
def execForceOff (who : CoreId) (mask : BitVec 19) (s : State) : Host.Outcome State Fault Refusal :=
  .next (regCmd who 0x200001000010 (withBits 0x200001000010 18 0 mask.toNat s) [] s)

/-- LEVEL (R423). -/
def execLevel (who : CoreId) (n : Fin 16) (lvl : Fin 4) (s : State) : Host.Outcome State Fault Refusal :=
  .next (regCmd who (0x200001000100 + 8 * n.val) (BitVec.ofNat 64 lvl.val) [] s)

/-- REPORT (R449). -/
def execReport (who : CoreId) (addr : Nat) (s : State) : Host.Outcome State Fault Refusal :=
  .next (secCmd who 1 addr s)

/-- VERIFY (R456). -/
def execVerify (who : CoreId) (addr : Nat) (s : State) : Host.Outcome State Fault Refusal :=
  .next (secCmd who 2 addr s)

/-- MEASURE (R448). -/
def execMeasure (who : CoreId) (addr : Nat) (s : State) : Host.Outcome State Fault Refusal :=
  .next (secCmd who 3 addr s)

/-- AWK_GENERATE (R450). -/
def execAwkGenerate (who : CoreId) (addr : Nat) (s : State) : Host.Outcome State Fault Refusal :=
  .next (secCmd who 4 addr s)

/-- AWK_UNSEAL (R450). -/
def execAwkUnseal (who : CoreId) (addr : Nat) (s : State) : Host.Outcome State Fault Refusal :=
  .next (secCmd who 5 addr s)

/-- SEND_KEY (R451). -/
def execSendKey (who : CoreId) (addr : Nat) (s : State) : Host.Outcome State Fault Refusal :=
  .next (secCmd who 6 addr s)

/-- RECEIVE_KEY (R451). -/
def execReceiveKey (who : CoreId) (addr : Nat) (s : State) : Host.Outcome State Fault Refusal :=
  .next (secCmd who 7 addr s)

/-- WRITE_SLOT (R461). -/
def execWriteSlot (who : CoreId) (addr : Nat) (s : State) : Host.Outcome State Fault Refusal :=
  .next (secCmd who 8 addr s)

/-- SET_DIR (R454). -/
def execSetDir (who : CoreId) (addr : Nat) (s : State) : Host.Outcome State Fault Refusal :=
  .next (secCmd who 9 addr s)

/-- ADVANCE (R460). -/
def execAdvance (who : CoreId) (svn : BitVec 8) (revoke : Bool) (s : State) : Host.Outcome State Fault Refusal :=
  .next (regCmd who 0x200011000008 (BitVec.ofNat 64 (svn.toNat * 2 ^ 56 + (if revoke then 2 ^ 48 else 0))) [] s)

/-- SEC_ID_WIN (R468). -/
def execSecIdWin (c : CoreId) (d : Rn) (s : State) : Host.Outcome State Fault Refusal :=
  .next (readCmd c 0x200011000010 d s)

/-- WARM (R479). -/
def execWarm (who : CoreId) (s : State) : Host.Outcome State Fault Refusal :=
  .next (bitCmd who 0x200000000020 0 [] s)

end Sys2Proof.Machine
end

