-- ==== Sys2Proof/Machine/ExecDyris.lean ====
section
/-! DEFINITION. The Dyris instructions that reach no control register (R98 to R130). One definition per command: its effect on the state, which is always a next state. -/

namespace Sys2Proof.Machine

open Sys2Proof

/-- ADD (R113). -/
def execAdd (c : CoreId) (d a b : Rn) (s : State) : Host.Outcome State Fault Refusal :=
  .next (runAlu .add c d a b s)

/-- SUB (R113). -/
def execSub (c : CoreId) (d a b : Rn) (s : State) : Host.Outcome State Fault Refusal :=
  .next (runAlu .sub c d a b s)

/-- AND (R113). -/
def execAnd (c : CoreId) (d a b : Rn) (s : State) : Host.Outcome State Fault Refusal :=
  .next (runAlu .and c d a b s)

/-- OR (R113). -/
def execOr (c : CoreId) (d a b : Rn) (s : State) : Host.Outcome State Fault Refusal :=
  .next (runAlu .or c d a b s)

/-- XOR (R113). -/
def execXor (c : CoreId) (d a b : Rn) (s : State) : Host.Outcome State Fault Refusal :=
  .next (runAlu .xor c d a b s)

/-- SLL (R113). -/
def execSll (c : CoreId) (d a b : Rn) (s : State) : Host.Outcome State Fault Refusal :=
  .next (runAlu .sll c d a b s)

/-- SRL (R113). -/
def execSrl (c : CoreId) (d a b : Rn) (s : State) : Host.Outcome State Fault Refusal :=
  .next (runAlu .srl c d a b s)

/-- SRA (R113). -/
def execSra (c : CoreId) (d a b : Rn) (s : State) : Host.Outcome State Fault Refusal :=
  .next (runAlu .sra c d a b s)

/-- SLT (R113). -/
def execSlt (c : CoreId) (d a b : Rn) (s : State) : Host.Outcome State Fault Refusal :=
  .next (runAlu .slt c d a b s)

/-- SLTU (R113). -/
def execSltu (c : CoreId) (d a b : Rn) (s : State) : Host.Outcome State Fault Refusal :=
  .next (runAlu .sltu c d a b s)

/-- MUL (R113). -/
def execMul (c : CoreId) (d a b : Rn) (s : State) : Host.Outcome State Fault Refusal :=
  .next (runAlu .mul c d a b s)

/-- MULHU (R113). -/
def execMulhu (c : CoreId) (d a b : Rn) (s : State) : Host.Outcome State Fault Refusal :=
  .next (runAlu .mulhu c d a b s)

/-- DIV (R113). -/
def execDiv (c : CoreId) (d a b : Rn) (s : State) : Host.Outcome State Fault Refusal :=
  .next (runAlu .div c d a b s)

/-- DIVU (R113). -/
def execDivu (c : CoreId) (d a b : Rn) (s : State) : Host.Outcome State Fault Refusal :=
  .next (runAlu .divu c d a b s)

/-- REM (R113). -/
def execRem (c : CoreId) (d a b : Rn) (s : State) : Host.Outcome State Fault Refusal :=
  .next (runAlu .rem c d a b s)

/-- REMU (R113). -/
def execRemu (c : CoreId) (d a b : Rn) (s : State) : Host.Outcome State Fault Refusal :=
  .next (runAlu .remu c d a b s)

/-- MIN (R113). -/
def execMin (c : CoreId) (d a b : Rn) (s : State) : Host.Outcome State Fault Refusal :=
  .next (runAlu .min c d a b s)

/-- MAX (R113). -/
def execMax (c : CoreId) (d a b : Rn) (s : State) : Host.Outcome State Fault Refusal :=
  .next (runAlu .max c d a b s)

/-- MINU (R113). -/
def execMinu (c : CoreId) (d a b : Rn) (s : State) : Host.Outcome State Fault Refusal :=
  .next (runAlu .minu c d a b s)

/-- MAXU (R113). -/
def execMaxu (c : CoreId) (d a b : Rn) (s : State) : Host.Outcome State Fault Refusal :=
  .next (runAlu .maxu c d a b s)

/-- CLZ (R113). -/
def execClz (c : CoreId) (d a b : Rn) (s : State) : Host.Outcome State Fault Refusal :=
  .next (runAlu .clz c d a b s)

/-- CTZ (R113). -/
def execCtz (c : CoreId) (d a b : Rn) (s : State) : Host.Outcome State Fault Refusal :=
  .next (runAlu .ctz c d a b s)

/-- POPC (R113). -/
def execPopc (c : CoreId) (d a b : Rn) (s : State) : Host.Outcome State Fault Refusal :=
  .next (runAlu .popc c d a b s)

/-- BSWAP (R113). -/
def execBswap (c : CoreId) (d a b : Rn) (s : State) : Host.Outcome State Fault Refusal :=
  .next (runAlu .bswap c d a b s)

/-- ROTR (R113). -/
def execRotr (c : CoreId) (d a b : Rn) (s : State) : Host.Outcome State Fault Refusal :=
  .next (runAlu .rotr c d a b s)

/-- ANDN (R113). -/
def execAndn (c : CoreId) (d a b : Rn) (s : State) : Host.Outcome State Fault Refusal :=
  .next (runAlu .andn c d a b s)

/-- ADDI (R113). -/
def execAddi (c : CoreId) (d a : Rn) (imm : BitVec 16) (s : State) : Host.Outcome State Fault Refusal :=
  .next (runImm .addi c d a imm s)

/-- ANDI (R113). -/
def execAndi (c : CoreId) (d a : Rn) (imm : BitVec 16) (s : State) : Host.Outcome State Fault Refusal :=
  .next (runImm .andi c d a imm s)

/-- ORI (R113). -/
def execOri (c : CoreId) (d a : Rn) (imm : BitVec 16) (s : State) : Host.Outcome State Fault Refusal :=
  .next (runImm .ori c d a imm s)

/-- XORI (R113). -/
def execXori (c : CoreId) (d a : Rn) (imm : BitVec 16) (s : State) : Host.Outcome State Fault Refusal :=
  .next (runImm .xori c d a imm s)

/-- CLTI (R113). -/
def execClti (c : CoreId) (d a : Rn) (imm : BitVec 16) (s : State) : Host.Outcome State Fault Refusal :=
  .next (runImm .clti c d a imm s)

/-- CLTIU (R113). -/
def execCltiu (c : CoreId) (d a : Rn) (imm : BitVec 16) (s : State) : Host.Outcome State Fault Refusal :=
  .next (runImm .cltiu c d a imm s)

/-- SLLI (R113). -/
def execSlli (c : CoreId) (d a : Rn) (imm : BitVec 16) (s : State) : Host.Outcome State Fault Refusal :=
  .next (runImm .slli c d a imm s)

/-- SRLI (R113). -/
def execSrli (c : CoreId) (d a : Rn) (imm : BitVec 16) (s : State) : Host.Outcome State Fault Refusal :=
  .next (runImm .srli c d a imm s)

/-- SRAI (R113). -/
def execSrai (c : CoreId) (d a : Rn) (imm : BitVec 16) (s : State) : Host.Outcome State Fault Refusal :=
  .next (runImm .srai c d a imm s)

/-- LMI (R113). -/
def execLmi (c : CoreId) (d a : Rn) (imm : BitVec 16) (s : State) : Host.Outcome State Fault Refusal :=
  .next (runImm .lmi c d a imm s)

/-- LHI (R113). -/
def execLhi (c : CoreId) (d a : Rn) (imm : BitVec 16) (s : State) : Host.Outcome State Fault Refusal :=
  .next (runImm .lhi c d a imm s)

/-- LXI (R113). -/
def execLxi (c : CoreId) (d a : Rn) (imm : BitVec 16) (s : State) : Host.Outcome State Fault Refusal :=
  .next (runImm .lxi c d a imm s)

/-- LB (R113). -/
def execLb (c : CoreId) (d a : Rn) (imm : BitVec 16) (s : State) : Host.Outcome State Fault Refusal :=
  .next (runMem .lb c d a imm s)

/-- LBU (R113). -/
def execLbu (c : CoreId) (d a : Rn) (imm : BitVec 16) (s : State) : Host.Outcome State Fault Refusal :=
  .next (runMem .lbu c d a imm s)

/-- LH (R113). -/
def execLh (c : CoreId) (d a : Rn) (imm : BitVec 16) (s : State) : Host.Outcome State Fault Refusal :=
  .next (runMem .lh c d a imm s)

/-- LHU (R113). -/
def execLhu (c : CoreId) (d a : Rn) (imm : BitVec 16) (s : State) : Host.Outcome State Fault Refusal :=
  .next (runMem .lhu c d a imm s)

/-- LW (R113). -/
def execLw (c : CoreId) (d a : Rn) (imm : BitVec 16) (s : State) : Host.Outcome State Fault Refusal :=
  .next (runMem .lw c d a imm s)

/-- LWU (R113). -/
def execLwu (c : CoreId) (d a : Rn) (imm : BitVec 16) (s : State) : Host.Outcome State Fault Refusal :=
  .next (runMem .lwu c d a imm s)

/-- SB (R113). -/
def execSb (c : CoreId) (d a : Rn) (imm : BitVec 16) (s : State) : Host.Outcome State Fault Refusal :=
  .next (runMem .sb c d a imm s)

/-- SH (R113). -/
def execSh (c : CoreId) (d a : Rn) (imm : BitVec 16) (s : State) : Host.Outcome State Fault Refusal :=
  .next (runMem .sh c d a imm s)

/-- SW (R113). -/
def execSw (c : CoreId) (d a : Rn) (imm : BitVec 16) (s : State) : Host.Outcome State Fault Refusal :=
  .next (runMem .sw c d a imm s)

/-- BEQ (R112). -/
def execBeq (c : CoreId) (a b : Rn) (off : BitVec 16) (s : State) : Host.Outcome State Fault Refusal :=
  .next (runBr .beq c a b off s)

/-- BNE (R112). -/
def execBne (c : CoreId) (a b : Rn) (off : BitVec 16) (s : State) : Host.Outcome State Fault Refusal :=
  .next (runBr .bne c a b off s)

/-- BLT (R112). -/
def execBlt (c : CoreId) (a b : Rn) (off : BitVec 16) (s : State) : Host.Outcome State Fault Refusal :=
  .next (runBr .blt c a b off s)

/-- BGE (R112). -/
def execBge (c : CoreId) (a b : Rn) (off : BitVec 16) (s : State) : Host.Outcome State Fault Refusal :=
  .next (runBr .bge c a b off s)

/-- BLTU (R112). -/
def execBltu (c : CoreId) (a b : Rn) (off : BitVec 16) (s : State) : Host.Outcome State Fault Refusal :=
  .next (runBr .bltu c a b off s)

/-- BGEU (R112). -/
def execBgeu (c : CoreId) (a b : Rn) (off : BitVec 16) (s : State) : Host.Outcome State Fault Refusal :=
  .next (runBr .bgeu c a b off s)

/-- JALR (R112). -/
def execJalr (c : CoreId) (d a : Rn) (imm : BitVec 16) (s : State) : Host.Outcome State Fault Refusal :=
  .next (runJalr c d a imm s)

/-- J (R112). -/
def execJ (c : CoreId) (off : BitVec 26) (s : State) : Host.Outcome State Fault Refusal :=
  .next (runJump false c off s)

/-- JAL (R112). -/
def execJal (c : CoreId) (off : BitVec 26) (s : State) : Host.Outcome State Fault Refusal :=
  .next (runJump true c off s)

/-- SYNC (R129). -/
def execSync (c : CoreId) (d a b : Rn) (s : State) : Host.Outcome State Fault Refusal :=
  .next (runSync c d a b s)

/-- SYNC_W (R129). -/
def execSyncW (c : CoreId) (d a b : Rn) (s : State) : Host.Outcome State Fault Refusal :=
  .next (runSync c d a b s)

/-- SYNC_R (R129). -/
def execSyncR (c : CoreId) (d a b : Rn) (s : State) : Host.Outcome State Fault Refusal :=
  .next (runSync c d a b s)

/-- SYNC_I (R120). -/
def execSyncI (c : CoreId) (d a b : Rn) (s : State) : Host.Outcome State Fault Refusal :=
  .next (runSyncI c d a b s)

/-- MFS (R100). -/
def execMfs (c : CoreId) (d a b : Rn) (s : State) : Host.Outcome State Fault Refusal :=
  .next (runMfs c d a b s)

/-- MTS (R100). -/
def execMts (c : CoreId) (d a b : Rn) (s : State) : Host.Outcome State Fault Refusal :=
  .next (runMts c d a b s)

/-- TGET (R75). -/
def execTget (c : CoreId) (d a b : Rn) (s : State) : Host.Outcome State Fault Refusal :=
  .next (runTget c d a b s)

/-- TDONE (R115). -/
def execTdone (c : CoreId) (d a b : Rn) (s : State) : Host.Outcome State Fault Refusal :=
  .next (runTdone c d a b s)

/-- WTOK (R117). -/
def execWtok (c : CoreId) (d a b : Rn) (s : State) : Host.Outcome State Fault Refusal :=
  .next (runWtok c d a b s)

/-- JOB (R121). -/
def execJob (c : CoreId) (d a b : Rn) (s : State) : Host.Outcome State Fault Refusal :=
  .next (runJob c d a b s)

/-- BGET (R116). -/
def execBget (c : CoreId) (d a b : Rn) (s : State) : Host.Outcome State Fault Refusal :=
  .next (runBget c d a b s)

/-- BREF (R146). -/
def execBref (c : CoreId) (d a b : Rn) (s : State) : Host.Outcome State Fault Refusal :=
  .next (runBref c d a b s)

/-- BDROP (R144). -/
def execBdrop (c : CoreId) (d a b : Rn) (s : State) : Host.Outcome State Fault Refusal :=
  .next (runBdrop c d a b s)

/-- HRET (R119). -/
def execHret (c : CoreId) (d a b : Rn) (s : State) : Host.Outcome State Fault Refusal :=
  .next (runHret c d a b s)

/-- ERET (R103). -/
def execEret (c : CoreId) (d a b : Rn) (s : State) : Host.Outcome State Fault Refusal :=
  .next (runEret c d a b s)

/-- SVC (R119). -/
def execSvc (c : CoreId) (d a b : Rn) (s : State) : Host.Outcome State Fault Refusal :=
  .next (runSvc c d a b s)

/-- BRK (R106). -/
def execBrk (c : CoreId) (d a b : Rn) (s : State) : Host.Outcome State Fault Refusal :=
  .next (runBrk c d a b s)

/-- HCALL (R119). -/
def execHcall (c : CoreId) (d a b : Rn) (s : State) : Host.Outcome State Fault Refusal :=
  .next (runHcall c d a b s)

/-- AMO_SWAP (R114). -/
def execAmoSwap (c : CoreId) (rsv : BitVec 4) (ord : BitVec 2) (w : Bool) (d a b : Rn) (s : State) : Host.Outcome State Fault Refusal :=
  .next (runAmo .swap c rsv ord w d a b s)

/-- AMO_ADD (R114). -/
def execAmoAdd (c : CoreId) (rsv : BitVec 4) (ord : BitVec 2) (w : Bool) (d a b : Rn) (s : State) : Host.Outcome State Fault Refusal :=
  .next (runAmo .add c rsv ord w d a b s)

/-- AMO_AND (R114). -/
def execAmoAnd (c : CoreId) (rsv : BitVec 4) (ord : BitVec 2) (w : Bool) (d a b : Rn) (s : State) : Host.Outcome State Fault Refusal :=
  .next (runAmo .and c rsv ord w d a b s)

/-- AMO_OR (R114). -/
def execAmoOr (c : CoreId) (rsv : BitVec 4) (ord : BitVec 2) (w : Bool) (d a b : Rn) (s : State) : Host.Outcome State Fault Refusal :=
  .next (runAmo .or c rsv ord w d a b s)

/-- AMO_XOR (R114). -/
def execAmoXor (c : CoreId) (rsv : BitVec 4) (ord : BitVec 2) (w : Bool) (d a b : Rn) (s : State) : Host.Outcome State Fault Refusal :=
  .next (runAmo .xor c rsv ord w d a b s)

/-- AMO_MIN (R114). -/
def execAmoMin (c : CoreId) (rsv : BitVec 4) (ord : BitVec 2) (w : Bool) (d a b : Rn) (s : State) : Host.Outcome State Fault Refusal :=
  .next (runAmo .min c rsv ord w d a b s)

/-- AMO_MAX (R114). -/
def execAmoMax (c : CoreId) (rsv : BitVec 4) (ord : BitVec 2) (w : Bool) (d a b : Rn) (s : State) : Host.Outcome State Fault Refusal :=
  .next (runAmo .max c rsv ord w d a b s)

/-- AMO_MINU (R114). -/
def execAmoMinu (c : CoreId) (rsv : BitVec 4) (ord : BitVec 2) (w : Bool) (d a b : Rn) (s : State) : Host.Outcome State Fault Refusal :=
  .next (runAmo .minu c rsv ord w d a b s)

/-- AMO_MAXU (R114). -/
def execAmoMaxu (c : CoreId) (rsv : BitVec 4) (ord : BitVec 2) (w : Bool) (d a b : Rn) (s : State) : Host.Outcome State Fault Refusal :=
  .next (runAmo .maxu c rsv ord w d a b s)

/-- AMO_CAS (R114). -/
def execAmoCas (c : CoreId) (rsv : BitVec 4) (ord : BitVec 2) (w : Bool) (d a b : Rn) (s : State) : Host.Outcome State Fault Refusal :=
  .next (runAmo .cas c rsv ord w d a b s)

/-- IRQ (R103). -/
def execIrq (c : CoreId) (line : Fin 16) (s : State) : Host.Outcome State Fault Refusal :=
  .next (opIrq c line s)

/-- BUDGET (R94). -/
def execBudget (c : CoreId) (s : State) : Host.Outcome State Fault Refusal :=
  .next (opBudget c s)

/-- COPY (R150). -/
def execCopy (u : Fin 4) (s : State) : Host.Outcome State Fault Refusal :=
  .next (opCopy u s)

/-- FILL (R150). -/
def execFill (u : Fin 4) (s : State) : Host.Outcome State Fault Refusal :=
  .next (opFill u s)

/-- COMPARE (R150). -/
def execCompare (u : Fin 4) (s : State) : Host.Outcome State Fault Refusal :=
  .next (opCompare u s)

/-- DISPATCH_PLACE (R82). -/
def execDispatchPlace (s : State) : Host.Outcome State Fault Refusal :=
  .next (opDispatchPlace s)

/-- EVENT_REPORT (R408). -/
def execEventReport (r : EvReport) (s : State) : Host.Outcome State Fault Refusal :=
  .next (opEventReport r s)

/-- RECORD_CLOSE (R409). -/
def execRecordClose (s : State) : Host.Outcome State Fault Refusal :=
  .next (opRecordClose s)

/-- RECORD_PROGRAMMED (R409). -/
def execRecordProgrammed (s : State) : Host.Outcome State Fault Refusal :=
  .next (opRecordProgrammed s)

/-- ERASE_DONE (R405). -/
def execEraseDone (s : State) : Host.Outcome State Fault Refusal :=
  .next (opEraseDone s)

/-- OPTIME_MARK (R402). -/
def execOptimeMark (s : State) : Host.Outcome State Fault Refusal :=
  .next (opOptimeMark s)

/-- EVT_LOST (R410). -/
def execEvtLost (s : State) : Host.Outcome State Fault Refusal :=
  .next (opEvtLost s)

/-- EVR_READY (R402). -/
def execEvrReady (s : State) : Host.Outcome State Fault Refusal :=
  .next (opEvrReady s)

/-- FLT_SLOT_ADVANCE (R415). -/
def execFltSlotAdvance (k : Fin 7) (s : State) : Host.Outcome State Fault Refusal :=
  .next (opFltSlotAdvance k s)

/-- D_REBUILD_DONE (R138). -/
def execDRebuildDone (s : State) : Host.Outcome State Fault Refusal :=
  .next (arSettle (opDRebuildDone s))

/-- EPOCH_CLOSE (R325). -/
def execEpochClose (s : State) : Host.Outcome State Fault Refusal :=
  .next (afterConfirm (closeEpoch s))

end Sys2Proof.Machine
end

