-- ==== Sys2Proof/Machine/ExecFabric.lean ====
section
/-! DEFINITION. The Rearn fabric and the Ethernet ports. One definition per command: its effect on the state, which is always a next state. -/

namespace Sys2Proof.Machine

open Sys2Proof

/-- AN_RESTART (R33). -/
def execAnRestart (p : Fin 16) (s : State) : Host.Outcome State Fault Refusal :=
  .next (opAnRestart p s)

/-- NET_LINK_CHANGE (R33). -/
def execNetLinkChange (p : Fin 16) (up : Bool) (abil : BitVec 32) (rsFec : Bool) (s : State) : Host.Outcome State Fault Refusal :=
  .next (opNetLinkChange p up abil rsFec s)

/-- PAUSE_FRAME (R35). -/
def execPauseFrame (p : Fin 16) (s : State) : Host.Outcome State Fault Refusal :=
  .next (opPauseFrame p s)

/-- FRAME_DROP (R36). -/
def execFrameDrop (p : Fin 16) (len : Nat) (tag : Option Nat) (s : State) : Host.Outcome State Fault Refusal :=
  .next (opFrameDrop p len tag s)

/-- RRN_WRITE (R385). -/
def execRrnWrite (p : RrnPkt) (s : State) : Host.Outcome State Fault Refusal :=
  .next (opRrnWrite p s)

/-- WRITE_NOTIFY (R385). -/
def execWriteNotify (p : RrnPkt) (s : State) : Host.Outcome State Fault Refusal :=
  .next (opWriteNotify p s)

/-- READ_REQ (R387). -/
def execReadReq (p : RrnPkt) (s : State) : Host.Outcome State Fault Refusal :=
  .next (opReadReq p s)

/-- READ_RESP (R387). -/
def execReadResp (p : RrnPkt) (s : State) : Host.Outcome State Fault Refusal :=
  .next (opReadResp p s)

/-- RRN_SEND (R385). -/
def execRrnSend (p : RrnPkt) (s : State) : Host.Outcome State Fault Refusal :=
  .next (arSettle (opRrnSend p s))

/-- ATOMIC (R385). -/
def execAtomic (p : RrnPkt) (s : State) : Host.Outcome State Fault Refusal :=
  .next (opAtomic p s)

/-- CREDIT_REQ (R376). -/
def execCreditReq (p : RrnPkt) (s : State) : Host.Outcome State Fault Refusal :=
  .next (opCreditReq p s)

/-- CREDIT_GRANT (R377). -/
def execCreditGrant (p : RrnPkt) (s : State) : Host.Outcome State Fault Refusal :=
  .next (opCreditGrant p s)

/-- ACK (R388). -/
def execAck (p : RrnPkt) (s : State) : Host.Outcome State Fault Refusal :=
  .next (opAck p s)

/-- NAK (R388). -/
def execNak (p : RrnPkt) (s : State) : Host.Outcome State Fault Refusal :=
  .next (opNak p s)

/-- HELLO (R367). -/
def execHello (p : RrnPkt) (h : HelloBody) (s : State) : Host.Outcome State Fault Refusal :=
  .next (opHello p h s)

/-- HELLO_REPLY (R366). -/
def execHelloReply (p : RrnPkt) (h : HelloBody) (s : State) : Host.Outcome State Fault Refusal :=
  .next (opHelloReply p h s)

/-- HELLO_RETRY (R366). -/
def execHelloRetry (node : Nat) (s : State) : Host.Outcome State Fault Refusal :=
  .next (opHelloRetry node s)

/-- HELLO_REFRESH (R367). -/
def execHelloRefresh (s : State) : Host.Outcome State Fault Refusal :=
  .next (opHelloRefresh s)

/-- BINDING_LAPSE (R367). -/
def execBindingLapse (node : Nat) (s : State) : Host.Outcome State Fault Refusal :=
  .next (opBindingLapse node s)

/-- RTO (R387). -/
def execRto (msgId : Nat) (s : State) : Host.Outcome State Fault Refusal :=
  .next (opRto msgId s)

/-- TIMEOUT (R388). -/
def execTimeout (msgId : Nat) (s : State) : Host.Outcome State Fault Refusal :=
  .next (opTimeout msgId s)

/-- LEASE_EXPIRY (R377). -/
def execLeaseExpiry (lease : Nat) (s : State) : Host.Outcome State Fault Refusal :=
  .next (opLeaseExpiry lease s)

/-- RECEIPT_EXPIRY (R380). -/
def execReceiptExpiry (src msgId : Nat) (s : State) : Host.Outcome State Fault Refusal :=
  .next (opReceiptExpiry src msgId s)

/-- CTX_IDLE (R385). -/
def execCtxIdle (src msgId : Nat) (s : State) : Host.Outcome State Fault Refusal :=
  .next (opCtxIdle src msgId s)

/-- WIN_ARM (R373). -/
def execWinArm (r : WinReq) (s : State) : Host.Outcome State Fault Refusal :=
  .next (opWinArm r s)

/-- WIN_DISARM (R373). -/
def execWinDisarm (r : WinReq) (s : State) : Host.Outcome State Fault Refusal :=
  .next (opWinDisarm r s)

end Sys2Proof.Machine
end

