-- ==== Sys2Proof/Machine/ExecHost.lean ====
section
/-! DEFINITION. The host's commands: intake, queues, I/O and admin commands. One definition per command: its effect on the state, which is always a next state. -/

namespace Sys2Proof.Machine

open Sys2Proof

/-- TASK_WATCHDOG (R89). -/
def execTaskWatchdog (slot : SlotNo) (s : State) : Host.Outcome State Fault Refusal :=
  .next (settleLost (opTaskWatchdog slot retrySlot s))

/-- DRAIN_TIMEOUT (R90). -/
def execDrainTimeout (s : State) : Host.Outcome State Fault Refusal :=
  .next (opDrainTimeout s)

/-- CMD (R40). -/
def execCmd (m : HbMsg) (s : State) : Host.Outcome State Fault Refusal :=
  .next (arSettle (opCmd m s))

/-- LANDING_TOKEN (R79). -/
def execLandingToken (cntlid qid cmdseq : Nat) (ok : Bool) (s : State) : Host.Outcome State Fault Refusal :=
  .next (arSettle (retryR2t (opLandingToken cntlid qid cmdseq ok s)))

/-- CONTROLLER_RESET (R68). -/
def execControllerReset (cntlid : Nat) (s : State) : Host.Outcome State Fault Refusal :=
  .next (opControllerReset cntlid s)

/-- SHUTDOWN (R68). -/
def execShutdown (cntlid : Nat) (s : State) : Host.Outcome State Fault Refusal :=
  .next (opShutdown cntlid s)

/-- DISASSOCIATE (R40). -/
def execDisassociate (cntlid : Nat) (s : State) : Host.Outcome State Fault Refusal :=
  .next (opDisassociate cntlid s)

/-- QUEUE_CONNECTION_CLOSED (R68). -/
def execQueueConnectionClosed (cntlid qid : Nat) (s : State) : Host.Outcome State Fault Refusal :=
  .next (opQueueConnectionClosed cntlid qid s)

/-- FLUSH (R67). -/
def execFlush (slot : SlotNo) (s : State) : Host.Outcome State Fault Refusal :=
  .next (opFlush slot s)

/-- WRITE (R57). -/
def execWrite (slot : SlotNo) (s : State) : Host.Outcome State Fault Refusal :=
  .next (arSettle (opWrite slot s))

/-- READ (R21). -/
def execRead (slot : SlotNo) (s : State) : Host.Outcome State Fault Refusal :=
  .next (settleLost (opRead slot s))

/-- WRITE_ZEROES (R57). -/
def execWriteZeroes (slot : SlotNo) (s : State) : Host.Outcome State Fault Refusal :=
  .next (arSettle (opWriteZeroes slot s))

/-- DATASET_MANAGEMENT (R58). -/
def execDatasetManagement (slot : SlotNo) (s : State) : Host.Outcome State Fault Refusal :=
  .next (arSettle (opDatasetManagement slot s))

/-- FETCH (R190). -/
def execFetch (m : DedupMsg) (s : State) : Host.Outcome State Fault Refusal :=
  .next (settleRep (fetchAll m s))

/-- GET_LOG_PAGE (R56). -/
def execGetLogPage (slot : SlotNo) (s : State) : Host.Outcome State Fault Refusal :=
  .next (opGetLogPage slot s)

/-- IDENTIFY (R55). -/
def execIdentify (slot : SlotNo) (s : State) : Host.Outcome State Fault Refusal :=
  .next (opIdentify slot s)

/-- ABORT (R68). -/
def execAbort (slot : SlotNo) (s : State) : Host.Outcome State Fault Refusal :=
  .next (opAbort slot s)

/-- SET_FEATURES (R54). -/
def execSetFeatures (slot : SlotNo) (s : State) : Host.Outcome State Fault Refusal :=
  .next (opSetFeatures slot s)

/-- GET_FEATURES (R54). -/
def execGetFeatures (slot : SlotNo) (s : State) : Host.Outcome State Fault Refusal :=
  .next (opGetFeatures slot s)

/-- ASYNCHRONOUS_EVENT_REQUEST (R53). -/
def execAsynchronousEventRequest (slot : SlotNo) (s : State) : Host.Outcome State Fault Refusal :=
  .next (opAsyncEventRequest slot s)

/-- NAMESPACE_MANAGEMENT (R322). -/
def execNamespaceManagement (slot : SlotNo) (s : State) : Host.Outcome State Fault Refusal :=
  .next (opNamespaceManagement slot s)

/-- NAMESPACE_ATTACHMENT (R54). -/
def execNamespaceAttachment (slot : SlotNo) (s : State) : Host.Outcome State Fault Refusal :=
  .next (opNamespaceAttachment slot s)

/-- KEEP_ALIVE (R54). -/
def execKeepAlive (slot : SlotNo) (s : State) : Host.Outcome State Fault Refusal :=
  .next (opKeepAlive slot s)

/-- DELETE_IO_SQ (R68). -/
def execDeleteIoSq (slot : SlotNo) (s : State) : Host.Outcome State Fault Refusal :=
  .next (opDeleteIoSq slot s)

/-- CREATE_IO_SQ (R53). -/
def execCreateIoSq (slot : SlotNo) (s : State) : Host.Outcome State Fault Refusal :=
  .next (opCreateIoSq slot s)

/-- DELETE_IO_CQ (R53). -/
def execDeleteIoCq (slot : SlotNo) (s : State) : Host.Outcome State Fault Refusal :=
  .next (opDeleteIoCq slot s)

/-- CREATE_IO_CQ (R53). -/
def execCreateIoCq (slot : SlotNo) (s : State) : Host.Outcome State Fault Refusal :=
  .next (opCreateIoCq slot s)

/-- CONNECT (R53). -/
def execConnect (cntlid qid sqsize conn : Nat) (s : State) : Host.Outcome State Fault Refusal :=
  .next (opConnect cntlid qid sqsize conn s)

/-- PROPERTY_GET (R54). -/
def execPropertyGet (slot : SlotNo) (s : State) : Host.Outcome State Fault Refusal :=
  .next (opPropertyGet slot s)

/-- PROPERTY_SET (R54). -/
def execPropertySet (slot : SlotNo) (s : State) : Host.Outcome State Fault Refusal :=
  .next (opPropertySet slot s)

/-- DISCONNECT (R68). -/
def execDisconnect (slot : SlotNo) (s : State) : Host.Outcome State Fault Refusal :=
  .next (opDisconnect slot s)

/-- STAGE (R60). -/
def execStage (slot : SlotNo) (s : State) : Host.Outcome State Fault Refusal :=
  .next (opStage slot s)

/-- STAGE_TIMEOUT (R62). -/
def execStageTimeout (id : CmdId) (s : State) : Host.Outcome State Fault Refusal :=
  .next (opStageTimeout id s)

/-- STAGE_HOLD_EXPIRY (R60). -/
def execStageHoldExpiry (shelf : Fin 8) (s : State) : Host.Outcome State Fault Refusal :=
  .next (opStageHoldExpiry shelf s)

/-- SHELF_CONTROL_REPORT (R266). -/
def execShelfControlReport (slot : SlotNo) (s : State) : Host.Outcome State Fault Refusal :=
  .next (opShelfReport slot s)

/-- SHELF_CONTROL_WAKE (R266). -/
def execShelfControlWake (slot : SlotNo) (s : State) : Host.Outcome State Fault Refusal :=
  .next (opShelfWake slot s)

/-- SHELF_CONTROL_RELEASE (R266). -/
def execShelfControlRelease (slot : SlotNo) (s : State) : Host.Outcome State Fault Refusal :=
  .next (opShelfControlRelease slot s)

/-- SHELF_CONTROL_PIN (R266). -/
def execShelfControlPin (slot : SlotNo) (s : State) : Host.Outcome State Fault Refusal :=
  .next (opShelfPin slot s)

/-- SHELF_CONTROL_UNPIN (R266). -/
def execShelfControlUnpin (slot : SlotNo) (s : State) : Host.Outcome State Fault Refusal :=
  .next (opShelfUnpin slot s)

/-- EVENT_RECORDER_READ (R413). -/
def execEventRecorderRead (slot : SlotNo) (s : State) : Host.Outcome State Fault Refusal :=
  .next (opEventRecorderRead slot s)

/-- OWNERSHIP_HANDOVER (R351). -/
def execOwnershipHandover (slot : SlotNo) (s : State) : Host.Outcome State Fault Refusal :=
  .next (opOwnershipHandover slot s)

/-- BUFFER_RETRY (R545). -/
def execBufferRetry (d : Bool) (s : State) : Host.Outcome State Fault Refusal :=
  .next (settleRep (arSettle (if d then retryWrites (retryHeld s) else retryR2t (retryHeld s))))

end Sys2Proof.Machine
end

