-- ==== Sys2Proof/Machine/ExecPair.lean ====
section
/-! DEFINITION. The partner link, the mirror, heartbeat, fence and rejoin; power states, supplies, clocks and reset; firmware and key transport. One definition per command: its effect on the state, which is always a next state. -/

namespace Sys2Proof.Machine

open Sys2Proof

/-- FIRMWARE_IMAGE_DOWNLOAD (R461). -/
def execFirmwareImageDownload (slot : SlotNo) (s : State) : Host.Outcome State Fault Refusal :=
  .next (opDownload slot s)

/-- COMMIT_ACTION_000 (R461). -/
def execCommitAction000 (slot : SlotNo) (s : State) : Host.Outcome State Fault Refusal :=
  .next (opCommit000 slot s)

/-- COMMIT_ACTION_001 (R461). -/
def execCommitAction001 (slot : SlotNo) (s : State) : Host.Outcome State Fault Refusal :=
  .next (opCommit001 slot s)

/-- COMMIT_ACTION_010 (R461). -/
def execCommitAction010 (slot : SlotNo) (s : State) : Host.Outcome State Fault Refusal :=
  .next (opCommit010 slot s)

/-- COMMIT_ACTION_011 (R69). -/
def execCommitAction011 (slot : SlotNo) (s : State) : Host.Outcome State Fault Refusal :=
  .next (opCommit011 slot s)

/-- ATTESTATION_REPORT (R449). -/
def execAttestationReport (slot : SlotNo) (s : State) : Host.Outcome State Fault Refusal :=
  .next (opAttestationReport slot s)

/-- KEY_QUERY (R452). -/
def execKeyQuery (m : KeyMsg) (s : State) : Host.Outcome State Fault Refusal :=
  .next (opKeyQuery m s)

/-- KEY_CERTS (R452). -/
def execKeyCerts (m : KeyMsg) (s : State) : Host.Outcome State Fault Refusal :=
  .next (opKeyCerts m s)

/-- KEY_OFFER (R452). -/
def execKeyOffer (m : KeyMsg) (s : State) : Host.Outcome State Fault Refusal :=
  .next (opKeyOffer m s)

/-- KEY_ACCEPT (R452). -/
def execKeyAccept (m : KeyMsg) (s : State) : Host.Outcome State Fault Refusal :=
  .next (settleKeys (opKeyAccept m s))

/-- RECORD (R332). -/
def execRecord (s : State) : Host.Outcome State Fault Refusal :=
  .next (opRecordJob s)

/-- BARRIER (R332). -/
def execBarrier (s : State) : Host.Outcome State Fault Refusal :=
  .next (opBarrier s)

/-- EPOCH (R333). -/
def execEpoch (m : EpochMsg) (s : State) : Host.Outcome State Fault Refusal :=
  .next (opEpoch m s)

/-- REPLY (R334). -/
def execReply (m : ReplyMsg) (s : State) : Host.Outcome State Fault Refusal :=
  .next (opReply m s)

/-- RESEND_ROUND_TIMEOUT (R328). -/
def execResendRoundTimeout (s : State) : Host.Outcome State Fault Refusal :=
  .next (opRoundTimeout s)

/-- REPLY_LOST (R328). -/
def execReplyLost (epoch : Nat) (s : State) : Host.Outcome State Fault Refusal :=
  .next (opReplyLost epoch s)

/-- CPL_FORWARD (R336). -/
def execCplForward (epoch index : Nat) (s : State) : Host.Outcome State Fault Refusal :=
  .next (opCplForward epoch index s)

/-- HEALTH (R354). -/
def execHealth (w : HealthWord) (s : State) : Host.Outcome State Fault Refusal :=
  .next (opHealth w s)

/-- HEALTH_SEND (R354). -/
def execHealthSend (s : State) : Host.Outcome State Fault Refusal :=
  .next (opHealthSend s)

/-- PARTNER_HEALTH_LOST (R354). -/
def execPartnerHealthLost (s : State) : Host.Outcome State Fault Refusal :=
  .next (opHealthLost s)

/-- IDLE (R341). -/
def execIdle (s : State) : Host.Outcome State Fault Refusal :=
  .next (opIdle s)

/-- TEST (R353). -/
def execTest (lane : Fin 8) (returned : Bool) (same : Bool) (s : State) : Host.Outcome State Fault Refusal :=
  .next (opTest lane returned same s)

/-- TEST_SEND (R353). -/
def execTestSend (s : State) : Host.Outcome State Fault Refusal :=
  .next (opTestSend s)

/-- POWER (R329). -/
def execPower (target agree : Nat) (s : State) : Host.Outcome State Fault Refusal :=
  .next (opPower target agree s)

/-- STATE_COPY (R356). -/
def execStateCopy (m : CopyMsg) (s : State) : Host.Outcome State Fault Refusal :=
  .next (opStateCopy m s)

/-- STATE_COPY_DONE (R356). -/
def execStateCopyDone (s : State) : Host.Outcome State Fault Refusal :=
  .next (opStateCopyDone s)

/-- LANE_RETRAIN (R341). -/
def execLaneRetrain (lane : Fin 8) (pass : Bool) (s : State) : Host.Outcome State Fault Refusal :=
  .next (opLaneRetrain lane pass s)

/-- PARTNER_LINK_LOST (R341). -/
def execPartnerLinkLost (s : State) : Host.Outcome State Fault Refusal :=
  .next (opLinkLost s)

/-- SEND_PAUSE_END (R341). -/
def execSendPauseEnd (s : State) : Host.Outcome State Fault Refusal :=
  .next (opSendPauseEnd s)

/-- PARTNER_LINK_UP (R340). -/
def execPartnerLinkUp (lanes : BitVec 8) (mpvMin mpvMax : Nat) (partnerSlot : Bool) (periodNs : Nat) (s : State) : Host.Outcome State Fault Refusal :=
  .next (opLinkUp lanes mpvMin mpvMax partnerSlot periodNs s)

/-- WDOG_TRIP (R342). -/
def execWdogTrip (s : State) : Host.Outcome State Fault Refusal :=
  .next (opWdogTrip s)

/-- ARMED (R343). -/
def execArmed (s : State) : Host.Outcome State Fault Refusal :=
  .next (opArmed s)

/-- HB_LOST (R343). -/
def execHbLost (s : State) : Host.Outcome State Fault Refusal :=
  .next (opHbLost s)

/-- PWRGOOD_LOST (R343). -/
def execPwrgoodLost (s : State) : Host.Outcome State Fault Refusal :=
  .next (opPwrgoodLost s)

/-- FENCE_IN (R346). -/
def execFenceIn (conflict : Bool) (s : State) : Host.Outcome State Fault Refusal :=
  .next (opFenceIn conflict s)

/-- FENCED (R346). -/
def execFenced (s : State) : Host.Outcome State Fault Refusal :=
  .next (opFenced s)

/-- EGRESS_DISCARD (R346). -/
def execEgressDiscard (s : State) : Host.Outcome State Fault Refusal :=
  .next (opEgressDiscard s)

/-- FENCE_IN_FALL (R346). -/
def execFenceInFall (s : State) : Host.Outcome State Fault Refusal :=
  .next (opFenceInFall s)

/-- FENCE_DONE (R347). -/
def execFenceDone (s : State) : Host.Outcome State Fault Refusal :=
  .next (opFenceDone s)

/-- WIRE_TEST_END (R356). -/
def execWireTestEnd (joinerOk : Bool) (s : State) : Host.Outcome State Fault Refusal :=
  .next (opWireTestEnd joinerOk s)

/-- START_ALONE (R355). -/
def execStartAlone (s : State) : Host.Outcome State Fault Refusal :=
  .next (opStartAlone s)

/-- HB_IN_EDGE (R343). -/
def execHbInEdge (s : State) : Host.Outcome State Fault Refusal :=
  .next (opHbInEdge s)

/-- RETAIN_PROPOSE (R431). -/
def execRetainPropose (agree _alarm : Nat) (s : State) : Host.Outcome State Fault Refusal :=
  .next (opRetainPropose agree s)

/-- AGREE (R431). -/
def execAgree (agree : Nat) (s : State) : Host.Outcome State Fault Refusal :=
  .next (opAgree agree s)

/-- REFUSE (R431). -/
def execRefuse (agree _id : Nat) (s : State) : Host.Outcome State Fault Refusal :=
  .next (opRefuse agree s)

/-- POWER_AGREE_TIMEOUT (R432). -/
def execPowerAgreeTimeout (s : State) : Host.Outcome State Fault Refusal :=
  .next (opPowerTimeout s)

/-- SMBUS_MATCH (R435). -/
def execSmbusMatch (addr : BitVec 7) (s : State) : Host.Outcome State Fault Refusal :=
  .next (opSmbusMatch addr s)

/-- GPIO_WAKE (R510). -/
def execGpioWake (n : Fin 8) (s : State) : Host.Outcome State Fault Refusal :=
  .next (opGpioWake n s)

/-- HEARTBEAT_WAKE (R434). -/
def execHeartbeatWake (s : State) : Host.Outcome State Fault Refusal :=
  .next (opHeartbeatWake s)

/-- HB_IN_ABSENT (R437). -/
def execHbInAbsent (s : State) : Host.Outcome State Fault Refusal :=
  .next (opHbInAbsent s)

/-- PARTNER_LINK_NOT_UP (R437). -/
def execPartnerLinkNotUp (s : State) : Host.Outcome State Fault Refusal :=
  .next (opLinkNotUp s)

/-- CLOCK_GATE (R426). -/
def execClockGate (island : Fin 19) (s : State) : Host.Outcome State Fault Refusal :=
  .next (opClockGate island s)

/-- POWER_GATE (R426). -/
def execPowerGate (island : Fin 19) (s : State) : Host.Outcome State Fault Refusal :=
  .next (opPowerGate island s)

/-- LEVEL_CHANGE_DONE (R423). -/
def execLevelChangeDone (n : Fin 16) (s : State) : Host.Outcome State Fault Refusal :=
  .next (opLevelDone n s)

/-- THERMAL_SAMPLE (R525). -/
def execThermalSample (temps : List Int) (heldBelow : Nat) (s : State) : Host.Outcome State Fault Refusal :=
  .next (opThermalSample temps heldBelow s)

/-- THERMAL_TRIP (R526). -/
def execThermalTrip (s : State) : Host.Outcome State Fault Refusal :=
  .next (opThermalTrip s)

/-- SHELF_ALERT (R264). -/
def execShelfAlert (shelf : Fin 8) (level : Bool) (s : State) : Host.Outcome State Fault Refusal :=
  .next (opShelfAlert shelf level s)

/-- ALARM (R267). -/
def execAlarm (s : State) : Host.Outcome State Fault Refusal :=
  .next (opAlarm s)

/-- MESH_STALL (R16). -/
def execMeshStall (island : Fin 19) (s : State) : Host.Outcome State Fault Refusal :=
  .next (opMeshStall island s)

/-- PORN (R480). -/
def execPorn (p : PowerOn) (s : State) : Host.Outcome State Fault Refusal :=
  .next (opPorn p s)

/-- RSTN (R479). -/
def execRstn (s : State) : Host.Outcome State Fault Refusal :=
  .next (warmReset F.CHIP_RESET_CAUSE_WARM_PIN s)

/-- TRSTN (R479). -/
def execTrstn (s : State) : Host.Outcome State Fault Refusal :=
  .next (opTrstn s)

/-- BROWNOUT (R475). -/
def execBrownout (rail : Fin 3) (s : State) : Host.Outcome State Fault Refusal :=
  .next (opBrownout rail s)

/-- SRAM_DROP (R475). -/
def execSramDrop (s : State) : Host.Outcome State Fault Refusal :=
  .next (opSramDrop s)

/-- REFCLK_LOST (R478). -/
def execRefclkLost (s : State) : Host.Outcome State Fault Refusal :=
  .next (opRefclkLost s)

/-- REFCLK_RETURN (R478). -/
def execRefclkReturn (s : State) : Host.Outcome State Fault Refusal :=
  .next (opRefclkReturn s)

/-- PLL_LOCK_LOST (R477). -/
def execPllLockLost (n : Fin 16) (s : State) : Host.Outcome State Fault Refusal :=
  .next (opPllLost n s)

/-- PLL_RELOCK_RETRY (R477). -/
def execPllRelockRetry (n : Fin 16) (ok : Bool) (s : State) : Host.Outcome State Fault Refusal :=
  .next (opPllRetry n ok s)

/-- AVS_FAULT (R472). -/
def execAvsFault (s : State) : Host.Outcome State Fault Refusal :=
  .next (opAvsFault s)

/-- AVS_RETRY (R472). -/
def execAvsRetry (answered : Bool) (s : State) : Host.Outcome State Fault Refusal :=
  .next (opAvsRetry answered s)

/-- INIT_DONE (R483). -/
def execInitDone (s : State) : Host.Outcome State Fault Refusal :=
  .next (opInitDone s)

/-- POWER_FAIL (R487). -/
def execPowerFail (partnerFailing : Bool) (s : State) : Host.Outcome State Fault Refusal :=
  .next (opPowerFail partnerFailing s)

/-- VAULT_DESTAGE_DONE (R488). -/
def execVaultDestageDone (s : State) : Host.Outcome State Fault Refusal :=
  .next (opDestageDone s)

/-- PWR_RESTORE (R489). -/
def execPwrRestore (s : State) : Host.Outcome State Fault Refusal :=
  .next (opPwrRestore s)

/-- PATROL_SCRUB (R484). -/
def execPatrolScrub (addr : Nat) (ch : Fin 8) (row : Nat) (uncorr : Bool) (s : State) : Host.Outcome State Fault Refusal :=
  .next (opPatrol addr ch row uncorr s)

/-- DRAM_TRAINING_COMPLETE (R482). -/
def execDramTrainingComplete (trained failed : BitVec 8) (speed : Nat) (gib : Nat) (s : State) : Host.Outcome State Fault Refusal :=
  .next (opTrained trained failed speed gib s)

/-- STRAINER_REBUILD_DONE (R175). -/
def execStrainerRebuildDone (s : State) : Host.Outcome State Fault Refusal :=
  .next (opStrainerDone s)

/-- RTC_HOURLY_RECORD (R493). -/
def execRtcHourlyRecord (s : State) : Host.Outcome State Fault Refusal :=
  .next (advanceSvn (opRtcHourly s))

end Sys2Proof.Machine
end

