-- ==== Sys2Proof/Machine/ExecRep.lean ====
section
/-! DEFINITION. Snapshots and replication. One definition per command: its effect on the state, which is always a next state. -/

namespace Sys2Proof.Machine

open Sys2Proof

/-- SNAPSHOT_CREATE (R300). -/
def execSnapshotCreate (slot : SlotNo) (s : State) : Host.Outcome State Fault Refusal :=
  .next (opSnapshotCreate slot s)

/-- SNAPSHOT_DELETE (R305). -/
def execSnapshotDelete (slot : SlotNo) (s : State) : Host.Outcome State Fault Refusal :=
  .next (opSnapshotDelete slot s)

/-- SNAPSHOT_SWEEP (R305). -/
def execSnapshotSweep (snapid : Nat) (s : State) : Host.Outcome State Fault Refusal :=
  .next (opSnapshotSweep snapid s)

/-- REPLICATE_START (R310). -/
def execReplicateStart (slot : SlotNo) (s : State) : Host.Outcome State Fault Refusal :=
  .next (opReplicateStart slot s)

/-- REPLICATE_PAUSE (R310). -/
def execReplicatePause (slot : SlotNo) (s : State) : Host.Outcome State Fault Refusal :=
  .next (opReplicatePause slot s)

/-- REPLICATE_RESUME (R310). -/
def execReplicateResume (slot : SlotNo) (s : State) : Host.Outcome State Fault Refusal :=
  .next (opReplicateResume slot s)

/-- REPLICATE_CANCEL (R310). -/
def execReplicateCancel (slot : SlotNo) (s : State) : Host.Outcome State Fault Refusal :=
  .next (opReplicateCancel slot s)

/-- REPLICATE_STATUS (R321). -/
def execReplicateStatus (slot : SlotNo) (s : State) : Host.Outcome State Fault Refusal :=
  .next (opReplicateStatus slot s)

/-- REP_SCHEDULE (R309). -/
def execRepSchedule (nsid : Nat) (choice : Option (Nat × Nat)) (s : State) : Host.Outcome State Fault Refusal :=
  .next (opRepSchedule nsid choice s)

/-- REP_OPEN (R313). -/
def execRepOpen (m : RepMsg) (s : State) : Host.Outcome State Fault Refusal :=
  .next (routeRep 0x10 m s)

/-- REP_OPEN_REPLY (R312). -/
def execRepOpenReply (m : RepMsg) (s : State) : Host.Outcome State Fault Refusal :=
  .next (opRepOpenReply m s)

/-- REP_OPEN_RETRY (R311). -/
def execRepOpenRetry (session : Nat) (s : State) : Host.Outcome State Fault Refusal :=
  .next (opRepOpenRetry session s)

/-- REP_FPS (R314). -/
def execRepFps (m : RepMsg) (s : State) : Host.Outcome State Fault Refusal :=
  .next (settleLost (routeRep 0x12 m s))

/-- REP_NEED (R315). -/
def execRepNeed (m : RepMsg) (s : State) : Host.Outcome State Fault Refusal :=
  .next (settleLost (opRepNeed m s))

/-- REP_DATA (R315). -/
def execRepData (m : RepMsg) (s : State) : Host.Outcome State Fault Refusal :=
  .next (routeRep 0x14 m s)

/-- REP_BATCH_ACK (R316). -/
def execRepBatchAck (m : RepMsg) (s : State) : Host.Outcome State Fault Refusal :=
  .next (opRepBatchAck m s)

/-- REP_CHECKPOINT (R318). -/
def execRepCheckpoint (s : State) : Host.Outcome State Fault Refusal :=
  .next (opRepCheckpoint s)

/-- REP_COMMIT (R317). -/
def execRepCommit (m : RepMsg) (s : State) : Host.Outcome State Fault Refusal :=
  .next (routeRep 0x16 m s)

/-- REP_COMMIT_REPLY (R311). -/
def execRepCommitReply (m : RepMsg) (s : State) : Host.Outcome State Fault Refusal :=
  .next (opRepCommitReply m s)

/-- REP_CLOSE (R311). -/
def execRepClose (m : RepMsg) (s : State) : Host.Outcome State Fault Refusal :=
  .next (opRepClose m s)

/-- REP_FETCH (R320). -/
def execRepFetch (m : RepMsg) (s : State) : Host.Outcome State Fault Refusal :=
  .next (settleLost (opRepFetch m s))

/-- REP_FETCH_REPLY (R320). -/
def execRepFetchReply (m : RepMsg) (s : State) : Host.Outcome State Fault Refusal :=
  .next (arSettle (opRepFetchReply m s))

end Sys2Proof.Machine
end

