-- ==== Sys2Proof/Machine/Dispatch.lean ====
section
/-! DEFINITION. exec: one arm per command. -/

namespace Sys2Proof.Machine

open Sys2Proof

/-- A command's effect on everything but the queue. -/
def exec (i : Instr) (s : State) : Host.Outcome State Fault Refusal :=
  match i with
  | .registerWrite who addr v => Sys2Proof.Machine.execRegisterWrite who addr v s
  | .meshStall island => Sys2Proof.Machine.execMeshStall island s
  | .add c d a b => Sys2Proof.Machine.execAdd c d a b s
  | .sub c d a b => Sys2Proof.Machine.execSub c d a b s
  | .and c d a b => Sys2Proof.Machine.execAnd c d a b s
  | .or c d a b => Sys2Proof.Machine.execOr c d a b s
  | .xor c d a b => Sys2Proof.Machine.execXor c d a b s
  | .sll c d a b => Sys2Proof.Machine.execSll c d a b s
  | .srl c d a b => Sys2Proof.Machine.execSrl c d a b s
  | .sra c d a b => Sys2Proof.Machine.execSra c d a b s
  | .slt c d a b => Sys2Proof.Machine.execSlt c d a b s
  | .sltu c d a b => Sys2Proof.Machine.execSltu c d a b s
  | .mul c d a b => Sys2Proof.Machine.execMul c d a b s
  | .mulhu c d a b => Sys2Proof.Machine.execMulhu c d a b s
  | .div c d a b => Sys2Proof.Machine.execDiv c d a b s
  | .divu c d a b => Sys2Proof.Machine.execDivu c d a b s
  | .rem c d a b => Sys2Proof.Machine.execRem c d a b s
  | .remu c d a b => Sys2Proof.Machine.execRemu c d a b s
  | .min c d a b => Sys2Proof.Machine.execMin c d a b s
  | .max c d a b => Sys2Proof.Machine.execMax c d a b s
  | .minu c d a b => Sys2Proof.Machine.execMinu c d a b s
  | .maxu c d a b => Sys2Proof.Machine.execMaxu c d a b s
  | .clz c d a b => Sys2Proof.Machine.execClz c d a b s
  | .ctz c d a b => Sys2Proof.Machine.execCtz c d a b s
  | .popc c d a b => Sys2Proof.Machine.execPopc c d a b s
  | .bswap c d a b => Sys2Proof.Machine.execBswap c d a b s
  | .rotr c d a b => Sys2Proof.Machine.execRotr c d a b s
  | .andn c d a b => Sys2Proof.Machine.execAndn c d a b s
  | .addi c d a imm => Sys2Proof.Machine.execAddi c d a imm s
  | .andi c d a imm => Sys2Proof.Machine.execAndi c d a imm s
  | .ori c d a imm => Sys2Proof.Machine.execOri c d a imm s
  | .xori c d a imm => Sys2Proof.Machine.execXori c d a imm s
  | .clti c d a imm => Sys2Proof.Machine.execClti c d a imm s
  | .cltiu c d a imm => Sys2Proof.Machine.execCltiu c d a imm s
  | .slli c d a imm => Sys2Proof.Machine.execSlli c d a imm s
  | .srli c d a imm => Sys2Proof.Machine.execSrli c d a imm s
  | .srai c d a imm => Sys2Proof.Machine.execSrai c d a imm s
  | .lmi c d a imm => Sys2Proof.Machine.execLmi c d a imm s
  | .lhi c d a imm => Sys2Proof.Machine.execLhi c d a imm s
  | .lxi c d a imm => Sys2Proof.Machine.execLxi c d a imm s
  | .lb c d a imm => Sys2Proof.Machine.execLb c d a imm s
  | .lbu c d a imm => Sys2Proof.Machine.execLbu c d a imm s
  | .lh c d a imm => Sys2Proof.Machine.execLh c d a imm s
  | .lhu c d a imm => Sys2Proof.Machine.execLhu c d a imm s
  | .lw c d a imm => Sys2Proof.Machine.execLw c d a imm s
  | .lwu c d a imm => Sys2Proof.Machine.execLwu c d a imm s
  | .ld c d a imm => Sys2Proof.Machine.execLd c d a imm s
  | .sb c d a imm => Sys2Proof.Machine.execSb c d a imm s
  | .sh c d a imm => Sys2Proof.Machine.execSh c d a imm s
  | .sw c d a imm => Sys2Proof.Machine.execSw c d a imm s
  | .sd c d a imm => Sys2Proof.Machine.execSd c d a imm s
  | .beq c a b off => Sys2Proof.Machine.execBeq c a b off s
  | .bne c a b off => Sys2Proof.Machine.execBne c a b off s
  | .blt c a b off => Sys2Proof.Machine.execBlt c a b off s
  | .bge c a b off => Sys2Proof.Machine.execBge c a b off s
  | .bltu c a b off => Sys2Proof.Machine.execBltu c a b off s
  | .bgeu c a b off => Sys2Proof.Machine.execBgeu c a b off s
  | .jalr c d a imm => Sys2Proof.Machine.execJalr c d a imm s
  | .j c off => Sys2Proof.Machine.execJ c off s
  | .jal c off => Sys2Proof.Machine.execJal c off s
  | .sync c d a b => Sys2Proof.Machine.execSync c d a b s
  | .syncW c d a b => Sys2Proof.Machine.execSyncW c d a b s
  | .syncR c d a b => Sys2Proof.Machine.execSyncR c d a b s
  | .syncI c d a b => Sys2Proof.Machine.execSyncI c d a b s
  | .mfs c d a b => Sys2Proof.Machine.execMfs c d a b s
  | .mts c d a b => Sys2Proof.Machine.execMts c d a b s
  | .tget c d a b => Sys2Proof.Machine.execTget c d a b s
  | .tdone c d a b => Sys2Proof.Machine.execTdone c d a b s
  | .wtok c d a b => Sys2Proof.Machine.execWtok c d a b s
  | .job c d a b => Sys2Proof.Machine.execJob c d a b s
  | .bget c d a b => Sys2Proof.Machine.execBget c d a b s
  | .bref c d a b => Sys2Proof.Machine.execBref c d a b s
  | .bdrop c d a b => Sys2Proof.Machine.execBdrop c d a b s
  | .send c d a b => Sys2Proof.Machine.execSend c d a b s
  | .waitp c d a b => Sys2Proof.Machine.execWaitp c d a b s
  | .hcall c d a b => Sys2Proof.Machine.execHcall c d a b s
  | .hret c d a b => Sys2Proof.Machine.execHret c d a b s
  | .eret c d a b => Sys2Proof.Machine.execEret c d a b s
  | .svc c d a b => Sys2Proof.Machine.execSvc c d a b s
  | .brk c d a b => Sys2Proof.Machine.execBrk c d a b s
  | .amoSwap c rsv ord w d a b => Sys2Proof.Machine.execAmoSwap c rsv ord w d a b s
  | .amoAdd c rsv ord w d a b => Sys2Proof.Machine.execAmoAdd c rsv ord w d a b s
  | .amoAnd c rsv ord w d a b => Sys2Proof.Machine.execAmoAnd c rsv ord w d a b s
  | .amoOr c rsv ord w d a b => Sys2Proof.Machine.execAmoOr c rsv ord w d a b s
  | .amoXor c rsv ord w d a b => Sys2Proof.Machine.execAmoXor c rsv ord w d a b s
  | .amoMin c rsv ord w d a b => Sys2Proof.Machine.execAmoMin c rsv ord w d a b s
  | .amoMax c rsv ord w d a b => Sys2Proof.Machine.execAmoMax c rsv ord w d a b s
  | .amoMinu c rsv ord w d a b => Sys2Proof.Machine.execAmoMinu c rsv ord w d a b s
  | .amoMaxu c rsv ord w d a b => Sys2Proof.Machine.execAmoMaxu c rsv ord w d a b s
  | .amoCas c rsv ord w d a b => Sys2Proof.Machine.execAmoCas c rsv ord w d a b s
  | .irq c line => Sys2Proof.Machine.execIrq c line s
  | .budget c => Sys2Proof.Machine.execBudget c s
  | .en who n v => Sys2Proof.Machine.execEn who n v s
  | .halt who n v => Sys2Proof.Machine.execHalt who n v s
  | .step who n v => Sys2Proof.Machine.execStep who n v s
  | .retire who n v => Sys2Proof.Machine.execRetire who n v s
  | .dispatchPlace => Sys2Proof.Machine.execDispatchPlace s
  | .taskWatchdog slot => Sys2Proof.Machine.execTaskWatchdog slot s
  | .drain who => Sys2Proof.Machine.execDrain who s
  | .drainTimeout => Sys2Proof.Machine.execDrainTimeout s
  | .cmd m => Sys2Proof.Machine.execCmd m s
  | .landingToken cntlid qid cmdseq ok => Sys2Proof.Machine.execLandingToken cntlid qid cmdseq ok s
  | .controllerReset cntlid => Sys2Proof.Machine.execControllerReset cntlid s
  | .shutdown cntlid => Sys2Proof.Machine.execShutdown cntlid s
  | .disassociate cntlid => Sys2Proof.Machine.execDisassociate cntlid s
  | .flush slot => Sys2Proof.Machine.execFlush slot s
  | .write slot => Sys2Proof.Machine.execWrite slot s
  | .read slot => Sys2Proof.Machine.execRead slot s
  | .writeZeroes slot => Sys2Proof.Machine.execWriteZeroes slot s
  | .datasetManagement slot => Sys2Proof.Machine.execDatasetManagement slot s
  | .getLogPage slot => Sys2Proof.Machine.execGetLogPage slot s
  | .identify slot => Sys2Proof.Machine.execIdentify slot s
  | .abort slot => Sys2Proof.Machine.execAbort slot s
  | .setFeatures slot => Sys2Proof.Machine.execSetFeatures slot s
  | .getFeatures slot => Sys2Proof.Machine.execGetFeatures slot s
  | .asynchronousEventRequest slot => Sys2Proof.Machine.execAsynchronousEventRequest slot s
  | .namespaceManagement slot => Sys2Proof.Machine.execNamespaceManagement slot s
  | .namespaceAttachment slot => Sys2Proof.Machine.execNamespaceAttachment slot s
  | .keepAlive slot => Sys2Proof.Machine.execKeepAlive slot s
  | .firmwareImageDownload slot => Sys2Proof.Machine.execFirmwareImageDownload slot s
  | .commitAction000 slot => Sys2Proof.Machine.execCommitAction000 slot s
  | .commitAction001 slot => Sys2Proof.Machine.execCommitAction001 slot s
  | .commitAction010 slot => Sys2Proof.Machine.execCommitAction010 slot s
  | .commitAction011 slot => Sys2Proof.Machine.execCommitAction011 slot s
  | .deleteIoSq slot => Sys2Proof.Machine.execDeleteIoSq slot s
  | .createIoSq slot => Sys2Proof.Machine.execCreateIoSq slot s
  | .deleteIoCq slot => Sys2Proof.Machine.execDeleteIoCq slot s
  | .createIoCq slot => Sys2Proof.Machine.execCreateIoCq slot s
  | .connect cntlid qid sqsize conn => Sys2Proof.Machine.execConnect cntlid qid sqsize conn s
  | .propertyGet slot => Sys2Proof.Machine.execPropertyGet slot s
  | .propertySet slot => Sys2Proof.Machine.execPropertySet slot s
  | .disconnect slot => Sys2Proof.Machine.execDisconnect slot s
  | .snapshotCreate slot => Sys2Proof.Machine.execSnapshotCreate slot s
  | .snapshotDelete slot => Sys2Proof.Machine.execSnapshotDelete slot s
  | .stage slot => Sys2Proof.Machine.execStage slot s
  | .stageTimeout id => Sys2Proof.Machine.execStageTimeout id s
  | .stageHoldExpiry shelf => Sys2Proof.Machine.execStageHoldExpiry shelf s
  | .replicateStart slot => Sys2Proof.Machine.execReplicateStart slot s
  | .replicatePause slot => Sys2Proof.Machine.execReplicatePause slot s
  | .replicateResume slot => Sys2Proof.Machine.execReplicateResume slot s
  | .replicateCancel slot => Sys2Proof.Machine.execReplicateCancel slot s
  | .replicateStatus slot => Sys2Proof.Machine.execReplicateStatus slot s
  | .shelfControlReport slot => Sys2Proof.Machine.execShelfControlReport slot s
  | .shelfControlWake slot => Sys2Proof.Machine.execShelfControlWake slot s
  | .shelfControlRelease slot => Sys2Proof.Machine.execShelfControlRelease slot s
  | .shelfControlPin slot => Sys2Proof.Machine.execShelfControlPin slot s
  | .shelfControlUnpin slot => Sys2Proof.Machine.execShelfControlUnpin slot s
  | .attestationReport slot => Sys2Proof.Machine.execAttestationReport slot s
  | .eventRecorderRead slot => Sys2Proof.Machine.execEventRecorderRead slot s
  | .ownershipHandover slot => Sys2Proof.Machine.execOwnershipHandover slot s
  | .anRestart p => Sys2Proof.Machine.execAnRestart p s
  | .netLinkChange p up abil rsFec => Sys2Proof.Machine.execNetLinkChange p up abil rsFec s
  | .pauseFrame p => Sys2Proof.Machine.execPauseFrame p s
  | .frameDrop p len tag => Sys2Proof.Machine.execFrameDrop p len tag s
  | .sEn who => Sys2Proof.Machine.execSEn who s
  | .dEn who => Sys2Proof.Machine.execDEn who s
  | .dRebuildDone => Sys2Proof.Machine.execDRebuildDone s
  | .lwReset who set cls => Sys2Proof.Machine.execLwReset who set cls s
  | .bufferRetry d => Sys2Proof.Machine.execBufferRetry d s
  | .copy u => Sys2Proof.Machine.execCopy u s
  | .fill u => Sys2Proof.Machine.execFill u s
  | .compare u => Sys2Proof.Machine.execCompare u s
  | .cut u => Sys2Proof.Machine.execCut u s
  | .fpList u => Sys2Proof.Machine.execFpList u s
  | .check u => Sys2Proof.Machine.execCheck u s
  | .hash u => Sys2Proof.Machine.execHash u s
  | .ingChunkCfgWrite who v => Sys2Proof.Machine.execIngChunkCfgWrite who v s
  | .ingKat u out => Sys2Proof.Machine.execIngKat u out s
  | .runNow who failing => Sys2Proof.Machine.execRunNow who failing s
  | .confirm q => Sys2Proof.Machine.execConfirm q s
  | .confirmRetry q => Sys2Proof.Machine.execConfirmRetry q s
  | .dirProbe m => Sys2Proof.Machine.execDirProbe m s
  | .dirProbeTimeout fp kd => Sys2Proof.Machine.execDirProbeTimeout fp kd s
  | .dirReply m => Sys2Proof.Machine.execDirReply m s
  | .dirDrop m => Sys2Proof.Machine.execDirDrop m s
  | .import_ m => Sys2Proof.Machine.execImport_ m s
  | .importReply m => Sys2Proof.Machine.execImportReply m s
  | .importTimeout serial => Sys2Proof.Machine.execImportTimeout serial s
  | .release m => Sys2Proof.Machine.execRelease m s
  | .releaseReply m => Sys2Proof.Machine.execReleaseReply m s
  | .releaseResend serial => Sys2Proof.Machine.execReleaseResend serial s
  | .fetch m => Sys2Proof.Machine.execFetch m s
  | .evict m => Sys2Proof.Machine.execEvict m s
  | .compress u verifyBad => Sys2Proof.Machine.execCompress u verifyBad s
  | .decompress u => Sys2Proof.Machine.execDecompress u s
  | .gcmSeal u twin => Sys2Proof.Machine.execGcmSeal u twin s
  | .gcmOpen u twin => Sys2Proof.Machine.execGcmOpen u twin s
  | .xtsEnc u twin => Sys2Proof.Machine.execXtsEnc u twin s
  | .xtsDec u twin => Sys2Proof.Machine.execXtsDec u twin s
  | .cbcEnc u twin => Sys2Proof.Machine.execCbcEnc u twin s
  | .cbcDec u twin => Sys2Proof.Machine.execCbcDec u twin s
  | .cfbEnc u twin => Sys2Proof.Machine.execCfbEnc u twin s
  | .cfbDec u twin => Sys2Proof.Machine.execCfbDec u twin s
  | .ctr u twin => Sys2Proof.Machine.execCtr u twin s
  | .cmpKat u out => Sys2Proof.Machine.execCmpKat u out s
  | .cipKat u fail => Sys2Proof.Machine.execCipKat u fail s
  | .katRunNow who failing => Sys2Proof.Machine.execKatRunNow who failing s
  | .cipKatRunNow who failing => Sys2Proof.Machine.execCipKatRunNow who failing s
  | .load who typ slot addr => Sys2Proof.Machine.execLoad who typ slot addr s
  | .generate who typ slot addr => Sys2Proof.Machine.execGenerate who typ slot addr s
  | .zeroize who slot => Sys2Proof.Machine.execZeroize who slot s
  | .query who typ slot addr => Sys2Proof.Machine.execQuery who typ slot addr s
  | .zeroizeAll who => Sys2Proof.Machine.execZeroizeAll who s
  | .nonceLimitSet who v => Sys2Proof.Machine.execNonceLimitSet who v s
  | .pqOpen => Sys2Proof.Machine.execPqOpen s
  | .pqAdd => Sys2Proof.Machine.execPqAdd s
  | .pqEmit => Sys2Proof.Machine.execPqEmit s
  | .pqCheck => Sys2Proof.Machine.execPqCheck s
  | .recon => Sys2Proof.Machine.execRecon s
  | .pqFree => Sys2Proof.Machine.execPqFree s
  | .parKat fail => Sys2Proof.Machine.execParKat fail s
  | .parKatRunNow who fail => Sys2Proof.Machine.execParKatRunNow who fail s
  | .nvmeRead drive r => Sys2Proof.Machine.execNvmeRead drive r s
  | .append drive r => Sys2Proof.Machine.execAppend drive r s
  | .nvmeWrite drive r => Sys2Proof.Machine.execNvmeWrite drive r s
  | .zoneClose drive r => Sys2Proof.Machine.execZoneClose drive r s
  | .zoneFinish drive r => Sys2Proof.Machine.execZoneFinish drive r s
  | .zoneOpen drive r => Sys2Proof.Machine.execZoneOpen drive r s
  | .zoneReset drive r => Sys2Proof.Machine.execZoneReset drive r s
  | .zoneReport drive r => Sys2Proof.Machine.execZoneReport drive r s
  | .nvmeAdmin drive r => Sys2Proof.Machine.execNvmeAdmin drive r s
  | .cmdTimeout drive => Sys2Proof.Machine.execCmdTimeout drive s
  | .driveRemoved drive both => Sys2Proof.Machine.execDriveRemoved drive both s
  | .steepMax group cls => Sys2Proof.Machine.execSteepMax group cls s
  | .pour stripe => Sys2Proof.Machine.execPour stripe s
  | .commit stripe => Sys2Proof.Machine.execCommit stripe s
  | .dirtyRelease wseq => Sys2Proof.Machine.execDirtyRelease wseq s
  | .gc shelf => Sys2Proof.Machine.execGc shelf s
  | .zoneSetReclaim zs => Sys2Proof.Machine.execZoneSetReclaim zs s
  | .nextWriteShelf storedRate => Sys2Proof.Machine.execNextWriteShelf storedRate s
  | .shelfWakeGrant => Sys2Proof.Machine.execShelfWakeGrant s
  | .minOff shelf => Sys2Proof.Machine.execMinOff shelf s
  | .shelfPgAssert shelf => Sys2Proof.Machine.execShelfPgAssert shelf s
  | .shelfPgTimeout shelf => Sys2Proof.Machine.execShelfPgTimeout shelf s
  | .shelfLinked shelf => Sys2Proof.Machine.execShelfLinked shelf s
  | .shelfReadyTimeout shelf notReady => Sys2Proof.Machine.execShelfReadyTimeout shelf notReady s
  | .shelfRelease shelf => Sys2Proof.Machine.execShelfRelease shelf s
  | .drainReport shelf head => Sys2Proof.Machine.execDrainReport shelf head s
  | .plannedDownReport shelf head => Sys2Proof.Machine.execPlannedDownReport shelf head s
  | .shelfPgDeassert shelf => Sys2Proof.Machine.execShelfPgDeassert shelf s
  | .shelfPgStuck shelf => Sys2Proof.Machine.execShelfPgStuck shelf s
  | .shelfPgLost shelf => Sys2Proof.Machine.execShelfPgLost shelf s
  | .shelfFaultRetry shelf => Sys2Proof.Machine.execShelfFaultRetry shelf s
  | .present who mask => Sys2Proof.Machine.execPresent who mask s
  | .shelfAlert shelf level => Sys2Proof.Machine.execShelfAlert shelf level s
  | .alarm => Sys2Proof.Machine.execAlarm s
  | .clkAlarm who v => Sys2Proof.Machine.execClkAlarm who v s
  | .pciLinkPlanned n => Sys2Proof.Machine.execPciLinkPlanned n s
  | .pciLinkLost n => Sys2Proof.Machine.execPciLinkLost n s
  | .pciRetrainRetry n => Sys2Proof.Machine.execPciRetrainRetry n s
  | .pciLinkStable n => Sys2Proof.Machine.execPciLinkStable n s
  | .pciLinkUp n gen lanes => Sys2Proof.Machine.execPciLinkUp n gen lanes s
  | .perstRelease n => Sys2Proof.Machine.execPerstRelease n s
  | .smartPoll drive warning => Sys2Proof.Machine.execSmartPoll drive warning s
  | .notReadyTimeout drive => Sys2Proof.Machine.execNotReadyTimeout drive s
  | .unreachableTimeout drive => Sys2Proof.Machine.execUnreachableTimeout drive s
  | .memberReport drive r => Sys2Proof.Machine.execMemberReport drive r s
  | .zoneSetSwitch zs => Sys2Proof.Machine.execZoneSetSwitch zs s
  | .rebuildCheckpoint => Sys2Proof.Machine.execRebuildCheckpoint s
  | .driveInserted drive info => Sys2Proof.Machine.execDriveInserted drive info s
  | .scrub zs row r => Sys2Proof.Machine.execScrub zs row r s
  | .scrubCheckpoint => Sys2Proof.Machine.execScrubCheckpoint s
  | .snapshotSweep snapid => Sys2Proof.Machine.execSnapshotSweep snapid s
  | .repSchedule nsid choice => Sys2Proof.Machine.execRepSchedule nsid choice s
  | .repOpen m => Sys2Proof.Machine.execRepOpen m s
  | .repOpenReply m => Sys2Proof.Machine.execRepOpenReply m s
  | .repOpenRetry session => Sys2Proof.Machine.execRepOpenRetry session s
  | .repFps m => Sys2Proof.Machine.execRepFps m s
  | .repNeed m => Sys2Proof.Machine.execRepNeed m s
  | .repData m => Sys2Proof.Machine.execRepData m s
  | .repBatchAck m => Sys2Proof.Machine.execRepBatchAck m s
  | .repCheckpoint => Sys2Proof.Machine.execRepCheckpoint s
  | .repCommit m => Sys2Proof.Machine.execRepCommit m s
  | .repCommitReply m => Sys2Proof.Machine.execRepCommitReply m s
  | .repClose m => Sys2Proof.Machine.execRepClose m s
  | .repFetch m => Sys2Proof.Machine.execRepFetch m s
  | .repFetchReply m => Sys2Proof.Machine.execRepFetchReply m s
  | .epochClose => Sys2Proof.Machine.execEpochClose s
  | .record => Sys2Proof.Machine.execRecord s
  | .barrier => Sys2Proof.Machine.execBarrier s
  | .epoch m => Sys2Proof.Machine.execEpoch m s
  | .reply m => Sys2Proof.Machine.execReply m s
  | .resendRoundTimeout => Sys2Proof.Machine.execResendRoundTimeout s
  | .replyLost epoch => Sys2Proof.Machine.execReplyLost epoch s
  | .cplForward epoch index => Sys2Proof.Machine.execCplForward epoch index s
  | .health w => Sys2Proof.Machine.execHealth w s
  | .healthSend => Sys2Proof.Machine.execHealthSend s
  | .partnerHealthLost => Sys2Proof.Machine.execPartnerHealthLost s
  | .idle => Sys2Proof.Machine.execIdle s
  | .test lane returned same => Sys2Proof.Machine.execTest lane returned same s
  | .testSend => Sys2Proof.Machine.execTestSend s
  | .loopbackRun who failing => Sys2Proof.Machine.execLoopbackRun who failing s
  | .power target agree => Sys2Proof.Machine.execPower target agree s
  | .stateCopy m => Sys2Proof.Machine.execStateCopy m s
  | .stateCopyDone => Sys2Proof.Machine.execStateCopyDone s
  | .laneRetrain lane pass => Sys2Proof.Machine.execLaneRetrain lane pass s
  | .partnerLinkLost => Sys2Proof.Machine.execPartnerLinkLost s
  | .sendPauseEnd => Sys2Proof.Machine.execSendPauseEnd s
  | .pnlEn who => Sys2Proof.Machine.execPnlEn who s
  | .partnerLinkUp lanes mpvMin mpvMax partnerSlot periodNs => Sys2Proof.Machine.execPartnerLinkUp lanes mpvMin mpvMax partnerSlot periodNs s
  | .hbEn who on => Sys2Proof.Machine.execHbEn who on s
  | .kick who => Sys2Proof.Machine.execKick who s
  | .wdogTrip => Sys2Proof.Machine.execWdogTrip s
  | .armed => Sys2Proof.Machine.execArmed s
  | .hbLost => Sys2Proof.Machine.execHbLost s
  | .pwrgoodLost => Sys2Proof.Machine.execPwrgoodLost s
  | .fenceIn conflict => Sys2Proof.Machine.execFenceIn conflict s
  | .fenced => Sys2Proof.Machine.execFenced s
  | .egressDiscard => Sys2Proof.Machine.execEgressDiscard s
  | .fenceInFall => Sys2Proof.Machine.execFenceInFall s
  | .fenceDone => Sys2Proof.Machine.execFenceDone s
  | .assert who => Sys2Proof.Machine.execAssert who s
  | .fenceRelease who => Sys2Proof.Machine.execFenceRelease who s
  | .pulse who => Sys2Proof.Machine.execPulse who s
  | .selfStop who => Sys2Proof.Machine.execSelfStop who s
  | .wireTest who => Sys2Proof.Machine.execWireTest who s
  | .wireTestEnd joinerOk => Sys2Proof.Machine.execWireTestEnd joinerOk s
  | .startAlone => Sys2Proof.Machine.execStartAlone s
  | .rrnWrite p => Sys2Proof.Machine.execRrnWrite p s
  | .writeNotify p => Sys2Proof.Machine.execWriteNotify p s
  | .readReq p => Sys2Proof.Machine.execReadReq p s
  | .readResp p => Sys2Proof.Machine.execReadResp p s
  | .rrnSend p => Sys2Proof.Machine.execRrnSend p s
  | .atomic p => Sys2Proof.Machine.execAtomic p s
  | .creditReq p => Sys2Proof.Machine.execCreditReq p s
  | .creditGrant p => Sys2Proof.Machine.execCreditGrant p s
  | .ack p => Sys2Proof.Machine.execAck p s
  | .nak p => Sys2Proof.Machine.execNak p s
  | .hello p h => Sys2Proof.Machine.execHello p h s
  | .helloReply p h => Sys2Proof.Machine.execHelloReply p h s
  | .helloRetry node => Sys2Proof.Machine.execHelloRetry node s
  | .helloRefresh => Sys2Proof.Machine.execHelloRefresh s
  | .bindingLapse node => Sys2Proof.Machine.execBindingLapse node s
  | .rto msgId => Sys2Proof.Machine.execRto msgId s
  | .timeout msgId => Sys2Proof.Machine.execTimeout msgId s
  | .leaseExpiry lease => Sys2Proof.Machine.execLeaseExpiry lease s
  | .receiptExpiry src msgId => Sys2Proof.Machine.execReceiptExpiry src msgId s
  | .ctxIdle src msgId => Sys2Proof.Machine.execCtxIdle src msgId s
  | .winArm r => Sys2Proof.Machine.execWinArm r s
  | .winDisarm r => Sys2Proof.Machine.execWinDisarm r s
  | .arm who => Sys2Proof.Machine.execArm who s
  | .disarm who => Sys2Proof.Machine.execDisarm who s
  | .eventReport r => Sys2Proof.Machine.execEventReport r s
  | .recordClose => Sys2Proof.Machine.execRecordClose s
  | .recordProgrammed => Sys2Proof.Machine.execRecordProgrammed s
  | .eraseDone => Sys2Proof.Machine.execEraseDone s
  | .optimeMark => Sys2Proof.Machine.execOptimeMark s
  | .evtLost => Sys2Proof.Machine.execEvtLost s
  | .evrWinSel who v => Sys2Proof.Machine.execEvrWinSel who v s
  | .evrWinData c d => Sys2Proof.Machine.execEvrWinData c d s
  | .evrInject who addr => Sys2Proof.Machine.execEvrInject who addr s
  | .fltSlotAdvance k => Sys2Proof.Machine.execFltSlotAdvance k s
  | .fltCtrCfgWrite who k v => Sys2Proof.Machine.execFltCtrCfgWrite who k v s
  | .pwrMode who v => Sys2Proof.Machine.execPwrMode who v s
  | .retainPropose agree alarm => Sys2Proof.Machine.execRetainPropose agree alarm s
  | .agree agree => Sys2Proof.Machine.execAgree agree s
  | .refuse agree id => Sys2Proof.Machine.execRefuse agree id s
  | .powerAgreeTimeout => Sys2Proof.Machine.execPowerAgreeTimeout s
  | .smbusMatch addr => Sys2Proof.Machine.execSmbusMatch addr s
  | .gpioWake n => Sys2Proof.Machine.execGpioWake n s
  | .heartbeatWake => Sys2Proof.Machine.execHeartbeatWake s
  | .hbInAbsent => Sys2Proof.Machine.execHbInAbsent s
  | .clockGate island => Sys2Proof.Machine.execClockGate island s
  | .powerGate island => Sys2Proof.Machine.execPowerGate island s
  | .wake who mask => Sys2Proof.Machine.execWake who mask s
  | .forceOff who mask => Sys2Proof.Machine.execForceOff who mask s
  | .level who n lvl => Sys2Proof.Machine.execLevel who n lvl s
  | .levelChangeDone n => Sys2Proof.Machine.execLevelChangeDone n s
  | .thermalSample temps heldBelow => Sys2Proof.Machine.execThermalSample temps heldBelow s
  | .thermalTrip => Sys2Proof.Machine.execThermalTrip s
  | .report who addr => Sys2Proof.Machine.execReport who addr s
  | .verify who addr => Sys2Proof.Machine.execVerify who addr s
  | .measure who addr => Sys2Proof.Machine.execMeasure who addr s
  | .awkGenerate who addr => Sys2Proof.Machine.execAwkGenerate who addr s
  | .awkUnseal who addr => Sys2Proof.Machine.execAwkUnseal who addr s
  | .sendKey who addr => Sys2Proof.Machine.execSendKey who addr s
  | .receiveKey who addr => Sys2Proof.Machine.execReceiveKey who addr s
  | .writeSlot who addr => Sys2Proof.Machine.execWriteSlot who addr s
  | .setDir who addr => Sys2Proof.Machine.execSetDir who addr s
  | .advance who svn revoke => Sys2Proof.Machine.execAdvance who svn revoke s
  | .secIdWin c d => Sys2Proof.Machine.execSecIdWin c d s
  | .keyQuery m => Sys2Proof.Machine.execKeyQuery m s
  | .keyCerts m => Sys2Proof.Machine.execKeyCerts m s
  | .keyOffer m => Sys2Proof.Machine.execKeyOffer m s
  | .keyAccept m => Sys2Proof.Machine.execKeyAccept m s
  | .porn p => Sys2Proof.Machine.execPorn p s
  | .rstn => Sys2Proof.Machine.execRstn s
  | .warm who => Sys2Proof.Machine.execWarm who s
  | .trstn => Sys2Proof.Machine.execTrstn s
  | .brownout rail => Sys2Proof.Machine.execBrownout rail s
  | .sramDrop => Sys2Proof.Machine.execSramDrop s
  | .refclkLost => Sys2Proof.Machine.execRefclkLost s
  | .refclkReturn => Sys2Proof.Machine.execRefclkReturn s
  | .pllLockLost n => Sys2Proof.Machine.execPllLockLost n s
  | .pllRelockRetry n ok => Sys2Proof.Machine.execPllRelockRetry n ok s
  | .avsFault => Sys2Proof.Machine.execAvsFault s
  | .avsRetry answered => Sys2Proof.Machine.execAvsRetry answered s
  | .initDone => Sys2Proof.Machine.execInitDone s
  | .powerFail partnerFailing => Sys2Proof.Machine.execPowerFail partnerFailing s
  | .vaultDestageDone => Sys2Proof.Machine.execVaultDestageDone s
  | .pwrRestore => Sys2Proof.Machine.execPwrRestore s
  | .queueConnectionClosed cntlid qid => Sys2Proof.Machine.execQueueConnectionClosed cntlid qid s
  | .patrolScrub addr ch row uncorr => Sys2Proof.Machine.execPatrolScrub addr ch row uncorr s
  | .pciCorrectableError n => Sys2Proof.Machine.execPciCorrectableError n s
  | .hbInEdge => Sys2Proof.Machine.execHbInEdge s
  | .partnerLinkNotUp => Sys2Proof.Machine.execPartnerLinkNotUp s
  | .evrReady => Sys2Proof.Machine.execEvrReady s
  | .dramTrainingComplete trained failed speed gib => Sys2Proof.Machine.execDramTrainingComplete trained failed speed gib s
  | .strainerRebuildDone => Sys2Proof.Machine.execStrainerRebuildDone s
  | .rtcHourlyRecord => Sys2Proof.Machine.execRtcHourlyRecord s

end Sys2Proof.Machine
end

