-- ==== Sys2Proof/Machine/Idle.lean ====
section
/-! DEFINITION. What the block does when no command waits: a microsecond passes. -/

namespace Sys2Proof.Machine

open Sys2Proof

/-- A counter of seconds: one more, cut to its field. DESIGN CHOICE, safe: log 2. -/
def addSecond (f : Field) (s : State) (i : Nat := 0) : State := rset f (rget f s i + 1) s i

/-- A head that activates a Runtime image restarts once its last task has ended (R462): the resume mark is written, DRAM is kept, and a warm
reset follows. DESIGN CHOICE, safe: log 2. DEDUCED, unsafe: log 60. -/
def restartToActivate (s : State) : State :=
  if s.mir.activating && rbit F.TSK_CTL_DRAIN s && s.task.slots.all (fun p => p.2.st == .free) then
    let s := { s with chip := { s.chip with mark := some s.mir.lastApplied } }
    warmReset F.CHIP_RESET_CAUSE_ACTIVATION (rflag F.CHIP_RESET_CTL_DRAM_KEEP true s)
  else s

/-- One microsecond: CLK_TICK counts it, and at each whole second of the tick the operating seconds, the RTC and the shelves' times in
state count one (R18, R269, R493). DESIGN CHOICE, safe: log 2. -/
def idleTick (s : State) : State :=
  let s := restartToActivate s
  let t := (rget F.CLK_TICK_TICK s + 1) % 2 ^ 48
  let s := rset F.CLK_TICK_TICK t s
  if t % 1000000 = 0 then
    forEach (List.range 8) (fun n s => rinc F.SHF_STATE_TIME_IN_STATE 1 s n)
      (addSecond F.CLK_ALARM_RTC_SEC (addSecond F.CLK_OPTIME_OPSEC s))
  else s

end Sys2Proof.Machine
end

