-- ==== Sys2Proof/Safety.lean ====
section
/-! DEFINITION. What counts as a safe run of the block, and the conditions under which a Dyris instruction has its own effect, in the
terms the statements use. -/

namespace Sys2Proof

open Machine

/-- A step that answers a next state: no fault and no refusal. -/
def StepSafe (s : State) : Prop := ∃ t, step s = .next t

/-- The first `n` steps from a state all answer next states. -/
def RunSafe : Nat → State → Prop
  | 0, _ => True
  | n + 1, s => ∃ t, step s = .next t ∧ RunSafe n t

/-- What a state has sent is the beginning of what another has. -/
def SentBefore (s t : State) : Prop := s.outbox <+: t.outbox

namespace Machine

/-- Core `c` gives the instruction at its PC its own effect: it executes (R132), no lockstep mismatch waits for the pair (R131), the registers
the instruction reads pass their parity check (R99), the fetch meets no exception (R104), and the level is S, U or H (Table 4.2). -/
def Fetches (c : CoreId) (reads : List Rn) (s : State) : Prop :=
  executes s c = true ∧ (isPair c = true → s.cpu.mismatch.getD (c.val - 64) 0 = 0) ∧
  badReg (bankOf s (ctxOf s c)) reads = none ∧ fetchFault c s = none ∧ privOf s c ≤ 2

/-- gd takes `v`, the PC moves to the next instruction and `n` cycles are counted. -/
def writesReg (c : CoreId) (n : Nat) (d : Rn) (v : Word) (s : State) : State := retire c n (setPc c (pcOf s c + 4) (wr c d v s))

/-- The PC goes to `t` and `n` cycles are counted. -/
def jumpsTo (c : CoreId) (n : Nat) (t : Word) (s : State) : State := retire c n (setPc c t s)

/-- Every bank stands at a level of Table 4.2: PRIV and PPRIV are 0, 1 or 2. -/
def LegalLevels (s : State) : Prop := ∀ x, (bankOf s x).priv ≤ 2 ∧ (bankOf s x).ppriv ≤ 2

/-- A write of the register at `a` by core `who` is accepted: the core executes, no check of R104, R105 and R537 stops the write, and the island that serves the
register is on (R538). -/
def Accepts (who : CoreId) (a : Nat) (v : Word) (s : State) : Prop :=
  executes s who = true ∧ ctlFault who a true v s = none ∧ ctlOff a true s = none

/-- Unit `u` of class `e` runs, and the chain `c` stands at the head of its queue, before `rest`, with the job `d`, which `p` names. -/
def HasJob (e u : Nat) (p : Desc → Bool) (c : Chain) (rest : List Chain) (d : Desc) (s : State) : Prop :=
  islandOff (engIsland e) s = false ∧ engQueue e u s = c :: rest ∧ c.descs.head? = some d ∧ p d = true

/-- The job's input reads as `data` and its output buffer is found: a handle, an offset, the bytes it takes and whether OUT_ALLOC took it. -/
def FindsBuffers (c : Chain) (d : Desc) (s : State) (data : List Byte) (oh oo cap : Nat) (al : Bool) (u : State) : Prop :=
  ∃ s1, readBuf d (inputOf c d s).1 (inputOf c d s).2.1 (inputOf c d s).2.2 s = (some data, s1) ∧ outBuf d s1 = (some (oh, oo, cap, al), u)

/-- The job on unit `u` ends as `r` says. -/
def jobEnds (c : Chain) (d : Desc) (u : Nat) (r : JobRes) (s : State) : State := finishJob c d { r with unit := u } s

/-- The job on unit `u` writes `l` at its output and ends OK with that many bytes. -/
def jobWrites (c : Chain) (d : Desc) (u oh oo : Nat) (al : Bool) (l : List Byte) (s : State) : State :=
  jobEnds c d u { outBytes := l.length, outHandle := some (oo * 2 ^ 32 + oh), alloc := if al then some oh else none } (writeBuf oh oo l s)

/-- The task code of a host command runs in slot `i` (R79, R88): the slot holds the command `m` of queue kind and opcode named, its data is in and
passed its transport check, and intake did not refuse it. `t` is its task. -/
def HostRuns (i : Nat) (admin : Bool) (opc : Nat) (t : Task) (m : HbMsg) (s : State) : Prop :=
  slotCmd i admin opc s = some m ∧ (m.dlen = 64 ∨ m.landed = true) ∧
  ((slotOf s i).passed = true ∨ (taskOver (slotOf s i).task = false ∧ (slotOf s i).task.refused = false)) ∧ m.xferOk = true ∧ t = (slotOf s i).task

/-- An admin command's task code runs in slot `i` and passes its cancellation point with CANCEL clear (R88); `u` is the state after it, its TAKE
record placed unless the command is head-local. -/
def AdminRuns (i opc : Nat) (t : Task) (m : HbMsg) (u s : State) : Prop :=
  HostRuns i true opc t m s ∧ cancelled i s = false ∧
  u = passSlot i (if m.loc then s else (addRec i t.group (.take false false m.id t.wseq m.sqe) s).2)

/-- A Fabrics command of type `fctype` runs in slot `i` and passes its cancellation point. -/
def FabricsRuns (i fctype : Nat) (admin : Bool) (t : Task) (m : HbMsg) (u s : State) : Prop :=
  HostRuns i admin 0x7F t m s ∧ m.sqe.nsid % 256 = fctype ∧ cancelled i s = false ∧
  u = passSlot i (addRec i t.group (.take false false m.id t.wseq m.sqe) s).2

end Machine

end Sys2Proof
end

