-- ==== Sys2Proof/Certificates/Slice0/Obligations.lean ====
section
/-! DEFINITION. What is to be proved of the model: one proposition for each obligation of OBLIGATIONS.json. -/

open Sys2Proof Sys2Proof.Machine

/-- Table 4.8: each register ALU instruction that runs writes its result to gd (g0 takes nothing) and moves on in 1, 3 or 4 cycles; a division by 0 and
the overflow of a signed division give what R113 names, and CLZ, CTZ, POPC and BSWAP with a nonzero b raise ILLEGAL. Tables 4.8 and 4.9: what the
counting and byte operations mean bit by bit. CLZ leaves exactly the bits below the highest set one, CTZ names the lowest set one, POPC counts them
and BSWAP reverses the bytes; CLZ and CTZ of 0 are 64. Table 4.9: each immediate ALU instruction that runs writes its result to gd in one cycle; a
shift whose immediate exceeds 63 raises ILLEGAL. Clauses that rest on the model's own choices: log entries 10, 35. -/
def Obligations.AluResults : Prop :=
  (∀ (c : CoreId) (d a b : Rn) (s : State),
     (Fetches c [a, b] s →
       exec (.add c d a b) s = .next (writesReg c 1 d (rd s c a + rd s c b) s) ∧
       exec (.sub c d a b) s = .next (writesReg c 1 d (rd s c a - rd s c b) s) ∧
       exec (.and c d a b) s = .next (writesReg c 1 d (rd s c a &&& rd s c b) s) ∧
       exec (.or c d a b) s = .next (writesReg c 1 d (rd s c a ||| rd s c b) s) ∧
       exec (.xor c d a b) s = .next (writesReg c 1 d (rd s c a ^^^ rd s c b) s) ∧
       exec (.sll c d a b) s = .next (writesReg c 1 d (rd s c a <<< ((rd s c b).toNat % 64)) s) ∧
       exec (.srl c d a b) s = .next (writesReg c 1 d (rd s c a >>> ((rd s c b).toNat % 64)) s) ∧
       exec (.sra c d a b) s = .next (writesReg c 1 d ((rd s c a).sshiftRight ((rd s c b).toNat % 64)) s) ∧
       exec (.slt c d a b) s = .next (writesReg c 1 d (if (rd s c a).toInt < (rd s c b).toInt then 1 else 0) s) ∧
       exec (.sltu c d a b) s = .next (writesReg c 1 d (if (rd s c a).toNat < (rd s c b).toNat then 1 else 0) s) ∧
       exec (.mul c d a b) s = .next (writesReg c 3 d (rd s c a * rd s c b) s) ∧
       exec (.mulhu c d a b) s = .next (writesReg c 3 d (BitVec.ofNat 64 ((rd s c a).toNat * (rd s c b).toNat / 2 ^ 64)) s) ∧
       exec (.div c d a b) s = .next (writesReg c 4 d
         (if rd s c b = 0 then BitVec.allOnes 64
          else if rd s c a = BitVec.intMin 64 ∧ rd s c b = BitVec.allOnes 64 then rd s c a
          else BitVec.ofInt 64 ((rd s c a).toInt.tdiv (rd s c b).toInt)) s) ∧
       exec (.divu c d a b) s = .next (writesReg c 4 d
         (if rd s c b = 0 then BitVec.allOnes 64 else BitVec.ofNat 64 ((rd s c a).toNat / (rd s c b).toNat)) s) ∧
       exec (.rem c d a b) s = .next (writesReg c 4 d
         (if rd s c b = 0 then rd s c a
          else if rd s c a = BitVec.intMin 64 ∧ rd s c b = BitVec.allOnes 64 then 0
          else BitVec.ofInt 64 ((rd s c a).toInt.tmod (rd s c b).toInt)) s) ∧
       exec (.remu c d a b) s = .next (writesReg c 4 d
         (if rd s c b = 0 then rd s c a else BitVec.ofNat 64 ((rd s c a).toNat % (rd s c b).toNat)) s) ∧
       exec (.min c d a b) s = .next (writesReg c 1 d (if (rd s c a).toInt < (rd s c b).toInt then rd s c a else rd s c b) s) ∧
       exec (.max c d a b) s = .next (writesReg c 1 d (if (rd s c a).toInt < (rd s c b).toInt then rd s c b else rd s c a) s) ∧
       exec (.minu c d a b) s = .next (writesReg c 1 d (if (rd s c a).toNat < (rd s c b).toNat then rd s c a else rd s c b) s) ∧
       exec (.maxu c d a b) s = .next (writesReg c 1 d (if (rd s c a).toNat < (rd s c b).toNat then rd s c b else rd s c a) s) ∧
       exec (.rotr c d a b) s = .next (writesReg c 1 d ((rd s c a).rotateRight ((rd s c b).toNat % 64)) s) ∧
       exec (.andn c d a b) s = .next (writesReg c 1 d (rd s c a &&& ~~~rd s c b) s)) ∧
     (Fetches c [a] s → b = 0 →
       exec (.clz c d a b) s = .next (writesReg c 1 d (clz64 (rd s c a)) s) ∧
       exec (.ctz c d a b) s = .next (writesReg c 1 d (ctz64 (rd s c a)) s) ∧
       exec (.popc c d a b) s = .next (writesReg c 1 d (popc64 (rd s c a)) s) ∧
       exec (.bswap c d a b) s = .next (writesReg c 1 d (bswap64 (rd s c a)) s)) ∧
     (Fetches c [a] s → b ≠ 0 →
       exec (.clz c d a b) s = .next (raise c { cause := 0x01 } s) ∧
       exec (.ctz c d a b) s = .next (raise c { cause := 0x01 } s) ∧
       exec (.popc c d a b) s = .next (raise c { cause := 0x01 } s) ∧
       exec (.bswap c d a b) s = .next (raise c { cause := 0x01 } s))) ∧
  (∀ x : Word,
     (x = 0 → clz64 x = 64 ∧ ctz64 x = 64) ∧
     (x ≠ 0 → (clz64 x).toNat < 64 ∧ x.toNat.testBit (63 - (clz64 x).toNat) = true ∧
       (∀ i, 63 - (clz64 x).toNat < i → x.toNat.testBit i = false) ∧
       (ctz64 x).toNat < 64 ∧ x.toNat.testBit (ctz64 x).toNat = true ∧ (∀ i, i < (ctz64 x).toNat → x.toNat.testBit i = false)) ∧
     (popc64 x).toNat = ((List.range 64).filter (fun i => x.toNat.testBit i)).length ∧
     (∀ i, i < 8 → (bswap64 x).extractLsb' (8 * i) 8 = x.extractLsb' (8 * (7 - i)) 8) ∧
     bswap64 (bswap64 x) = x) ∧
  (∀ (c : CoreId) (d a : Rn) (i : BitVec 16) (s : State), Fetches c [a] s →
       exec (.addi c d a i) s = .next (writesReg c 1 d (rd s c a + i.signExtend 64) s) ∧
       exec (.andi c d a i) s = .next (writesReg c 1 d (rd s c a &&& i.zeroExtend 64) s) ∧
       exec (.ori c d a i) s = .next (writesReg c 1 d (rd s c a ||| i.zeroExtend 64) s) ∧
       exec (.xori c d a i) s = .next (writesReg c 1 d (rd s c a ^^^ i.zeroExtend 64) s) ∧
       exec (.clti c d a i) s = .next (writesReg c 1 d (if (rd s c a).toInt < i.toInt then 1 else 0) s) ∧
       exec (.cltiu c d a i) s = .next (writesReg c 1 d (if (rd s c a).toNat < i.toNat then 1 else 0) s) ∧
       (i.toNat < 64 →
         exec (.slli c d a i) s = .next (writesReg c 1 d (rd s c a <<< i.toNat) s) ∧
         exec (.srli c d a i) s = .next (writesReg c 1 d (rd s c a >>> i.toNat) s) ∧
         exec (.srai c d a i) s = .next (writesReg c 1 d ((rd s c a).sshiftRight i.toNat) s)) ∧
       (64 ≤ i.toNat →
         exec (.slli c d a i) s = .next (raise c { cause := 0x01 } s) ∧
         exec (.srli c d a i) s = .next (raise c { cause := 0x01 } s) ∧
         exec (.srai c d a i) s = .next (raise c { cause := 0x01 } s)) ∧
       exec (.lmi c d a i) s = .next (writesReg c 1 d (BitVec.ofNat 64 ((rd s c a).toNat % 2 ^ 16 + i.toNat * 2 ^ 16)) s) ∧
       exec (.lhi c d a i) s = .next (writesReg c 1 d (BitVec.ofNat 64 ((rd s c a).toNat % 2 ^ 32 + i.toNat * 2 ^ 32)) s) ∧
       exec (.lxi c d a i) s = .next (writesReg c 1 d (BitVec.ofNat 64 ((rd s c a).toNat % 2 ^ 48 + i.toNat * 2 ^ 48)) s))

/-- Table 4.11: a branch that is taken goes to PC + 4 × its sign-extended offset in 2 cycles, one that is not moves on in 1; JALR writes PC + 4 to gd and
goes to ga plus its immediate, J and JAL go to PC + 4 × their offset, JAL writing PC + 4 to g31. A clause that rests on the model's own choice: log
entry 10. -/
def Obligations.BranchAndJumpTargets : Prop :=
  ∀ (c : CoreId) (d a b : Rn) (off : BitVec 16) (o26 : BitVec 26) (s : State),
  let br := fun (taken : Prop) [Decidable taken] =>
    (if taken then jumpsTo c 2 (pcOf s c + 4 * off.signExtend 64) s else jumpsTo c 1 (pcOf s c + 4) s)
  (Fetches c [a, b] s →
    exec (.beq c a b off) s = .next (br (rd s c a = rd s c b)) ∧
    exec (.bne c a b off) s = .next (br (rd s c a ≠ rd s c b)) ∧
    exec (.blt c a b off) s = .next (br ((rd s c a).toInt < (rd s c b).toInt)) ∧
    exec (.bge c a b off) s = .next (br ((rd s c b).toInt ≤ (rd s c a).toInt)) ∧
    exec (.bltu c a b off) s = .next (br ((rd s c a).toNat < (rd s c b).toNat)) ∧
    exec (.bgeu c a b off) s = .next (br ((rd s c b).toNat ≤ (rd s c a).toNat))) ∧
  (Fetches c [a] s →
    exec (.jalr c d a off) s = .next (jumpsTo c 2 (rd s c a + off.signExtend 64) (wr c d (pcOf s c + 4) s))) ∧
  (Fetches c [] s →
    exec (.j c o26) s = .next (jumpsTo c 2 (pcOf s c + 4 * o26.signExtend 64) s) ∧
    exec (.jal c o26) s = .next (jumpsTo c 2 (pcOf s c + 4 * o26.signExtend 64) (wr c 31 (pcOf s c + 4) s)))

/-- Table 4.10: each load of normal memory that meets no exception (R104, R105, R107) and no powered-off island takes its bytes, least significant first,
sign-extends or zero-extends them to gd, and moves on in 2 cycles. Table 4.10: each store to normal memory that meets no exception and no powered-off
island puts the low 1, 2, 4 or 8 bytes of gd at its address, least significant first (R8), and moves on in one cycle. Clauses that rest on the model's
own choices: log entries 6, 35. -/
def Obligations.LoadAndStoreResults : Prop :=
  (∀ (c : CoreId) (d a : Rn) (i : BitVec 16) (s u : State) (v : Nat), Fetches c [a] s →
     let x := rd s c a + i.signExtend 64
     let runs := fun (n : Nat) => dataFault c x n false s = none ∧ accessOff x.toNat s = none ∧ loadBytes c x n (ungate x.toNat s) = (some v, u)
     let got := fun (w : Word) => retire c 2 (setPc c (pcOf s c + 4) (wr c d w u))
     (runs 1 → exec (.lb c d a i) s = .next (got ((BitVec.ofNat 8 v).signExtend 64)) ∧ exec (.lbu c d a i) s = .next (got (BitVec.ofNat 64 v))) ∧
     (runs 2 → exec (.lh c d a i) s = .next (got ((BitVec.ofNat 16 v).signExtend 64)) ∧ exec (.lhu c d a i) s = .next (got (BitVec.ofNat 64 v))) ∧
     (runs 4 → exec (.lw c d a i) s = .next (got ((BitVec.ofNat 32 v).signExtend 64)) ∧ exec (.lwu c d a i) s = .next (got (BitVec.ofNat 64 v))) ∧
     (runs 8 → exec (.ld c d a i) s = .next (got (BitVec.ofNat 64 v)))) ∧
  (∀ (c : CoreId) (d a : Rn) (i : BitVec 16) (s : State), Fetches c [a, d] s →
     let x := rd s c a + i.signExtend 64
     let runs := fun (n : Nat) => dataFault c x n true s = none ∧ accessOff x.toNat s = none
     let put := fun (n : Nat) => retire c 1 (setPc c (pcOf s c + 4) (memWrite (physKey c x.toNat) (leBytes n (rd s c d).toNat) (ungate x.toNat s)))
     (runs 1 → exec (.sb c d a i) s = .next (put 1)) ∧ (runs 2 → exec (.sh c d a i) s = .next (put 2)) ∧
     (runs 4 → exec (.sw c d a i) s = .next (put 4)) ∧ (runs 8 → exec (.sd c d a i) s = .next (put 8)))

/-- R105: a load or store that meets an exception of R107 has no effect but that exception; one to a powered-off island completes with all ones (a load)
or nothing (a store) and then takes ISLAND_OFF with DONE = 1 (R108). A clause that rests on the model's own choice: log entry 35. -/
def Obligations.MemoryAccessExceptions : Prop :=
  ∀ (c : CoreId) (d a : Rn) (i : BitVec 16) (e : Exc) (s : State),
  let x := rd s c a + i.signExtend 64
  (Fetches c [a] s →
    (dataFault c x 1 false s = some e → exec (.lb c d a i) s = .next (raise c e s) ∧ exec (.lbu c d a i) s = .next (raise c e s)) ∧
    (dataFault c x 2 false s = some e → exec (.lh c d a i) s = .next (raise c e s) ∧ exec (.lhu c d a i) s = .next (raise c e s)) ∧
    (dataFault c x 4 false s = some e → exec (.lw c d a i) s = .next (raise c e s) ∧ exec (.lwu c d a i) s = .next (raise c e s))) ∧
  (Fetches c [a, d] s →
    (dataFault c x 1 true s = some e → exec (.sb c d a i) s = .next (raise c e s)) ∧
    (dataFault c x 2 true s = some e → exec (.sh c d a i) s = .next (raise c e s)) ∧
    (dataFault c x 4 true s = some e → exec (.sw c d a i) s = .next (raise c e s))) ∧
  (∀ n : Nat, Fetches c [a] s → dataFault c x 4 false s = none → accessOff x.toNat s = some n →
    exec (.lw c d a i) s = .next (raise c { cause := 0x06, sub := n, addr := x, done := true }
      (countInstr c 2 (wr c d (BitVec.allOnes 64) (recordAccessOff n x.toNat s))))) ∧
  (∀ n : Nat, Fetches c [a, d] s → dataFault c x 4 true s = none → accessOff x.toNat s = some n →
    exec (.sw c d a i) s = .next (raise c { cause := 0x06, sub := n, addr := x, done := true } (countInstr c 1 (recordAccessOff n x.toNat s))))

/-- Table 4.13: an atomic in S or U with its reserved bits 0 reads the 4 or 8 bytes at ga, writes the operation's result back in the same step and puts
the old value, sign-extended from 32 bits when W = 1, in gd; with reserved bits set it is ILLEGAL, and in H it is PRIV. Clauses that rest on the
model's own choices: log entries 9, 35. -/
def Obligations.AtomicResults : Prop :=
  ∀ (c : CoreId) (ord : BitVec 2) (w : Bool) (d a b : Rn) (s u : State) (old : Nat),
  let x := rd s c a
  let n := if w then 4 else 8
  let runs := dataFault c x n true s = none ∧ accessOff x.toNat s = none ∧ loadBytes c x n (ungate x.toNat s) = (some old, u) ∧ privOf s c ≠ 2
  let q := if w then 2 ^ 32 else 2 ^ 64
  let ret : Word := if w then (BitVec.ofNat 32 old).signExtend 64 else BitVec.ofNat 64 old
  let sg := fun (v : Nat) => if w then (BitVec.ofNat 32 v).toInt else (BitVec.ofNat 64 v).toInt
  let done := fun (v : Nat) => retire c 3 (setPc c (pcOf s c + 4) (wr c d ret (memWrite (physKey c x.toNat) (leBytes n (v % q)) u)))
  let gb := (rd u c b).toNat
  let gd := (rd u c d).toNat
  (Fetches c [a, b] s → runs → old < q →
    exec (.amoSwap c 0 ord w d a b) s = .next (done gb) ∧
    exec (.amoAdd c 0 ord w d a b) s = .next (done (old + gb)) ∧
    exec (.amoAnd c 0 ord w d a b) s = .next (done (old &&& gb)) ∧
    exec (.amoOr c 0 ord w d a b) s = .next (done (old ||| gb)) ∧
    exec (.amoXor c 0 ord w d a b) s = .next (done (old ^^^ gb)) ∧
    exec (.amoMin c 0 ord w d a b) s = .next (done (if sg old < sg gb then old else gb)) ∧
    exec (.amoMax c 0 ord w d a b) s = .next (done (if sg old < sg gb then gb else old)) ∧
    exec (.amoMinu c 0 ord w d a b) s = .next (done (if old < gb % q then old else gb)) ∧
    exec (.amoMaxu c 0 ord w d a b) s = .next (done (if old < gb % q then gb else old))) ∧
  (Fetches c [a, b, d] s → runs → old < q → exec (.amoCas c 0 ord w d a b) s = .next (done (if old = gd % q then gb else old))) ∧
  (∀ rsv : BitVec 4, Fetches c [a, b, d] s →
    ∀ i ∈ ([.amoSwap c rsv ord w d a b, .amoAdd c rsv ord w d a b, .amoAnd c rsv ord w d a b, .amoOr c rsv ord w d a b, .amoXor c rsv ord w d a b,
      .amoMin c rsv ord w d a b, .amoMax c rsv ord w d a b, .amoMinu c rsv ord w d a b, .amoMaxu c rsv ord w d a b,
      .amoCas c rsv ord w d a b] : List Instr),
    (rsv ≠ 0 → exec i s = .next (raise c { cause := 0x01 } s)) ∧
    (rsv = 0 → privOf s c = 2 → exec i s = .next (raise c { cause := 0x02 } s)))

/-- R120, R129, R100, R75: the barriers only move on; MFS puts a special register in gd and MTS writes one at the levels of Table 4.1, the counters that
stalls touch reading a free value of stall cycles; TGET puts a task register of the running slot in gd. Clauses that rest on the model's own choices:
log entries 9, 10, 35. -/
def Obligations.BarriersAndSpecialRegisters : Prop :=
  ∀ (c : CoreId) (d a : Rn) (s : State),
  (Fetches c [] s →
    exec (.sync c 0 0 0) s = .next (jumpsTo c 1 (pcOf s c + 4) s) ∧
    exec (.syncW c 0 0 0) s = .next (jumpsTo c 1 (pcOf s c + 4) s) ∧
    exec (.syncR c 0 0 0) s = .next (jumpsTo c 1 (pcOf s c + 4) s) ∧
    (privOf s c ≠ 2 → exec (.syncI c 0 0 0) s = .next (jumpsTo c 33 (pcOf s c + 4) s)) ∧
    (∀ l : List Nat, srReadLevels a.val = some l → privOf s c ∈ l → a.val ≠ 13 → a.val ≠ 22 →
      exec (.mfs c d a 0) s = .next (writesReg c 2 d (srRead c a.val s) s)) ∧
    (∀ l : List Nat, srReadLevels a.val = some l → privOf s c ∈ l → a.val = 13 ∨ a.val = 22 →
      exec (.mfs c d a 0) s = .next (retire c 2 (setPc c (pcOf s c + 4) (wr c d (srRead c a.val s) (tickFree s))))) ∧
    (∀ i : Nat, runningSlot s c = some i → a.val < 16 → exec (.tget c d a 0) s = .next (writesReg c 1 d (taskReg s i a.val) s))) ∧
  (Fetches c [a] s → ∀ l : List Nat, srWriteLevels d.val = some l → privOf s c ∈ l →
    exec (.mts c d a 0) s = .next (retire c 2 (setPc c (pcOf s c + 4) (srWrite c d.val (rd s c a) s)))) ∧
  (Fetches c [] s → ∀ l : List Nat, srReadLevels a.val = some l → privOf s c ∉ l →
    exec (.mfs c d a 0) s = .next (raise c { cause := 0x02 } s)) ∧
  (Fetches c [] s → 28 ≤ a.val → exec (.mfs c d a 0) s = .next (raise c { cause := 0x01 } s))

/-- R115 and R117: TDONE in S or U on a running slot with bits [31:1] of gb 0 posts the completion that ga and gb spell for a TYPE 1 task, frees the slot
and leaves it; WTOK on a held token of this context whose job has ended puts its status in gd and frees the entry, on one still running puts the slot
in Waiting, and on anything else raises TOKEN with subcode 0 and the token in EADDR. R121 to R124: JOB in S or U copies its chain, takes the lowest
free token entry of its context with the next serial, writes the token to gd (g0 detaches it) and posts the chain; a chain that fails a check of R122
completes at once with BAD_DESC, with all 16 entries held JOB raises TOKEN with subcode 1, and while the first engine's queue is full the core stalls.
Clauses that rest on the model's own choices: log entries 35, 36. -/
def Obligations.TaskTokenAndJobInstructions : Prop :=
  (∀ (c : CoreId) (d a b : Rn) (i : Nat) (s : State), privOf s c ≠ 2 →
     let g := (rd s c a).toNat
     let e := bits g 21 18
     let k := tokOf s (ctxOf s c) e
     let named := g < 2 ^ 32 ∧ bits g 31 22 = ctxOf s c ∧ bits g 17 0 ≠ 0 ∧ k.held = true ∧ k.serial = bits g 17 0
     (Fetches c [a, b] s → runningSlot s c = some i → bits (rd s c b).toNat 31 1 = 0 →
       exec (.tdone c 0 a b) s = .next (countInstr c 12 (settleQueues (freeSlot i
         (if (slotOf s i).task.typ = 1 then
           postCpl i (slotOf s i).task (cqeOf (rd s c a) (rd s c b)) ((rd s c b).toNat.testBit 0) s
          else s))))) ∧
     (Fetches c [a, b] s → runningSlot s c = some i → bits (rd s c b).toNat 31 1 ≠ 0 → exec (.tdone c 0 a b) s = .next (raise c { cause := 0x01 } s)) ∧
     (Fetches c [a] s →
       (∀ st : Nat, named → k.status = some st →
         exec (.wtok c d a 0) s = .next (retire c 2 (setPc c (pcOf s c + 4)
           (wr c d (BitVec.ofNat 64 st) (setTok (ctxOf s c) e { k with held := false, status := none } s))))) ∧
       (named → k.status = none → runningSlot s c = some i →
         exec (.wtok c d a 0) s = .next (countInstr c 2 (leaveSlot c.val (setSlot i { slotOf s i with st := .waiting, wait := some (e, d.val) } s)))) ∧
       (¬named → exec (.wtok c d a 0) s = .next (raise c { cause := 0x09, sub := 0, addr := rd s c a } s)))) ∧
  (∀ (c : CoreId) (d a : Rn) (ds : List Desc) (s u : State), Fetches c [a] s → privOf s c ≠ 2 →
     readChain c 8 (rd s c a).toNat s = (.ok ds, u) →
     let x := ctxOf u c
     let ok := chainOk ds && ds.all (fun y => placeOk c y u)
     (∀ e n : Nat, tokChoice u x = .ok e n → (ok && engineFull (ds.headD {}) u) = false →
       let ch : Chain := { ctx := x, entry := e, serial := n, descs := ds, notify := (ds.headD {}).flag fNotify, tag := (ds.headD {}).tag }
       let v := wr c d (BitVec.ofNat 64 (x * 2 ^ 22 + e * 2 ^ 18 + n)) (tokPost x e n (d.val == 0) u)
       exec (.job c d a 0) s = .next (retire c (10 + 4 * (ds.length - 1)) (setPc c (pcOf s c + 4)
         (if ok = true then postChain ch v else endChain ch (ds.headD {}) { status := jBadDesc } v)))) ∧
     (∀ e n : Nat, tokChoice u x = .ok e n → ok = true → engineFull (ds.headD {}) u = true → exec (.job c d a 0) s = .next u) ∧
     (tokChoice u x = .full → exec (.job c d a 0) s = .next (raise c { cause := 0x09, sub := 1 } u)))

/-- R116, R140, R144, R149: BGET in S or U writes a handle, or all ones when the set has none; BREF and BDROP on a handle that passes its checks raise and
lower its buffer's count and write the new count; a failed check reports the error and raises BUF with the error code and ga in EADDR. A clause that
rests on the model's own choice: log entry 35. -/
def Obligations.BufferInstructions : Prop :=
  ∀ (c : CoreId) (d a : Rn) (s : State), Fetches c [a] s → privOf s c ≠ 2 →
  let g := (rd s c a).toNat
  let fails := fun (code : Nat) => raise c { cause := 0x0A, sub := code, addr := rd s c a } (bpmFail c.val code g s)
  (g < 16 → g % 8 < 5 →
    (∀ (h : Nat) (u : State), bpmAlloc .core (g / 8) (g % 8) s = (some h, u) →
      exec (.bget c d a 0) s = .next (retire c 24 (setPc c (pcOf s c + 4) (wr c d (BitVec.ofNat 64 h) u)))) ∧
    (∀ u : State, bpmAlloc .core (g / 8) (g % 8) s = (none, u) →
      exec (.bget c d a 0) s = .next (retire c 24 (setPc c (pcOf s c + 4) (wr c d (BitVec.allOnes 64) u))))) ∧
  (16 ≤ g ∨ 5 ≤ g % 8 → exec (.bget c d a 0) s = .next (raise c { cause := 0x0A, sub := 2, addr := rd s c a } (bpmFailAs false c.val 2 g s))) ∧
  (waitsRebuild g s = false →
    (∀ h : Nat, checkHandle .bref g 0 s = .ok h →
      exec (.bref c d a 0) s = .next (retire c 24 (setPc c (pcOf s c + 4)
        (wr c d (BitVec.ofNat 64 ((bufOf h s).cnt + 1)) (setBuf h { bufOf h s with cnt := (bufOf h s).cnt + 1 } s))))) ∧
    (∀ h : Nat, checkHandle .bdrop g 0 s = .ok h →
      exec (.bdrop c d a 0) s = .next (retire c 24 (setPc c (pcOf s c + 4) (wr c d (BitVec.ofNat 64 ((bufOf h s).cnt - 1)) (dropRef h s))))) ∧
    (∀ code : Nat, checkHandle .bref g 0 s = .error code → exec (.bref c d a 0) s = .next (fails code)) ∧
    (∀ code : Nat, checkHandle .bdrop g 0 s = .error code → exec (.bdrop c d a 0) s = .next (fails code)))

/-- Table 4.3 and R119: HCALL in U saves PC + 4 in HEPC, loads the hook budget and enters H at ga; HRET in H returns to HEPC in U; ERET in S goes to EPC
at the saved level with IE from PIE; SVC in U and BRK in S or U take their exceptions with the immediate in EADDR; a pair in S with IE = 1 takes an
enabled pending IRQ line at EVEC + 0x100; the hook budget's end abandons the hook. Each at another level takes PRIV. Clauses that rest on the model's
own choices: log entries 35, 37. -/
def Obligations.LevelChangingInstructions : Prop :=
  ∀ (c : CoreId) (d a : Rn) (l : Fin 16) (s : State),
  let x := ctxOf s c
  let imm := d.val * 32 + a.val
  (Fetches c [a] s → privOf s c = 1 →
    let k := { coreOf s c with hepc := pcOf s c + 4, hbudget := hookBudget s + 4, hook := Config.hookAt (rd s c a).toNat % 4 }
    exec (.hcall c 0 a 0) s = .next (jumpsTo c 4 (rd s c a) (setHookState c .hook (setBank x { bankOf s x with priv := 2 } (setCore c k s))))) ∧
  (Fetches c [] s → privOf s c = 2 →
    exec (.hret c 0 0 0) s = .next (jumpsTo c 4 (coreOf s c).hepc (setHookState c .running (setBank x { bankOf s x with priv := 1 } s)))) ∧
  (Fetches c [] s → privOf s c = 0 → (coreOf s c).start = false →
    exec (.eret c 0 0 0) s = .next (jumpsTo c 4 (coreOf s c).epc (returnS c s))) ∧
  (Fetches c [] s → privOf s c = 1 →
    exec (.svc c d a 0) s = .next (takeException c { cause := 0x0C, sub := imm % 256, addr := BitVec.ofNat 64 imm } s)) ∧
  (Fetches c [] s → privOf s c ≠ 2 →
    exec (.brk c d a 0) s = .next (takeException c { cause := 0x0D, sub := imm % 256, addr := BitVec.ofNat 64 imm } s)) ∧
  (isPair c = true → coreRunning s c = true → privOf s c = 0 → (bankOf s x).ie = true → (pendingLines s).testBit l.val = true → (coreOf s c).imask.toNat.testBit l.val = true →
    exec (.irq c l) s = .next (enterS c { cause := 0x0E, sub := l.val } (pcOf s c) ((coreOf s c).evec + 0x100) false s)) ∧
  (executes s c = true → privOf s c = 2 → exec (.budget c) s = .next (raise c { cause := 0x08 } (setCore c { coreOf s c with hbudget := 0 } s))) ∧
  (Fetches c [a] s → privOf s c ≠ 1 → exec (.hcall c 0 a 0) s = .next (raise c { cause := 0x02 } s)) ∧
  (Fetches c [] s →
    (privOf s c ≠ 2 → exec (.hret c 0 0 0) s = .next (raise c { cause := 0x02 } s)) ∧
    (privOf s c ≠ 0 → exec (.eret c 0 0 0) s = .next (raise c { cause := 0x02 } s)) ∧
    (privOf s c ≠ 1 → exec (.svc c d a 0) s = .next (raise c { cause := 0x02 } s)) ∧
    (privOf s c = 2 → exec (.brk c d a 0) s = .next (raise c { cause := 0x02 } s)))

/-- R103 and Table 4.3: an exception in S or U goes to S: EPC the instruction's address, ECAUSE and EADDR what it carries, PPRIV the level left, PIE the
old IE, IE 0, PC EVEC; one in H other than PARITY goes to U: HFPC, HCAUSE with FROM_H and HADDR written, PC HXVEC. Neither changes a general register,
memory or another context, and ERET then returns to the level, IE and PC that were. A clause that rests on the model's own choice: log entry 35. -/
def Obligations.ExceptionEntryAndReturn : Prop :=
  ∀ (c : CoreId) (e : Exc) (s : State),
  let t := takeException c e s
  let x := ctxOf s c
  (privOf s c ≠ 2 →
    (coreOf t c).epc = pcOf s c ∧ (coreOf t c).eaddr = e.addr ∧ (coreOf t c).ecause = causeWord e false ∧
    (bankOf t x).priv = 0 ∧ (bankOf t x).ppriv = privOf s c ∧ (bankOf t x).pie = (bankOf s x).ie ∧ (bankOf t x).ie = false ∧
    pcOf t c = (coreOf s c).evec ∧
    (let u := returnS c t
     pcOf u c = pcOf s c ∧ privOf u c = privOf s c ∧ (bankOf u x).ie = (bankOf s x).ie)) ∧
  (privOf s c = 2 → e.cause ≠ 0x0B →
    (coreOf t c).hfpc = pcOf s c ∧ (coreOf t c).haddr = e.addr ∧ (coreOf t c).hcause = causeWord e true ∧
    (bankOf t x).priv = 1 ∧ pcOf t c = (coreOf s c).hxvec ∧ (bankOf t x).ppriv = (bankOf s x).ppriv) ∧
  (privOf s c = 2 → e.cause = 0x0B →
    (coreOf t c).epc = pcOf s c ∧ (bankOf t x).priv = 0 ∧ (bankOf t x).ppriv = 2 ∧ pcOf t c = (coreOf s c).evec) ∧
  (∀ r : Rn, rd t c r = rd s c r) ∧ (∀ y : Nat, y ≠ x → bankOf t y = bankOf s y) ∧ (∀ k : Nat, memByte t k = memByte s k)

/-- What the ALU instructions leave as it was (Tables 4.8 and 4.9): when one completes without ending the hook budget, every general register but gd,
every other context, the level and the interrupt enables, every special register but CYCLE, INSTRET and the hook budget, every other core, memory and
everything outside the cores are unchanged; g0 is 0 before and after. A clause that rests on the model's own choice: log entry 10. -/
def Obligations.AluFrame : Prop :=
  ∀ (c : CoreId) (d a b : Rn) (v : BitVec 16) (i : Instr) (s t : State),
  Fetches c [a, b] s → (privOf s c = 2 → 4 < (coreOf s c).hbudget) →
  (i ∈ ([.add c d a b, .sub c d a b, .and c d a b, .or c d a b, .xor c d a b, .sll c d a b, .srl c d a b, .sra c d a b, .slt c d a b, .sltu c d a b,
      .mul c d a b, .mulhu c d a b, .div c d a b, .divu c d a b, .rem c d a b, .remu c d a b, .min c d a b, .max c d a b, .minu c d a b, .maxu c d a b,
      .rotr c d a b, .andn c d a b, .addi c d a v, .andi c d a v, .ori c d a v, .xori c d a v, .clti c d a v, .cltiu c d a v,
      .lmi c d a v, .lhi c d a v, .lxi c d a v] : List Instr) ∨
   (b = 0 ∧ i ∈ ([.clz c d a b, .ctz c d a b, .popc c d a b, .bswap c d a b] : List Instr)) ∨
   (v.toNat < 64 ∧ i ∈ ([.slli c d a v, .srli c d a v, .srai c d a v] : List Instr))) →
  exec i s = .next t →
  (∀ r : Rn, r ≠ d → rd t c r = rd s c r) ∧ rd s c 0 = 0 ∧ rd t c 0 = 0 ∧
  (∀ y : Nat, y ≠ ctxOf s c → bankOf t y = bankOf s y) ∧
  (let x := ctxOf s c
   (bankOf t x).priv = (bankOf s x).priv ∧ (bankOf t x).ppriv = (bankOf s x).ppriv ∧ (bankOf t x).pie = (bankOf s x).pie ∧
   (bankOf t x).ie = (bankOf s x).ie) ∧
  (∃ n m : Nat, coreOf t c =
    { coreOf s c with first := false, cycle := (coreOf s c).cycle + BitVec.ofNat 64 n, instret := (coreOf s c).instret + 1, hbudget := m }) ∧
  (∀ c' : CoreId, c' ≠ c → coreOf t c' = coreOf s c') ∧ t = { s with cpu := t.cpu }

/-- What the stores leave as it was (Table 4.10): every byte outside the 1, 2, 4 or 8 stored from `physKey c (ga + imm)` up, every general register, and
everything outside memory and the cores but the clock-gate bit of the cluster stored to. The stored bytes read as the low bytes of gd. -/
def Obligations.StoreFrame : Prop :=
  ∀ (c : CoreId) (d a : Rn) (v : BitVec 16) (n : Nat) (i : Instr) (s t : State),
  Fetches c [a, d] s → (privOf s c = 2 → 4 < (coreOf s c).hbudget) → Memory.wf s.mem = true →
  ((n = 1 ∧ i = .sb c d a v) ∨ (n = 2 ∧ i = .sh c d a v) ∨ (n = 4 ∧ i = .sw c d a v) ∨ (n = 8 ∧ i = .sd c d a v)) →
  let x := rd s c a + v.signExtend 64
  let k := physKey c x.toNat
  dataFault c x n true s = none → accessOff x.toNat s = none → exec i s = .next t →
  (∀ j : Nat, j < k ∨ k + n ≤ j → memByte t j = memByte s j) ∧
  (∀ j : Nat, j < n → memByte t (k + j) = BitVec.ofNat 8 ((rd s c d).toNat / 256 ^ j)) ∧
  Memory.wf t.mem = true ∧ (∀ r : Rn, rd t c r = rd s c r) ∧ (∀ y : Nat, y ≠ ctxOf s c → bankOf t y = bankOf s y) ∧
  t = { s with cpu := t.cpu, mem := t.mem, regs := (ungate x.toNat s).regs }

/-- A store followed by a load of the same width at the same address (R8, Table 4.10): what LD reads is what SD wrote, and LW and LWU give the low word of
what SW wrote, sign- and zero-extended, when neither access meets an exception and memory holds no bad line. -/
def Obligations.StoreThenLoadReturnsValue : Prop :=
  ∀ (c : CoreId) (d r a : Rn) (v : BitVec 16) (s t : State), Fetches c [a, d] s → Memory.wf s.mem = true → s.phys.lineErr = [] → r ≠ 0 →
  (privOf s c = 2 → 4 < (coreOf s c).hbudget) →
  let x := rd s c a + v.signExtend 64
  accessOff x.toNat s = none → regionOf c x.toNat s ≠ some .rom → Fetches c [a] t → (privOf s c = 2 → 4 < (coreOf t c).hbudget) →
  (dataFault c x 8 true s = none → dataFault c x 8 false t = none → exec (.sd c d a v) s = .next t →
    ∃ u, exec (.ld c r a v) t = .next u ∧ rd u c r = rd s c d) ∧
  (dataFault c x 4 true s = none → dataFault c x 4 false t = none → exec (.sw c d a v) s = .next t →
    (∃ u, exec (.lw c r a v) t = .next u ∧ rd u c r = ((rd s c d).setWidth 32).signExtend 64) ∧
    (∃ u, exec (.lwu c r a v) t = .next u ∧ rd u c r = ((rd s c d).setWidth 32).zeroExtend 64))

/-- R99, R113, R114 (no bit of a Dyris word is dropped or shared): decoding the encoded word of any instruction, with every operand at every value its
fields hold, gives the instruction back, and a word that decodes at all is the encoding of what it decodes to. -/
def Obligations.DyrisEncodingRoundTrip : Prop :=
  (∀ i : DInstr, decodeDyris (encodeDyris i) = some i) ∧ (∀ (w : BitVec 32) (i : DInstr), decodeDyris w = some i → encodeDyris i = w)

/-- Words of Tables 4.7 to 4.13 written out field by field decode to the instructions they stand for, the two words of Table 4.16's example among them; op
0x3F and an fn no table lists spell none. -/
def Obligations.DyrisWordsFromTheTables : Prop :=
  decodeDyris 0x8CC90008#32 = some (.mem .sd 6 9 8) ∧
  decodeDyris 0x05490031#32 = some (.sys .job 10 9 0) ∧
  decodeDyris 0b000000_00001_00010_00011_00000000001#32 = some (.alu .sub 1 2 3) ∧
  decodeDyris 0b101001_00001_00010_1111111111111111#32 = some (.br .bne 1 2 0xFFFF) ∧
  decodeDyris 0b001110_00001_00010_0000000000111111#32 = some (.imm .slli 1 2 63) ∧
  decodeDyris 0b100100_00001_00010_1111111111111100#32 = some (.jalr 1 2 0xFFFC) ∧
  decodeDyris 0b110001_00000000000000000000000011#32 = some (.jump true 3) ∧
  decodeDyris 0b000001_00000_00000_00000_00001110010#32 = some (.sys .eret 0 0 0) ∧
  decodeDyris 0b000010_00001_00010_00011_0000_11_1_1001#32 = some (.amo .cas 0 3 true 1 2 3) ∧
  decodeDyris 0xFC000000#32 = none ∧ decodeDyris 0x000007FF#32 = none

/-- The block takes its commands in order: with one at the front of the queue a step is that command's effect on the state with the rest of the queue,
with none a step is the passing of a microsecond, and every step answers a next state. A clause that rests on the model's own choice: log entry 2. -/
def Obligations.StepRunsTheFrontCommand : Prop :=
  (∀ (i : Instr) (rest : List Instr) (s : State), s.pending = i :: rest → step s = exec i { s with pending := rest }) ∧
  (∀ s : State, s.pending = [] → step s = .next (idleTick s)) ∧ (∀ s : State, StepSafe s)

/-- Levels stay legal (Table 4.2): no instruction that changes or saves a level, no exception and no write of STATUS leaves a bank at a level other than
S, U and H. A clause that rests on the model's own choice: log entry 35. -/
def Obligations.LevelsStayLegal : Prop :=
  LegalLevels .reset ∧
  ∀ s : State, LegalLevels s → ∀ (c : CoreId) (e : Exc) (l : Nat) (v : Word) (n : Nat) (d a : Rn) (t : State),
  LegalLevels (takeException c e s) ∧ LegalLevels (takeIrq c l s) ∧ LegalLevels (returnS c s) ∧ LegalLevels (srWrite c n v s) ∧
  (Fetches c [a] s → (privOf s c = 2 → 4 < (coreOf s c).hbudget) →
    (exec (.hcall c 0 a 0) s = .next t → privOf s c = 1 → LegalLevels t) ∧ (exec (.hret c 0 0 0) s = .next t → privOf s c = 2 → LegalLevels t) ∧
    (exec (.mts c d a 0) s = .next t → LegalLevels t) ∧
    (exec (.add c d a a) s = .next t → LegalLevels t))

/-- R150: on a MOVE unit whose queue head is such a job with AUX and PARAM as Table 5.3 has them, COPY writes its input to OUT, FILL writes the bytes of
OUT_LIMIT with the byte of PARAM, and COMPARE ends with the offset of the first difference (the length when there is none) as its output bytes. R234
to R237: on PAR whose queue head is such a job, PQ_OPEN takes a cleared context, PQ_ADD adds a strip to both sums at its position, PQ_EMIT writes P
and Q and frees the context, PQ_CHECK compares the sums and frees it, PQ_FREE frees it, and RECON ends as its function says. A clause that rests on
the model's own choice: log entry 38. -/
def Obligations.MoveAndParityJobs : Prop :=
  (∀ (u : Fin 4) (c : Chain) (rest : List Chain) (d : Desc) (data other : List Byte) (oh oo cap : Nat) (al : Bool) (s s1 s2 : State),
     let s0 := takeJob 1 u.val rest d s
     (HasJob 1 u.val (·.op == 0) c rest d s → d.aux = 0 → d.param = 0 → FindsBuffers c d s0 data oh oo cap al s2 → data.length ≤ cap →
       exec (.copy u) s = .next (jobWrites c d u.val oh oo al data s2)) ∧
     (HasJob 1 u.val (·.op == 1) c rest d s → d.aux = 0 → d.inn = 0 → d.param < 256 → outBuf d s0 = (some (oh, oo, cap, al), s2) →
       exec (.fill u) s = .next (jobWrites c d u.val oh oo al (List.replicate cap (BitVec.ofNat 8 d.param)) s2)) ∧
     (HasJob 1 u.val (·.op == 2) c rest d s → d.param = 0 → d.aux < 2 ^ 32 →
       readBuf d (inputOf c d s0).1 (inputOf c d s0).2.1 (inputOf c d s0).2.2 s0 = (some data, s1) →
       readBuf d d.aux 0 (inputOf c d s0).2.2 s1 = (some other, s2) →
       ∃ n, exec (.compare u) s = .next (jobEnds c d u.val { outBytes := n } s2) ∧ n ≤ data.length ∧ n ≤ other.length ∧
         (∀ i, i < n → data[i]? = other[i]?) ∧ (n < data.length → n < other.length → data[n]? ≠ other[n]?))) ∧
  (∀ (c : Chain) (rest : List Chain) (d : Desc) (x : ParCtx) (l p q : List Byte) (oh oo cap h : Nat) (al : Bool) (r : JobRes) (s s1 s2 : State),
     s.pwr.katDue = [] →
     let s0 := takeJob 7 0 rest d s
     let ends := fun (r : JobRes) (t : State) => Host.Outcome.next (φ := Fault) (ρ := Refusal) (arSettle (jobEnds c d 0 r t))
     let k := bits d.param 21 16
     let n := bits d.param 28 24
     (HasJob 7 0 (·.op == 0) c rest d s → onlyBits d.param 0x1F3F003F = true → d.aux = 0 → 4 ≤ k → k ≤ 32 → 1 ≤ n → n ≤ 16 → kfind s0.par (bits d.param 5 0) = none →
       exec .pqOpen s = ends {} (setPar (kput s0.par (bits d.param 5 0)
         { k := k, len := 4096 * n, p := zeroStrip (4096 * n), q := zeroStrip (4096 * n) }) s0)) ∧
     (HasJob 7 0 (·.op == 1) c rest d s → kfind s0.par (bits d.param 5 0) = some x → onlyBits d.param 0x1F3F = true → d.aux = 0 → bits d.param 12 8 < x.k →
       readBuf d (inputOf c d s0).1 (inputOf c d s0).2.1 (inputOf c d s0).2.2 s0 = (some l, s1) →
       exec .pqAdd s = ends {} (parFeed (bits d.param 5 0) (bits d.param 12 8) l s1)) ∧
     (HasJob 7 0 (·.op == 2) c rest d s → onlyBits d.param 0x3F = true → d.aux < 2 ^ 32 → outBuf d s0 = (some (oh, oo, cap, al), s1) → kfind s1.par (bits d.param 5 0) = some x →
       checkHandle .engine d.aux x.len s1 = .ok h → x.len ≤ cap → parFull x = true →
       exec .pqEmit s = ends { outBytes := x.len, outHandle := some (oo * 2 ^ 32 + oh), alloc := if al then some oh else none }
         (setPar (kdel s1.par (bits d.param 5 0)) (writeBuf h 0 x.q (writeBuf oh oo x.p s1)))) ∧
     (HasJob 7 0 (·.op == 3) c rest d s → onlyBits d.param 0x3F = true → d.aux < 2 ^ 32 → kfind s0.par (bits d.param 5 0) = some x →
       readBuf d (inputOf c d s0).1 (inputOf c d s0).2.1 x.len s0 = (some p, s1) → readBuf d d.aux 0 x.len s1 = (some q, s2) → kfind s2.par (bits d.param 5 0) = some x →
       exec .pqCheck s = ends (if min (firstDiff p x.p) (firstDiff q x.q) < x.len then
         { status := 0x02, outBytes := min (firstDiff p x.p) (firstDiff q x.q) } else {}) (setPar (kdel s2.par (bits d.param 5 0)) s2)) ∧
     (HasJob 7 0 (·.op == 5) c rest d s → onlyBits d.param 0x3F = true → d.aux = 0 → exec .pqFree s = ends {} (setPar (kdel s0.par (bits d.param 5 0)) s0)) ∧
     (HasJob 7 0 (·.op == 4) c rest d s → parRecon c d s0 = (r, s1) → r.status = 0x00 → exec .recon s = ends r s1))

/-- R160, R164, R167: on a unit of ING whose queue head is such a job with AUX and PARAM as their tables have them, CUT writes the chunk list of its
input, HASH writes the fingerprint of its input under the salt of its KD, CHECK ends OK exactly when that fingerprint is the one at AUX, and FP_LIST
ends as its function says with KD and FP_DONE set in the list. R199 to R202 and R204: on a unit of CMP whose queue head is such a job, COMPRESS of 1
to 262,144 bytes writes the frame that R200 emits when the verify decompressor agrees, and DECOMPRESS of a frame whose stated size fits OUT writes its
content when the form and the checksum are good; a raw frame that fits opens to the bytes it was made of. Clauses that rest on the model's own
choices: log entries 13, 38. -/
def Obligations.DataReductionJobs : Prop :=
  (∀ (u4 : Fin 4) (u : Fin 8) (c : Chain) (rest : List Chain) (d : Desc) (data salt e out : List Byte) (oh oo cap : Nat) (al : Bool) (r : JobRes) (s s1 s2 : State),
     s.pwr.katDue = [] →
     let c0 := takeJob 2 u4.val rest d s
     let s0 := takeJob 3 u.val rest d s
     let reads := fun (x y : State) => readBuf d (inputOf c d x).1 (inputOf c d x).2.1 (inputOf c d x).2.2 x = (some data, y)
     (HasJob 2 u4.val (·.op == 0) c rest d s → d.aux = 0 → d.param < 2 → reads c0 s1 → (inputOf c d c0).2.2 ≤ 0x200000 →
       cutOut d (inputOf c d c0).2.2 s1 = (some (oh, oo, cap, al), s2) →
       chunkList ((inputOf c d c0).2.1 * 2 ^ 32 + (inputOf c d c0).1) (inputOf c d c0).2.2 (cuts data s2) = out → out.length ≤ cap → exec (.cut u4) s = .next (arSettle (jobWrites c d u4.val oh oo al out s2))) ∧
     (HasJob 3 u.val (·.op == 2) c rest d s → d.aux < 4096 → d.param = 0 → FindsBuffers c d s0 data oh oo cap al s2 → saltOf d.aux s2 = some salt →
       (digestBytes (fpOf salt data)).length ≤ cap →
       exec (.hash u) s = .next (arSettle (jobWrites c d u.val oh oo al (digestBytes (fpOf salt data)) s2))) ∧
     (HasJob 3 u.val (·.op == 1) c rest d s → bits d.aux 15 12 = 0 → d.aux / 65536 % 32 = 0 → d.param = 0 → reads s0 s1 → saltOf (d.aux % 4096) s1 = some salt →
       readMem (physKey (ctxCore c.ctx) (d.aux / 65536)) 32 s1 = (some e, s2) →
       exec (.check u) s = .next (arSettle (jobEnds c d u.val { status := if digestBytes (fpOf salt data) = e then 0x00 else 0x02 } s2))) ∧
     (HasJob 3 u.val (·.op == 0) c rest d s → sha3FpList c d s0 = (r, s2) → r.status = 0x00 → exec (.fpList u) s = .next (arSettle (jobEnds c d u.val r s2)))) ∧
  ((∀ (u : Fin 8) (c : Chain) (rest : List Chain) (d : Desc) (data out : List Byte) (oh oo cap : Nat) (al : Bool) (n m : Nat) (s s2 : State),
       s.pwr.katDue = [] →
       (HasJob 4 u.val (·.op == 0) c rest d s → d.aux = 0 → d.param % 16 ≤ 9 →
         d.param = d.param % 16 + (if d.param.testBit 8 then 256 else 0) + bits d.param 31 16 * 65536 →
         FindsBuffers c d (takeJob 4 u.val rest d s) data oh oo cap al s2 → 1 ≤ data.length → data.length ≤ 262144 →
         emittedFrame (d.param % 16) (bits d.param 31 16) cap (d.param.testBit 8) data = some out →
         exec (.compress u false) s = .next (arSettle (jobWrites c d u.val oh oo al out s2))) ∧
       (HasJob 5 u.val (·.op == 0) c rest d s → d.aux = 0 → (d.param = 0 ∨ (d.param = out.length ∧ d.param < 2 ^ 32)) → FindsBuffers c d (takeJob 5 u.val rest d s) data oh oo cap al s2 →
         frameSize data = some (n, m) → n ≤ 262144 → n ≤ cap → decodeFrame data = some out →
         exec (.decompress u) s = .next (arSettle (jobWrites c d u.val oh oo al out s2)))) ∧
     (∀ l : List Byte, 1 ≤ l.length → l.length ≤ 262144 → decodeFrame (rawFrame l) = some l))

/-- R209 to R217: on a cipher lane whose queue head is such a job, with both twins agreeing, GCM_SEAL takes the counter of its FRAME slot, writes the
header, the ciphertext and the tag and advances the counter; GCM_OPEN writes the plaintext of a frame whose tag matches; the other modes write the
bytes of SP 800-38A or IEEE 1619 under their key slot and block. Clauses that rest on the model's own choices: log entries 38, 66. -/
def Obligations.CipherJobs : Prop :=
  ∀ (u : Fin 64) (c : Chain) (rest : List Chain) (d : Desc) (data out p : List Byte) (oh oo cap : Nat) (al : Bool) (s s2 s3 : State),
  s.pwr.katDue = [] →
  let s0 := takeJob 6 u.val rest d s
  let slot := d.aux % 4096
  let k := keyOf slot s2
  let nonce := nonceOf k.counter s2
  let hd := sealHeader k nonce d.param data.length
  let blk := physKey (ctxCore c.ctx) (d.aux / 65536)
  let ok := FindsBuffers c d s0 data oh oo cap al s2 ∧ data.length ≤ cap ∧ data.length ≤ 0x200000 ∧ bits d.aux 15 12 = 0 ∧ d.param = 0 ∧
    d.aux / 65536 % 16 = 0 ∧ dataPlace (ctxCore c.ctx) (d.aux / 65536) false s0 = true ∧ readMem blk 16 s2 = (some p, s3)
  let key := roundKeys ((keyOf slot s2).mat.take 32)
  let writesBlock := fun (r : List Byte × List Byte) => Host.Outcome.next (φ := Fault) (ρ := Refusal)
    (arSettle (jobWrites c d u.val oh oo al r.1 (memWrite blk (padTo 16 r.2) s3)))
  (HasJob 6 u.val (·.op == 0) c rest d s → gcmBad d true = false → FindsBuffers c d s0 data oh oo cap al s2 → 14 ≤ data.length → data.length ≤ 262163 →
    k.typ = 1 → rbit F.CIP_CTL_LOCK s2 = true → data.length + 48 ≤ cap → k.counter ≠ k.limit →
    exec (.gcmSeal u .agree) s = .next (arSettle (jobWrites c d u.val oh oo al
      (hd ++ (gcmEnc (k.mat.take 32) nonce hd data).1 ++ (gcmEnc (k.mat.take 32) nonce hd data).2) (setKey slot { k with counter := k.counter + 1 } s2)))) ∧
  (HasJob 6 u.val (·.op == 1) c rest d s → gcmBad d false = false → FindsBuffers c d s0 data oh oo cap al s2 → 62 ≤ data.length → data.length ≤ 262211 →
    k.typ = 1 → data.length - 48 ≤ cap → openWith slot data s2 = (0x00, out) →
    exec (.gcmOpen u .agree) s = .next (arSettle (jobWrites c d u.val oh oo al out s2))) ∧
  (ok → (keyOf slot s2).typ = 2 → data.length % 4096 = 0 →
    (HasJob 6 u.val (·.op == 2) c rest d s → exec (.xtsEnc u .agree) s =
      .next (arSettle (jobWrites c d u.val oh oo al (xtsAll false (keyOf slot s2).mat (ofLe p) (data.length / 4096 + 1) data) s3))) ∧
    (HasJob 6 u.val (·.op == 3) c rest d s → exec (.xtsDec u .agree) s =
      .next (arSettle (jobWrites c d u.val oh oo al (xtsAll true (keyOf slot s2).mat (ofLe p) (data.length / 4096 + 1) data) s3)))) ∧
  (ok → (keyOf slot s2).typ = 4 → data.length % 16 = 0 →
    (HasJob 6 u.val (·.op == 4) c rest d s → exec (.cbcEnc u .agree) s = writesBlock (cbcEnc key p data)) ∧
    (HasJob 6 u.val (·.op == 5) c rest d s → exec (.cbcDec u .agree) s = writesBlock (cbcDec key p data))) ∧
  (ok → (keyOf slot s2).typ = 4 → data.length ≠ 0 →
    (HasJob 6 u.val (·.op == 6) c rest d s → exec (.cfbEnc u .agree) s = writesBlock (cfbEnc key p data)) ∧
    (HasJob 6 u.val (·.op == 7) c rest d s → exec (.cfbDec u .agree) s = writesBlock (cfbDec key p data)) ∧
    (HasJob 6 u.val (·.op == 8) c rest d s → exec (.ctr u .agree) s = writesBlock (aesCtr key p data)))

/-- R212, R215, R216: a frame that one slot seals under its key is one that the same slot opens to the bytes sealed, at any later state that holds the
same key. -/
def Obligations.SealedFrameOpens : Prop :=
  ∀ (slot n : Nat) (z f : List Byte) (s t v : State), sealWith slot n z s = (0x00, f, t) → z.length < 2 ^ 32 →
    32 ≤ (keyOf slot s).mat.length → (keyOf slot s).kd < 4096 → (keyOf slot s).gen < 65536 → (keyOf slot v).typ = 1 → (keyOf slot v).mat = (keyOf slot s).mat →
    (keyOf slot v).kd = (keyOf slot s).kd → (keyOf slot v).gen = (keyOf slot s).gen →
    f.length = z.length + 48 ∧ openWith slot f v = (0x00, z) ∧ (keyOf slot t).counter = (keyOf slot s).counter + 1

/-- R233 and R234: P is the sum of the data strips, so a stripe that lost one data strip gets it back from P and the others, byte for byte. -/
def Obligations.ParityRestoresOneStrip : Prop :=
  ∀ (n : Nat) (l : List (Nat × List Byte)) (i : Nat) (x : List Byte), (∀ e ∈ l, e.2.length = n) → x.length = n →
    xorBytes (pOf n ((i, x) :: l)) (pOf n l) = x

/-- R241 to R243: an NVME job at the head of a drive's queue whose drive can be reached and answers success is sent to it with its parameters and ends OK:
a READ or a report puts the drive's data at OUT, an APPEND feeds its strip to its parity context with PQ_EN and keeps it at the assigned LBA, with
Force Unit Access on a drive that reports a volatile write cache, a zone command acts on its zone, an ADMIN command is its 64-byte SQE with CDW0
replaced. R243 and R544: a command outstanding for too long is aborted at the drive and its job ends CHECK_FAIL with code 0xFFFE in its output bytes,
the time noted; a drive command that fails ends CHECK_FAIL with the drive's code, one to a drive that cannot be reached with 0xFFFF and nothing sent.
Clauses that rest on the model's own choices: log entries 15, 38, 65. -/
def Obligations.DriveJobsAndFailures : Prop :=
  (∀ (dr : DriveNo) (c : Chain) (rest : List Chain) (d : Desc) (l sqe : List Byte) (r : DriveResp) (oh oo cap : Nat) (al : Bool) (s s1 : State),
     r.code = 0 →
     let s0 := takeJob 9 dr.val rest d s
     let n := nvmeDrive d
     let out : JobRes := { outBytes := cap, outHandle := some (oo * 2 ^ 32 + oh), alloc := if al then some oh else none }
     let gets := fun (op : Nat) => jobEnds c d dr.val out (writeBuf oh oo (padTo cap r.data) (emit (.drive n op d.param false []) s1))
     let finds := d.aux = n ∧ d.param < 2 ^ 48 ∧ outBuf d s0 = (some (oh, oo, cap, al), s1) ∧ okLen cap = true ∧ driveReach n s1 = true
     let reads := readBuf d (inputOf c d s0).1 (inputOf c d s0).2.1 (inputOf c d s0).2.2 s0 = (some l, s1) ∧ okLen (inputOf c d s0).2.2 = true ∧ driveReach n s1 = true
     let pq := d.aux.testBit 16
     let fed := if pq then parFeed (bits d.aux 29 24) (bits d.aux 36 32) l s1 else s1
     let zone := fun (act : Nat) => HasJob 9 dr.val (fun d => d.op == 3 && bits d.param 35 32 == act) c rest d s ∧ d.aux = n ∧ d.param < 2 ^ 36 ∧ driveReach n s0 = true
     let sent := emit (.drive n 3 d.param false []) s0
     (HasJob 9 dr.val (·.op == 0) c rest d s → finds → exec (.nvmeRead dr r) s = .next (memberSettle (arSettle (gets 0)))) ∧
     (HasJob 9 dr.val (·.op == 1) c rest d s → reads → r.lba = d.param / 2 ^ 32 →
       d.aux = n + (if pq then 2 ^ 16 else 0) + bits d.aux 29 24 * 2 ^ 24 + bits d.aux 36 32 * 2 ^ 32 →
       (pq && feedBad (bits d.aux 29 24) (bits d.aux 36 32) s1) = false → driveReach n fed = true →
       exec (.append dr r) s = .next (memberSettle (arSettle (jobEnds c d dr.val { outBytes := (inputOf c d s0).2.2 }
         (keepStrip n (d.param % 2 ^ 32) r.lba l (emit (.drive n 1 d.param (appendFua n fed) l) fed)))))) ∧
     (HasJob 9 dr.val (·.op == 2) c rest d s → reads → d.aux = n → 512 ≤ n → d.param < 2 ^ 48 →
       exec (.nvmeWrite dr r) s = .next (memberSettle (arSettle (jobEnds c d dr.val { outBytes := (inputOf c d s0).2.2 } (emit (.drive n 2 d.param false l) s1))))) ∧
     (zone 1 → exec (.zoneClose dr r) s = .next (arSettle (jobEnds c d dr.val {} sent))) ∧
     (zone 2 → exec (.zoneFinish dr r) s = .next (arSettle (jobEnds c d dr.val {} sent))) ∧
     (zone 3 → exec (.zoneOpen dr r) s = .next (arSettle (jobEnds c d dr.val {} sent))) ∧
     (zone 4 → exec (.zoneReset dr r) s = .next (arSettle (jobEnds c d dr.val {} (resetZone n (d.param % 2 ^ 32) sent)))) ∧
     (HasJob 9 dr.val (·.op == 4) c rest d s → finds → watched dr.val (arSettle (gets 4)) = false → exec (.zoneReport dr r) s = .next (arSettle (gets 4))) ∧
     (HasJob 9 dr.val (·.op == 5) c rest d s → d.param = n → d.aux < 2 ^ 48 → dataPlace (ctxCore c.ctx) d.aux true s0 = true →
       readMem (physKey (ctxCore c.ctx) d.aux) 64 s0 = (some sqe, s1) → d.flag fOutAlloc = false → d.outLimit = 0 → d.out = 0 → driveReach n s1 = true →
       exec (.nvmeAdmin dr r) s = .next (arSettle (jobEnds c d dr.val {} (tickFree (emit (.drive n 5 0 false (adminSqe sqe s1)) s1)))))) ∧
  (∀ (dr : DriveNo) (c : Chain) (rest : List Chain) (d : Desc) (r : DriveResp) (s : State),
     let s0 := takeJob 9 dr.val rest d s
     (∀ (j : JobRes) (s1 : State), engQueue 9 dr.val s = c :: rest → c.descs.head? = some d →
       driveJob { code := 0xFFFE } c d (setEngQueue 9 dr.val rest s) = (j, s1) →
       let t := finishJob c d j (emit (.drive dr.val 8 0 false []) s1)
       let m := memberOf dr.val t
       let l := (m.timeouts.filter (fun x => decide (opsec t < x + 600))) ++ [opsec t]
       let u := setMember dr.val { m with timeouts := l } t
       exec (.cmdTimeout dr) s = .next (memberSettle (arSettle
         (if (settings u).timeoutFails ≤ l.length then reportMember dr.val .failed u else u))) ∧
       (d.op = 3 → d.aux = nvmeDrive d → d.param < 2 ^ 36 → driveReach (nvmeDrive d) (setEngQueue 9 dr.val rest s) = true →
         j.status = 0x02 ∧ j.outBytes = 0xFFFE)) ∧
     (∀ act : Nat, HasJob 9 dr.val (fun d => d.op == 3 && bits d.param 35 32 == act) c rest d s → act = 2 → d.aux = nvmeDrive d → d.param < 2 ^ 36 →
       (r.code ≠ 0 → driveReach (nvmeDrive d) s0 = true →
         exec (.zoneFinish dr r) s = .next (arSettle (jobEnds c d dr.val { status := 0x02, outBytes := r.code } (emit (.drive (nvmeDrive d) 3 d.param false []) s0)))) ∧
       (driveReach (nvmeDrive d) s0 = false →
         exec (.zoneFinish dr r) s = .next (arSettle (jobEnds c d dr.val { status := 0x02, outBytes := 0xFFFF } s0)))))

/-- R192, R225, R271: with its tests enabled a unit in service on an island that is on counts a pass (CIP and PAR have no such counter), and one that
fails its known-answer test is counted, recorded and retired at once; R332: a RECORD job of a plain record places it in the open epoch, a BARRIER with
nothing unconfirmed ends at once. Clauses that rest on the model's own choices: log entries 39, 53. -/
def Obligations.KnownAnswerTestsAndEpochJobs : Prop :=
  ∀ (u12 : Fin 12) (u16 : Fin 16) (u64 : Fin 64) (c : Chain) (rest : List Chain) (d : Desc) (b l : List Byte) (s s1 : State),
  let ing := if u12.val < 4 then (2, u12.val) else (3, u12.val - 4)
  let cmp := if u16.val < 8 then (4, u16.val) else (5, u16.val - 8)
  let serves := fun (e u : Nat) => unitRetired e u s = false ∧ islandOff (engIsland e) s = false
  let fails := fun (e u : Nat) (f : State → State) =>
    retireUnit e u (record Ev.KAT_FAIL (engIsland e) (unitInst e u) []
      (f { s with mir := { s.mir with healthTest := rget F.CLK_TICK_TICK s + 1 }, flt := { s.flt with katFails := s.flt.katFails + 1 } }))
  (rbit F.ING_KAT_CTL_KAT_EN s = true → serves ing.1 ing.2 →
    exec (.ingKat u12 none) s = .next (arSettle (rinc F.ING_KAT_CTL_KAT_PASSES 1 s)) ∧
    exec (.ingKat u12 (some (ingKatExpect u12.val))) s = .next (arSettle (rinc F.ING_KAT_CTL_KAT_PASSES 1 s)) ∧
    (l ≠ ingKatExpect u12.val → exec (.ingKat u12 (some l)) s = .next (arSettle (fails ing.1 ing.2 (fun s => rinc F.ING_ERR_CNT_KAT_FAIL 1 s))))) ∧
  (rbit F.CMP_VERIFY_CFG_KAT_EN s = true → serves cmp.1 cmp.2 →
    exec (.cmpKat u16 none) s = .next (arSettle (rinc F.CMP_VERIFY_CFG_KAT_PASSES 1 s)) ∧
    exec (.cmpKat u16 (some (cmpKatExpect u16.val))) s = .next (arSettle (rinc F.CMP_VERIFY_CFG_KAT_PASSES 1 s)) ∧
    (l ≠ cmpKatExpect u16.val → exec (.cmpKat u16 (some l)) s = .next (arSettle (fails cmp.1 cmp.2 (fun s => rinc F.CMP_ERR_CNT_KAT_FAIL 1 s))))) ∧
  (rbit F.CIP_CTL_KAT_EN s = true → serves 6 u64.val →
    exec (.cipKat u64 false) s = .next (arSettle s) ∧
    exec (.cipKat u64 true) s = .next (arSettle (fails 6 u64.val (fun s => rinc F.CIP_MISMATCH_CNT_KAT_FAIL 1 s)))) ∧
  (rbit F.PAR_CTL_KAT_EN s = true → serves 7 0 →
    exec (.parKat false) s = .next (arSettle s) ∧
    exec (.parKat true) s = .next (arSettle (fails 7 0 (fun s => rinc F.PAR_ERR_CNT_KAT_FAIL 1 s)))) ∧
  (let a := d.aux % 2 ^ 48
   let n := d.param % 2 ^ 32
   let core := ctxCore c.ctx
   let s0 := takeJob 8 0 rest d s
   HasJob 8 0 (·.op == 0) c rest d s → epochFull s = false → a % 16 = 0 → 16 ≤ n → n ≤ 4096 → n % 16 = 0 → dataPlace core a false s0 = true →
    dataPlace core (a + n - 1) false s0 = true → readMem (physKey core a) n s0 = (some b, s1) → hdrField 4 4 b = n → hdrField 0 1 b ≠ 0x02 →
    isWriteTake (parseRec b) = false → d.param.testBit 32 = false →
    exec .record s = .next (jobEnds c d 0 {} (addRec c.ctx (if (hdrField 9 1 b).testBit 0 then some (hdrField 8 1 b) else none) (parseRec b) s1).2)) ∧
  (HasJob 8 0 (·.op == 1) c rest d s → slotUnconfirmed c.ctx (rget F.PNL_EPOCH_SEQ_NUMBER s) s = false →
    exec .barrier s = .next (jobEnds c d 0 {} (setEngQueue 8 0 rest s)))

/-- Table 19.2, the engine, buffer and key registers: an accepted write of each acts as its rule says, with the word it carries: ING_CHUNK_CFG under its
parameter and LOCK rules, the RUN_NOW bits testing every unit in service, S_EN, D_EN and LW_RESET, the key slot commands by the core that writes (one
written while BUSY is discarded), and a nonce limit raised. Table 19.2, the chip, power, clock, dispatcher and shelf registers: PWR_MODE outside an
entry (R433), WAKE and FORCE_OFF (R427, R429), LEVEL (R422, R423), CLK_ALARM (R493), DRAIN (R90), PRESENT (R264) and WARM (R479). Clauses that rest on
the model's own choices: log entries 30, 31, 32, 66. -/
def Obligations.EnginePowerAndChipCommands : Prop :=
  (∀ (who : CoreId) (v : Word) (failing : List Nat) (fail : Bool) (set : Fin 2) (cls : Fin 5) (typ : Fin 16) (slot : Fin 4096) (addr : Nat) (s : State),
     let ing := ctlUngate 0x20000a000000 s
     let cmp := ctlUngate 0x20000b000000 s
     let cip := ctlUngate 0x20000c000000 s
     let par := ctlUngate 0x20000d000000 s
     let key := fun (op : Nat) (t n a : Nat) => BitVec.ofNat 64 (op * 2 ^ 60 + t * 2 ^ 56 + n * 2 ^ 42 + a / 64 % 2 ^ 42)
     let at_ := addr / 64 % 2 ^ 42 * 64
     let idle := rbit F.CIP_KEYSLOT_STATUS_BUSY cip = false
     (Accepts who 0x20000a000000 v s → exec (.ingChunkCfgWrite who v) s = .next (writeChunkCfg v ing)) ∧
     (Accepts who 0x20000a000010 (withBit 0x20000a000010 1 s) s →
       exec (.runNow who failing) s = .next (ingRunNow failing (writeIngKatCtl (withBit 0x20000a000010 1 s) ing))) ∧
     (Accepts who 0x20000b000008 (withBit 0x20000b000008 3 s) s →
       exec (.katRunNow who failing) s = .next (cmpRunNow failing (writeCmpVerifyCfg (withBit 0x20000b000008 3 s) cmp))) ∧
     (Accepts who 0x20000c000000 (withBit 0x20000c000000 3 s) s →
       exec (.cipKatRunNow who failing) s = .next (cipRunNow failing (writeCipCtl (withBit 0x20000c000000 3 s) cip))) ∧
     (Accepts who 0x20000d000000 (withBit 0x20000d000000 3 s) s →
       exec (.parKatRunNow who fail) s = .next (parKatOne fail (writeParCtl (withBit 0x20000d000000 3 s) par))) ∧
     (Accepts who 0x20000c000008 (key 1 typ.val slot.val addr) s → idle → exec (.load who typ slot addr) s = .next (opLoad who typ.val slot.val at_ cip)) ∧
     (Accepts who 0x20000c000008 (key 2 typ.val slot.val addr) s → idle → exec (.generate who typ slot addr) s = .next (opGenerate who typ.val slot.val at_ cip)) ∧
     (Accepts who 0x20000c000008 (key 3 0 slot.val 0) s → idle → exec (.zeroize who slot) s = .next (keyDone 3 slot.val 0 (setKey slot.val {} cip))) ∧
     (Accepts who 0x20000c000008 (key 4 typ.val slot.val addr) s → idle → exec (.query who typ slot addr) s = .next (opQuery who slot.val at_ cip)) ∧
     (Accepts who 0x20000c000008 (key 5 0 0 0) s → idle → exec (.zeroizeAll who) s = .next (keyDone 5 0 0 (clearKeys cip))) ∧
     (Accepts who 0x20000c000008 (key 5 0 0 0) s → ¬idle → exec (.zeroizeAll who) s = .next (rflag F.CIP_KEYSLOT_STATUS_CMD_DROPPED true cip)) ∧
     (Accepts who 0x20000c000018 (v ||| 0x8000) s → exec (.nonceLimitSet who v) s = .next (writeNonceLimit (v ||| 0x8000) cip)) ∧
     (Accepts who 0x200004000000 (withBit 0x200004000000 0 s) s → rbit F.BPM_CTL_S_EN (rflag F.BPM_CTL_D_KEEP (wbit (withBit 0x200004000000 0 s) 2) s) = false → cfgOk 0 (rflag F.BPM_CTL_D_KEEP (wbit (withBit 0x200004000000 0 s) 2) s) = true →
       wbit (withBit 0x200004000000 0 s) 1 = false →
       (rbit F.BPM_CTL_D_EN s || !rbit F.BPM_CTL_D_EN (rflag F.BPM_CTL_S_EN true (emptySet 0 (rflag F.BPM_CTL_D_KEEP (wbit (withBit 0x200004000000 0 s) 2) s)))) = true →
       exec (.sEn who) s = .next (rflag F.BPM_CTL_S_EN true (emptySet 0 (rflag F.BPM_CTL_D_KEEP (wbit (withBit 0x200004000000 0 s) 2) s)))) ∧
     (Accepts who 0x200004000000 (withBit 0x200004000000 1 s) s → wbit (withBit 0x200004000000 1 s) 0 = false → wbit (withBit 0x200004000000 1 s) 2 = false → rbit F.BPM_CTL_D_EN s = false →
       rbit F.BPM_CTL_D_EN (rflag F.BPM_CTL_D_KEEP false s) = false → rbit F.BPM_CTL_D_KEEP (rflag F.BPM_CTL_D_KEEP false s) = false → cfgOk 1 (rflag F.BPM_CTL_D_KEEP false s) = true →
       rbit F.BPM_CTL_D_EN (rflag F.BPM_CTL_D_EN true (emptySet 1 (rflag F.BPM_CTL_D_KEEP false s))) = true →
       exec (.dEn who) s = .next (afterDEn (rflag F.BPM_CTL_D_EN true (emptySet 1 (rflag F.BPM_CTL_D_KEEP false s))))) ∧
     (Accepts who (0x200004000200 + 64 * set.val + 8 * cls.val) (BitVec.ofNat 64 (2 ^ 63)) s →
       exec (.lwReset who set cls) s = .next (rset F.BPM_CLASS_FREE_LOW_WATER (cadFree set.val cls.val s) s (8 * set.val + cls.val)))) ∧
  (∀ (who : CoreId) (v : Word) (mask : BitVec 19) (m8 : BitVec 8) (n : Fin 16) (lvl : Fin 4) (s : State),
     let p := clearIrq 1 s
     let wk := withBits 0x200001000010 56 38 mask.toNat s
     let fo := withBits 0x200001000010 18 0 mask.toNat s
     let pr := withBits 0x200010000000 63 56 m8.toNat s
     let gate := fun (x : Word) => wakeIslands (bits x.toNat 56 38) (writeForceOff (bits x.toNat 18 0) (rset F.PWR_ISLAND_GATE_AUTO_PG (bits x.toNat 37 19 &&& autoPgMask) p))
     (Accepts who 0x200001000000 v s →
       let u := rset F.PWR_MODE_STATE (v.toNat % 4) (rset F.PWR_MODE_AGREE_SEQ (bits v.toNat 23 8)
         (rset F.PWR_MODE_VETO (bits v.toNat 63 48) (rset F.PWR_MODE_PG_IDLE_US (bits v.toNat 47 32) (rset F.PWR_MODE_CG_IDLE_10NS (bits v.toNat 31 24) p))))
       (atStep3 u = false ∨ v.toNat % 4 = 2 → exec (.pwrMode who v) s = .next u) ∧
       (atStep3 u = true → v.toNat % 4 < 2 → exec (.pwrMode who v) s = .next (abortEntry 7 0 (v.toNat % 4) u))) ∧
     (Accepts who 0x200001000010 wk s → wbit wk 57 = false → exec (.wake who mask) s = .next (gate wk)) ∧
     (Accepts who 0x200001000010 fo s → wbit fo 57 = false → exec (.forceOff who mask) s = .next (gate fo)) ∧
     (Accepts who (0x200001000100 + 8 * n.val) (BitVec.ofNat 64 lvl.val) s →
       exec (.level who n lvl) s = .next (if n.val = 0 ∨ n.val = 14 ∨ n.val = 15 then p else startLevel n.val (rset F.PWR_DVFS_LEVEL lvl.val p n.val))) ∧
     (Accepts who 0x200002000028 v s → exec (.clkAlarm who v) s = .next
       (let u := rset F.CLK_ALARM_ALARM (bits v.toNat 63 32) s
        if bits v.toNat 31 0 = 0 then u else rset F.CLK_ALARM_RTC_SEC (bits v.toNat 31 0) u)) ∧
     (Accepts who 0x200005000000 (withBit 0x200005000000 1 s) s → rbit F.TSK_CTL_DRAIN s = false →
       rbit F.TSK_CTL_DRAIN (storeWord 0x200005000000 (withBit 0x200005000000 1 s) s) = true →
       exec (.drain who) s = .next (startDrain (storeWord 0x200005000000 (withBit 0x200005000000 1 s) s))) ∧
     (Accepts who 0x200010000000 pr s → exec (.present who m8) s = .next (setPresent (bits pr.toNat 63 56)
       (rset F.SHF_CTL_ALERT_EN (bits pr.toNat 47 40) (rset F.SHF_CTL_EN_DRIVE (bits pr.toNat 55 48) (clearIrq 7 s))))) ∧
     (Accepts who 0x200000000020 (withBit 0x200000000020 0 s) s →
       exec (.warm who) s = .next (warmReset F.CHIP_RESET_CAUSE_WARM_SW (storeWord 0x200000000020 (withBit 0x200000000020 0 s) s))))

/-- R132 and Table 4.17: EN releases a core at START in S, HALT stops it, STEP runs one instruction of the halted core, RETIRE retires it as the fault
counters do, with CORE_RETIRED; each stores the register's fields first. Table 19.2, the recorder, fault-counter and Rearn registers: EVR_WIN_SEL
takes a snapshot of the record (R412), EVR_WIN_DATA reads a word and advances, EVR_INJECT raises the event of its block (R411), FLT_CTR_CFG is stored
and clears the slots when its window changes (R417), ARM and DISARM act on the selected window (R373). Clauses that rest on the model's own choices:
log entries 30, 31, 32, 33. -/
def Obligations.CoreRecorderAndWindowCommands : Prop :=
  (∀ (who : CoreId) (n : Fin 64) (v : Word) (s : State),
     let a := 0x200013000100 + 8 * n.val
     let w := fun (m : Nat) => BitVec.ofNat 64 (v.toNat ||| m)
     let u := fun (m : Nat) => storeWord a (w m) s
     let c : CoreId := ⟨n.val, by omega⟩
     (Accepts who a (w 1) s → wbit (w 1) 2 = false → wbit (w 1) 3 = false → rbit F.DPC_CORE_CTL_EN s n.val = false → rbit F.DPC_CORE_CTL_HALT s n.val = false →
       rtest F.DPC_CORE_RETIRED_CORES n.val (u 1) = false →
       exec (.en who n v) s = .next (setBank (8 * n.val) { pc := BitVec.ofNat 64 (bits (w 1).toNat 57 16 * 64), priv := 0 }
         { u 1 with cpu := { (u 1).cpu with cores := kput (u 1).cpu.cores n.val { start := true, first := true } } })) ∧
     (Accepts who a (w 2) s → wbit (w 2) 2 = false → wbit (w 2) 3 = false → rbit F.DPC_CORE_CTL_EN s n.val = true → exec (.halt who n v) s = .next (u 2)) ∧
     (Accepts who a (w 6) s → wbit (w 6) 3 = false → rbit F.DPC_CORE_CTL_EN s n.val = true →
       let x := selectNext n.val (rflag F.DPC_CORE_CTL_HALT false (u 6) n.val)
       executes x c = true →
       exec (.step who n v) s = .next (rflag F.DPC_CORE_CTL_HALT true (runDyris (stepCore 63) (decodeDyris (fetchWord c x)) c x) n.val)) ∧
     (Accepts who a (w 8) s → wbit (w 8) 2 = false → rbit F.DPC_CORE_CTL_EN s n.val = true → rbit F.DPC_CORE_CTL_HALT s n.val = false →
       (rtest F.DPC_CORE_RETIRED_CORES n.val (u 8) = false →
         exec (.retire who n v) s = .next (record Ev.CORE_RETIRED (coreSource c) n.val [] (retireCore n.val (u 8)))) ∧
       (rtest F.DPC_CORE_RETIRED_CORES n.val (u 8) = true → exec (.retire who n v) s = .next (u 8)))) ∧
  (∀ (who : CoreId) (d : Rn) (v : Word) (k : Fin 7) (addr : Nat) (b : List Byte) (s s1 : State),
     let a := addr % 2 ^ 48
     let inj := BitVec.ofNat 64 a
     (Accepts who 0x200003000018 v s →
       let r := selectRecord (bits v.toNat 47 8) s
       let u := rset F.EVR_WIN_SEL_SEQ (bits v.toNat 47 8) (rset F.EVR_WIN_SEL_WORD v.toNat (rset F.EVR_WIN_SEL_STATUS r.1 s))
       (∀ e, r.2 = some e → exec (.evrWinSel who v) s = .next { u with evr := { u.evr with snap := wordsOf 8 (recordBytes e (r.1 == 1)) } }) ∧
       (r.2 = none → exec (.evrWinSel who v) s = .next { u with evr := { u.evr with snap := List.replicate 8 0 } })) ∧
     (executes s who = true → ctlFault who 0x200003000020 false 0 s = none →
       exec (.evrWinData who d) s = .next (wr who d (s.evr.snap.getD (rget F.EVR_WIN_SEL_WORD s) 0) (rset F.EVR_WIN_SEL_WORD (rget F.EVR_WIN_SEL_WORD s + 1) s))) ∧
     (Accepts who 0x200003000028 inj s → a % 32 = 0 → dataPlace who a true s = true → readMem (physKey who a) 32 s = (some b, s1) →
       exec (.evrInject who addr) s = .next (injectBlock who b s1)) ∧
     (Accepts who (0x200012000100 + 8 * k.val) v s →
       let u := rset F.FLT_CTR_CFG_ACT_EN (bits v.toNat 63 63) (rset F.FLT_CTR_CFG_THRESHOLD (bits v.toNat 47 32) (rset F.FLT_CTR_CFG_WINDOW_MS (bits v.toNat 31 0) s k.val) k.val) k.val
       exec (.fltCtrCfgWrite who k v) s = .next (if rget F.FLT_CTR_CFG_WINDOW_MS s k.val = bits v.toNat 31 0 then u
         else { u with flt := { u.flt with slots := u.flt.slots.filter (fun p => decide (p.1 / 65536 ≠ k.val)) } })) ∧
     (Accepts who 0x200008000018 2 s → rget F.RRN_WIN_SEL_WORD s = 2 → exec (.arm who) s = .next (armWindow (rget F.RRN_WIN_SEL_WINDOW s) s)) ∧
     (Accepts who 0x200008000018 1 s → rget F.RRN_WIN_SEL_WORD s = 2 → exec (.disarm who) s = .next (disarmWindow (rget F.RRN_WIN_SEL_WINDOW s) s)))

/-- R104, R105, R536 to R538: a register command of a core that meets a check has no other effect than that check's exception in the writing core: H
raises SANDBOX, U writing what it may not or a writer that R537 does not accept raises PRIV, a misaligned or undefined address BUS_ERR, a register of
an island that is off ISLAND_OFF; a core that executes nothing writes nothing. A clause that rests on the model's own choice: log entry 30. -/
def Obligations.RegisterWriteChecks : Prop :=
  ∀ (who : CoreId) (a : Nat) (v : Word) (s : State), 0x200000000000 ≤ a → a < 0x200014000000 →
  let addr := BitVec.ofNat 64 a
  let bad := (privOf s who ≠ 0 ∧ uMayWrite a = false) ∨ writerOk who a v s = false
  (executes s who = false → exec (.registerWrite who a v) s = .next s) ∧
  (executes s who = true →
    (privOf s who = 2 → exec (.registerWrite who a v) s = .next (raise who { cause := 0x07, sub := 1, addr := addr } s)) ∧
    (privOf s who ≠ 2 → bad → exec (.registerWrite who a v) s = .next (raise who { cause := 0x02, addr := addr } s)) ∧
    (privOf s who ≠ 2 → ¬ bad → (a % 8 ≠ 0 ∨ regDefined a = false) → exec (.registerWrite who a v) s = .next (raise who { cause := 0x05, addr := addr } s)) ∧
    (privOf s who ≠ 2 → ¬ bad → a % 8 = 0 → regDefined a = true →
      (∀ i, servedBy a true = some i → islandOff i s = true →
        exec (.registerWrite who a v) s = .next (raise who { cause := 0x06, sub := i, addr := addr, done := true } (recordAccessOff i a s))) ∧
      (ctlOff a true s = none → exec (.registerWrite who a v) s = .next (writeReg stepOnce who a v [] (ctlUngate a s)))))

/-- R11: a write of a register of the HQ and MEM blocks stores each field by its access class: RW and RWS fields take their bits, RW1C fields lose the
bits written as 1, RO and WO fields keep their value. Clauses that rest on the model's own choices: log entries 30, 32. -/
def Obligations.RegisterFieldsByAccessClass : Prop :=
  ∀ (who : CoreId) (a : Nat) (v : Word) (f : Field) (i : Nat) (s : State),
  Accepts who a v s → (blockOf a = 6 ∨ blockOf a = 15) → 0x200000000000 ≤ a → ksorted s.regs = true → (f, i) ∈ fieldsAt a →
  ∃ t, exec (.registerWrite who a v) s = .next t ∧ rget f t i =
    match f.acc with
    | .rw | .rws => bits v.toNat f.msb f.lsb % 2 ^ f.width
    | .rw1c => (rget f s i - (rget f s i &&& bits v.toNat f.msb f.lsb)) % 2 ^ f.width
    | _ => rget f s i

/-- Table 19.2, the partner link, heartbeat and fence registers: PNL_EN, HB_EN, KICK, LOOPBACK_RUN, ASSERT, RELEASE, SELF_STOP, PULSE and WIRE_TEST act as
R340, R342, R344, R353, R356 and R361 say, and a write to the block clears IRQ line 0. Clauses that rest on the model's own choices: log entries 30,
31, 32, 56. -/
def Obligations.PartnerAndFenceCommands : Prop :=
  ∀ (who : CoreId) (failing : List Nat) (s : State),
  let t := clearIrq 0 s
  let w := fun (a b : Nat) => withBit a b s
  let only := fun (a b : Nat) (l : List Nat) => Accepts who a (w a b) s ∧ ∀ k ∈ l, k ≠ b → wbit (w a b) k = false
  let ctl := storeWord 0x200009000000 (w 0x200009000000 0) t
  let fen := fun (b : Nat) => storeWord 0x200009000028 (w 0x200009000028 b) t
  let hb := fun (on : Bool) => withBits 0x200009000020 0 0 (if on then 1 else 0) s
  (only 0x200009000000 0 [2] → exec (.pnlEn who) s = .next ctl) ∧
  (Accepts who 0x200009000000 (w 0x200009000000 2) s →
    exec (.loopbackRun who failing) s = .next (loopbackNow failing (storeWord 0x200009000000 (w 0x200009000000 2) t))) ∧
  (∀ on : Bool, Accepts who 0x200009000020 (hb on) s → wbit (hb on) 0 = on → wbit (hb on) 1 = false →
    exec (.hbEn who on) s = .next (setHeart on (storeWord 0x200009000020 (hb on) t))) ∧
  (Accepts who 0x200009000020 (w 0x200009000020 1) s → wbit (w 0x200009000020 1) 0 = rbit F.PNL_HB_CFG_HB_EN s →
    let u := setHeart (rbit F.PNL_HB_CFG_HB_EN s) (storeWord 0x200009000020 (w 0x200009000020 1) t)
    exec (.kick who) s = .next { u with fence := { u.fence with kickAt := rget F.CLK_TICK_TICK u } }) ∧
  (only 0x200009000028 2 [2, 3, 4, 5, 6] → rbit F.PNL_FENCE_STATUS_FENCE_IN (fen 2) = false → rbit F.PNL_FENCE_STATUS_FENCE_OUT (fen 2) = false →
    exec (.assert who) s = .next (disarm (emit (.pin "FENCE_OUT" true) (rset F.PNL_FENCE_STATUS_CAUSE 3 (rflag F.PNL_FENCE_STATUS_FENCE_OUT true (fen 2)))))) ∧
  (only 0x200009000028 2 [2, 3, 4, 5, 6] → rbit F.PNL_FENCE_STATUS_FENCE_IN (fen 2) = true → exec (.assert who) s = .next (fen 2)) ∧
  (only 0x200009000028 3 [2, 3, 4, 5, 6] → rbit F.PNL_FENCE_STATUS_FENCE_OUT (fen 3) = true →
    let u := rflag F.PNL_FENCE_STATUS_FENCE_OUT false (rflag F.PNL_FENCE_STATUS_FENCE_DONE false (fen 3))
    exec (.fenceRelease who) s = .next (disarm (emit (.pin "FENCE_OUT" false) { u with fence := { u.fence with why := 0 } }))) ∧
  (only 0x200009000028 4 [2, 3, 4, 5, 6] → exec (.selfStop who) s = .next (setGated true (rflag F.PNL_FENCE_STATUS_SELF_STOPPED true (stopHeart (fen 4))))) ∧
  (only 0x200009000028 5 [2, 3, 4, 5, 6] → rbit F.PNL_FENCE_STATUS_FENCE_OUT (fen 5) = false →
    exec (.pulse who) s = .next (emit (.pin "FENCE_OUT" false) (emit (.pin "FENCE_OUT" true) (fen 5)))) ∧
  (only 0x200009000028 6 [2, 3, 4, 5, 6] →
    exec (.wireTest who) s = .next (rflag F.PNL_FENCE_STATUS_TEST_SEEN false { fen 6 with fence := { (fen 6).fence with window := true } }))

/-- R448 to R451, R454, R456, R460, R461 and R468: the operations of SEC_ATTEST_CTL by a writer that R537 accepts, each with the block it names readable:
REPORT of an attestation report, VERIFY of an image, MEASURE of slot 2 by Stage 1, AWK_GENERATE and AWK_UNSEAL of the array wrapping key, WRITE_SLOT
and SET_DIR of the boot flash; ADVANCE of SVN_F and the read of SEC_ID_WIN. R451 and R452: outside TEST mode SEND_KEY encapsulates to the peer's
transport key and seals the array wrapping key under the shared secret, RECEIVE_KEY installs what it opens; between arrays a KEY_QUERY is answered
with certificates and a report, KEY_CERTS that pass are answered with an offer, a KEY_OFFER with the result of the transport, and KEY_ACCEPT of RESULT
OK lets the session go on; a record of a new generation goes to a chip that has not accepted it, which takes it (R219). Clauses that rest on the
model's own choices: log entries 22, 23, 70, 71. -/
def Obligations.SecurityBlockAndKeyTransport : Prop :=
  (∀ (who : CoreId) (d : Rn) (svn : BitVec 8) (addr : Nat) (b l img : List Byte) (s s1 s2 : State),
     let ctl := fun (op : Nat) => BitVec.ofNat 64 (op * 2 ^ 60 + rget F.SEC_ATTEST_CTL_OBJ s * 2 ^ 52 + rget F.SEC_ATTEST_CTL_INDEX s * 2 ^ 42 + addr / 64 % 2 ^ 42)
     let at_ := addr / 64 % 2 ^ 42 * 64
     let u := rset F.SEC_ATTEST_CTL_OBJ (rget F.SEC_ATTEST_CTL_OBJ s) (rset F.SEC_ATTEST_CTL_INDEX (rget F.SEC_ATTEST_CTL_INDEX s) (clearIrq 9 s))
     let asked := fun (op : Nat) => Accepts who 0x200011000018 (ctl op) s ∧ rget F.SEC_ATTEST_CTL_OBJ s < 8 ∧ rget F.SEC_ATTEST_CTL_INDEX s < 1024
     let cls := ofLe ((b.drop 8).take 1)
     (asked 1 → blockRead who at_ 0 33 u = (some b, s1) → rbit F.SEC_STATUS_ALIAS_READY s1 = true → reportItem (ofLe (b.drop 32)) (b.take 32) s1 = (some l, s2) →
       exec (.report who addr) s = .next (secDone 0 (blockWrite who at_ 64 l s2))) ∧
     (asked 2 → blockRead who at_ 0 9 u = (some b, s1) → blockImage who (ofLe (b.take 8)) (ofLe (b.drop 8)) s1 = (some img, s2) →
       let code := checkImage (ofLe (b.drop 8)) img s2
       let w := blockWrite who at_ 16 (leBytes 1 code) s2
       exec (.verify who addr) s = .next (if code = 0 then secDone 0 w else secDone 4 (refuseImage (ofLe (b.drop 8)) 0xFF code w))) ∧
     (asked 3 → blockRead who at_ 0 40 u = (some b, s1) → ofLe (b.take 8) = 2 → rget F.SEC_STATUS_STAGE s1 = 1 →
       exec (.measure who addr) s = .next (secDone 0 (enterStage2 { s1 with sec := { s1.sec with meas := listSet s1.sec.meas 2 (digestOf (b.drop 8)) } }))) ∧
     (asked 4 → rbit F.SEC_STATUS_TEST u = false → u.keys.awk = none → dataPlace who at_ true u = true →
       let k := drawBytes 32 u
       let e := sealBytes (sealKey k.2) [] k.1 k.2
       exec (.awkGenerate who addr) s = .next (secDone 0 (setAwk k.1 (keepBlob e.1 (blockWrite who at_ 0 (padTo 64 e.1) e.2))))) ∧
     (asked 5 → rbit F.SEC_STATUS_TEST u = false → blockRead who at_ 0 64 u = (some b, s1) → openSealed (sealKey s1) [] b 32 = some l →
       exec (.awkUnseal who addr) s = .next (secDone 0 (setAwk l s1))) ∧
     (asked 8 → blockRead who at_ 0 10 u = (some b, s1) → 1 ≤ cls → cls ≤ 3 → ofLe (b.drop 9) ≤ 1 → blockImage who (ofLe (b.take 8)) cls s1 = (some img, s2) →
       exec (.writeSlot who addr) s = .next (secDone 0 (syncSlots { s2 with sec := { s2.sec with images := kput s2.sec.images (2 * (cls - 1) + ofLe (b.drop 9)) img } }))) ∧
     (asked 9 → blockRead who at_ 0 3 u = (some b, s1) → 1 ≤ ofLe (b.take 1) → ofLe (b.take 1) ≤ 3 → ofLe (b.drop 2) ≤ 1 →
       (ofLe ((b.drop 1).take 1) = 0 → exec (.setDir who addr) s = .next (secDone 0 (setTrial (ofLe (b.take 1)) (ofLe (b.drop 2)) s1))) ∧
       (ofLe ((b.drop 1).take 1) = 1 → exec (.setDir who addr) s = .next (secDone 0 (setCommitted (ofLe (b.take 1)) (ofLe (b.drop 2)) s1)))) ∧
     (Accepts who 0x200011000008 (BitVec.ofNat 64 (svn.toNat * 2 ^ 56)) s → 0 < svn.toNat → svn.toNat ≤ 128 →
       svn.toNat ≤ rget F.SEC_SVN_S1_SVN (clearIrq 9 s) → svn.toNat ≤ rget F.SEC_SVN_RT_SVN (clearIrq 9 s) → rget F.SEC_SVN_FUSED (clearIrq 9 s) < svn.toNat →
       exec (.advance who svn false) s = .next (record Ev.SVN_ADVANCED srcSUP 0 (leBytes 1 svn.toNat) (rset F.SEC_SVN_FUSED svn.toNat (clearIrq 9 s)))) ∧
     (executes s who = true → ctlFault who 0x200011000010 false 0 s = none → rget F.SEC_ATTEST_CTL_OBJ s = 3 →
       exec (.secIdWin who d) s = .next (wr who d (BitVec.ofNat 64 (ofLe (((((List.range 6).map (fun i => digestBytes (measOf i s))).flatten).drop (8 * rget F.SEC_ATTEST_CTL_INDEX s)).take 8)))
         (rset F.SEC_ATTEST_CTL_INDEX (rget F.SEC_ATTEST_CTL_INDEX s + 1) s)))) ∧
  (∀ (who : CoreId) (addr : Nat) (m : KeyMsg) (x : Session) (i : Nat) (b l awk : List Byte) (o : XferOut) (r : Nat) (s s1 : State),
     let ctl := fun (op : Nat) => BitVec.ofNat 64 (op * 2 ^ 60 + rget F.SEC_ATTEST_CTL_OBJ s * 2 ^ 52 + rget F.SEC_ATTEST_CTL_INDEX s * 2 ^ 42 + addr / 64 % 2 ^ 42)
     let at_ := addr / 64 % 2 ^ 42 * 64
     let u := rset F.SEC_ATTEST_CTL_OBJ (rget F.SEC_ATTEST_CTL_OBJ s) (rset F.SEC_ATTEST_CTL_INDEX (rget F.SEC_ATTEST_CTL_INDEX s) (clearIrq 9 s))
     let asked := fun (op : Nat) => Accepts who 0x200011000018 (ctl op) s ∧ rget F.SEC_ATTEST_CTL_OBJ s < 8 ∧ rget F.SEC_ATTEST_CTL_INDEX s < 1024
     let enc := Config.mlkemEncaps ((b.drop 64).take 1184) (drawBytes 32 s1).1
     let p := sealBytes (xferKey enc.2) [] awk (drawBytes 32 s1).2
     let ss := Config.mlkemDecaps (identitySeed 2 s1) (identitySeed 3 s1) ((b.drop 64).take 1088)
     (asked 6 → blockRead who at_ 0 3392 u = (some b, s1) → rbit F.SEC_STATUS_TEST s1 = false → s1.keys.awk = some awk → ofLe (b.take 1) = 0 →
       exec (.sendKey who addr) s = .next (secDone 0 (blockWrite who at_ 2048 (padTo 1088 (padTo 1088 enc.1)) (blockWrite who at_ 3136 p.1 (blockWrite who at_ 3264 [] p.2))))) ∧
     (asked 7 → blockRead who at_ 0 2176 u = (some b, s1) → rbit F.SEC_STATUS_TEST s1 = false → ofLe (b.take 1) = 0 → s1.keys.awk = none →
       openSealed (xferKey ss) [] ((b.drop 1152).take 128) 32 = some l → exec (.receiveKey who addr) s = .next (secDone 0 (blockWrite who at_ 2048 [] (takeAwk l s1)))) ∧
     (reportItem 0 m.nonce s = (some b, s1) →
       let c3 := reportItem 3 [] s1
       let c2 := reportItem 2 [] c3.2
       let c1 := reportItem 1 [] c2.2
       exec (.keyQuery m) s = .next (sendKeyMsg m.chip 0x21 { purpose := m.purpose, session := m.session, nonce := m.nonce, peerKey := transportPub c1.2, svn := svnF c1.2, payload := c3.1.getD [] ++ c2.1.getD [] ++ c1.1.getD [] ++ b } c1.2)) ∧
     (m.purpose ≠ 2 → keyWaiter m s = some x → m.ok = true → svnF s ≤ m.svn → sendKey 1 x.num m.peerKey [] s = (o, s1) → o.result = 0 →
       exec (.keyCerts m) s = .next (sendKeyMsg m.chip 0x22 { purpose := 1, session := x.num, ciphertext := o.ct, payload := o.payload } (loadBlock o.block s1))) ∧
     (m.purpose = 2 → pendingRecord m s = some b → m.ok = true → svnF s ≤ m.svn → sendKey 2 m.session m.peerKey (padTo 128 b) s = (o, s1) → o.result = 0 →
       exec (.keyCerts m) s = .next (sendKeyMsg m.chip 0x22 { purpose := 2, session := m.session, ciphertext := o.ct, payload := o.payload } s1)) ∧
     (receiveKey m.purpose m.session (m.chip * 2 ^ 32 + m.session) m.ciphertext m.payload s = (r, l, s1) →
       exec (.keyOffer m) s = .next (sendKeyMsg m.chip 0x23 { purpose := m.purpose, session := m.session, result := r } (if r ≠ 0 then s1 else if m.purpose = 1 then loadBlock l s1 else if m.purpose = 2 then takeRecord l s1 else s1))) ∧
     (m.purpose = 1 →
       (m.result = 0 → sessOf m.session s = some x → x.chip = m.chip → exec (.keyAccept m) s = .next (settleKeys (onSessionKey m.session s))) ∧
       (m.result ≠ 0 → sessKey (ownChip s) m.session s = some i → exec (.keyAccept m) s = .next (settleKeys (setKey i {} s)))) ∧
     (m.purpose = 2 → m.result = 0 →
       exec (.keyAccept m) s = .next (settleKeys { s with keys := { s.keys with pend := s.keys.pend.map (fun p =>
         if p.kd * 65536 + p.gen = m.session then { p with chips := p.chips.filter (· != m.chip) } else p) } })))

/-- R118, R127 and R430: SEND with a valid descriptor takes a token and starts the Rearn request of its 64-byte block; WAITP on pair 0 in S presents the
request that PWR_MODE holds, returning 0 at once for P0 or P1 and bit 63 with the lowest refuser when a refuser blocks P2 or P3. Clauses that rest on
the model's own choices: log entries 73, 78, 84. -/
def Obligations.SendAndWaitp : Prop :=
  ∀ (c : CoreId) (d a : Rn) (l : List Byte) (e n : Nat) (s s1 : State),
  let k := ctxOf s1 c
  let x := (rd s c a).toNat
  let w := { s with pwr := { s.pwr with waitp := some d.val } }
  (Fetches c [a] s → privOf s c ≤ 1 → descPlace c x s = true → readMem (physKey c x) 64 s = (some l, s1) → tokChoice s1 k = .ok e n →
    let t := wr c d (BitVec.ofNat 64 (mkToken k e n)) (tokPost k e n (d.val == 0) s1)
    let m := nextMsg t
    let f := startReq (isPair c) { msgId := m.1, req := parseReq l, ctx := k, entry := e, serial := n, addr := x } m.2
    exec (.send c d a 0) s = .next (retire c 16 (setPc c (pcOf s c + 4) f))) ∧
  (Fetches 64 [] s → privOf s 64 = 0 → rget F.PWR_MODE_STATE s = 1 → exec (.waitp 64 d 0 0) s = .next (returnWaitp 0
    (if rget F.PWR_STATUS_STATE s = 1 then rset F.PWR_STATUS_STATE 1 w else stateChanged (rset F.PWR_STATUS_STATE 1 w)))) ∧
  (Fetches 64 [] s → privOf s 64 = 0 → 2 ≤ rget F.PWR_MODE_STATE s →
    let t := { w with pwr := { w.pwr with before := rget F.PWR_STATUS_STATE w } }
    let found := refusers (rget F.PWR_MODE_STATE s) t
    found ≠ 0 → exec (.waitp 64 d 0 0) s = .next (refusePower (rget F.PWR_MODE_STATE s) found t))

/-- R407 and R408: a report that is identical to the newest FIFO entry, which has neither closed nor reached REPEAT 0xFFFF, is merged into it; any other
enters where its severity finds room (256 entries for Critical, 224 for the others, and for Info and Notice within the wear budget of R406), and is
dropped and counted where it finds none. The FIFO never holds more than 256 entries. A clause that rests on the model's own choice: log entry 40. -/
def Obligations.RecorderIntake : Prop :=
  ∀ (r : EvReport) (s : State),
  let e := entryOf r s
  let merges := fun (n : EvEntry) => s.evr.fifo.getLast? = some n ∧ evSame n e = true ∧ n.closed = false ∧ n.rept < 0xFFFF
  let room := s.evr.fifo.length < (if e.sev = 3 then 256 else 224) ∧ (2 ≤ e.sev ∨ wearLimited s = false)
  (∀ n, merges n → exec (.eventReport r) s = .next (syncFifo (openHead
    { s with evr := { s.evr with fifo := mergeLast e.tick s.evr.fifo, last := some { n with rept := n.rept + 1, lastTick := e.tick } } }))) ∧
  ((∀ n, ¬ merges n) → room → exec (.eventReport r) s = .next (enterFifo e s)) ∧
  ((∀ n, ¬ merges n) → ¬ room → exec (.eventReport r) s = .next (dropReport e s)) ∧
  (s.evr.fifo.length ≤ 256 → ∀ t, exec (.eventReport r) s = .next t →
    t.evr.fifo.length ≤ 256 ∧ s.evr.fifo.length ≤ t.evr.fifo.length ∧ (e.sev ≠ 3 → 224 ≤ s.evr.fifo.length → t.evr.fifo.length = s.evr.fifo.length))

/-- R402, R403, R405, R409, R410 and R415: the open record closes; a closed one whose sector is ready is committed to its flash slot and leaves, the next
opening at once; the erase ahead of the head ends; OPTIME_MARK is recorded; pending drops are carried by an EVT_LOST entry; the recorder becomes READY
with the counts of the newest records; a fault counter moves to its next slot. R80 to R83, R89, R90, R138, R545, R60 to R62 and R16: the dispatcher
places the first task of Q0, else of the queue whose turn it is, in the chosen slot; a slot past its limit is handled; a drain that lasts 100 ms hands
the host commands in slots over for replay and releases the slots; the set D scan ends and releases the kept buffers that no dirty write names; held
work is tried again; a Stage that waited 120 s completes with STAGE_TIMEOUT, and its hold ends; a mesh stall is recorded. Clauses that rest on the
model's own choices: log entries 3, 36, 40. -/
def Obligations.RecorderAndDispatcherSteps : Prop :=
  (∀ (e : EvEntry) (rest : List EvEntry) (q h : Nat) (k : Fin 7) (s : State),
     (s.evr.fifo = e :: rest → e.seq = some q →
       exec .recordClose s = .next (rflag F.EVR_STATUS_OPEN false { s with evr := { s.evr with fifo := { e with closed := true } :: rest } })) ∧
     (s.evr.fifo = e :: rest → e.seq = some q → e.closed = true → s.evr.erasing ≠ some (flashSlot q / 1024) →
       let u := commitRecord e s
       let t := syncFifo (openHead { u with evr := { u.evr with fifo := rest } })
       kfind u.evr.flash (flashSlot q) = some e ∧
       (q ≠ 16383 → (wearLimited s = true ∨ wearLimited t = false) → exec .recordProgrammed s = .next t) ∧
       (q = 16383 → (wearLimited s = true ∨ wearLimited (record Ev.BIRTH_LOCKED srcAON 0 [] t) = false) →
         exec .recordProgrammed s = .next (record Ev.BIRTH_LOCKED srcAON 0 [] t))) ∧
     (s.evr.erasing = some h →
       let u := rflag F.EVR_STATUS_ERASE_BUSY false { s with evr := { s.evr with erasing := none, flash := s.evr.flash.filter (fun p => decide (p.1 / 1024 ≠ h)) } }
       exec .eraseDone s = .next (rset F.EVR_TAIL_SEQ_SEQ (max (rget F.EVR_TAIL_SEQ_SEQ u) ((s.evr.next - 1 - 16384) / 1024 * 1024 + 16384 + 2048 - 1032192)) u)) ∧
     (rbit F.EVR_STATUS_READY s = true → exec .optimeMark s = .next (record Ev.OPTIME_MARK srcAON 0 [] s)) ∧
     ((∃ n, n < 4 ∧ rget F.EVR_LOST_PENDING s n ≠ 0) → s.evr.fifo.length < 224 →
       let pay := (((List.range 4).map (fun n => leBytes 4 (rget F.EVR_LOST_PENDING s n))).flatten) ++ leBytes 8 s.evr.dropTick
       exec .evtLost s = .next (forEach (List.range 4) (fun n s => rset F.EVR_LOST_PENDING 0 s n) (enterFifo (entryOf { code := Ev.EVT_LOST, sev := 1, payload := pay } s) s))) ∧
     (rbit F.EVR_STATUS_READY s = false →
       let newest := newestBy (fun _ => true) s
       let boot := newestBy (fun e => e.code == Ev.BOOT) s
       let next := (newest.map (fun e => e.seq.getD 0 + 1)).getD 0
       ∃ t, exec .evrReady s = .next (openHead (rflag F.EVR_STATUS_READY true (recordBoot t))) ∧ t.evr = { s.evr with next := next } ∧
         (ksorted s.regs = true → rget F.CLK_OPTIME_OPSEC t = ((newest.map (·.opsec)).getD 0) % 2 ^ 40 ∧
           rget F.CLK_POWER_CYCLES_COUNT t = min ((boot.map (fun e => ofLe (e.payload.take 4) + 1)).getD 1) 0xFFFFFF)) ∧
     exec (.fltSlotAdvance k) s = .next { s with flt := { s.flt with slots := s.flt.slots.map (fun p => if p.1 / 65536 = k.val then (p.1, 0 :: p.2.take 7) else p) } }) ∧
  (∀ (slot : SlotNo) (i q : Nat) (tk : Task) (tasks : List Task) (v : Nat × Nat) (n credit : Nat) (id : CmdId) (w : StageReq) (shelf : Fin 8) (isl : Fin 19) (s : State),
     let x := slotOf s slot.val
     (rbit F.TSK_CTL_DISPATCH_EN s = true → s.task.q.getD 0 [] = tk :: tasks → tk.cmd = none → tk.since = none → chooseSlot s tk.group = some i →
       exec .dispatchPlace s = .next (selectNext (i / 8) (loadSlot i tk (ungateIsland (2 + i / 64) (setQ 0 tasks s))))) ∧
     (rbit F.TSK_CTL_DISPATCH_EN s = true → s.task.q.getD 0 [] = [] → rbit F.TSK_CTL_DRAIN s = false → capHit s 1 = false → capHit s 3 = false →
       pickQueue s 4 s.task.turn s.task.credit = some (q, credit) →
       let u := { s with task := { s.task with turn := q, credit := credit } }
       (q = 1 → hostPick s = some (tk, v, n) → (chooseSlot s tk.group).isSome = true → exec .dispatchPlace s = .next (placeFrom 1 tk { u with task := { u.task with visit := v, visited := n } })) ∧
       (q ≠ 1 → s.task.q.getD q [] = tk :: tasks → (chooseSlot s tk.group).isSome = true → exec .dispatchPlace s = .next (placeFrom q tk u))) ∧
     (x.st ≠ .free → rget F.TSK_WATCHDOG_LIMIT_MS s ≠ 0 → x.fired = false →
       let f := watchdogFires slot.val s
       (x.task.typ = 1 → x.passed = false → exec (.taskWatchdog slot) s = .next (settleLost (completeSlot slot.val stInterrupted (giveUpBuffer x.task f)))) ∧
       (x.task.typ = 1 → x.passed = true → exec (.taskWatchdog slot) s = .next (settleLost (retrySlot slot.val f))) ∧
       (x.task.typ ≠ 1 → exec (.taskWatchdog slot) s = .next (settleLost (enqueueTask (asLocalPost x.task f) (freeSlot slot.val f))))) ∧
     (rbit F.TSK_CTL_DRAIN s = true →
       let l := (List.range 512).filterMap (fun i => if slotBusy s i && (slotOf s i).task.typ == 1 then (slotOf s i).task.cmd.map (·.id) else none)
       exec .drainTimeout s = .next (forEach (List.range 512) (fun i s => if slotBusy s i then abandonSlot i s else s)
         (if l = [] then s else sendPartner (.replay l) s))) ∧
     (rbit F.BPM_CTL_D_REBUILDING s = true →
       let kept := (s.bpm.bufs.filter (fun p => p.1 / 2 ^ 28 / 8 == 1 && p.2.cnt != 0)).map (fun p => mkHandle 1 (p.1 / 2 ^ 28 % 8) (p.1 % 2 ^ 28))
       exec .dRebuildDone s = .next (arSettle (forEach (kept.filter (fun h => !(s.arr.dirty.filterMap (·.handle)).contains h)) freeBuf
         (rflag F.BPM_CTL_D_REBUILDING false s)))) ∧
     exec (.bufferRetry false) s = .next (settleRep (arSettle (retryR2t (retryHeld s)))) ∧
     exec (.bufferRetry true) s = .next (settleRep (arSettle (retryWrites (retryHeld s)))) ∧
     (s.host.stageWait.find? (fun q => q.id == id && q.task.isSome) = some w → w.task = some tk →
       exec (.stageTimeout id) s = .next (completeTask tk stStageTimeout
         { s with host := { s.host with stageWait := s.host.stageWait.map (fun x => if x = w then { x with task := none } else x) } })) ∧
     exec (.stageHoldExpiry shelf) s = .next (endHold shelf.val .stage s) ∧
     exec (.meshStall isl) s = .next (record Ev.MESH_STALL isl.val 0 [] (rputBit F.CHIP_ISLAND_ERR_STALL isl.val true s)))

/-- R39, R40, R46, R51, R66, R76, R77 and R323: a host message with a bad header is discarded and recorded; a command on a live queue of a binding in use
is refused with LOCAL_REQUIRED where R46 says so, becomes a Q1 task at the head that owns its group (its write data in a set S buffer; CREDIT_EXCEEDED
when it passes its grant here or did at the shadow) and otherwise a shadow-ring entry; an NVMe/TCP command for a group that is moving completes ANA
Transition, one for a group of the other head ANA Inaccessible. R79 and R86: the last data byte of a command completes the landing token of its slot,
with OK or BUF_FAULT, or marks its ring entry landed; that of a command that ended before completes the token and lets the buffer go. Clauses that
rest on the model's own choices: log entries 36, 45. -/
def Obligations.HostIntakeAndLanding : Prop :=
  (∀ (m0 : HbMsg) (h : Nat) (s s1 : State),
     let m := { m0 with loc := isLocalCmd m0 }
     let g := groupOfCmd m (noteSession m0 s)
     let o := openCmd m.id (noteSession m0 s)
     let n := dataLen m
     let comes := badHeader m0 = false ∧ m0.typ = 1 ∧ rbit F.HQ_CTL_INTAKE_EN s = true ∧ (if m0.tcp then rbit F.HQ_CTL_TCP_EN s else rbit F.HQ_CTL_REARN_EN s) = true ∧ queueLive (idKey m0.id) s = true
     let serves := m.loc || owns g o || tcpAdmin m
     let still := (m.tcp && m.id.qid != 0 && movingGroup g o) = false
     let over_ := overGrant m o || o.mir.overSeen.contains m.id
     let plain := still ∧ accepted m = true ∧ ¬ (m.id.qid = 0 ∧ m.sqe.opc = 0x10 ∧ 3 < m.sqe.cdw10 / 8 % 8)
     (badHeader m0 = true → exec (.cmd m0) s = .next (arSettle (record Ev.HB_MSG_DISCARDED srcNET 0 [] s))) ∧
     (badHeader m0 = false → rbit F.HQ_CTL_INTAKE_EN s = false → exec (.cmd m0) s = .next (arSettle s)) ∧
     (comes → localWrong m o = true → exec (.cmd m0) s = .next (arSettle (refuseCmd m stLocalRequired o))) ∧
     (comes → localWrong m o = false → ¬still → exec (.cmd m0) s = .next (arSettle (refuseCmd m stAnaTransition o))) ∧
     (comes → localWrong m o = false → serves = true → plain → over_ = true →
       exec (.cmd m0) s = .next (arSettle (enqueueTask (hostTask m g true false none o)
         { o with mir := { o.mir with overSeen := o.mir.overSeen.filter (· != m.id) } }))) ∧
     (comes → localWrong m o = false → serves = true → plain → over_ = false → n = 0 →
       exec (.cmd m0) s = .next (arSettle (enqueueTask (hostTask m g false false none o) o))) ∧
     (comes → localWrong m o = false → serves = true → plain → over_ = false → 0 < n → n ≤ 0x200000 → m.tcp = false → landData 0 m o = (some h, s1) →
       let u := if isWriteSqe m.id.qid m.sqe then countLanded m.id.cntlid n s1 else s1
       exec (.cmd m0) s = .next (arSettle (enqueueTask (hostTask m g false false (some h) u) u))) ∧
     (comes → localWrong m o = false → still → serves = false → m.tcp = true → exec (.cmd m0) s = .next (arSettle (refuseCmd m stAnaInaccessible o))) ∧
     (comes → localWrong m o = false → serves = false → m.tcp = false → exec (.cmd m0) s = .next (arSettle (takeShadow m o)))) ∧
  (∀ (cntlid qid cmdseq i : Nat) (ok : Bool) (m : HbMsg) (r : RingCmd) (y : CmdId × Nat × Nat) (s : State),
     let id : CmdId := { cntlid := cntlid, qid := qid, cmdseq := cmdseq }
     let x := slotOf s i
     let inSlot := lowest 512 (fun i => slotBusy s i && waitsFor id (slotOf s i).task)
     let tok := x.task.t.getD 12 0
     let ends : JobEnd := { status := if ok then 0 else jBufFault }
     (inSlot = some i → x.task.cmd = some m → m.tcp = false →
       let u := setSlot i { x with task := landTask id ok x.task } s
       exec (.landingToken cntlid qid cmdseq ok) s = .next (arSettle (retryR2t (tokComplete i (bits tok 21 18) (bits tok 17 0) ends u)))) ∧
     (inSlot = none → (s.task.q.getD 1 []).find? (waitsFor id) = none → s.host.lateLand.find? (·.1 == id) = some y →
       exec (.landingToken cntlid qid cmdseq ok) s = .next (arSettle (retryR2t (dropAll [y.2.2] (tokComplete (y.2.1 / 2 ^ 22) (bits y.2.1 21 18) (bits y.2.1 17 0) ends
         { s with host := { s.host with lateLand := s.host.lateLand.filter (· != y) } }))))) ∧
     (inSlot = none → (s.task.q.getD 1 []).find? (waitsFor id) = none → s.host.lateLand.find? (·.1 == id) = none → ringOf id s = some r → r.m.landed = false →
       (ok = true → exec (.landingToken cntlid qid cmdseq ok) s = .next (arSettle (retryR2t (shadowLanded id (putRing { r with m := landMsg id ok r.m, dataHeld := true } s))))) ∧
       (ok = false → exec (.landingToken cntlid qid cmdseq ok) s = .next (arSettle (retryR2t (dropAll r.handle.toList
         (putRing { r with m := landMsg id ok r.m, dataHeld := false, handle := none } s)))))))

/-- R41, R44, R53 and R68: controller reset resets the I/O queues and then the admin queue; shutdown reaches SHST 10b; a disassociated controller, or one
whose admin connection closes, ends; a closed I/O connection resets its queue; Connect makes a controller with its admin queue, or an I/O queue within
the limits, and fails beyond them; an endpoint whose negotiated Rearn message size is below 2 MiB + 4 KiB is refused. Clauses that rest on the model's
own choices: log entries 47, 80, 81. -/
def Obligations.ControllersAndConnections : Prop :=
  ∀ (cntlid qid sqsize conn n : Nat) (s : State),
  let c := ctrlOf s cntlid
  let q := hqOf s (512 * cntlid + qid)
  let depth := sqsize + 1
  let on := rbit F.HQ_CTL_INTAKE_EN s = true ∧ (if conn != 0 then rbit F.HQ_CTL_TCP_EN s else rbit F.HQ_CTL_REARN_EN s) = true
  (c.live = true →
    exec (.controllerReset cntlid) s = .next (resetCtrl cntlid (setCtrl cntlid { c with cc := c.cc / 2 * 2 } s)) ∧
    exec (.shutdown cntlid) s = .next (putCtrl cntlid { c with shst := 2 } s) ∧
    (let e := putCtrl cntlid { c with ending := true } s
     ((ctrlQueues cntlid e).contains 0 = true → exec (.disassociate cntlid) s = .next (resetCtrl cntlid e)) ∧
     ((ctrlQueues cntlid e).contains 0 = false → exec (.disassociate cntlid) s = .next (putCtrl cntlid { c with live := false, ending := false } e)))) ∧
  (q.sq = true → q.tcp = true → qid ≠ 0 → exec (.queueConnectionClosed cntlid qid) s = .next (resetQueue cntlid qid none s)) ∧
  (on → conn = 0 → qid = 0 → owns 0 s = true → (nodeOf cntlid s).maxMsg < 2101248 → exec (.connect cntlid qid sqsize conn) s = .next (connectReply cntlid 0 false stConnectInvalid s)) ∧
  (on → (conn = 0 → owns 0 s = true ∧ 2101248 ≤ (nodeOf cntlid s).maxMsg) → qid = 0 → lowest 1024 (fun n => !(ctrlOf s n).live) = some n → depth ≤ 32 →
    let tcp := conn != 0
    let u := addRec' none (.queue n 0 depth true true true 0 conn) (setHq (512 * n) (freshQueue (hqOf s (512 * n)) depth tcp conn) s)
    let v := putCtrl n { live := true, tcp := tcp, session := conn, node := if tcp then 0 else cntlid, attached := u.host.ns.map (·.1), rdy := !tcp, cc := if tcp then 0 else 1 } u
    exec (.connect cntlid qid sqsize conn) s = .next (if tcp then connectReply n 0 tcp { dw0 := n } v else sendCredit n 0 (raiseGrant n (connectReply n 0 tcp { dw0 := n } v)))) ∧
  (on → conn ≠ 0 → 0 < qid → qid ≤ 256 → c.live = true → c.tcp = true → q.sq = false → 2 ≤ depth → depth ≤ 1024 → queuePairs s < maxQp s →
    exec (.connect cntlid qid sqsize conn) s = .next (connectReply cntlid qid true { dw0 := cntlid }
      (addRec' none (.queue cntlid qid depth true true true 0 conn) (setHq (512 * cntlid + qid) (freshQueue q depth true conn) s)))) ∧
  (on → conn ≠ 0 → 0 < qid → (1024 < depth ∨ 256 < qid ∨ maxQp s ≤ queuePairs s) →
    exec (.connect cntlid qid sqsize conn) s = .next (connectReply cntlid qid true stConnectInvalid s))

/-- R57, R58, R66, R67, R79 and R88: a Write in a slot whose data lies in set D is taken at its cancellation point with a WSEQ, its copy becomes dirty and
it completes OK; Write Zeroes and a deallocation likewise without data; Flush waits in its slot for the earlier writes of its queue; one intake
refused completes CREDIT_EXCEEDED and one whose data failed Data Transfer Error. R21, R59 and R60: a Read whose LBAs all have a readable source sends
their bytes, newest acknowledged data first, and completes OK; one that needs a sleeping shelf completes Namespace Not Ready before its cancellation
point; a Stage whose ranges are readable prefetches them as far as the cache holds and completes at once with the shelves it names. Clauses that rest
on the model's own choices: log entries 43, 44, 48. -/
def Obligations.HostWritesReadsAndStage : Prop :=
  (∀ (slot : SlotNo) (t : Task) (m : HbMsg) (d : Nat) (s : State),
     let i := slot.val
     let n := 4096 * sqeNlb m.sqe
     let taken := fun (x : State) => addRec i t.group (.take false true m.id t.wseq m.sqe) x
     let plain := cancelled i s = false ∧ writeProtected m s = false ∧ awaitsReceipt m s = false ∧ overlapWaits i s = false ∧ m.tcp = false ∧ solo (passSlot i (taken s).2) = false
     (HostRuns i false 0x01 t m s → plain → 0 < n → n ≤ 0x200000 → dataLen m = n → rangeStatus m (sqeSlba m.sqe) (sqeNlb m.sqe) s = none → (t.replay = true ∨ noSpace n s = false) →
       taskHandle t = some d → hSet d = 1 →
       exec (.write slot) s = .next (arSettle (completeSlot i stOk
         (addDirty (dirtyFrom m.id (taken s).1 m.sqe (some d) [] true (passSlot i (taken s).2)) (passSlot i (taken s).2))))) ∧
     (HostRuns i false 0x08 t m s → plain → sqeNlb m.sqe ≤ 512 → rangeStatus m (sqeSlba m.sqe) (sqeNlb m.sqe) s = none → taskHandle (slotOf (passSlot i (taken s).2) i).task = none →
       exec (.writeZeroes slot) s = .next (arSettle (completeSlot i stOk
         (addDirty (dirtyFrom m.id (taken s).1 m.sqe none [] true (passSlot i (taken s).2)) (passSlot i (taken s).2))))) ∧
     (HostRuns i false 0x09 t m s → plain → (dsmRanges m.sqe (taskData t s)).findSome? (fun p => rangeStatus m (p.1 / 4096) (p.2 / 4096) s) = none →
       16 * (m.sqe.cdw10 % 256 + 1) ≤ (taskData t s).length → m.sqe.cdw11.testBit 2 = true →
       let u := dropAll (taskHandle (slotOf (passSlot i (taken s).2) i).task).toList (passSlot i (taken s).2)
       exec (.datasetManagement slot) s = .next (arSettle (completeSlot i stOk (addDirty (dirtyFrom m.id (taken s).1 m.sqe none (taskData t s) true u) u)))) ∧
     (HostRuns i false 0x00 t m s → (slotOf s i).passed = false → cancelled i s = false → m.sqe.nsid = 0xFFFFFFFF →
       let u := passSlot i (addRec i t.group (.take false false m.id t.wseq m.sqe) s).2
       let f := waitSlot i u
       exec (.flush slot) s = .next (settleQueues { f with host := { f.host with flushes := f.host.flushes ++ [(t, earlierWrites (idKey m.id) m.id.cmdseq u)] } })) ∧
     (slotCmd i false 0x01 s = some m → (m.dlen = 64 ∨ m.landed = true) →
       ((slotOf s i).passed = false → taskOver (slotOf s i).task = true → exec (.write slot) s = .next (arSettle (failSlot i stCreditExceeded s))) ∧
       (taskOver (slotOf s i).task = false → (slotOf s i).task.refused = false → m.xferOk = false → exec (.write slot) s = .next (arSettle (failSlot i stXferErr s))))) ∧
  (∀ (slot : SlotNo) (t : Task) (m : HbMsg) (u s : State),
     let i := slot.val
     let lbas := (List.range (sqeNlb m.sqe)).map (sqeSlba m.sqe + ·)
     let srcs := lbas.map (fun b => lbaSrc m.sqe.nsid (4096 * b) s)
     let asleep := (lbas.zip srcs).filterMap (fun p => sleeping m.sqe.nsid p.1 p.2 s)
     let v := passSlot i (addRec i t.group (.take true false m.id t.wseq m.sqe) s).2
     let reads := HostRuns i false 0x02 t m s ∧ sqeNlb m.sqe ≤ 512 ∧ rangeStatus m (sqeSlba m.sqe) (sqeNlb m.sqe) s = none ∧ (slotOf s i).passed = false
     let ranges := stageRanges m.sqe.nsid (m.sqe.cdw10 % 256) (taskData t u)
     let shs := (ranges.flatMap (fun r => rangeShelves r u)).eraseDups
     let w := forEach shs stageShelf u
     (reads → asleep = [] → cancelled i s = false → missing (recsOf srcs) v = [] →
       let c := recChunks (recsOf srcs) v
       let l := srcs.map (fun x => lbaBytes c.1 x c.2)
       let z := memberSettle (clearFetched i c.2)
       (l.any (·.isNone) = false → exec (.read slot) s = .next (settleLost (completeSlot i stOk (sendData m (l.map (·.getD [])).flatten z)))) ∧
       (l.any (·.isNone) = true → exec (.read slot) s = .next (settleLost (completeSlot i stUnrecovered z)))) ∧
     (reads → asleep ≠ [] → exec (.read slot) s = .next (settleLost (failSlot i (notReadyCqe m (asleep.foldl (fun c n => max c (crdOf n s)) 0) s) (tickFree s)))) ∧
     (AdminRuns i 0xC1 t m u s → m.sqe.cdw10 < 256 → m.sqe.cdw11 ≤ 1 → m.sqe.cdw12 = 0 → m.sqe.cdw13 = 0 → m.sqe.cdw14 = 0 → m.sqe.cdw15 = 0 → rangesClean (m.sqe.cdw10 % 256) (taskData t u) = true → (ioNs m u).isSome = true →
       ranges.findSome? (fun r => rangeStatus m r.2.1 r.2.2 u) = none → ranges.all (fun r => readable r w) = true →
       exec (.stage slot) s = .next (doneSlot i { dw0 := shs.length % 256 * 65536 } (prefetchAll 0x1000000 ranges w).2)))

/-- R53 to R56 and R68: the standard admin commands in a slot past their cancellation point: Get Log Page sends the page from its offset, at most MDTS of
it, Identify its structure, Abort answers that nothing was aborted, Set and Get Features store and answer the features of Table 2.6, an Asynchronous
Event Request is held while fewer than 8 are, Keep Alive completes. R53, R54, R68 and R322: Namespace Management creates a namespace under the lowest
free NSID in the group with the fewest, or deletes one; Namespace Attachment attaches and detaches; the queue commands make and delete I/O queues
within the limits of R53, a Delete I/O SQ and a Disconnect resetting their queue first; the properties are read and written, NSSR without effect.
Clauses that rest on the model's own choices: log entries 19, 43, 44, 46, 47. -/
def Obligations.AdminNamespaceAndQueueCommands : Prop :=
  (∀ (slot : SlotNo) (t : Task) (m : HbMsg) (l : List Byte) (ns : Namespace) (u s : State),
     let i := slot.val
     let c := ctrlOf u m.id.cntlid
     let n := 4 * (m.sqe.cdw11 % 65536 * 65536 + m.sqe.cdw10 / 65536 + 1)
     let o := m.sqe.cdw13 * 2 ^ 32 + m.sqe.cdw12
     let sends := fun (l : List Byte) => doneSlot i stOk (tickFree (sendData m l u))
     (AdminRuns i 0x02 t m u s →
       (logPage m u = none → exec (.getLogPage slot) s = .next (doneSlot i stInvalidLog u)) ∧
       (logPage m u = some l → 0x200000 < n → exec (.getLogPage slot) s = .next (doneSlot i stInvalidField u)) ∧
       (logPage m u = some l → n ≤ 0x200000 → ¬ (m.sqe.cdw10 % 256 = 4 ∧ m.sqe.cdw10.testBit 15 = false) → exec (.getLogPage slot) s = .next (sends (padTo n (l.drop o)))) ∧
       (logPage m u = some l → n ≤ 0x200000 → m.sqe.cdw10 % 256 = 4 → m.sqe.cdw10.testBit 15 = false →
         let v := tickFree (sendData m (padTo n (l.drop o)) u)
         exec (.getLogPage slot) s = .next (doneSlot i stOk { v with host := { v.host with changedNs := [] } }))) ∧
     (AdminRuns i 0x06 t m u s →
       (m.sqe.cdw10 % 256 = 0 → ioNs m u = some ns → exec (.identify slot) s = .next (sends (identNs ns u))) ∧
       (m.sqe.cdw10 % 256 = 0 → ioNs m u = none → exec (.identify slot) s = .next (doneSlot i stInvalidNs u)) ∧
       (m.sqe.cdw10 % 256 = 1 → exec (.identify slot) s = .next (sends (identCtrl m u))) ∧
       (m.sqe.cdw10 % 256 = 2 → exec (.identify slot) s = .next (sends (idList 4 4096 m.sqe.nsid ((u.host.ns.map (·.1)).filter (c.attached.contains ·)))))) ∧
     (AdminRuns i 0x08 t m u s → exec (.abort slot) s = .next (doneSlot i { dw0 := 1 } u)) ∧
     (AdminRuns i 0x09 t m u s →
       (m.sqe.cdw10 % 256 = 0x07 → exec (.setFeatures slot) s = .next (doneSlot i { dw0 := queuesGranted m.sqe.cdw11 } (putCtrl m.id.cntlid { c with nqs := queuesGranted m.sqe.cdw11 } u))) ∧
       (m.sqe.cdw10 % 256 = 0x0B → exec (.setFeatures slot) s = .next (doneSlot i { dw0 := 0 } (putCtrl m.id.cntlid { c with aerCfg := m.sqe.cdw11 } u))) ∧
       (m.sqe.cdw10 % 256 = 0x0F → exec (.setFeatures slot) s = .next (doneSlot i { dw0 := 0 } (putCtrl m.id.cntlid { c with kato := m.sqe.cdw11 } u))) ∧
       (m.sqe.cdw10 % 256 = 0x16 → exec (.setFeatures slot) s = .next (doneSlot i { dw0 := 0 } (putCtrl m.id.cntlid { c with acre := (taskData t u).head? == some 1 } u)))) ∧
     (AdminRuns i 0x0A t m u s →
       (m.sqe.cdw10 % 256 = 0x07 → exec (.getFeatures slot) s = .next (doneSlot i { dw0 := c.nqs } u)) ∧
       (m.sqe.cdw10 % 256 = 0x0B → exec (.getFeatures slot) s = .next (doneSlot i { dw0 := c.aerCfg } u)) ∧
       (m.sqe.cdw10 % 256 = 0x0F → exec (.getFeatures slot) s = .next (doneSlot i { dw0 := c.kato } u)) ∧
       (m.sqe.cdw10 % 256 = 0x16 → exec (.getFeatures slot) s = .next (doneSlot i { dw0 := 0 } (sendData m (padTo 512 [if c.acre then 1 else 0]) u)))) ∧
     (AdminRuns i 0x0C t m u s →
       (c.aers.length < 8 → exec (.asynchronousEventRequest slot) s = .next (freeSlot i (setCtrl m.id.cntlid { c with aers := c.aers ++ [m.id] } u))) ∧
       (8 ≤ c.aers.length → exec (.asynchronousEventRequest slot) s = .next (doneSlot i stAerLimit u))) ∧
     (AdminRuns i 0x18 t m u s → exec (.keepAlive slot) s = .next (doneSlot i stOk u))) ∧
  (∀ (slot : SlotNo) (t : Task) (m : HbMsg) (ns : Namespace) (u s : State),
     let i := slot.val
     let n := m.id.cntlid
     let qid := m.sqe.cdw10 % 65536
     let depth := m.sqe.cdw10 / 65536 + 1
     let q := hqOf u (512 * n + qid)
     let id := ((lowest 0x10000 (fun k => (nsOf (k + 1) u).isNone)).getD 0) + 1
     let l := ctrlList (taskData t u)
     let attach := fun (sel : Nat) => forEach l (fun n s => putCtrl n { ctrlOf s n with attached := if sel = 0 then (ctrlOf s n).attached.filter (· != m.sqe.nsid) ++ [m.sqe.nsid] else (ctrlOf s n).attached.filter (· != m.sqe.nsid) } s) u
     let c := ctrlOf u n
     (AdminRuns i 0x0D t m u s → versionsDiffer u = false →
       (m.sqe.cdw10 % 16 = 0 → nsFrom (taskData t u) u = some ns → exec (.namespaceManagement slot) s = .next (doneSlot i { dw0 := id } (putNs id (some ns) u))) ∧
       (m.sqe.cdw10 % 16 = 0 → nsFrom (taskData t u) u = none → exec (.namespaceManagement slot) s = .next (doneSlot i stInvalidField u)) ∧
       (m.sqe.cdw10 % 16 = 1 → m.sqe.nsid ≠ 0xFFFFFFFF → nsOf m.sqe.nsid u = some ns → u.arr.snaps = [] →
         exec (.namespaceManagement slot) s = .next (doneSlot i stOk (dropNs m.sqe.nsid u)))) ∧
     (AdminRuns i 0x15 t m u s → nsOf m.sqe.nsid u = some ns → versionsDiffer u = false → m.sqe.cdw10 % 16 ≤ 1 → l ≠ [] → l.any (fun n => !(ctrlOf u n).live) = false →
       exec (.namespaceAttachment slot) s = .next (doneSlot i stOk (nsChanged m.sqe.nsid (attach (m.sqe.cdw10 % 16))))) ∧
     (AdminRuns i 0x05 t m u s →
       (0 < qid → qid ≤ 256 → q.cq = false → 2 ≤ depth → depth ≤ 1024 → exec (.createIoCq slot) s = .next (doneSlot i stOk (putQueue n qid { q with cq := true, depth := if q.sq then q.depth else depth } u))) ∧
       ((qid = 0 ∨ 256 < qid ∨ q.cq = true) → exec (.createIoCq slot) s = .next (doneSlot i stInvalidQid u))) ∧
     (AdminRuns i 0x01 t m u s →
       (0 < qid → qid ≤ 256 → q.sq = false → queuePairs u < maxQp u → 2 ≤ depth → depth ≤ 1024 → (hqOf u (512 * n + m.sqe.cdw11 / 65536)).cq = true →
         exec (.createIoSq slot) s = .next (doneSlot i stOk (sendCredit n qid (putQueue n qid { freshQueue q depth false 0 with cq := q.cq, cqid := m.sqe.cdw11 / 65536 } u)))) ∧
       ((qid = 0 ∨ 256 < qid ∨ q.sq = true ∨ maxQp u ≤ queuePairs u) → exec (.createIoSq slot) s = .next (doneSlot i stInvalidQid u))) ∧
     (AdminRuns i 0x04 t m u s → 0 < qid → q.cq = true → u.host.queues.any (fun p => p.1 / 512 == n && p.1 % 512 != 0 && p.2.sq && p.2.cqid == qid) = false →
       exec (.deleteIoCq slot) s = .next (doneSlot i stOk (putQueue n qid { q with cq := false } u))) ∧
     (AdminRuns i 0x00 t m u s → 0 < qid → q.sq = true → q.closing = false → exec (.deleteIoSq slot) s = .next (resetQueue n qid (some t) (waitSlot i u))) ∧
     (FabricsRuns i 0x08 false t m u s → exec (.disconnect slot) s = .next (resetQueue n m.id.qid (some t) (unopenCmd m.id (waitSlot i u)))) ∧
     (FabricsRuns i 0x04 true t m u s →
       (m.sqe.cdw11 = 0x14 → exec (.propertyGet slot) s = .next (doneSlot i { dw0 := c.cc % 2 ^ 32, dw1 := c.cc / 2 ^ 32 } (tickFree u))) ∧
       (m.sqe.cdw11 = 0x1C →
         let v := (if c.rdy then 1 else 0) + 4 * c.shst
         exec (.propertyGet slot) s = .next (doneSlot i { dw0 := v % 2 ^ 32, dw1 := v / 2 ^ 32 } (tickFree u)))) ∧
     (FabricsRuns i 0x00 true t m u s →
       (m.sqe.cdw11 = 0x20 → exec (.propertySet slot) s = .next (doneSlot i stOk u)) ∧
       (m.sqe.cdw11 = 0x14 → m.sqe.cdw12 / 16384 % 4 = 0 → ¬ (c.cc % 2 = 1 ∧ m.sqe.cdw12 % 2 = 0) →
         exec (.propertySet slot) s = .next (doneSlot i stOk (putCtrl n { c with cc := m.sqe.cdw12, rdy := c.rdy || m.sqe.cdw12 % 2 == 1 } u))) ∧
       (m.sqe.cdw11 = 0x14 → m.sqe.cdw12 / 16384 % 4 = 0 → c.cc % 2 = 1 → m.sqe.cdw12 % 2 = 0 →
         exec (.propertySet slot) s = .next (opControllerReset n (doneSlot i stOk (putCtrl n { c with cc := m.sqe.cdw12, rdy := c.rdy || m.sqe.cdw12 % 2 == 1 } u))))))

/-- R69, R449, R461, R462 and R464: Firmware Image Download stages data in order; Commit 000b writes a staged image that passes to a slot that is not
running, 001b also makes it trial, 010b makes the image of a slot trial, 011b loads a Policy or activates an image by handover and drain; an image
that fails its checks is refused and recorded; Attestation Report keeps the item for log page C5h. Clauses that rest on the model's own choices: log
entries 23, 43, 51. -/
def Obligations.FirmwareCommands : Prop :=
  ∀ (slot : SlotNo) (t : Task) (m : HbMsg) (sl : Nat) (l : List Byte) (u v s : State),
  let i := slot.val
  let n := 4 * (m.sqe.cdw10 + 1)
  let o := 4 * m.sqe.cdw11
  let act := m.sqe.cdw10 / 8 % 8
  let cls := stagedClass u
  let code := checkImage cls u.host.staged u
  let stagedOk := u.sec.badStage = false ∧ u.host.staged ≠ [] ∧ sl ≠ runningSlotOf cls u
  let put := writeSlot cls sl (u.host.staged.take (4096 + hdrField 24 4 u.host.staged)) u
  let commits := AdminRuns i 0x10 t m u s ∧ fsSlot (m.sqe.cdw10 % 8) u = some sl
  (AdminRuns i 0x11 t m u s → dataLen m = n → o = 0 → n ≤ stageMax →
    exec (.firmwareImageDownload slot) s = .next (doneSlot i stOk { u with sec := { u.sec with badStage := false }, host := { u.host with staged := padTo n m.data } })) ∧
  (AdminRuns i 0x11 t m u s → dataLen m = n → o ≠ 0 → u.sec.badStage = false → o = u.host.staged.length → o + n ≤ stageMax →
    exec (.firmwareImageDownload slot) s = .next (doneSlot i stOk { u with sec := { u.sec with badStage := false }, host := { u.host with staged := u.host.staged ++ padTo n m.data } })) ∧
  (commits → stagedOk → code = 0 → (act = 0 → exec (.commitAction000 slot) s = .next (doneSlot i stOk put)) ∧
    (act = 1 → ¬ (cls = 2 ∧ cfgMayActivate (slotHeader 2 sl put) put = false) → exec (.commitAction001 slot) s = .next (doneSlot i stOk (setTrial cls sl put)))) ∧
  (commits → stagedOk → code ≠ 0 → act = 0 → exec (.commitAction000 slot) s = .next (failSlot i stInvalidImage (refuseImage cls sl code u))) ∧
  (commits → u.sec.badStage = false → checkImage cls (wholeImage cls sl u) u = 0 →
    (act = 2 → ¬ (cls = 2 ∧ cfgMayActivate (slotHeader 2 sl u) u = false) → exec (.commitAction010 slot) s = .next (doneSlot i stOk (setTrial cls sl u))) ∧
    (act = 3 → cls = 3 → partnerHere u = true → u.mir.partnerFirm = false → exec (.commitAction011 slot) s = .next (doneSlot i stOk (loadPolicy sl u))) ∧
    (act = 3 → cls ≠ 3 → partnerHere u = true → u.mir.partnerFirm = false → ¬ (cls = 2 ∧ cfgMayActivate (slotHeader 2 sl u) u = false) →
      let h := freeSlot i (handAll (setTrial cls sl u))
      exec (.commitAction011 slot) s = .next (startDrain { h with mir := { h.mir with activating := true }, chip := { h.chip with commit := some (t, cls, sl) } }))) ∧
  (AdminRuns i 0xC5 t m u s → m.sqe.cdw10 ≤ 4 → m.sqe.cdw11 = 0 → m.sqe.cdw12 = 0 → m.sqe.cdw13 = 0 → m.sqe.cdw14 = 0 → m.sqe.cdw15 = 0 → dataLen m = 64 →
    (m.data.drop 32).any (· != 0) = false → reportItem m.sqe.cdw10 (m.data.take 32) u = (some l, v) →
    exec (.attestationReport slot) s = .next (doneSlot i { dw0 := l.length } { v with host := { v.host with attest := kput v.host.attest m.id.cntlid l } }))

/-- R265, R266, R351 and R413: Shelf Control reports a shelf, queues a wake, releases the host's holds, pins and unpins; Event Recorder Read sends the
records of its range; Ownership Handover gives groups up with a HANDOVER record and the notice of its start, asks the partner for those it takes,
answers 0 where nothing moves, and waits in its slot while it moves them. Clauses that rest on the model's own choices: log entries 43, 54. -/
def Obligations.ShelfRecorderAndHandoverCommands : Prop :=
  ∀ (slot : SlotNo) (t : Task) (m : HbMsg) (u s : State),
  let i := slot.val
  let q := m.sqe
  let n := q.cdw10 % 8
  let rest := q.cdw11 = 0 ∧ q.cdw12 = 0 ∧ q.cdw13 = 0 ∧ q.cdw14 = 0 ∧ q.cdw15 = 0
  let asks := fun (a : Nat) => AdminRuns i 0xC4 t m u s ∧ q.cdw10 = n + 256 * a ∧ rest ∧ shelfPresent n u = true
  let dw := fun (s : State) => doneSlot i { dw0 := shelfState n s + shelvesUp s * 256 + budgetOf s * 65536 } s
  let toB : Bool := q.cdw10.testBit 16
  let first := q.cdw10 % 256
  let last := q.cdw10 / 256 % 256
  let moves := (List.range 256).filter (fun g => decide (first ≤ g) && decide (g ≤ last) && ownerOf g s != (if toB then 1 else 0))
  let hands := AdminRuns i 0xC8 t m u s ∧ s.mir.moving.any (fun x => moves.any (x.2.1.contains ·)) = false ∧ u.mir.partnerFirm = false ∧ first ≤ last ∧ q.cdw10 < 2 ^ 17 ∧ rest ∧ partnerHere u = true
  let f := waitSlot i u
  let num := rget F.PNL_EPOCH_SEQ_NUMBER f
  (asks 0 → exec (.shelfControlReport slot) s = .next (dw u)) ∧
  (asks 1 → (placesPinned n u = false → exec (.shelfControlWake slot) s = .next (dw (requestWake n .hostWake u))) ∧
    (placesPinned n u = true → exec (.shelfControlWake slot) s = .next (doneSlot i stBudgetFull u))) ∧
  (asks 2 → exec (.shelfControlRelease slot) s = .next (dw (endHold n .stage (endHold n .hostWake u)))) ∧
  (asks 3 → ((holdsOn n u).contains .hostPin = false → hostPins u + 1 < budgetOf u → placesPinned n u = false → exec (.shelfControlPin slot) s = .next (dw (requestWake n .hostPin u))) ∧
    ((holdsOn n u).contains .hostPin = true → exec (.shelfControlPin slot) s = .next (dw u)) ∧
    ((holdsOn n u).contains .hostPin = false → budgetOf u ≤ hostPins u + 1 → exec (.shelfControlPin slot) s = .next (doneSlot i stBudgetFull u))) ∧
  (asks 4 → exec (.shelfControlUnpin slot) s = .next (dw (endHold n .hostPin u))) ∧
  (AdminRuns i 0xC6 t m u s → q.cdw12 < 1024 → q.cdw13 = 0 → q.cdw14 = 0 → q.cdw15 = 0 →
    let l := eventRecords (q.cdw11 * 2 ^ 32 + q.cdw10) (q.cdw12 % 1024 + 1) u
    exec (.eventRecorderRead slot) s = .next (doneSlot i { dw0 := l.length, dw1 := rget F.EVR_HEAD_SEQ_SEQ u % 2 ^ 32 } (sendData m l.flatten u))) ∧
  (hands → moves = [] → exec (.ownershipHandover slot) s = .next (doneSlot i { dw0 := 0 } u)) ∧
  (hands → moves ≠ [] → (toB == (headSlot f == 1)) = true →
    let v := sendPartner (.handoverRequest moves toB) f
    exec (.ownershipHandover slot) s = .next { v with mir := { v.mir with moving := v.mir.moving ++ [(0, moves, toB, some t)] } }) ∧
  (hands → moves ≠ [] → (toB == (headSlot f == 1)) = false →
    let v := addRec' none (.handover moves toB) f
    exec (.ownershipHandover slot) s = .next (noticeAll 3 (anaChanged { v with mir := { v.mir with moving := v.mir.moving ++ [(num, moves, toB, some t)] } })))

/-- R299, R300, R302 and R305: Snapshot create by the owner of the namespace's group gives the next SNAPID the point of the next write and answers it, and
is passed to the partner by the other head; delete marks an entry that is not in use DELETING; the sweep removes the retained records that no live
snapshot needs, and the entry. A clause that rests on the model's own choice: log entry 43. -/
def Obligations.SnapshotCommands : Prop :=
  ∀ (slot : SlotNo) (t : Task) (m : HbMsg) (ns : Namespace) (x : Snapshot) (id : Nat) (u s : State),
  let i := slot.val
  let n := m.sqe.nsid
  let g := groupOfNs n u
  let new_ := n * 2 ^ 32 + kget 0 u.arr.snapSerial n + 1
  let del := m.sqe.cdw13 * 2 ^ 32 + m.sqe.cdw12
  let runs := fun (a : Nat) => AdminRuns i 0xC0 t m u s ∧ m.sqe.cdw10 = a ∧ m.sqe.cdw11 = 0 ∧ m.sqe.cdw14 = 0 ∧ m.sqe.cdw15 = 0 ∧ nsOf n u = some ns
  (runs 0 → m.sqe.cdw12 = 0 → m.sqe.cdw13 = 0 → (owns g u || solo u) = true → snapLimit n u = false →
    exec (.snapshotCreate slot) s = .next (doneSlot i { dw0 := new_ % 2 ^ 32, dw1 := new_ / 2 ^ 32 }
      (transact (some g) [.snapPut { snapid := new_, point := newPoint u, created := opsec u }] u))) ∧
  (runs 0 → m.sqe.cdw12 = 0 → m.sqe.cdw13 = 0 → (owns g u || solo u) = true → snapLimit n u = true → exec (.snapshotCreate slot) s = .next (doneSlot i stSnapLimit u)) ∧
  (runs 0 → m.sqe.cdw12 = 0 → m.sqe.cdw13 = 0 → (owns g u || solo u) = false →
    let r := u.host.snapReq
    exec (.snapshotCreate slot) s = .next (sendPartner (.snapRequest n r) (freeSlot i { u with host := { u.host with snapReq := r + 1, snapWait := u.host.snapWait ++ [(r, t)] } }))) ∧
  (runs 1 → snapOf del u = some x → x.deleting = false → snapNs x.snapid = n →
    (x.inUse = 0 → exec (.snapshotDelete slot) s = .next (doneSlot i stOk (transact (some g) [.snapPut { x with deleting := true }] u))) ∧
    (x.inUse ≠ 0 → exec (.snapshotDelete slot) s = .next (doneSlot i stSeqErr u))) ∧
  (runs 1 → snapOf del u = none → exec (.snapshotDelete slot) s = .next (doneSlot i stInvalidField u)) ∧
  (snapOf id s = some x → x.deleting = true → (owns (groupOfNs (snapNs id) s) s || solo s) = true →
    let gone := s.arr.retained.filter (fun r => r.rec_.nsid == snapNs id && !needed (livePoints (snapNs id) s.arr) r.rec_.wseq r.wseqEnd)
    exec (.snapshotSweep id) s = .next (transact (some (groupOfNs (snapNs id) s))
      (withRefs (gone.map (fun r => IndexChange.retDel (snapNs id) r.rec_.addr r.rec_.wseq)) s.arr ++ [.snapDel id]) s))

/-- R308 to R311, R318 and R321: Replicate start opens a session to a paired chip, pause and resume and cancel act on the session named, status answers
its record; the schedule makes a snapshot and starts a session to the first paired chip. Clauses that rest on the model's own choices: log entries 43,
67, 68. -/
def Obligations.ReplicateCommands : Prop :=
  ∀ (slot : SlotNo) (t : Task) (m : HbMsg) (ns : Namespace) (p : Pairing) (x : Session) (sn : Snapshot) (nsid : Nat) (u s : State),
  let i := slot.val
  let n := m.sqe.nsid
  let id := m.sqe.cdw13 * 2 ^ 32 + m.sqe.cdw12
  let chip := m.sqe.cdw11
  let runs := fun (a : Nat) => AdminRuns i 0xC2 t m u s ∧ m.sqe.cdw10 = a ∧ chip ≤ 0x3FF ∧ m.sqe.cdw14 = 0 ∧ m.sqe.cdw15 = 0 ∧ nsOf n u = some ns
  let names := namedSess n id chip u = some x ∧ sessEnded x = false
  let made := makeSnap nsid true s
  let v := autoDelete nsid made.2
  (runs 0 → (pairingsOf n u).find? (·.chip == chip) = some p → usable n id u = some sn → ns.replica = false → sessClash id p u = false → queuedCount u < 1024 →
    exec (.replicateStart slot) s = .next (beginSess id 0 p (some t) (freeSlot i u))) ∧
  (runs 0 → (pairingsOf n u).find? (·.chip == chip) = none → exec (.replicateStart slot) s = .next (doneSlot i stInvalidField u)) ∧
  (runs 1 → names → x.st = .running → exec (.replicatePause slot) s = .next (doneSlot i { dw0 := x.num } (settleSessions (recordSess { x with st := .paused } u)))) ∧
  (runs 2 → names → x.st = .paused →
    let y := { x with st := if runningCount u < 64 then .running else .queued, sends := 1, mine := true, ready := false, flight := [], todo := [], owed := [] }
    exec (.replicateResume slot) s = .next (doneSlot i { dw0 := x.num } (settleSessions (sendOpen y (recordSess y u))))) ∧
  (runs 3 → names → exec (.replicateCancel slot) s = .next (doneSlot i { dw0 := x.num } (settleSessions
    (endSess x .cancelled 0 (sendRep x.chip 0x18 { session := x.num, reason := 0 } u))))) ∧
  (runs 4 → namedSess n id chip u = some x → exec (.replicateStatus slot) s = .next (doneSlot i { dw0 := x.num } (sendData m (statusRecord x) u))) ∧
  (runs 4 → namedSess n id chip u = none → exec (.replicateStatus slot) s = .next (doneSlot i stInvalidField u)) ∧
  (kget 0 s.arr.schedule nsid ≠ 0 → nsOf nsid s = some ns → (owns (groupOfNs nsid s) s || solo s) = true → snapLimit nsid s = false →
    (∀ ps, pairingsOf nsid v = p :: ps → sessClash made.1 p v = false → queuedCount v < 1024 →
      exec (.repSchedule nsid none) s = .next (beginSess made.1 (deltaBase nsid p.chip v) p none v)) ∧
    (pairingsOf nsid v = [] → exec (.repSchedule nsid none) s = .next v)) ∧
  (kget 0 s.arr.schedule nsid ≠ 0 → nsOf nsid s = some ns → (owns (groupOfNs nsid s) s || solo s) = true → snapLimit nsid s = true →
    exec (.repSchedule nsid none) s = .next (recordFw Ev.REPL_SKIPPED srcSUP 0 (pack [(4, nsid)]) s))

/-- R310, R311, R315, R316 and R318, at the source: the target's first answer starts, queues or fails the session; an unanswered REP_OPEN is sent again up
to three times; needed chunks are shipped, batches acknowledged and checkpoints written; the commit's reply ends the session DONE, and a target whose
checks failed fails it. R298, R308, R313 to R317 and R320, at the target and between peers: REP_OPEN is checked and answered; a batch is confirmed and
its needs returned; a frame that passes its checks is sealed and placed, one that fails is asked for again; the commit makes a REPLICA_POINT snapshot;
a close ends the session; a peer ships the frame of a live chunk asked for, answers NOT_READY with a wake while its shelf sleeps, and the asker goes
on to the next peer. Clauses that rest on the model's own choices: log entries 3, 67, 68, 69. -/
def Obligations.ReplicationSourceAndTarget : Prop :=
  (∀ (m : RepMsg) (x : Session) (f : Nat × List RepEntry) (s : State),
     let mine := srcSess m s = some x
     let lo := min x.acked m.resume
     let y := { x with sends := 0, wait := 10, winKey := m.winKey, winGen := m.winGen, resume := lo, acked := lo, ready := false, todo := [], flight := [], owed := [] }
     let z := { y with st := if runningCount s < 64 then .running else .queued, task := none }
     let stands := (sessOf x.num s).filter (fun x => x.mine && !sessEnded x) = some x
     let rest := x.flight.filter (·.1 != m.batch)
     let a : Session := { x with flight := rest, owed := x.owed.filter (·.1 != m.batch), acked := ackedAddr x rest f.2,
                                 ackedBytes := x.ackedBytes + (f.2.filter (fun e => !e.trim)).foldl (fun n e => n + e.len) 0, lastAck := opsec s }
     (mine → x.sends ≠ 0 → m.result = 0 → x.st = .opening →
       exec (.repOpenReply m) s = .next (settleSessions (answerStart x { dw0 := x.num } (markUse z true (recordSess z s))))) ∧
     (mine → x.sends ≠ 0 → m.result = 0 → x.st ≠ .opening → exec (.repOpenReply m) s = .next (settleSessions (setSess y s))) ∧
     (mine → x.sends ≠ 0 → m.result ≠ 0 → x.st = .opening →
       exec (.repOpenReply m) s = .next (answerStart x { dw0 := x.num }
         (recordSess { x with st := .failed, reason := refusalReason m.result s, sends := 0, task := none } (tickFree s)))) ∧
     (stands → x.st = .opening → (x.sends < 3 → exec (.repOpenRetry x.num) s = .next (sendOpen x (setSess { x with sends := x.sends + 1 } s))) ∧
       (3 ≤ x.sends → exec (.repOpenRetry x.num) s = .next (answerStart x stUnreachable (onArr (fun a => { a with sessions := a.sessions.filter (·.num != x.num) }) s)))) ∧
     (mine → x.flight.find? (·.1 == m.batch) = some f → m.result ≠ 5 → exec (.repNeed m) s = .next (settleLost (settleSessions (forEach m.need (fun i s => shipEntry x.num m.batch i s)
       (setSess { x with found := x.found + (if m.index = 0 then foundBytes f.2 m.need else 0) } s))))) ∧
     (mine → x.flight.find? (·.1 == m.batch) = some f → m.result = 5 → exec (.repNeed m) s = .next (settleLost (settleSessions (closeSess x .failed 6 s)))) ∧
     (mine → x.flight.find? (·.1 == m.batch) = some f → m.result ≠ 5 → exec (.repBatchAck m) s = .next (settleSessions (if a.ckptBytes + 2 ^ 30 ≤ a.ackedBytes then
       recordSess { a with ckpt := a.acked, ckptBytes := a.ackedBytes } s else setSess a s))) ∧
     exec .repCheckpoint s = .next (forEach (s.arr.sessions.filter (fun x => x.mine && !sessEnded x && x.st != .opening && x.acked != x.ckpt))
       (fun x s => recordSess { x with ckpt := x.acked, ckptBytes := x.ackedBytes } s) s) ∧
     (mine → x.st = .committing → m.result = 0 →
       let e := endSess x .done 0 s
       (∀ sn, snapOf x.snapid e = some sn → exec (.repCommitReply m) s = .next (settleSessions (autoDelete (snapNs x.snapid) (transact none [.snapPut { sn with lastTarget := x.chip }] e)))) ∧
       (snapOf x.snapid e = none → exec (.repCommitReply m) s = .next (settleSessions (autoDelete (snapNs x.snapid) e)))) ∧
     (mine → m.result ≠ 0 → exec (.repClose m) s = .next (settleSessions (endSess x .failed m.reason s)))) ∧
  (∀ (m : RepMsg) (x : InSession) (b : InBatch) (e : RepEntry) (z : List Byte) (k : List Byte) (s s1 : State),
     let reply : RepMsg := { result := openResult m s, session := m.session, snapid := ((latestReplica m.dstNsid s).map (·.sourceSnapid)).getD 0 }
     let here := inSess m s = some x ∧ x.done = false
     let fresh := s.arr.inSessions.find? (fun y => y.nsid == m.dstNsid && y.num == m.session && y.snapid == m.snapid && !y.done) = none
     let new_ : InSession := { num := m.session, chip := m.chip, nsid := m.dstNsid, srcNsid := m.srcNsid, snapid := m.snapid, base := m.base, winKey := ofLe k }
     let g := some (groupOfNs x.nsid s)
     (owns (groupOfNs m.dstNsid s) s = true →
       (openResult m s ≠ 0 → exec (.repOpen m) s = .next (sendRep m.chip 0x11 reply s)) ∧
       (openResult m s = 0 → fresh → drawBytes 4 s = (k, s1) → exec (.repOpen m) s = .next (sendRep m.chip 0x11 { reply with winKey := ofLe k }
         (onArr (fun a => { a with inSessions := a.inSessions.filter (fun y => !(y.nsid == m.dstNsid && y.done)) ++ [new_] }) s1)))) ∧
     (owns (groupOfNs m.dstNsid s) s = false → solo s = false → exec (.repOpen m) s = .next (sendPartner (.rep 0x10 m) s)) ∧
     (here → x.batches.any (·.batch == m.batch) = false →
       let bytes := (m.entries.filter (fun e => !e.trim)).foldl (fun n e => n + e.len) 0
       let c := confirmEntries x (kdOf x.nsid s) (dedupNs x.nsid s) m.entries.zipIdx { batch := m.batch, entries := m.entries } s
       (noSpace bytes s = true → exec (.repFps m) s = .next (settleLost (sendRep m.chip 0x13 { result := 5, session := m.session, batch := m.batch } s))) ∧
       (noSpace bytes s = false → exec (.repFps m) s = .next (settleLost (settleTargets
         (sendRep m.chip 0x13 { session := m.session, batch := m.batch, need := c.1.need } (setIn { x with batches := x.batches ++ [c.1] } c.2)))))) ∧
     (here → x.batches.find? (·.batch == m.batch) = some b → (b.entries[m.index]?).filter (fun _ => b.need.contains m.index) = some e →
       let got := { b with need := b.need.filter (· != m.index) }
       (checkFrame x e m s = some z → dedupNs x.nsid s = true → storeFrame x e e.chunkLen z s = (true, s1) → exec (.repData m) s = .next (settleTargets (setBatch x got s1))) ∧
       (checkFrame x e m s = some z → dedupNs x.nsid s = false → exec (.repData m) s = .next (settleTargets (setBatch x { got with raw := b.raw ++ [(m.index, e.chunkLen, z)] } s))) ∧
       (checkFrame x e m s = none → kget 0 b.tries m.index < 2 → exec (.repData m) s = .next (settleTargets
         (sendRep m.chip 0x13 { session := m.session, batch := m.batch, need := [m.index], index := kget 0 b.tries m.index + 1 }
           (setBatch x { b with tries := kput b.tries m.index (kget 0 b.tries m.index + 1) } s))))) ∧
     (here → x.batches = [] → snapLimit x.nsid s = false → latestReplica x.nsid s = none →
       exec (.repCommit m) s = .next (sendRep m.chip 0x17 { result := 0, session := m.session, snapid := m.snapid } (setIn { x with done := true }
         (transact g [.snapPut { snapid := x.nsid * 2 ^ 32 + kget 0 s.arr.snapSerial x.nsid + 1, point := newPoint s, created := opsec s, replicaPoint := true, sourceSnapid := m.snapid }] s)))) ∧
     (here → m.result = 0 → exec (.repClose m) s = .next (onArr (fun a => { a with inSessions := a.inSessions.filter (fun y => !(y.nsid == x.nsid && y.num == x.num && !y.done)) }) (releaseIn x s))) ∧
     (m.probe ≠ saltProbe m.dstNsid s → exec (.repFetch m) s = .next (settleLost (sendRep m.chip 0x1A { result := 3, session := m.session, fp := m.fp } s))) ∧
     (∀ (y : IndexEntry) (l : Loc) (cl key : Nat), m.probe = saltProbe m.dstNsid s →
       s.arr.index.find? (fun e => e.fp == m.fp && e.kd == kdOf m.dstNsid s && e.state == .live && !e.lost && (match e.kind with | .chunk _ => true | _ => false)) = some y →
       y.kind = .chunk l →
       let asleep := ((steepOf l.stripe s).isNone && !shelfReads l.shelf s) = true
       (asleep → exec (.repFetch m) s = .next (settleLost (sendRep m.chip 0x1A { result := 6, session := m.session, fp := m.fp, crd := crdOf l.shelf s } (requestWake l.shelf .rep s)))) ∧
       (¬asleep → readFrame l y.frameLen s = some (z, cl) → sessKey m.chip m.session s = some key →
         s.arr.inSessions.find? (fun x => x.chip == m.chip && x.num == m.session) = some x →
         let ships : RepMsg := { session := m.session, fp := m.fp, chunkLen := cl, counter := x.seq, frame := sessCtr key m.session (ownChip s) x.seq z s }
         exec (.repFetch m) s = .next (settleLost (sendRep m.chip 0x1A { result := 0, session := m.session, fp := m.fp } (sendRep m.chip 0x14 ships (setIn { x with seq := x.seq + 1 } s)))))) ∧
     (∀ l : Lost, s.arr.lost.find? (fun l => l.fp == m.fp && (l.peers.head?).any (fun p => p.chip == m.chip)) = some l →
       (m.result = 6 → exec (.repFetchReply m) s = .next (arSettle (askPeer l s))) ∧
       (m.result ≠ 0 → m.result ≠ 6 → exec (.repFetchReply m) s = .next (arSettle (askPeer { l with peers := l.peers.drop 1 } (setLost { l with peers := l.peers.drop 1 } s))))))

/-- R176, R178, R179, R180, R182, R185 and R187: a confirm at the server of its slice places a hold on the LIVE or PENDING entry that is not sealed and is
a hit, one whose HOLDS is 0xFFFF waits, and a new chunk gets a PENDING entry with one hold and its strainer tag, NEW being answered at once (scope
array) or after the domain steps (scope DOMAIN): DIR_PROBE to the home array, whose answer makes this array the exporter or starts an import; three
probes unanswered store the chunk here. A head that does not serve the slice asks or passes to the one that does. A clause that rests on the model's
own choice: log entry 62. -/
def Obligations.ConfirmAndDirectory : Prop :=
  ∀ (q : ConfirmReq) (m : DedupMsg) (ns : Namespace) (e : IndexEntry) (w : DomWork) (x n k : Nat) (hit : Bool) (fp : Digest) (kd : Nat) (s : State),
  let named := nsOf q.nsid s = some ns
  let asks := named ∧ q.reply = none ∧ serves (sliceOf q.fp) s = true
  let p := readPage q s
  let absent := strainerHas s.arr.strainer q.fp = false
  let missing := strainerHas s.arr.strainer q.fp = true ∧ findEntry q.fp q.kd p = none
  let found := strainerHas s.arr.strainer q.fp = true ∧ findEntry q.fp q.kd p = some e
  let both := fun (t : State) => exec (.confirm q) s = .next (arSettle (settleReplies t)) ∧ exec (.confirmRetry q) s = .next (arSettle (settleReplies t))
  let made := fun (u : State) => replyLater q false (createEntry q.fp q.kd q.chunkLen false u)
  let c := createEntry q.fp q.kd q.chunkLen true s
  let waits := domOf m.fp m.kd s = some w ∧ (w.phase = .probe k ∨ w.phase = .claim x k)
  let probes := domOf fp kd s = some w
  let here := serves (sliceOf m.fp) s = true
  (asks → scopeOf ns s = .array → (absent → both (made s)) ∧ (missing → both (made p))) ∧
  (asks → scopeOf ns s = .domain → absent → homeOf q.fp c ≠ c.arr.arrayNum →
    both (sendDedup (homeOf q.fp c) 1 { kd := q.kd, fp := q.fp } (setDom q (some (.probe 1)) c))) ∧
  (asks → scopeOf ns s ≠ .none → found → (e.holds < 0xFFFF → both (replyLater q true (transact none [.entryPut { e with holds := e.holds + 1 }] p))) ∧ (e.holds = 0xFFFF → both p)) ∧
  (named → q.reply = none → scopeOf ns s ≠ .none → serves (sliceOf q.fp) s = false → (askedBy q s).isSome = true → both (egress (.askSlice q) s)) ∧
  (named → q.reply = some hit → both (if hit then answerHit q s else answerNew q s)) ∧
  (here → homeOf m.fp s = s.arr.arrayNum → dirEntry m.fp m.kd s = none →
    exec (.dirProbe m) s = .next (sendDedup m.from_ 2 { result := 1, kd := m.kd, fp := m.fp, loc := 0 } (makeDir m.fp m.kd m.from_ s))) ∧
  (here → homeOf m.fp s = s.arr.arrayNum → dirEntry m.fp m.kd s = some e → e.kind = .dir x →
    (x = m.from_ → exec (.dirProbe m) s = .next (sendDedup m.from_ 2 { result := 1, kd := m.kd, fp := m.fp, loc := 0 } s)) ∧
    (x ≠ m.from_ → m.claim = true → m.loc % 32 = x →
      exec (.dirProbe m) s = .next (sendDedup m.from_ 2 { result := 1, kd := m.kd, fp := m.fp, loc := 0 } (transact none [.entryPut { e with kind := .dir m.from_ }] s))) ∧
    (x ≠ m.from_ → m.claim = false → exec (.dirProbe m) s = .next (sendDedup m.from_ 2 { result := 0, kd := m.kd, fp := m.fp, loc := x } s))) ∧
  (here → homeOf m.fp s ≠ s.arr.arrayNum → exec (.dirProbe m) s = .next (sendDedup m.from_ 2 { result := 3, kd := m.kd, fp := m.fp } s)) ∧
  (¬here → exec (.dirProbe m) s = .next (egress (.passSlice 1 m) s) ∧ exec (.dirDrop m) s = .next (egress (.passSlice 3 m) s)) ∧
  (lostOf m.fp m.kd s = none → waits → m.result = 1 → exec (.dirReply m) s = .next (arSettle (storeHere w.req s))) ∧
  (lostOf m.fp m.kd s = none → waits → m.result = 0 → m.loc % 32 ≠ s.arr.arrayNum →
    exec (.dirReply m) s = .next (arSettle (startImport w.req (m.loc % 32) s))) ∧
  (lostOf m.fp m.kd s = none → waits → m.result = 4 → exec (.dirReply m) s = .next (arSettle (setDom w.req (some (busyPhase w.phase)) s))) ∧
  (probes → w.phase = .probe k → k < 3 →
    exec (.dirProbeTimeout fp kd) s = .next (arSettle (sendDedup (homeOf fp s) 1 { kd := kd, fp := fp } (setDom w.req (some (.probe (k + 1))) s)))) ∧
  (probes → w.phase = .claim x k → k < 3 →
    exec (.dirProbeTimeout fp kd) s = .next (arSettle (sendDedup (homeOf fp s) 1 { kd := kd, fp := fp, claim := true, loc := x } (setDom w.req (some (.claim x (k + 1))) s)))) ∧
  (probes → (w.phase = .probe k ∨ w.phase = .claim x k) → 3 ≤ k → exec (.dirProbeTimeout fp kd) s = .next (arSettle (storeHere w.req s))) ∧
  (here → dirEntry m.fp m.kd s = some e → (e.kind = .dir m.from_ → exec (.dirDrop m) s = .next (transact none [.entryDel e] (strainerDelete e.fp e.strSel s))) ∧
    (e.kind = .dir n → n ≠ m.from_ → exec (.dirDrop m) s = .next s))

/-- R187 to R191: the exporter answers an IMPORT once, adding a reference and an EXT_REF entry, and REFUSED or GONE where it has no chunk to share; the
importer's reply makes the entry LIVE and the chunk a hit, or sends a claim; an import unanswered after three sends is abandoned and its reference
recorded for release; a RELEASE takes the EXT_REF entry and is answered OK, its reply ends it and removes the DEAD entry, and unanswered it is sent
again after a wait that doubles up to 1 h; a FETCH is answered with the frame, NOT_READY where its shelf sleeps, or GONE; an evicted frame makes the
IMPORT entry a CHUNK entry. Clauses that rest on the model's own choices: log entries 3, 62. -/
def Obligations.ImportReleaseAndFetch : Prop :=
  ∀ (m : DedupMsg) (e r : IndexEntry) (w : DomWork) (l : Loc) (rel : RelWork) (x n k u : Nat) (f : List Byte) (t v s : State),
  let answers := fun (a cl fl : Nat) (s : State) => sendDedup m.from_ 5 { result := a, kd := m.kd, serial := m.serial, fp := m.fp, loc := s.arr.arrayNum, chunkLen := cl, frameLen := fl } s
  let released := fun (s : State) => sendDedup m.from_ 7 { result := 0, kd := m.kd, serial := m.serial, fp := m.fp, loc := s.arr.arrayNum } s
  let imports := domOf m.fp m.kd s = some w ∧ w.phase = .importing m.serial x k
  let ask := importWork m.serial s = some w ∧ w.phase = .importing m.serial x k
  let dropped := onArr (fun a => { a with releases := a.releases.filter (·.serial != m.serial) }) s
  let resent := sendDedup rel.exporter 6 { kd := rel.kd, serial := n, fp := rel.fp, loc := rel.exporter } (onArr (fun a => { a with releases := a.releases.map (fun x => if x.serial = n then { x with wait := min 3600 (2 * x.wait) } else x) }) s)
  let gives := fun (a crd : Nat) (f : List Byte) (s : State) => sendDedup m.from_ 8 { result := a, kd := m.kd, crd := crd, serial := m.serial, fp := m.fp, loc := s.arr.arrayNum, frameLen := f.length, frame := f } s
  let asked := lostOf m.fp m.kd s = none ∧ s.arr.fetches = []
  let here := serves (sliceOf m.fp) s = true
  let evicts := importedFrom m s = some e ∧ m.frame ≠ [] ∧ placeSealed 0 0 0 s.arr.width none none m.frame m.fp m.kd true s = (some l, v)
  (here → extRef m s = some r → exportable m s = some e → exec (.import_ m) s = .next (answers 0 e.chunkLen e.frameLen s)) ∧
  (here → extRef m s = none → exportable m s = some e → newUid s = (u, v) →
    exec (.import_ m) s = .next (answers 0 e.chunkLen e.frameLen (transact none [.entryPut (addRefs 1 e), .entryPut { uid := u, fp := m.fp, kd := m.kd, kind := .extRef m.from_, state := .live, serial := m.serial }] v))) ∧
  (here → extRef m s = none → exportable m s = none → exec (.import_ m) s = .next (answers (importRefusal m s) 0 0 s)) ∧
  (¬here → exec (.import_ m) s = .next (egress (.passSlice 4 m) s) ∧ exec (.release m) s = .next (egress (.passSlice 6 m) s)) ∧
  (imports → m.result = 0 → importEntry m.serial s = some e →
    exec (.importReply m) s = .next (arSettle (replyLater w.req true (transact none [.entryPut { e with state := .live, chunkLen := m.chunkLen, frameLen := m.frameLen }] (setDom w.req none s))))) ∧
  (imports → m.result = 2 → entryKind w.req (.chunk {}) 0 s = t → homeOf m.fp t ≠ t.arr.arrayNum →
    exec (.importReply m) s = .next (arSettle (sendDedup (homeOf m.fp t) 1 { kd := m.kd, fp := m.fp, claim := true, loc := x } (setDom w.req (some (.claim x 1)) t)))) ∧
  (imports → m.result = 4 → exec (.importReply m) s = .next (arSettle (setDom w.req (some (busyPhase w.phase)) s))) ∧
  (imports → m.result = 3 → exec (.importReply m) s = .next (arSettle (storeHere w.req s))) ∧
  (ask → k < 3 → exec (.importTimeout m.serial) s = .next (arSettle (sendDedup x 4 { kd := w.req.kd, serial := m.serial, fp := w.req.fp, loc := x, chunkLen := w.req.chunkLen } (setDom w.req (some (.importing m.serial x (k + 1))) s)))) ∧
  (ask → 3 ≤ k → exec (.importTimeout m.serial) s = .next (arSettle (storeHere w.req (sendDedup x 6 { kd := w.req.kd, serial := m.serial, fp := w.req.fp, loc := x }
    (onArr (fun a => { a with releases := a.releases ++ [{ serial := m.serial, fp := w.req.fp, kd := w.req.kd, exporter := x }] }) s))))) ∧
  (here → extRef m s = none → exec (.release m) s = .next (released s)) ∧
  (here → extRef m s = some r → referenced m s = some e →
    exec (.release m) s = .next (released (transact none [.entryDel r, .entryPut (deadIfFree { e with refs := e.refs - 1 })] s))) ∧
  (m.result = 0 → importEntry m.serial dropped = some e → (e.state = .dead → exec (.releaseReply m) s = .next (removeImport m.serial dropped)) ∧
    (e.state ≠ .dead → exec (.releaseReply m) s = .next dropped)) ∧
  (m.result = 0 → importEntry m.serial dropped = none → exec (.releaseReply m) s = .next dropped) ∧
  (s.arr.releases.find? (·.serial == n) = some rel →
    (kfind resent.arr.deferredAt rel.exporter = some x → opsec resent < x + 86400 → exec (.releaseResend n) s = .next resent) ∧
    ((∀ y, kfind resent.arr.deferredAt rel.exporter = some y → y + 86400 ≤ opsec resent) →
      exec (.releaseResend n) s = .next (recordFw Ev.IMPORT_RELEASE_DEFERRED srcSUP rel.exporter [] (onArr (fun a => { a with deferredAt := kput a.deferredAt rel.exporter (opsec resent) }) resent)))) ∧
  (asked → heldChunk m s = some e → e.kind = .chunk l → e.lost = false → e.state = .live → shelfAwake l.shelf s = true → frameAt l e.frameLen s = some f →
    exec (.fetch m) s = .next (settleRep (gives 0 0 f s))) ∧
  (asked → heldChunk m s = some e → e.kind = .chunk l → e.lost = false → e.state = .live → steepOf l.stripe s = none → shelfState l.shelf s = 0 →
    exec (.fetch m) s = .next (settleRep (gives 5 sleepCrd [] (requestWake l.shelf .stage s)))) ∧
  (asked → heldChunk m s = none → exec (.fetch m) s = .next (settleRep (gives 2 0 [] s))) ∧
  (evicts → exec (.evict m) s = .next (arSettle (sendDedup m.from_ 9 { result := 0, kd := m.kd, serial := e.serial, fp := m.fp, loc := (transact none [.entryPut { e with kind := .chunk l, frameLen := m.frame.length, serial := 0 }] v).arr.arrayNum } (transact none [.entryPut { e with kind := .chunk l, frameLen := m.frame.length, serial := 0 }] v))))

/-- R21, R246 to R250, R254 and R256: STEEP_MAX closes the open stripes of its group and class; a closed and sealed stripe that finds a parity context and
a zone set pours the next row of it; a LANDED stripe commits its record, its entries and its map records; a write whose map commit is durable gives up
its dirty copy, with a RELEASE record and credits; a write zeroes or deallocation stays while an earlier write it covers does; collection moves the
live frames of the zone set it picks where a new stripe is placed; a zone set with no live byte, no reader and nothing to redo is reset and its zones
return as free. A clause that rests on the model's own choice: log entry 61. -/
def Obligations.StripesAndCollection : Prop :=
  ∀ (group : Fin 256) (cls : Fin 4) (shelf : Fin 8) (n zs w ctx pick dst : Nat) (x : Steep) (z : ZoneSet) (d : Dirty) (u s : State),
  let steeping := steepOf n s = some x ∧ x.closed = true ∧ x.je.state = .steeping ∧ x.unsealed = 0
  let row := (zsOf zs u).nextRow
  let mem := (zsOf zs u).members
  let u1 := setZs zs { zsOf zs u with nextRow := row + 1, firstAppend := (zsOf zs u).firstAppend.or (some (rget F.CLK_ALARM_RTC_SEC u)) } u
  let u2 := setFill x.handle (x.je.k * 65536) (memWrite (bufAddr x.handle u1 + x.fill) (List.replicate (x.je.k * 65536 - x.fill) 0) u1)
  let u3 := setJournal n (fun j => { j with state := .pouring, row := row, zoneSet := zs, members := mem, dataBytes := x.fill, frames := x.frames.length }) (setSteep { x with ctx := some ctx, ok := [], failed := false, pBuf := none, qBuf := none } u2)
  let u4 := setPar (kput u3.par ctx { k := x.je.k, len := 65536, p := zeroStrip 65536, q := zeroStrip 65536 }) u3
  let poured := arSettle (forEach (List.range x.je.k) (fun i s => postStrip n i (stripPlace (zsOf zs u) row i).1 (stripPlace (zsOf zs u) row i).2 row x.handle (65536 * i) ctx true s) u4)
  let je := journalWrite { x.je with state := .committed } s
  let j := je.1
  let rec_ : StripeRec := { stripe := j.stripe, zoneSet := j.zoneSet, row := j.row, k := j.k, dataBytes := j.dataBytes, frames := j.dir, group := j.group, cls := j.cls }
  let cs := [IndexChange.stripePut rec_] ++ j.dir.flatMap (fun f => directMoves j f je.2.arr)
  let c1 := transact (some j.group) (cs ++ inTurn (frameChanges j) j.dir (cs.foldl (fun a c => applyChange c a) je.2.arr) ++ [.journal j]) je.2
  let back := x.je.dir.filter (fun f => s.arr.lost.any (fun l => l.fp == f.fp && l.kd == f.kd))
  let c2 := noteDirect x (recordRanges Ev.LOSS_RECOVERED x.je.shelf [(1, x.je.shelf), (8, x.je.stripe)] (back.flatMap (fun f => namingChunk f.fp f.kd c1)) c1)
  let dropped := onArr (fun a => { a with dirty := a.dirty.filter (·.wseq != w) }) s
  let idle := kfind s.arr.zoneSets zs = some z ∧ z.own = true ∧ z.isOpen = false ∧ liveBytes zs s = 0 ∧ z.readers = 0 ∧ redoDone s = true ∧ shelfAwake z.shelf s = true ∧ pouringOn zs s = false
  let r1 := forEach z.members (fun m s => if memberGone m.1 s then s else resetZone m.1 m.2 (egress (.drive m.1 3 (m.2 + 4 * 2 ^ 32) false []) s)) s
  let r2 := forEach (deadIn zs s) removeDead r1
  let r3 := takeZones z.members false (transact none ((stripesOf zs r2).map (fun t => .stripeDel t.stripe) ++ [.zsDel zs]) r2)
  (exec (.steepMax group cls) s = .next (arSettle (closeSteeps (fun x => x.je.state == .steeping && x.je.group == group.val && x.je.cls == cls.val) s))) ∧
  (steeping → lowest 64 (fun c => (kfind s.par c).isNone) = some ctx → chooseZs x.je.shelf x.je.k x.gc.isSome s = (some zs, u) → isMaster poured = false → exec (.pour n) s = .next poured) ∧
  (steeping → lowest 64 (fun c => (kfind s.par c).isNone) = none → isMaster (arSettle s) = false → exec (.pour n) s = .next (arSettle s)) ∧
  (steepOf n s = some x → x.je.state = .landed → exec (.commit n) s = .next (settleRep (arSettle (mergeRecent (commitReady (dropSteep n (dropAll [x.handle] (freePour x c2)))))))) ∧
  (dirtyOf w s = some d → d.own = true → commitDurable d s = true → coversOlder d s = false →
    exec (.dirtyRelease w) s = .next (settleVault (settleRep (retryR2t (grantAll (addRec' (some d.group) (.release [w]) (dropAll d.handle.toList dropped))))))) ∧
  (dirtyOf w s = some d → (commitDurable d s = false ∨ coversOlder d s = true) → exec (.dirtyRelease w) s = .next (settleVault (settleRep (retryR2t s)))) ∧
  (shelfAwake shelf.val s = true → writeTight s = false → placeShelf s = some dst → gcPick shelf.val s = some pick →
    exec (.gc shelf) s = .next (settleLost (arSettle (moveFrames pick none (framesOf pick (fun _ => true) s) s)))) ∧
  (shelfAwake shelf.val s = true → writeTight s = true → s.arr.writeShelf ≠ some shelf.val → exec (.gc shelf) s = .next (settleLost s)) ∧
  (idle → exec (.zoneSetReclaim zs) s = .next (onArr (fun a => { a with evacuating := a.evacuating.filter (· != zs), rebuildList := a.rebuildList.filter (· != zs) }) r3))

/-- R262, R264 and R265: the shelf states of Table 8.7. The master chooses and wakes the next write shelf when the write room is below the stored rate
times WAKE_AHEAD_S; grants the highest waiting request a place, or drains a shelf for it; and takes each transition of the table from the state the
table names, with its event; a drop of SHELF_PG latches PG_DROP. Clauses that rest on the model's own choices: log entries 3, 57, 63. -/
def Obligations.ShelfStates : Prop :=
  ∀ (n : Fin 8) (b : Bool) (notReady : List Nat) (rate sh v : Nat) (p : Nat × HoldKind) (s : State),
  let m := isMaster s
  let st := shelfSt n.val s
  let up := rflag F.SHF_STATE_PG true s n.val
  let dn := rflag F.SHF_STATE_PG false s n.val
  let lost := rflag F.SHF_STATE_PG_DROP true dn n.val
  let h := if b then 1 else 0
  let drained := setShelf n.val { shelfOf n.val s with drained := listSet (shelfOf n.val s).drained h true } s
  let planned := setShelf n.val { shelfOf n.val s with planned := listSet (shelfOf n.val s).planned h true } s
  let held := syncHolds n.val s
  let fresh := (shelfOf n.val s).retries.filter (fun t => decide (opsec s < t + 3600))
  let off := decideShelf n.val .off (setShelf n.val { shelfOf n.val s with retries := fresh ++ [opsec s] } s)
  (m = true → s.arr.nextShelf = none → (s.arr.writeShelf = none ∨ s.arr.writeShelf = some v ∧ writeRoom v s < rate * wakeAhead s) → chooseWrite s = some sh →
    exec (.nextWriteShelf rate) s = .next (writeOpened (requestWake sh .write (sendPartner (.writeShelves s.arr.writeShelf (some sh)) (onArr (fun a => { a with nextShelf := some sh }) s))))) ∧
  (m = true → s.arr.nextShelf = none → s.arr.writeShelf = some v → rate * wakeAhead s ≤ writeRoom v s → exec (.nextWriteShelf rate) s = .next (writeOpened s)) ∧
  (m = true → nextRequest s = some p → shelvesUp s < budgetOf s →
    exec .shelfWakeGrant s = .next (decideShelf p.1 .powering (onArr (fun a => { a with requests := a.requests.filter (fun q => q.1 != p.1) }) s))) ∧
  (m = true → nextRequest s = some p → budgetOf s ≤ shelvesUp s → s.arr.releasing = none → victim (rankOf p.2) s = some v →
    exec .shelfWakeGrant s = .next (decideShelf v .draining (onArr (fun a => { a with releasing := some v }) s))) ∧
  (exec (.minOff n) s = .next (setShelf n.val { shelfOf n.val s with minOff := false } s)) ∧
  (isMaster up = true → shelfSt n.val up = .powering → exec (.shelfPgAssert n) s = .next (decideShelf n.val .linking up)) ∧
  (m = true → st = .powering → exec (.shelfPgTimeout n) s = .next (driveShelf n.val false (decideShelf n.val .fault (recordFw Ev.SHELF_PG_TIMEOUT srcSUP n.val [] s)))) ∧
  (m = true → st = .linking → exec (.shelfLinked n) s = .next (settleRep (settleStage (shelfAwoke n.val s)))) ∧
  (m = true → st = .linking → exec (.shelfReadyTimeout n notReady) s = .next (settleRep (settleStage (shelfAwoke n.val
    (forEach (notReady.filter (fun b => b < 52)) (fun b s => decideMember (52 * n.val + b) .failed s) (recordFw Ev.SHELF_READY_TIMEOUT srcSUP n.val [] s)))))) ∧
  (shelfAwake n.val held = true → holdsOn n.val held = [] → (writeOpen held).contains n.val = false → rget F.SHF_SEQ_CFG_MIN_AWAKE_S held ≤ rget F.SHF_STATE_TIME_IN_STATE held n.val →
    isMaster held = true → exec (.shelfRelease n) s = .next (decideShelf n.val .draining held)) ∧
  (holdsOn n.val held ≠ [] → exec (.shelfRelease n) s = .next held) ∧
  (m = true → st = .draining → (h = headSlot s → ownWorkEnded n.val s = true) → isMaster drained = true → shelfSt n.val drained = .draining →
    (bothReport (shelfOf n.val drained).drained drained = true → exec (.drainReport n b) s = .next (setPlanned n.val true (closeZones n.val (sendPartner (.shelfDecision n.val .releasing) (writeShelfState n.val .releasing drained))))) ∧
    (bothReport (shelfOf n.val drained).drained drained = false → exec (.drainReport n b) s = .next drained)) ∧
  (m = false → st = .draining → h = headSlot s → ownWorkEnded n.val s = true → exec (.drainReport n b) s = .next (sendPartner (.drainReport n.val) s)) ∧
  (m = true → st = .releasing → (bothReport (shelfOf n.val planned).planned planned = true → exec (.plannedDownReport n b) s = .next (driveShelf n.val false planned)) ∧
    (bothReport (shelfOf n.val planned).planned planned = false → exec (.plannedDownReport n b) s = .next planned)) ∧
  (m = false → st = .releasing → h = headSlot s → exec (.plannedDownReport n b) s = .next (driveShelf n.val false (sendPartner (.plannedReport n.val) s))) ∧
  (isMaster dn = true → shelfSt n.val dn = .releasing → exec (.shelfPgDeassert n) s = .next (clearReleasing n.val (decideShelf n.val .off (setShelf n.val { shelfOf n.val dn with minOff := true } dn)))) ∧
  (m = true → st = .releasing → rbit F.SHF_STATE_PG s n.val = true →
    exec (.shelfPgStuck n) s = .next (clearReleasing n.val (decideShelf n.val .fault (recordFw Ev.SHELF_PG_STUCK srcSUP n.val [] s)))) ∧
  (rbit F.SHF_STATE_EN_SENSE s n.val = true → isMaster lost = true → (shelfSt n.val lost = .powering ∨ shelfSt n.val lost = .linking ∨ shelfSt n.val lost = .awake ∨ shelfSt n.val lost = .draining) →
    exec (.shelfPgLost n) s = .next (arSettle (clearReleasing n.val (decideShelf n.val .fault (recordFw Ev.SHELF_PG_LOST srcSUP n.val [] lost))))) ∧
  (rbit F.SHF_STATE_EN_SENSE s n.val = false → exec (.shelfPgLost n) s = .next dn) ∧
  (m = true → st = .fault → 60 ≤ rget F.SHF_STATE_TIME_IN_STATE s n.val → fresh.length < 3 → holdsOn n.val off = [] → exec (.shelfFaultRetry n) s = .next (requestWake n.val .retention off)) ∧
  (st = .fault → 3 ≤ fresh.length → exec (.shelfFaultRetry n) s = .next s)

/-- R259, R260, R261, R264, R267, R272, R493 and R507: SHELF_ALERT latches on a rise; an alarm reached sets the RTC, wakes where enabled, and the shelves
that are due are woken; a link-down with its PLANNED bit is counted and recorded, one without it is a loss that ends the port's jobs, is told to the
partner for a shelf's uplink and, at a port that matters, hands every group over; 60 s later the groups are asked back; a port trains no faster than
it may and clears its bit; correctable errors at the threshold retrain one generation lower; PERST# rises with EN and the clock. Clauses that rest on
the model's own choices: log entries 3, 58, 63. -/
def Obligations.AlertsAlarmAndBackendPorts : Prop :=
  ∀ (n : Fin 8) (p : Fin 17) (level : Bool) (gen : Fin 8) (lanes : Fin 32) (s : State),
  let i := p.val
  let old := rbit F.SHF_STATE_ALERT s n.val
  let a0 := rflag F.SHF_STATE_ALERT level s n.val
  let a1 := rflag F.SHF_STATE_ALERT_LATCH true a0 n.val
  let a2 := record Ev.SHELF_ALERT srcAON n.val [] (if rtest F.SHF_CTL_ALERT_EN n.val a1 then raiseIrq 7 a1 else a1)
  let rtc := rset F.CLK_ALARM_RTC_SEC (max (rget F.CLK_ALARM_ALARM s) (rget F.CLK_ALARM_RTC_SEC s)) s
  let down := portDown i s
  let hits := record Ev.PCI_LINK_LOST srcPCI i [] (raiseIrq 5 (rinc F.PCI_PORT_STATUS_LINK_DOWNS 1 (rinc F.PCI_ERR_CNT_UNPLANNED_DOWN 1 down i) i))
  let ended := arSettle (forEach (portDrives i) endDriveJobs hits)
  let back := match portShelf i with
    | some m => if (shelfOf m s).lost.getD (headSlot s) false then sendPartner (.uplink m false) (uplinkBack m (headSlot s) s) else s
    | none => s
  let up := rset F.PCI_PORT_STATUS_LANES (min lanes.val (portLanes i back)) (rset F.PCI_PORT_STATUS_GEN (min gen.val (portGen i back)) back i) i
  let e0 := rinc F.PCI_ERR_CNT_CORR 1 s i
  let e1 := (fltError 2 i e0).2
  let e2 := record Ev.PCI_RETRAIN srcPCI i [] e1
  let g := rget F.PCI_PORT_STATUS_GEN e2 i
  (level = true → old = false → rtest F.PWR_WAKE_EN_SHELF n.val a2 = false → exec (.shelfAlert n level) s = .next a2) ∧
  (level = true → old = false → rtest F.PWR_WAKE_EN_SHELF n.val a2 = true → exec (.shelfAlert n level) s = .next (wakeSource 3 n.val a2)) ∧
  (level = false → exec (.shelfAlert n level) s = .next a0) ∧
  (rget F.CLK_ALARM_ALARM s ≠ 0 → rbit F.PWR_WAKE_EN_RTC rtc = true → exec .alarm s = .next (alarmWork (wakeSource 2 0 rtc))) ∧
  (rget F.CLK_ALARM_ALARM s ≠ 0 → rbit F.PWR_WAKE_EN_RTC rtc = false → exec .alarm s = .next (alarmWork rtc)) ∧
  (rbit F.PCI_PORT_STATUS_LINK_UP s i = true → rtest F.PCI_PLANNED_DOWN_PLANNED i s = true →
    exec (.pciLinkPlanned p) s = .next (record Ev.PCI_LINK_PLANNED srcPCI i [] (rinc F.PCI_PORT_STATUS_PLANNED_DOWNS 1 down i))) ∧
  (rbit F.PCI_PORT_STATUS_LINK_UP s i = true → rtest F.PCI_PLANNED_DOWN_PLANNED i s = false →
    (portMatters i s = true → partnerHere ended = true → portShelf i = none →
      exec (.pciLinkLost p) s = .next (handAll (onArr (fun a => { a with handed := (a.handed ++ ownGroups ended).eraseDups }) ended))) ∧
    (portMatters i s = false → portShelf i = none → exec (.pciLinkLost p) s = .next ended) ∧
    (∀ m, portMatters i s = false → portShelf i = some m → solo ended = false → exec (.pciLinkLost p) s = .next (uplinkLost m (headSlot ended) (sendPartner (.uplink m true) ended))) ∧
    (∀ m, partnerHere ended = false → portShelf i = some m → solo ended = true → shelfUp m ended = true → exec (.pciLinkLost p) s = .next (decideShelf m .fault ended))) ∧
  (exec (.pciRetrainRetry p) s = .next s) ∧
  (rbit F.PCI_PORT_STATUS_LINK_UP s i = true → s.arr.handed ≠ [] →
    exec (.pciLinkStable p) s = .next (sendPartner (.handoverRequest s.arr.handed (headSlot s == 1)) (onArr (fun a => { a with handed := [] }) s))) ∧
  (portMayTrain i s = true → rbit F.PNL_FENCE_STATUS_GATED s = false →
    exec (.pciLinkUp p gen lanes) s = .next (rputBit F.PCI_PLANNED_DOWN_PLANNED i false (rflag F.PCI_PORT_STATUS_DL_ACTIVE true (rflag F.PCI_PORT_STATUS_LINK_UP true up i) i))) ∧
  (portMayTrain i s = false → exec (.pciLinkUp p gen lanes) s = .next s) ∧
  ((fltError 2 i e0).1 = false → exec (.pciCorrectableError p) s = .next e1) ∧
  ((fltError 2 i e0).1 = true → fltActs 2 e2 = true → exec (.pciCorrectableError p) s = .next (rinc F.PCI_ERR_CNT_RETRAINS 1 (rset F.PCI_PORT_STATUS_GEN (if 1 < g then g - 1 else g) e2 i) i)) ∧
  (rbit F.PCI_PORT_CFG_EN s i = true → rtest F.CLK_PLL_STATUS_PCIE_REF_OK (if i = 16 then 0 else i / 4) s = true →
    exec (.perstRelease p) s = .next (emit (.pin (if i = 16 then "VAULT_PERSTN" else "PCIE_PERSTN") true i) s)) ∧
  (rbit F.PCI_PORT_CFG_EN s i = false → exec (.perstRelease p) s = .next s)

/-- R238, R274, R276, R278, R281, R285, R286, R288, R289, R294, R544 and R545: a criterion reports a member and the master decides its state; a drive
removed ends its jobs; a drive that comes into an ABSENT bay is refused, or is recorded SPARE with every zone reset; a listed zone set is rebuilt row
by row from where its checkpoint stood, once its targets are verified and the buffers it needs are free, the targets' words replace the members' and
the weak rows are moved; checkpoints record the rebuild and the scrub; a scrubbed row counts its media errors, loses what cannot be decoded, and is
noted weak. Clauses that rest on the model's own choices: log entries 64, 83. -/
def Obligations.MembersRebuildAndScrub : Prop :=
  ∀ (drive : DriveNo) (r : MemberReport) (both : Bool) (warning : BitVec 8) (info : DriveInfo) (sc : ScrubResult) (zs row : Nat) (z : ZoneSet) (hs : List Nat) (t s : State),
  let d := drive.val
  let w := watched d s
  let reports := fun (t : MemberState) => memberSettle (reportMember d t s)
  let m := memberOf d s
  let seen := both || m.seenThere
  let taken := arSettle (endDriveJobs d (setMember d { m with removed := true, removedBoth := m.removedBoth || seen } s))
  let came := onArr (fun a => { a with zones := a.zones.filter (fun p => p.1 / 2 ^ 26 != d), strips := a.strips.filter (fun p => p.1 / 2 ^ 58 != d) }) (setMember d { info := info, split := info.zones / 2 } s)
  let spare := transact none [.member d .spare, .split d (info.zones / 2)] (forEach (List.range info.zones) (fun z s => egress (.drive d 3 (z + 4 * 2 ^ 32) false []) s) came)
  let p := (startTargets zs s).2
  let n := min (settings p).rebuildBufs ((zsOf zs s).k + 2)
  let v := forEach (targetsOf zs t) (verifyTarget zs) t
  let k1 := rebuildUpTo zs (rowsOf zs v) v
  let l := targetsOf zs k1
  let k2 := forEach l (fun t s => egress (.drive t.drive 3 (t.zone + 2 * 2 ^ 32) false []) s) k1
  let k3 := transact none [.zsPut zs (zsOf zs k1).shelf (zsOf zs k1).k (zsOf zs k1).rows (zsOf zs k1).own (zsOf zs k1).isOpen ((zsOf zs k1).members.map (fun m => ((l.find? (fun t => t.member == m.1)).map (fun t => (t.drive, t.zone))).getD m))] k2
  let k4 := rebuildDone (writeCkpt (onArr (fun a => { a with rebuildList := a.rebuildList.filter (· != zs), rebPos := kdel a.rebPos zs }) k3))
  let clean := sc.unreadable = [] ∧ sc.mismatch = false ∧ sc.slow = false ∧ sc.last = false
  let whole := kfind s.arr.zoneSets zs = some z ∧ z.own = true ∧ shelfAwake z.shelf s = true ∧ takeBufs (min (settings s).rebuildBufs (z.k + 2)) 2 s = (hs, t) ∧ hs.length = min (settings s).rebuildBufs (z.k + 2) ∧ (rowOf z row true t).all (·.isSome) = true ∧ (rowOf z row true t).length = z.k + 2 ∧ z.firstAppend = none
  (warning.toNat &&& 0x0D ≠ 0 → w = true → exec (.smartPoll drive warning) s = .next (reports .failing)) ∧
  (warning.toNat &&& 0x0D = 0 → exec (.smartPoll drive warning) s = .next s) ∧
  (w = true → (512 ≤ d ∨ shelfAwake (d / 52) s = true) → exec (.notReadyTimeout drive) s = .next (reports .failed)) ∧
  (w = true → rbit F.PCI_PORT_STATUS_LINK_UP s (portOf d) = true → exec (.unreachableTimeout drive) s = .next (reports .failed)) ∧
  ((isMaster s = true → exec (.memberReport drive r) s = .next (decideMember d (reportedState r) s)) ∧
    (isMaster s = false → exec (.memberReport drive r) s = .next (sendPartner (.memberReport d (reportedState r)) s))) ∧
  ((seen = true → exec (.driveRemoved drive both) s = .next (memberSettle (reportMember d .absent taken))) ∧
    (seen = false → isMaster taken = true → exec (.driveRemoved drive both) s = .next taken) ∧
    (seen = false → isMaster taken = false → exec (.driveRemoved drive both) s = .next (sendPartner (.removalSeen d) taken))) ∧
  (m.st = .absent → d < 512 → meetsSpec d info s = false → exec (.driveInserted drive info) s = .next (recordFw Ev.MEMBER_REFUSED_SPEC srcSUP (memberInst d) [] s)) ∧
  (m.st = .absent → d < 512 → meetsSpec d info s = true → isMaster came = false → exec (.driveInserted drive info) s = .next came) ∧
  (m.st = .absent → d < 512 → meetsSpec d info s = true → isMaster came = true → spare.arr.rebuilds = [] → exec (.driveInserted drive info) s = .next spare) ∧
  (s.arr.rebuildList.contains zs = true → shelfAwake (zsOf zs s).shelf s = true → (startTargets zs s).1 = true → waitsPointer zs p = false → takeBufs n 2 p = (hs, t) →
    (hs.length = n → exec (.zoneSetSwitch zs) s = .next (settleLost (dropAll hs (rewriteWeak (zsOf zs k1).shelf (· == zs) k4)))) ∧
    (hs.length ≠ n → exec (.zoneSetSwitch zs) s = .next (settleLost (dropAll hs t)))) ∧
  (s.arr.rebuildList.contains zs = true → shelfAwake (zsOf zs s).shelf s = true → (startTargets zs s).1 = true → waitsPointer zs p = true → exec (.zoneSetSwitch zs) s = .next (settleLost p)) ∧
  (s.arr.rebuildList.contains zs = false → exec (.zoneSetSwitch zs) s = .next (settleLost s)) ∧
  (∀ w ws, s.arr.rebuildList = w :: ws → exec .rebuildCheckpoint s = .next (settleLost (writeCkpt (rebuildWork w (reachedRow w) tickFree s)))) ∧
  (s.arr.rebuildList = [] → exec .rebuildCheckpoint s = .next (settleLost s)) ∧
  (whole → clean → exec (.scrub zs row sc) s = .next (settleLost (dropAll hs (memberSettle (onArr (fun a => { a with scrubPos := some (zs, row), rowsScrubbed := a.rowsScrubbed + 1 }) t))))) ∧
  (s.arr.scrubPos ≠ none → exec .scrubCheckpoint s = .next (addRec' none (.index false []) (onArr (fun a => { a with scrubCkpt := a.scrubPos }) s))) ∧
  (s.arr.scrubPos = none → exec .scrubCheckpoint s = .next s)

/-- R325 to R328, R333, R334, R336 and R356: closing sends the open epoch with its number, the previous one and ACK, and opens the next number; with the
window full the epoch is held open; the receiver applies an epoch that follows the last one applied, whole and in order, and answers a REPLY, answers
a repeat again, and asks for a RESEND of anything else; a REPLY confirms the epoch's records but those PENDING; a RESEND sends every later unconfirmed
epoch again, once a round; CPL_FORWARD moves a PENDING write's data and completion into the open epoch; the state copy is applied item by item and
ends with both heads mirrored. Clauses that rest on the model's own choices: log entries 3, 52, 53. -/
def Obligations.MirrorEpochsAndStateCopy : Prop :=
  ∀ (m : EpochMsg) (r : ReplyMsg) (n i : Nat) (pend : List ReplyEntry) (e : EpochSt) (w : Nat × Nat × ERecord) (rd re by_ : Bool) (id : CmdId) (csn : Nat) (cqe : Cqe) (d : Dirty) (je : JEntry) (mr : MapRec) (ix : IndexEntry) (v s : State),
  let num := rget F.PNL_EPOCH_SEQ_NUMBER s
  let nxt := max (num + 1) (s.mir.recvMax + 1)
  let c1 := rflag F.PNL_EPOCH_SEQ_HELD_OPEN false (longPeriod (rset F.PNL_EPOCH_SEQ_NUMBER nxt { s with mir := { s.mir with opened := [], takes := 0, prev := num } }))
  let c2 := forEach s.mir.opened closeRec c1
  let c3 := emit (.epoch { mpv := rget F.PNL_LINK_STATUS_MPV c2, number := num, prev := s.mir.prev, ack := c2.mir.lastApplied, records := s.mir.opened }) c2
  let full := epochWindow s ≤ s.mir.sent.length
  let up := rbit F.PNL_LINK_STATUS_LINK_UP s = true
  let l := s.mir.lastApplied
  let a0 := noteAck m.ack s
  let a1 := { a0 with mir := { a0.mir with lastApplied := m.number, recvMax := max a0.mir.recvMax m.number } }
  let a2 := settleShadow (pruneReads { v with mir := { v.mir with applied := ({ num := m.number, prev := m.prev, recs := m.records } :: v.mir.applied).take (keptEpochs v) } })
  let a3 := sendReply m.number (pend.filter (stillPending a2)) (dropHeld pend a2)
  let again := fun (e : EpochSt) => emit (.epoch { mpv := rget F.PNL_LINK_STATUS_MPV s, number := e.num, prev := e.prev, ack := s.mir.lastApplied, records := e.recs }) s
  let ra := noteAck r.ack s
  let rest := { s with mir := { s.mir with await := s.mir.await.filter (fun q => !(q.1 == n && q.2.1 == i)) } }
  let copyEnd := { s with mir := { s.mir with copyDone := true } }
  (s.mir.seqEnd = false → solo s = false → ¬ full → rbit F.PNL_CTL_MIRROR_EN s = true → nxt ≤ 0xFFFFFFFFFFFF → solo c2 = false → c2.mir.sendPaused = false →
    exec .epochClose s = .next (afterConfirm (syncSent { c3 with mir := { c3.mir with sent := c3.mir.sent ++ [{ num := num, prev := s.mir.prev, recs := s.mir.opened }] } }))) ∧
  (s.mir.seqEnd = false → solo s = false → full → exec .epochClose s = .next (afterConfirm (rflag F.PNL_EPOCH_SEQ_HELD_OPEN true s))) ∧
  (s.mir.seqEnd = true → exec .epochClose s = .next (afterConfirm s)) ∧
  (up → m.crcOk = true → l < m.number → epochFits m s = true → applyRecords m.number m.records a1 = (pend, v) → handsHere m.records s = false → exec (.epoch m) s = .next (afterEpoch a3)) ∧
  (up → m.crcOk = true → l < m.number → epochFits m s = true → applyRecords m.number m.records a1 = (pend, v) → handsHere m.records s = true → exec (.epoch m) s = .next (afterEpoch (endHandover a3))) ∧
  (up → m.crcOk = true → m.number ≤ l → exec (.epoch m) s = .next (sendReply m.number ((s.mir.shadowPend.filter (fun p => p.1 == m.number)).map (fun p => ReplyEntry.pending p.1 p.2.1)) a0)) ∧
  (up → (m.crcOk = false ∨ l < m.number ∧ epochFits m s = false) → exec (.epoch m) s = .next (sendResend s)) ∧
  (up → r.crcOk = true → r.resend = false → exec (.reply r) s = .next (afterReply r.number (forEach r.entries onEntry (confirmEpoch r.number r.entries ra)))) ∧
  (up → r.crcOk = true → r.resend = true → ra.mir.roundFrom = none → exec (.reply r) s = .next (resendFrom r.number ra)) ∧
  (r.crcOk = false → exec (.reply r) s = .next s) ∧
  (s.mir.roundFrom = some n → s.mir.ackSeen ≤ n → s.mir.sent.any (fun e => decide (n < e.num)) = true → exec .resendRoundTimeout s = .next (resendFrom n s)) ∧
  (s.mir.roundFrom = some n → n < s.mir.ackSeen → exec .resendRoundTimeout s = .next { s with mir := { s.mir with roundFrom := none } }) ∧
  (s.mir.sent.find? (·.num == n) = some e → n ≤ s.mir.ackSeen → exec (.replyLost n) s = .next (again e)) ∧
  (s.mir.ackSeen < n → exec (.replyLost n) s = .next s) ∧
  (s.mir.await.find? (fun p => p.1 == n && p.2.1 == i) = some w → w.2.2.body = .cpl rd re by_ id csn cqe → s.arr.dirty.find? (fun d => d.id == id && d.kind != .zeroes) = some d → 4 ≤ rget F.PNL_LINK_STATUS_MPV s →
    exec (.cplForward n i) s = .next (addRec w.2.2.slot w.2.2.group w.2.2.body (addRec w.2.2.slot w.2.2.group (.data id (cmdData d rest)) rest).2).2) ∧
  (rget F.PNL_LINK_STATUS_MPV s < 4 → exec (.cplForward n i) s = .next s) ∧
  (s.mir.joiner = true → exec (.stateCopy (.map mr)) s = .next (applyChanges [.mapPut mr] s) ∧ exec (.stateCopy (.entry ix)) s = .next (applyChanges [.entryPut { ix with holds := 0 }] s) ∧
    exec (.stateCopy (.journal je)) s = .next (putJournal je s)) ∧
  (s.mir.joiner = false → ∀ c, exec (.stateCopy c) s = .next s) ∧
  (s.mir.joiner = true → (rbit F.PNL_FENCE_STATUS_FENCE_IN s = true → exec .stateCopyDone s = .next copyEnd) ∧ (rbit F.PNL_FENCE_STATUS_FENCE_IN s = false → exec .stateCopyDone s = .next (becomeShadow copyEnd))) ∧
  (s.mir.joiner = false → solo s = true → s.mir.copying = true → exec .stateCopyDone s = .next (endCopy (releaseFence s)))

/-- R325, R340, R341, R353, R354 and R512: a health word that passes its CRC is shown, and one whose flags or retirements changed becomes a task; words,
IDLE and TEST go out while the link carries this head's messages; a TEST that comes back different counts against its lane; a dropped lane returns
once it passes; a lost link has head B stop itself and restart toward rejoin, and head A stop sending; link up aligns the lanes, takes the highest
common version, refuses equal straps, takes the larger period, and forms the pair. A clause that rests on the model's own choice: log entry 56. -/
def Obligations.PartnerLinkAndHealth : Prop :=
  ∀ (w : HealthWord) (l : Fin 8) (ret same pass slot : Bool) (lanes : BitVec 8) (lo hi period n : Nat) (s : State),
  let seq := (s.mir.healthSeq + 1) % 2 ^ 32
  let shown := rset F.PNL_PARTNER_HEALTH_VERSION w.version (rset F.PNL_PARTNER_HEALTH_SEQ w.seq (rset F.PNL_PARTNER_HEALTH_FORMAT w.format (rset F.PNL_PARTNER_HEALTH_FLAGS w.flags s)))
  let kept := { shown with mir := { shown.mir with healthLast := w, partnerFirm := w.flags.testBit 2 || w.flags.testBit 4 } }
  let changed := s.mir.healthLast.flags ≠ w.flags ∨ s.mir.healthLast.retirement ≠ w.retirement
  let talks := mayTalk s = true
  let up := rbit F.PNL_LINK_STATUS_LINK_UP s = true
  let quiet := linkLossQuiet (linkDown s) = true ∨ rbit F.PNL_FENCE_STATUS_HB_IN_LIVE (linkDown s) = false ∨ (linkDown s).mir.partnerShadow = false
  let halts := record Ev.PARTNER_LINK_LOST srcPNL 0 [] (selfStop (linkDown s))
  let back := rputBit F.PNL_LINK_STATUS_LANES_DROPPED l.val false s
  let mask := lanes.toNat &&& (0xFF - rget F.PNL_LINK_STATUS_LANES_DROPPED s)
  let u1 := rset F.PNL_LINK_STATUS_PARTNER_MPV_MAX hi (rflag F.PNL_LINK_STATUS_PARTNER_SLOT slot (rset F.PNL_LINK_STATUS_LANES_UP mask (rflag F.PNL_LINK_STATUS_LINK_UP true (rflag F.PNL_LINK_STATUS_FRAMES_OK true s))))
  let u2 := fun (v : Nat) (ok : Bool) => rset F.PNL_LINK_STATUS_MPV v (rflag F.PNL_LINK_STATUS_VERSION_OK ok u1)
  let up1 := u2 (min 4 hi) true
  let u3 := setPeriod period up1
  let refused := recordFw Ev.REJOIN_REFUSED srcPNL 0 [] up1
  let trains := rbit F.PNL_CTL_PNL_EN s = true ∧ mask ≠ 0 ∧ islandRuns 18 s = true
  let fits := 3 ≤ hi ∧ lo ≤ min 4 hi
  (w.crcOk = true → changed → exec (.health w) s = .next (partnerTask 7 kept)) ∧
  (w.crcOk = true → ¬ changed → exec (.health w) s = .next kept) ∧
  (w.crcOk = false → exec (.health w) s = .next s) ∧
  (talks → exec .healthSend s = .next (emit (.health (healthWord seq s)) { s with mir := { s.mir with healthSeq := seq } })) ∧
  (up → exec .partnerHealthLost s = .next (record Ev.PARTNER_HEALTH_LOST srcPNL 0 [] s)) ∧
  (talks → exec .idle s = .next (emit .idle s)) ∧
  (laneUp l.val s = true → (ret = true → same = true → exec (.test l ret same) s = .next s) ∧ (ret = true → same = false → exec (.test l ret same) s = .next (laneError l.val s)) ∧
    (ret = false → talks → exec (.test l ret same) s = .next (emit (.test l.val true) s))) ∧
  (nextLane s.mir.laneTest s = some n → talks → exec .testSend s = .next (emit (.test n false) { s with mir := { s.mir with laneTest := (n + 1) % 8 } })) ∧
  (pass = true → (rget F.PNL_LINK_STATUS_LANES_DROPPED s).testBit l.val = true → rbit F.PNL_CTL_PNL_EN s = true →
    (rbit F.PNL_LINK_STATUS_LINK_UP back = true → exec (.laneRetrain l pass) s = .next (rputBit F.PNL_LINK_STATUS_LANES_UP l.val true back)) ∧
    (rbit F.PNL_LINK_STATUS_LINK_UP back = false → exec (.laneRetrain l pass) s = .next back)) ∧
  (pass = false → exec (.laneRetrain l pass) s = .next s) ∧
  (up → quiet → exec .partnerLinkLost s = .next (linkDown s)) ∧
  (up → ¬ quiet → (headSlot (linkDown s) = 1 → runtimeUp halts = true → exec .partnerLinkLost s = .next (restartToRejoin halts)) ∧
    (headSlot (linkDown s) = 1 → runtimeUp halts = false → exec .partnerLinkLost s = .next halts) ∧
    (headSlot (linkDown s) = 0 → exec .partnerLinkLost s = .next { linkDown s with mir := { (linkDown s).mir with sendPaused := true } })) ∧
  (exec .sendPauseEnd s = .next { s with mir := { s.mir with sendPaused := false } }) ∧
  (trains → ¬ fits → exec (.partnerLinkUp lanes lo hi slot period) s = .next (recordFw Ev.PARTNER_VERSION_REFUSED srcPNL 0 [] (u2 0 false))) ∧
  (trains → fits → (slot == (headSlot up1 == 1)) = true → solo refused = false →
    exec (.partnerLinkUp lanes lo hi slot period) s = .next (rflag F.PNL_CTL_MIRROR_EN false { refused with chip := { refused.chip with noPair := true } })) ∧
  (trains → fits → (slot == (headSlot up1 == 1)) = false → u3.mir.partnerShadow = false → solo u3 = false → u3.chip.noPair = false → u3.mir.refused = false →
    (rbit F.PNL_FENCE_STATUS_FENCE_IN u3 = true → exec (.partnerLinkUp lanes lo hi slot period) s = .next { u3 with mir := { u3.mir with joiner := true } }) ∧
    (rbit F.PNL_FENCE_STATUS_FENCE_IN u3 = false → exec (.partnerLinkUp lanes lo hi slot period) s = .next (formPair u3)))

/-- R342 to R348, R355, R356, R361 and R478: without a KICK for the window HB_OUT stops; 8 edges arm; an armed loss raises IRQ line 0 and, with AUTO_EN,
the fence; FENCE_IN gates egress and releases the shelf lines, and head B withdraws in a conflict; the fenced part records once and restarts; held
traffic is discarded after 1 us; the hold lifts with FENCE_IN unless SELF_STOP keeps it; FENCE_DONE counts and takes over; a part that starts alone
fences or joins; a wire test that fails ends the rejoin. Clauses that rest on the model's own choices: log entries 3, 54, 56. -/
def Obligations.HeartbeatAndFence : Prop :=
  ∀ (conflict ok : Bool) (s : State),
  let stopped := rflag F.PNL_HB_CFG_WDOG_TRIP true (stopHeart s)
  let hb := rflag F.PNL_FENCE_STATUS_HB_IN_LIVE false s
  let pg := rflag F.PNL_FENCE_STATUS_PTN_PWRGOOD false s
  let edge := rflag F.PNL_FENCE_STATUS_HB_IN_LIVE true s
  let in_ := rflag F.PNL_FENCE_STATUS_FENCE_IN true s
  let gated := redriveShelves (setGated true in_)
  let lost := conflict && rbit F.PNL_FENCE_STATUS_FENCE_OUT gated && headSlot gated == 1
  let fenced := record Ev.FENCED srcAON 0 [] (raiseIrq 0 { s with fence := { s.fence with fenced := true } })
  let fell := rflag F.PNL_FENCE_STATUS_FENCE_IN false { s with fence := { s.fence with fenced := false } }
  let done := raiseIrq 0 (record Ev.FENCE_ASSERTED srcAON 0 [] (rinc F.PNL_FENCE_STATUS_FENCE_COUNT 1 (rflag F.PNL_FENCE_STATUS_FENCE_DONE true s)))
  let alone := { s with fence := { s.fence with why := 1 } }
  let shut := { s with fence := { s.fence with window := false } }
  (s.fence.hbOut = true → s.fence.kickAt + kickWindow s ≤ rget F.CLK_TICK_TICK s → exec .wdogTrip s = .next stopped) ∧
  (rget F.CLK_TICK_TICK s < s.fence.kickAt + kickWindow s → exec .wdogTrip s = .next s) ∧
  (8 ≤ s.fence.edges → rbit F.PNL_FENCE_STATUS_FENCE_OUT s = false → s.chip.pfLow = false → linkLossQuiet s = false → exec .armed s = .next (rflag F.PNL_FENCE_STATUS_ARMED true s)) ∧
  (s.fence.edges < 8 → exec .armed s = .next s) ∧
  (rbit F.PNL_FENCE_STATUS_ARMED hb = true → exec .hbLost s = .next (declareLoss 1 (rflag F.PNL_FENCE_STATUS_HB_LOST true hb))) ∧
  (rbit F.PNL_FENCE_STATUS_ARMED hb = false → exec .hbLost s = .next hb) ∧
  (rbit F.PNL_FENCE_STATUS_ARMED pg = true → exec .pwrgoodLost s = .next (declareLoss 2 (rflag F.PNL_FENCE_STATUS_PWRGOOD_LOST true pg))) ∧
  (rget F.PWR_STATUS_STATE edge = 2 → exec .hbInEdge s = .next { edge with pwr := { edge.pwr with edges := min 8 (edge.pwr.edges + 1) } }) ∧
  (rget F.PWR_STATUS_STATE edge ≠ 2 → exec .hbInEdge s = .next { edge with fence := { edge.fence with edges := min 8 (edge.fence.edges + 1) } }) ∧
  (s.fence.window = true → exec (.fenceIn conflict) s = .next (rflag F.PNL_FENCE_STATUS_TEST_SEEN true in_)) ∧
  (s.fence.window = false → lost = false → exec (.fenceIn conflict) s = .next gated) ∧
  (s.fence.window = false → lost = true → exec (.fenceIn conflict) s = .next (record Ev.FENCE_ARB_LOST srcAON 0 [] (rflag F.PNL_FENCE_STATUS_ARB_LOST true (releaseFence gated)))) ∧
  (rbit F.PNL_FENCE_STATUS_FENCE_IN s = true → rbit F.PNL_FENCE_STATUS_FENCE_OUT s = false → s.fence.window = false → s.fence.fenced = false →
    (runtimeUp fenced = true → exec .fenced s = .next (restartToRejoin (rflag F.TSK_CTL_DISPATCH_EN false fenced))) ∧ (runtimeUp fenced = false → exec .fenced s = .next fenced)) ∧
  (rbit F.PNL_FENCE_STATUS_FENCE_OUT s = true → exec .fenced s = .next s) ∧
  (rbit F.PNL_FENCE_STATUS_GATED s = true → exec .egressDiscard s = .next { s with fence := { s.fence with held := [], discard := true } }) ∧
  (fell.fence.window = false → rbit F.PNL_FENCE_STATUS_SELF_STOPPED fell = false → (liftHold fell).mir.joiner = false → exec .fenceInFall s = .next (liftHold fell)) ∧
  (fell.fence.window = false → rbit F.PNL_FENCE_STATUS_SELF_STOPPED fell = false → (liftHold fell).mir.joiner = true → (liftHold fell).mir.copyDone = true → exec .fenceInFall s = .next (becomeShadow (liftHold fell))) ∧
  (rbit F.PNL_FENCE_STATUS_SELF_STOPPED fell = true → exec .fenceInFall s = .next fell) ∧
  (rbit F.PNL_FENCE_STATUS_FENCE_OUT s = true → rbit F.PNL_FENCE_STATUS_FENCE_DONE s = false → (runtimeUp done = true → done.chip.noPair = false → servesNone done = false → exec .fenceDone s = .next (takeover done)) ∧
    (runtimeUp done = false → exec .fenceDone s = .next done)) ∧
  (s.mir.joiner = false → s.fence.window = true → rbit F.PNL_FENCE_STATUS_TEST_SEEN shut = true → ok = true → solo shut = true → exec (.wireTestEnd ok) s = .next (beginCopy shut)) ∧
  (s.mir.joiner = false → s.fence.window = true → ok = false → exec (.wireTestEnd ok) s = .next (recordFw Ev.FENCE_WIRE_FAULT srcPNL 0 [] shut)) ∧
  (s.mir.joiner = true → ok = false → exec (.wireTestEnd ok) s = .next (recordFw Ev.FENCE_WIRE_FAULT srcPNL 0 [] { s with mir := { s.mir with joiner := false } })) ∧
  (runtimeUp s = true → solo s = false → s.mir.partnerShadow = false → s.chip.noPair = false → s.mir.refused = false → servesNone s = false →
    (rbit F.PNL_FENCE_STATUS_FENCE_IN s = true → exec .startAlone s = .next (onArr (fun a => { a with journal := [] }) { s with mir := { s.mir with joiner := true } })) ∧
    (rbit F.PNL_FENCE_STATUS_FENCE_IN s = false → rbit F.PNL_FENCE_STATUS_FENCE_DONE alone = false → exec .startAlone s = .next (assertFence 3 alone)))

/-- R422 to R436, R472, R510 and R524 to R526: RETAIN_PROPOSE is answered AGREE or REFUSE and the part asks for P2; a matching POWER completes the
agreement, its absence refuses; wake sources wake a part in P2; an idle island's clock stops and its power goes in P1; a finished level change is in
force and a held one starts; a sample sets Tj and steps the cap; the trip stops everything until PORn; a regulator that does not answer is shown, and
clears when it answers; SMB_ALERTN and THERM_ALERTN are low exactly while their conditions hold. Clauses that rest on the model's own choices: log
entries 3, 57. -/
def Obligations.PowerStatesWakesAndLevels : Prop :=
  ∀ (agree alarm id target : Nat) (addr : BitVec 7) (g : Fin 8) (i : Fin 19) (n : Fin 16) (temps : List Int) (t0 : Int) (held : Nat) (ok : Bool) (s : State),
  let asks := fun (veto : Nat) (s : State) => rset F.PWR_MODE_STATE 2 (rset F.PWR_MODE_AGREE_SEQ agree (rset F.PWR_MODE_VETO veto s))
  let request := fun (veto : Nat) (s : State) => presentRequest { asks veto s with pwr := { (asks veto s).pwr with waitp := some 32 } }
  let free := fun (s : State) => s.pwr.waitp = none ∧ rget F.PWR_STATUS_STATE s < 2
  let yes := sendPartner (.agree agree) s
  let no := sendPartner (.refuse agree (lowestId (arVeto s))) s
  let st := rget F.PWR_STATUS_STATE s
  let matched := rinc F.PWR_SMB_WAKE_ADDR_MATCHES 1 s
  let edge := rputBit F.CHIP_STRAPS_GPIO_IN g.val (!rtest F.CHIP_STRAPS_GPIO_IN g.val s) s
  let lvl := kget 1 s.pwr.target n.val
  let f := levelMhz n.val lvl s
  let d1 := rset F.PWR_DVFS_MHZ f (rset F.PWR_DVFS_CUR_LEVEL lvl s n.val) n.val
  let tj := temps.foldl max t0
  let warm := tempEvents s.pwr.tj tj { s with pwr := { s.pwr with tj := tj } }
  let asked := emit (.avs 0 (coreVolt s)) s
  let dead := rset F.PWR_STATUS_PG 0x7FFFE (stopHeart (record Ev.THERMAL_TRIP srcAON 0 [] (emit (.pin "THERMTRIPN" false) s)))
  (arVeto s = 0 → free yes → exec (.retainPropose agree alarm) s = .next (request 0 yes)) ∧
  (arVeto s ≠ 0 → free no → exec (.retainPropose agree alarm) s = .next (request (arVeto s) no)) ∧
  (free s → exec (.agree agree) s = .next (request 0 s)) ∧
  (atStep3 s = true → exec (.refuse agree id) s = .next (refusePower 2 0x20 (undoStep2 s))) ∧
  (atStep3 s = false → free s → exec (.refuse agree id) s = .next (request 0x20 s)) ∧
  (target = 2 → atStep3 s = true → agree = rget F.PWR_MODE_AGREE_SEQ s → exec (.power target agree) s = .next (enterRetain (rflag F.PWR_STATUS_AGREED true { s with pwr := { s.pwr with offered := none } }))) ∧
  (target = 2 → atStep3 s = false → exec (.power target agree) s = .next { s with pwr := { s.pwr with offered := some agree } }) ∧
  (atStep3 s = true → exec .powerAgreeTimeout s = .next (refusePower 2 0x20 (undoStep2 s))) ∧
  (addr.toNat &&& rget F.PWR_SMB_WAKE_ADDR_MASK s = rget F.PWR_SMB_WAKE_ADDR_ADDR s &&& rget F.PWR_SMB_WAKE_ADDR_MASK s →
    (rbit F.PWR_WAKE_EN_SMBUS matched = true → exec (.smbusMatch addr) s = .next (wakeSource 1 0 matched)) ∧ (rbit F.PWR_WAKE_EN_SMBUS matched = false → exec (.smbusMatch addr) s = .next matched)) ∧
  ((rtest F.PWR_WAKE_EN_GPIO g.val edge = true → exec (.gpioWake g) s = .next (wakeSource 4 g.val edge)) ∧ (rtest F.PWR_WAKE_EN_GPIO g.val edge = false → exec (.gpioWake g) s = .next edge)) ∧
  (st = 2 → 8 ≤ s.pwr.edges → rbit F.PWR_WAKE_EN_HEARTBEAT s = true → exec .heartbeatWake s = .next (wakeSource 5 0 s)) ∧
  (s.pwr.edges < 8 → exec .heartbeatWake s = .next s) ∧
  (linkLossQuiet s = false → s.fence.edges = 0 → s.mir.partnerShadow = true → runtimeUp s = true → exec .hbInAbsent s = .next (assertFence 3 { s with fence := { s.fence with why := 2 } })) ∧
  (rbit F.PNL_LINK_STATUS_LINK_UP s = false → exec .partnerLinkNotUp s = .next (linkLossRule s)) ∧
  (rbit F.PNL_LINK_STATUS_LINK_UP s = true → exec .partnerLinkNotUp s = .next s) ∧
  (st = 1 → clockIdle i.val s = true → islandOff i.val s = false → exec (.clockGate i) s = .next (setElec i.val (rputBit F.PWR_STATUS_CG i.val true s))) ∧
  (st = 1 → powerIdle i.val s = true → rtest F.PWR_ISLAND_GATE_AUTO_PG i.val s = true → exec (.powerGate i) s = .next (setElec i.val (rputBit F.PWR_STATUS_PG i.val true s))) ∧
  (st ≠ 1 → exec (.clockGate i) s = .next s ∧ exec (.powerGate i) s = .next s) ∧
  (rbit F.PWR_DVFS_CHANGING s n.val = true → (kfind d1.chip.plls n.val = none → exec (.levelChangeDone n) s = .next (startLevel n.val (syncCore (setElec (n.val + 1) (rflag F.PWR_DVFS_CHANGING false (rset F.CLK_ISLAND_FREQ_MHZ f d1 n.val) n.val))))) ∧
    (kfind d1.chip.plls n.val ≠ none → exec (.levelChangeDone n) s = .next (startLevel n.val (syncCore (setElec (n.val + 1) (rflag F.PWR_DVFS_CHANGING false d1 n.val)))))) ∧
  (st < 2 → s.pwr.tripped = false → capNow warm < capAt tj → exec (.thermalSample (t0 :: temps) held) s = .next (setCap (capAt tj) warm)) ∧
  (st < 2 → s.pwr.tripped = false → capAt tj < capNow warm → tj ≤ capThreshold (capNow warm) - 5 → 100 ≤ held → exec (.thermalSample (t0 :: temps) held) s = .next (setCap (max (capAt tj) (capNow warm - 1)) warm)) ∧
  (st < 2 → s.pwr.tripped = false → capAt tj = capNow warm → exec (.thermalSample (t0 :: temps) held) s = .next warm) ∧
  (exec .thermalTrip s = .next { dead with pwr := { dead.pwr with tripped := true }, chip := { dead.chip with destaging := false, vault := if dead.chip.destaging then none else dead.chip.vault } }) ∧
  (exec .avsFault s = .next (startLevels (rflag F.CLK_PLL_STATUS_AVS_FAULT true s))) ∧
  (rbit F.CLK_PLL_STATUS_AVS_FAULT s = true →
    (ok = true → exec (.avsRetry ok) s = .next (startLevels (rflag F.CLK_PLL_STATUS_AVS_FAULT false { asked with pwr := { asked.pwr with core := coreVolt asked } }))) ∧
    (ok = false → exec (.avsRetry ok) s = .next asked)) ∧
  (rbit F.CLK_PLL_STATUS_AVS_FAULT s = false → exec (.avsRetry ok) s = .next s) ∧
  (rbit F.CLK_PLL_STATUS_AVS_FAULT s = false → coreVolt s ≠ s.pwr.core → syncCore s = emit (.avs 0 (coreVolt s)) { s with pwr := { s.pwr with core := coreVolt s } }) ∧
  (smbAlert s = true ↔ rget F.FLT_CTR_STATE_TRIPPED s ≠ 0 ∨ rbit F.EVR_STATUS_CRIT_LOST s = true ∨ rbit F.PWR_STATUS_THROTTLE s = true) ∧
  (thermAlert s = true ↔ rbit F.PWR_STATUS_THROTTLE s = true)

/-- R175, R475, R477 to R484, R487 to R489 and R493: PORn, a brown-out and an SRAM drop are power-on resets with their cause bits; RSTN and a returned
reference clock are warm resets; TRSTN resets the TAP alone; a lost PLL lock stops its island's clock and three failed tries fail the island; DRAM is
in use once trained, and INIT_DONE follows; PWR_FAILn is recorded, IRQ line 1, intake stops, groups and links go, ING, CMP and PAR are forced off, and
the destage starts; its end writes the header last and enters P2; PWR_RESTORE wakes; patrol scrub counts an error; the hourly record keeps the latest
time. Clauses that rest on the model's own choices: log entries 59, 60. -/
def Obligations.ResetsClocksAndPowerFailure : Prop :=
  ∀ (p : PowerOn) (rail : Fin 3) (n : Fin 16) (ok uncorr pf : Bool) (tr fl : BitVec 8) (speed gib addr row k : Nat) (ch : Fin 8) (s : State),
  let resets := fun (rtc : Bool) (f : State → State) =>
    let a := f (setPastCause (porState rtc s))
    let b := rset F.CHIP_STRAPS_TEST_MODE (rget F.CHIP_STRAPS_TEST_MODE_PIN a) a
    let c := { b with chip := { b.chip with replayDue := b.chip.vault.isSome && b.chip.vaultFitted } }
    bootChain (emit (.pin "THERMTRIPN" true) (emit (.pin "PWR_OFFREQN" true) (emit (.pin "FENCE_OUT" false) (emit (.pin "HB_OUT" false) c))))
  let board := fun (s : State) =>
    let s := rset F.CHIP_STRAPS_BOOT_SRC_PIN p.bootSrc.val s
    let s := rflag F.CHIP_STRAPS_TEST_MODE_PIN p.testMode (rflag F.CHIP_STRAPS_HEAD_SLOT_PIN p.headSlot s)
    let s := rflag F.CHIP_RESET_CAUSE_SEQ_ERR p.seqErr (rflag F.CHIP_RESET_CAUSE_EARLY_POR p.earlyPor s)
    let s := rflag F.PNL_FENCE_STATUS_PTN_PRESENT p.ptnPresent (rflag F.PNL_FENCE_STATUS_PTN_PWRGOOD p.ptnPwrgood s)
    let s := rflag F.PNL_FENCE_STATUS_FENCE_IN p.fenceIn (rflag F.PNL_FENCE_STATUS_GATED p.fenceIn s)
    let s := onArr (fun a => { a with cfg := p.domain.or a.cfg }) s
    { s with chip := { s.chip with vaultFitted := p.vaultPresent, vault := if p.vaultValid then s.chip.vault else none, stage1Ok := p.stage1Ok, runtimeOk := p.runtimeOk } }
  let dram := rbit F.CHIP_RESET_CTL_DRAM_KEEP s && rbit F.MEM_TRAIN_STATUS_READY s
  let warm := fun (cause : Field) =>
    let a := warmState dram s
    let b := rset F.TSK_SLOT_MAP_CORE_EN (F.TSK_SLOT_MAP_CORE_EN.reset 0 - rget F.DPC_CORE_RETIRED_CORES a) a
    let c := rflag F.PNL_FENCE_STATUS_GATED (rbit F.PNL_FENCE_STATUS_FENCE_IN b) b
    let d := rflag F.CHIP_RESET_CAUSE_DRAM_KEPT dram (rflag cause true (rinc F.CHIP_RESET_CAUSE_WARM_COUNT 1 (rflag F.CHIP_RESET_CAUSE_POR_PIN false c)))
    let e := emit (.pin "HB_OUT" false) d
    bootChain (if rbit F.EVR_STATUS_READY e then recordBoot e else e)
  let noClock := rflag F.CLK_PLL_STATUS_REFSYS_OK false s
  let unlocked := rset F.CLK_ISLAND_FREQ_MHZ 0 (rputBit F.CLK_PLL_STATUS_LOCKED n.val false s) n.val
  let relocked := rinc F.CLK_ISLAND_FREQ_RELOCKS 1 (rputBit F.CLK_PLL_STATUS_LOCKED n.val true { s with chip := { s.chip with plls := kdel s.chip.plls n.val } }) n.val
  let tries := { s with chip := { s.chip with plls := kput s.chip.plls n.val (k + 1) } }
  let use := tr.toNat &&& s.chip.memCh &&& (0xFF - fl.toNat)
  let t1 := rset F.MEM_TRAIN_STATUS_CH_TRAINED use (rset F.MEM_TRAIN_STATUS_CH_FAILED (fl.toNat &&& s.chip.memCh) s)
  let chans := ((List.range 8).filter (fun c => use.testBit c)).length
  let top := if s.chip.memSpeed = 0 ∨ 4 < s.chip.memSpeed then 4 else s.chip.memSpeed
  let t2 := rset F.MEM_TRAIN_STATUS_SPEED (min speed top) (rset F.MEM_TRAIN_STATUS_CAPACITY_GIB gib t1)
  let f0 := record Ev.POWER_FAIL srcAON 0 [] { s with chip := { s.chip with pfLow := true } }
  let f1 := sendPartner .powerFail (rflag F.HQ_CTL_INTAKE_EN false (disarm (raiseIrq 1 { f0 with pwr := { f0.pwr with intakeWas := rbit F.HQ_CTL_INTAKE_EN f0 } })))
  let f2 := linksDown (if pf then closeEpoch f1 else if partnerHere f1 then closeEpoch (handAll f1) else f1)
  let f3 := forEach [11, 12, 14] (fun i s => setElec i (rputBit F.PWR_STATUS_PG i true (rputBit F.PWR_ISLAND_GATE_FORCE_OFF i true s))) f2
  let f4 := opRecordProgrammed (opRecordClose (forEach [1, 2, 3, 4, 5, 6, 7, 8] (fun n s => writeLevel n 3 s) f3))
  let v0 := record (if s.chip.vaultFitted then Ev.VAULT_DESTAGE_DONE else Ev.VAULT_DESTAGE_FAIL) srcPCI 16 [] (drainFifo { s with chip := { s.chip with destaging := false, vault := if s.chip.vaultFitted then some (vaultImage s) else none } })
  let v1 := pwrStep2 { v0 with pwr := { v0.pwr with before := rget F.PWR_STATUS_STATE v0, restoreOnly := true } }
  let v2 := enterRetain { v1 with pwr := { v1.pwr with intakeWas := v0.pwr.intakeWas } }
  let risen := disarm { s with chip := { s.chip with pfLow := false } }
  let saved := onArr (fun a => { a with rtcSaved := max a.rtcSaved (rget F.CLK_ALARM_RTC_SEC s) }) s
  (exec (.porn p) s = .next (resets true board)) ∧
  (exec (.brownout rail) s = .next (resets (rail.val != 0) (fun s => rset F.CHIP_RESET_CAUSE_BROWNOUT_RAIL rail.val (rflag F.CHIP_RESET_CAUSE_BROWNOUT true (rflag F.CHIP_RESET_CAUSE_POR_PIN false s))))) ∧
  (exec .sramDrop s = .next (resets true (fun s => rflag F.CHIP_RESET_CAUSE_SRAM_DROP true (rflag F.CHIP_RESET_CAUSE_POR_PIN false s)))) ∧
  (exec .rstn s = .next (warm F.CHIP_RESET_CAUSE_WARM_PIN)) ∧
  (exec .trstn s = .next s) ∧
  (exec .refclkLost s = .next { noClock with chip := { noClock.chip with refLost := true }, fence := { noClock.fence with hbOut := false } }) ∧
  (s.chip.refLost = true → exec .refclkReturn s = .next (warm F.CHIP_RESET_CAUSE_REFCLK_LOST)) ∧
  (kfind s.chip.plls n.val = none → exec (.pllLockLost n) s = .next { unlocked with chip := { unlocked.chip with plls := kput unlocked.chip.plls n.val 0 } }) ∧
  (kfind s.chip.plls n.val = some k → k < 3 → ok = true → exec (.pllRelockRetry n ok) s = .next (rset F.CLK_ISLAND_FREQ_MHZ (rget F.PWR_DVFS_MHZ s n.val) relocked n.val)) ∧
  (kfind s.chip.plls n.val = some k → k < 2 → ok = false → exec (.pllRelockRetry n ok) s = .next tries) ∧
  (kfind s.chip.plls n.val = some k → k = 2 → ok = false → exec (.pllRelockRetry n ok) s = .next (islandFailed n.val (rputBit F.CLK_PLL_STATUS_LOCK_FAIL n.val true tries))) ∧
  (rbit F.MEM_TRAIN_STATUS_READY s = false →
    exec (.dramTrainingComplete tr fl speed gib) s = .next (bootChain (rflag F.MEM_TRAIN_STATUS_READY true { t2 with chip := { t2.chip with lowMem := decide (chans < 4) || decide (gib < 512) } }))) ∧
  (rbit F.MEM_TRAIN_STATUS_READY s = true → exec .initDone s = .next (rflag F.MEM_TRAIN_STATUS_INIT_DONE true s)) ∧
  (rbit F.MEM_TRAIN_STATUS_READY s = false → exec .initDone s = .next s) ∧
  (s.chip.pfLow = false → rget F.PWR_STATUS_STATE f0 < 2 → exec (.powerFail pf) s = .next { f4 with chip := { f4.chip with destaging := true, vault := none } }) ∧
  (s.chip.pfLow = false → 2 ≤ rget F.PWR_STATUS_STATE f0 → exec (.powerFail pf) s = .next f0) ∧
  (s.chip.destaging = true → (v2.chip.pfLow = true → exec .vaultDestageDone s = .next v2) ∧ (v2.chip.pfLow = false → exec .vaultDestageDone s = .next (pwrRestored v2))) ∧
  (s.chip.pfLow = true → rget F.PWR_STATUS_STATE risen = 2 → (risen.pwr.restoreOnly = true → exec .pwrRestore s = .next (pwrRestored risen)) ∧
    (risen.pwr.restoreOnly = false → rbit F.PWR_WAKE_EN_PWR_RESTORE risen = true → exec .pwrRestore s = .next (wakeSource 6 0 risen))) ∧
  (s.chip.pfLow = true → rget F.PWR_STATUS_STATE risen ≠ 2 → exec .pwrRestore s = .next risen) ∧
  (rbit F.MEM_PATROL_CFG_EN s = true → rbit F.MEM_TRAIN_STATUS_READY s = true → (uncorr = true → exec (.patrolScrub addr ch row uncorr) s = .next (memUe addr ch.val s)) ∧
    (uncorr = false → exec (.patrolScrub addr ch row uncorr) s = .next (memCe ch.val row true s))) ∧
  (s.arr.strainer.rebuilding = true → exec .strainerRebuildDone s = .next (buildStrainer s.arr.strainer.b s)) ∧
  (s.arr.strainer.rebuilding = false → exec .strainerRebuildDone s = .next s) ∧
  (exec .rtcHourlyRecord s = .next (advanceSvn (alarmWork saved)))

/-- R374 to R388 and R390 to R392: a packet that arrives while Rearn runs and passes its CRC takes the checks in order and is refused with the code of the
first that fails; one that passes fills its slot, a filled slot is discarded, a lease that cannot take it refuses with NO_CREDIT, an executed
message's receipt answers again, and a new message opens; a WRITE in one packet is placed in its window and acknowledged; READ_REQ is answered with
the window's bytes; CREDIT_REQ is granted a lease or NO_CREDIT; a grant starts the operation that asked; ACK, the last READ_RESP, a final NAK and
TIMEOUT end it. Clauses that rest on the model's own choices: log entries 73, 74, 76, 77. -/
def Obligations.RearnPackets : Prop :=
  ∀ (p : RrnPkt) (c : RCtx) (r : Receipt) (o : ROp) (l : LeaseIn) (code : Nat) (v s : State),
  let w := { p with op := oWrite }
  let nt := { p with op := oNotify }
  let sd := { p with op := oSend }
  let am := { p with op := oAtomic }
  let rq := { p with op := oReadReq }
  let cq := { p with op := oCreditReq }
  let cg := { p with op := oCreditGrant }
  let ak := { p with op := oAck }
  let rr := { p with op := oReadResp }
  let nk := { p with op := oNak }
  let on := rbit F.RRN_CTL_EN s = true
  let bad := fun (q : RrnPkt) => on ∧ q.crcOk = true ∧ firstBad q s = some code
  let good := fun (q : RrnPkt) => on ∧ q.crcOk = true ∧ firstBad q s = none
  let joins := fun (q : RrnPkt) => good q ∧ ctxFor q s = some c ∧ c.slots.contains (q.offset / pktSize q.pkt) = false ∧ leaseFull q s = false
  let again := fun (q : RrnPkt) => good q ∧ ctxFor q s = some c ∧ c.slots.contains (q.offset / pktSize q.pkt) = true
  let starts := fun (q : RrnPkt) => good q ∧ ctxFor q s = none ∧ s.rrn.receipts.find? (isReceipt q.src q.msgId) = none
  let known := fun (q : RrnPkt) => good q ∧ ctxFor q s = none ∧ s.rrn.receipts.find? (isReceipt q.src q.msgId) = some r
  let one := good w ∧ ctxFor w s = none ∧ w.payload.length = w.totalLen ∧ w.totalLen ≠ 0 ∧ leaseFull w s = false
  let charged := onRrn (fun r => { r with leases := kmod {} r.leases (w.lease % 4096) (fun l => { l with charged := l.charged + w.payload.length }) }) s
  let placed := dropCtx w.src w.msgId (memWrite ((winOf w.window s).base + w.raddr + w.offset) w.payload (wakeRange ((winOf w.window s).base + w.raddr + w.offset) w.payload.length charged))
  let base := (winOf rq.window s).base + rq.raddr
  let size := pktSize rq.pkt
  let mine := opBy p.msgId s = some o ∧ o.req.dst = p.src
  let held := holdLease ak (poolFor o.req.op o.req.window) (o.firstAt.getD 0) s
  let j := rr.offset / pktSize rr.pkt
  let last := { o with slots := o.slots ++ [j] }
  let put := memWrite (localAddr o.req s + rr.offset) rr.payload s
  (rbit F.RRN_CTL_EN s = false → exec (.rrnWrite p) s = .next s ∧ exec (.writeNotify p) s = .next s ∧ exec (.atomic p) s = .next s ∧ exec (.readReq p) s = .next s ∧ exec (.readResp p) s = .next s ∧ exec (.ack p) s = .next s) ∧
  (on → p.crcOk = false → exec (.rrnWrite p) s = .next (rinc F.RRN_VIOL_STATUS_BAD_HDR 1 s) ∧ exec (.rrnSend p) s = .next (arSettle (rinc F.RRN_VIOL_STATUS_BAD_HDR 1 s))) ∧
  (bad w → exec (.rrnWrite p) s = .next (nakPkt w code s)) ∧ (bad nt → exec (.writeNotify p) s = .next (nakPkt nt code s)) ∧ (bad sd → exec (.rrnSend p) s = .next (arSettle (nakPkt sd code s))) ∧
  (bad am → exec (.atomic p) s = .next (nakPkt am code s)) ∧ (bad rq → exec (.readReq p) s = .next (nakPkt rq code s)) ∧
  (one → exec (.rrnWrite p) s = .next (sendPkt (ackFor w 0 placed).1 0 (ackFor w 0 placed).2)) ∧
  (joins w → exec (.rrnWrite p) s = .next (takePkt c w s)) ∧ (joins nt → exec (.writeNotify p) s = .next (takePkt c nt s)) ∧
  (joins sd → exec (.rrnSend p) s = .next (arSettle (takePkt c sd s))) ∧ (joins am → exec (.atomic p) s = .next (takePkt c am s)) ∧
  (again w → exec (.rrnWrite p) s = .next s) ∧ (again nt → exec (.writeNotify p) s = .next s) ∧
  (known nt → exec (.writeNotify p) s = .next (sendPkt r.reply 0 (rinc F.RRN_RECEIPT_CFG_HITS 1 s))) ∧ (known am → exec (.atomic p) s = .next (sendPkt r.reply 0 (rinc F.RRN_RECEIPT_CFG_HITS 1 s))) ∧
  (starts nt → exec (.writeNotify p) s = .next (openMsg nt s)) ∧ (starts am → exec (.atomic p) s = .next (openMsg am s)) ∧ (starts sd → exec (.rrnSend p) s = .next (arSettle (openMsg sd s))) ∧
  (good rq → exec (.readReq p) s = .next (forEach (List.range (packetCount rq.totalLen size)) (fun j s =>
    sendPkt { replyTo rq oReadResp s with totalLen := rq.totalLen, offset := j * size, payload := memRead s (base + j * size) (min size (rq.totalLen - j * size)) } rq.retry s) (wakeRange base rq.totalLen s))) ∧
  (good cq → grantLease cq.src cq.code cq.totalLen s = (some l, v) → exec (.creditReq p) s = .next (sendPkt { replyTo cq oCreditGrant v with lease := l.num, arg := l.bytes, ttl := leaseTtl v } 0 v)) ∧
  (good cq → grantLease cq.src cq.code cq.totalLen s = (none, v) → exec (.creditReq p) s = .next (nakPkt cq 1 v)) ∧
  (good cg → s.rrn.ops.find? (fun o => o.phase == .lease && o.asked == cg.msgId && o.req.dst == cg.src) = some o →
    exec (.creditGrant p) s = .next (launch o (holdLease cg (poolFor o.req.op o.req.window) o.askedAt s))) ∧
  (good ak → mine → o.req.op ≠ oReadReq → o.firstAt ≠ none → (o.req.op ≠ oAtomic → exec (.ack p) s = .next (endOp o 0 held)) ∧
    (o.req.op = oAtomic → exec (.ack p) s = .next (endOp o 0 (writeBuf (o.req.local_ % 2 ^ 32) (o.req.local_ / 2 ^ 32) (leBytes 8 ak.value) held)))) ∧
  (good rr → mine → o.req.op = oReadReq → rr.totalLen = o.req.length → o.slots.contains j = false →
    (last.slots.length = packetCount o.req.length (pktSize rr.pkt) → exec (.readResp p) s = .next (endOp last 0 (setFill (o.req.local_ % 2 ^ 32) (o.req.local_ / 2 ^ 32 + o.req.length) put))) ∧
    (last.slots.length ≠ packetCount o.req.length (pktSize rr.pkt) → exec (.readResp p) s = .next (putOp last put))) ∧
  (good nk → (nodeOf p.src s).sends = 0 → s.rrn.ops.find? (fun o => o.req.dst == nk.src && (o.msgId == nk.msgId || (o.phase == .lease && o.asked == nk.msgId))) = some o →
    (p.code = 8 ∨ p.code = 9 → exec (.nak p) s = .next (endOp o (0x40 + p.code) s)) ∧
    (p.code = 4 ∨ p.code = 5 ∨ p.code = 6 → exec (.nak p) s = .next (endOp o (0x40 + p.code) (record Ev.WIN_VIOLATION srcNET 0 (pack [(2, o.req.dst), (2, o.req.window), (4, o.msgId)]) s))) ∧
    (p.code = 2 → o.transient = none → o.phase = .sent → exec (.nak p) s = .next (resend false { o with transient := some 2 } (putOp { o with transient := some 2 } s))))

/-- R32 to R36, R366 to R368, R372, R373, R377, R380, R385, R387 and R388: HELLO is refused, answered with a binding, a withdrawal or a conflict;
HELLO_REPLY settles the exchange this part began; retries, refreshes, lapses, RTO, TIMEOUT and the expiries of leases, receipts and contexts; windows
arm and disarm with GEN counted; an Ethernet port settles its speed, comes up and goes down with IRQ line 6; a port that found no PHY type starts
again; PAUSE and dropped frames change nothing. Clauses that rest on the model's own choices: log entries 3, 73, 75, 77, 79. -/
def Obligations.DirectoryTimersWindowsAndPorts : Prop :=
  ∀ (p : RrnPkt) (h : HelloBody) (r : WinReq) (port : Fin 16) (up rs : Bool) (abil : BitVec 32) (node n src len v : Nat) (tag : Option Nat) (o : ROp) (c : RCtx) (l : LeaseIn) (s : State),
  let hi := { p with op := 0x0C }
  let re := { p with op := 0x0D }
  let on := rbit F.RRN_CTL_EN s = true
  let x := nodeOf p.src s
  let clash := x.bound = true ∧ x.identity ≠ h.identity
  let bound := setNode p.src (negotiate h p.addr x s) s
  let gone := setNode p.src { x with bound := false, ver := 0 } s
  let answers := fun (s : State) => settleOps (sendHelloBody p.src p.msgId true (ownHello false false s) s)
  let by_ := s.rrn.ops.find? (fun o => o.msgId == n || (o.phase == .lease && o.asked == n)) = some o
  let w := winOf r.window.val s
  let set := setWin r.window.val { w with base := if r.base = 0 then w.base else r.base, len := if r.len = 0 then w.len else r.len % 2 ^ 32, key := if r.key = 0 then w.key else r.key % 2 ^ 32 } s
  let q := port.val
  let an := rbit F.NET_PORT_CFG_AN_EN s q
  let n1 := if an then rset F.NET_AN_RESULT_PARTNER_ABIL abil.toNat s q else s
  let n2 := rset F.NET_PORT_STATUS_FEC (if v = 0 then 0 else if v = 1 then 1 else 2) (rset F.NET_PORT_STATUS_SPEED v (rset F.NET_PORT_STATUS_WIDTH (speedLanes v) n1 q) q) q
  let lu := rbit F.NET_PORT_STATUS_LINK_UP s q
  let ctx := s.rrn.ctxs.find? (fun c => c.first.src == src && c.first.msgId == n) = some c
  (on → p.crcOk = true → helloBad hi h s = true → exec (.hello p h) s = .next (nakPkt hi 8 s)) ∧
  (on → p.crcOk = true → helloBad hi h s = false → p.src ≠ ownChip s → (¬ clash → h.withdraw = false → exec (.hello p h) s = .next (answers bound)) ∧ (¬ clash → h.withdraw = true → exec (.hello p h) s = .next (answers gone)) ∧
    (clash → let t := nakPkt hi 9 (noteConflict s); exec (.hello p h) s = .next (sendHelloBody p.src p.msgId true (ownHello false true t) t))) ∧
  (on → p.crcOk = true → helloBad re h s = false → (h.conflict = true → exec (.helloReply p h) s = .next (noteConflict s)) ∧
    (h.conflict = false → x.sends ≠ 0 → x.helloId = p.msgId → ¬ clash → exec (.helloReply p h) s = .next (settleOps (setNode p.src { negotiate h p.addr x s with sends := 0 } s)))) ∧
  (rbit F.RRN_CTL_EN s = false → exec (.hello p h) s = .next s ∧ exec (.helloReply p h) s = .next s) ∧
  ((nodeOf node s).sends ≠ 0 → ((nodeOf node s).sends < 3 → exec (.helloRetry node) s = .next (sendHello node s)) ∧ (3 ≤ (nodeOf node s).sends → exec (.helloRetry node) s = .next (endWaiting node 0x4A s))) ∧
  (exec .helloRefresh s = .next (forEach (s.rrn.nodes.filter (fun p => p.2.bound)) (fun p s => sendHello p.1 (setNode p.1 { nodeOf p.1 s with sends := 0 } s)) s)) ∧
  ((nodeOf node s).bound = true → exec (.bindingLapse node) s = .next (setNode node { nodeOf node s with bound := false, ver := 0, sends := 0 } s)) ∧
  ((nodeOf node s).bound = false → exec (.bindingLapse node) s = .next s) ∧
  (by_ → o.phase = .sent → exec (.rto n) s = .next (resend false { o with waits := o.waits + 1 } s)) ∧
  (by_ → exec (.timeout n) s = .next (endOp o (0x40 + o.transient.getD 0x0A) s)) ∧
  (kfind s.rrn.leases (n % 4096) = some l → l.num = n → exec (.leaseExpiry n) s = .next (settleOps (syncLeases (onRrn (fun r => { r with leases := kdel r.leases (n % 4096) }) s)))) ∧
  (exec (.receiptExpiry src n) s = .next (setReceipts (s.rrn.receipts.filter (fun r => !(isReceipt src n r && r.live))) s)) ∧
  (ctx → let t := dropCtx src n s; exec (.ctxIdle src n) s = .next (dropAll c.handle.toList (setReceipts (t.rrn.receipts.filter (fun r => !(isReceipt src n r && !r.live))) t))) ∧
  ((r.base = 0 ∨ baseOk r.base s = true) → exec (.winArm r) s = .next (setWin r.window.val { winOf r.window.val set with armed := true, gen := nextGen (winOf r.window.val set).gen } set)) ∧
  (exec (.winDisarm r) s = .next (setWin r.window.val { w with armed := false, gen := nextGen w.gen } s)) ∧
  (up = true → netMayUp q s = true → lu = false → settledSpeed q abil rs s = some v →
    exec (.netLinkChange port up abil rs) s = .next (noteLink q (rflag F.NET_PORT_STATUS_LINK_UP true (rflag F.NET_PORT_STATUS_PCS_LOCK true (rflag F.NET_PORT_STATUS_AN_DONE an n2 q) q) q))) ∧
  (up = true → netMayUp q s = true → lu = false → settledSpeed q abil rs s = none → exec (.netLinkChange port up abil rs) s = .next n1) ∧
  (up = true → lu = true → exec (.netLinkChange port up abil rs) s = .next s) ∧
  (up = true → netMayUp q s = false → exec (.netLinkChange port up abil rs) s = .next s) ∧
  (up = false → lu = true → exec (.netLinkChange port up abil rs) s = .next (noteLink q (netDown q s))) ∧
  (rbit F.NET_PORT_CFG_PORT_EN s q = true → an = true → lu = false → exec (.anRestart port) s = .next (rflag F.NET_PORT_STATUS_AN_DONE false (rinc F.NET_AN_RESULT_AN_RESTARTS 1 s q) q)) ∧
  (exec (.pauseFrame port) s = .next s) ∧ (exec (.frameDrop port len tag) s = .next s)

/-- R12 (the Reset columns of the register tables), R101 (Table 4.2) and R483: after power-on reset every control-space field holds its reset value in
every instance, the values that are not 0 among them written out from the tables; STATUS reads 0, and 0x100 on a pair; every general register is 0;
memory reads as zeros and nothing waits. Clauses that rest on the model's own choices: log entries 5, 6, 8. -/
def Obligations.ResetValues : Prop :=
  (∀ f ∈ allFields, ∀ i : Nat, rget f .reset i = f.reset i) ∧
  (∀ x ∈ ([
      (F.NET_PORT_CFG_MAX_SPEED, 15, 5), (F.NET_PORT_CFG_AN_EN, 15, 1), (F.NET_VLAN_CFG_DSCP_REPL, 0, 10), (F.NET_VLAN_CFG_DSCP_FABRIC, 0, 26),
      (F.NET_VLAN_CFG_DSCP_HOST, 0, 34), (F.HQ_CTL_MAX_QP, 0, 4096), (F.HQ_CTL_MQES, 0, 1023), (F.HQ_CTL_TCP_EN, 0, 1), (F.HQ_CTL_REARN_EN, 0, 1),
      (F.HQ_RESET_FENCE_FENCE_B, 0, 2147483648), (F.HQ_RESET_FENCE_FENCE_A, 0, 0), (F.HQ_DUALSEND_CFG_DUP_WINDOW, 0, 2048),
      (F.HQ_DUALSEND_CFG_READ_RESEND_EPOCHS, 0, 2), (F.HQ_DUALSEND_CFG_DUAL_REQUIRED, 0, 1), (F.HQ_ATOMIC_UNIT_UNIT_LBAS, 0, 511),
      (F.HQ_ATOMIC_UNIT_ALIGN_BYTES, 0, 4096), (F.TSK_CTL_WEIGHT_BG, 0, 1), (F.TSK_CTL_WEIGHT_FAB, 0, 4), (F.TSK_CTL_WEIGHT_HOST, 0, 8),
      (F.TSK_CTL_HOST_MAX, 0, 384), (F.TSK_CTL_BG_MAX, 0, 64), (F.TSK_SLOT_MAP_CORE_EN, 0, 18446744073709551615), (F.TSK_WATCHDOG_LIMIT_MS, 0, 50),
      (F.DPC_HOOK_BUDGET_CYCLES, 0, 20000), (F.BPM_SET_BASE_S_BASE, 0, 536870912), (F.BPM_SET_LIMIT_S_LIMIT, 0, 603979776), (F.ING_CHUNK_CFG_GEAR_VER, 0, 1),
      (F.ING_CHUNK_CFG_L_BITS, 0, 15)] : List (Field × Nat × Nat)), rget x.1 .reset x.2.1 = x.2.2) ∧
  (∀ x ∈ ([
      (F.ING_CHUNK_CFG_S_BITS, 0, 16), (F.ING_CHUNK_CFG_MAX_4K, 0, 64), (F.ING_CHUNK_CFG_AVG_4K, 0, 16), (F.ING_CHUNK_CFG_MIN_4K, 0, 4),
      (F.ING_KAT_CTL_PERIOD_MS, 0, 10), (F.ING_KAT_CTL_KAT_EN, 0, 1), (F.CMP_VERIFY_CFG_KAT_PERIOD_MS, 0, 10), (F.CMP_VERIFY_CFG_KAT_EN, 0, 1),
      (F.CMP_VERIFY_CFG_VERIFY_EN, 0, 1), (F.CIP_CTL_KAT_PERIOD_MS, 0, 10), (F.CIP_CTL_KAT_EN, 0, 1), (F.SHF_BUDGET_BUDGET, 0, 1), (F.SHF_STATE_STATE, 7, 7),
      (F.SHF_SEQ_CFG_WAKE_AHEAD_S, 0, 120), (F.SHF_SEQ_CFG_MIN_AWAKE_S, 0, 60), (F.SHF_SEQ_CFG_MIN_OFF_S, 0, 10), (F.SHF_SEQ_CFG_READY_TIMEOUT_S, 0, 45),
      (F.SHF_SEQ_CFG_GC_LIVE_PCT, 0, 60), (F.SHF_SEQ_CFG_STEEP_MAX_100MS, 0, 20), (F.SHF_SEQ_CFG_PG_TIMEOUT_100MS, 0, 50),
      (F.SHF_SCRUB_INTERVAL_STAGGER_H, 0, 24), (F.SHF_SCRUB_INTERVAL_DAYS, 0, 90), (F.PAR_CTL_KAT_PERIOD_MS, 0, 10), (F.PAR_CTL_KAT_EN, 0, 1),
      (F.PCI_PORT_CFG_CMD_TIMEOUT_MS, 16, 8000), (F.PNL_CTL_FWD_AFTER_US, 0, 20), (F.PNL_CTL_EPOCH_WINDOW, 0, 8), (F.PNL_CTL_SOLO_ACK, 0, 1)] : List (Field × Nat × Nat)), rget x.1 .reset x.2.1 = x.2.2) ∧
  (∀ x ∈ ([
      (F.PNL_EPOCH_PERIOD_ACTIVE_NS, 0, 4000), (F.PNL_EPOCH_PERIOD_MAX_MIB, 0, 4), (F.PNL_EPOCH_PERIOD_PERIOD_NS, 0, 4000),
      (F.PNL_HB_CFG_KICK_WINDOW_US, 0, 8), (F.PNL_HB_CFG_LOSS_NS, 0, 2000), (F.PNL_FENCE_CTL_AUTO_EN, 0, 1), (F.RRN_CTL_UDP_PORT, 0, 29712),
      (F.RRN_CTL_VER_MAX, 0, 2), (F.RRN_CTL_VER_MIN, 0, 1), (F.RRN_CTL_READ_MAX_MIB, 0, 16), (F.RRN_CTL_PKT, 0, 3), (F.RRN_CREDIT_POOL_RMA_4K, 0, 16384),
      (F.RRN_CREDIT_POOL_HOST_4K, 0, 12288), (F.RRN_CREDIT_POOL_FAB_4K, 0, 2047), (F.RRN_LEASE_TTL_LEASE_MAX_64K, 0, 64), (F.RRN_LEASE_TTL_TTL_US, 0, 200),
      (F.RRN_RECEIPT_CFG_LIFETIME_US, 0, 1000), (F.RRN_PATH_CFG_PORT_3, 0, 12), (F.RRN_PATH_CFG_PORT_2, 0, 8), (F.RRN_PATH_CFG_PORT_1, 0, 4),
      (F.RRN_PATH_CFG_PATHS, 0, 3), (F.RRN_PATH_CFG_RTO_US, 0, 50), (F.RRN_PATH_CFG_CTX_IDLE_10US, 0, 10), (F.EVR_TAIL_SEQ_SEQ, 0, 16384),
      (F.FLT_CTR_CFG_ACT_EN, 6, 1), (F.PWR_MODE_PG_IDLE_US, 0, 1000), (F.PWR_MODE_CG_IDLE_10NS, 0, 20), (F.PWR_ISLAND_GATE_AUTO_PG, 0, 31736)] : List (Field × Nat × Nat)), rget x.1 .reset x.2.1 = x.2.2) ∧
  (∀ x ∈ ([
      (F.PWR_DVFS_CUR_LEVEL, 15, 1), (F.PWR_DVFS_LEVEL, 15, 1), (F.PWR_BIAS_CFG_BLF_EN, 0, 1), (F.PWR_BIAS_CFG_WLUD_EN, 0, 1), (F.PWR_BIAS_CFG_RBB_EN, 0, 1),
      (F.PWR_BIAS_CFG_FBB_EN, 0, 1), (F.PWR_BIAS_CFG_WLUD_MV, 0, 40), (F.PWR_BIAS_CFG_RBB_MV, 0, 200), (F.PWR_BIAS_CFG_FBB_MV, 0, 150),
      (F.PWR_WAKE_EN_PWR_RESTORE, 0, 1), (F.PWR_WAKE_EN_HEARTBEAT, 0, 1), (F.PWR_WAKE_EN_RTC, 0, 1), (F.PWR_WAKE_EN_SMBUS, 0, 1),
      (F.PWR_SMB_WAKE_ADDR_STRETCH, 0, 1), (F.PWR_SMB_WAKE_ADDR_MASK, 0, 127), (F.PWR_SMB_WAKE_ADDR_ADDR, 0, 90), (F.CHIP_RESET_CAUSE_POR_PIN, 0, 1),
      (F.MEM_CFG_CH_EN, 0, 255), (F.MEM_CFG_SPEED_MAX, 0, 4), (F.MEM_PATROL_CFG_PERIOD_H, 0, 24), (F.MEM_PATROL_CFG_EN, 0, 1),
      (F.CHIP_STEPPING_PART_ID, 0, 29712), (F.CHIP_STEPPING_BASE, 0, 66), (F.CHIP_STEPPING_METAL, 0, 1)] : List (Field × Nat × Nat)), rget x.1 .reset x.2.1 = x.2.2) ∧
  (∀ x ∈ ([
      (F.BPM_CLASS_CFG_FLOOR_HOST, 0, 4095), (F.BPM_CLASS_CFG_FLOOR_HOST, 4, 2), (F.BPM_CLASS_CFG_FLOOR_HOST, 8, 0), (F.BPM_CLASS_CFG_FLOOR_FAB, 1, 256),
      (F.BPM_CLASS_CFG_FLOOR_ENG, 3, 2), (F.BPM_CLASS_CFG_COUNT, 0, 16384), (F.BPM_CLASS_CFG_COUNT, 2, 384), (F.BPM_CLASS_CFG_COUNT, 12, 0),
      (F.NET_PORT_CFG_WIDTH, 4, 2), (F.NET_PORT_CFG_WIDTH, 5, 0), (F.PCI_PORT_CFG_MAX_GEN, 15, 6), (F.PCI_PORT_CFG_MAX_GEN, 16, 5),
      (F.PCI_PORT_CFG_WIDTH, 12, 1), (F.PCI_PORT_CFG_WIDTH, 14, 0), (F.PNL_OWN_MAP_OWNER, 1, 0), (F.PNL_OWN_MAP_OWNER, 2, 0xFFFFFFFFFFFFFFFF),
      (F.FLT_CTR_CFG_THRESHOLD, 0, 4), (F.FLT_CTR_CFG_THRESHOLD, 6, 2), (F.FLT_CTR_CFG_WINDOW_MS, 0, 86400000), (F.FLT_CTR_CFG_WINDOW_MS, 3, 1000),
      (F.PWR_DVFS_MHZ, 0, 1500), (F.PWR_DVFS_MHZ, 1, 1600), (F.CLK_ISLAND_FREQ_L0_MHZ, 1, 2000)] : List (Field × Nat × Nat)), rget x.1 .reset x.2.1 = x.2.2) ∧
  (∀ (c : CoreId) (r : Rn), rd .reset c r = 0 ∧ executes .reset c = isPair c ∧ pcOf .reset 64 = 0x300000000000 ∧ pcOf .reset 65 = 0x300000000000 ∧
    srRead c 0 .reset = if isPair c then 0x100 else 0) ∧
  (∀ j : Nat, memByte .reset j = 0) ∧ Memory.wf (State.reset).mem = true ∧ (State.reset).pending = [] ∧ (State.reset).outbox = []

/-- Headline invariant: a step whose front command is a Dyris instruction that reaches neither control space nor another unit's queue of messages (every
ALU, branch, jump, load, store, atomic, barrier, special register, task, token, job, buffer and level instruction, whatever exception it meets) keeps
memory in its canonical form, every bank at a level of Table 4.2, and every register's parity good (R99: the parity of what the silicon writes
matches). Clauses that rest on the model's own choices: log entries 33, 35. -/
def Obligations.DyrisStepsKeepTheInvariant : Prop :=
  ∀ (i : Instr) (rest : List Instr) (c : CoreId) (d a b : Rn) (v : BitVec 16) (far : BitVec 26) (rsv : BitVec 4) (ord : BitVec 2) (w : Bool) (s t : State),
  i ∈ ([.add c d a b, .sub c d a b, .and c d a b, .or c d a b, .xor c d a b, .sll c d a b, .srl c d a b, .sra c d a b, .slt c d a b, .sltu c d a b,
    .mul c d a b, .mulhu c d a b, .div c d a b, .divu c d a b, .rem c d a b, .remu c d a b, .min c d a b, .max c d a b, .minu c d a b, .maxu c d a b,
    .clz c d a b, .ctz c d a b, .popc c d a b, .bswap c d a b, .rotr c d a b, .andn c d a b,
    .addi c d a v, .andi c d a v, .ori c d a v, .xori c d a v, .clti c d a v, .cltiu c d a v, .slli c d a v, .srli c d a v, .srai c d a v,
    .lmi c d a v, .lhi c d a v, .lxi c d a v, .lb c d a v, .lbu c d a v, .lh c d a v, .lhu c d a v, .lw c d a v, .lwu c d a v, .sb c d a v, .sh c d a v, .sw c d a v,
    .beq c d a v, .bne c d a v, .blt c d a v, .bge c d a v, .bltu c d a v, .bgeu c d a v, .jalr c d a v, .j c far, .jal c far,
    .sync c d a b, .syncW c d a b, .syncR c d a b, .syncI c d a b, .mfs c d a b, .mts c d a b, .tget c d a b, .tdone c d a b, .wtok c d a b, .job c d a b,
    .bget c d a b, .bref c d a b, .bdrop c d a b, .hcall c d a b, .hret c d a b, .eret c d a b, .svc c d a b, .brk c d a b,
    .amoSwap c rsv ord w d a b, .amoAdd c rsv ord w d a b, .amoAnd c rsv ord w d a b, .amoOr c rsv ord w d a b, .amoXor c rsv ord w d a b,
    .amoMin c rsv ord w d a b, .amoMax c rsv ord w d a b, .amoMinu c rsv ord w d a b, .amoMaxu c rsv ord w d a b, .amoCas c rsv ord w d a b] : List Instr) →
  s.pending = i :: rest → Memory.wf s.mem = true → LegalLevels s → (∀ x : Nat, (bankOf s x).badParity = 0) → step s = .next t →
  Memory.wf t.mem = true ∧ LegalLevels t ∧ (∀ x : Nat, (bankOf t x).badParity = 0)

/-- R378: a data-bearing packet (WRITE, WRITE_NOTIFY, SEND or ATOMIC) whose header passes the checks before is refused with TOO_OLD, code 7, when its
lease is unknown or has expired at the receiver (no live lease holds its number), and with BAD_HDR, code 8, when the lease was issued to another node
or another pool. -/
def Obligations.LeaseRefusals : Prop :=
  ∀ (p : RrnPkt) (s : State), rbit F.RRN_CTL_EN s = true → p.crcOk = true →
  let gone := ∀ m, kfind s.rrn.leases (p.lease % 4096) = some m → m.num ≠ p.lease
  let foreign := fun (pool : Nat) => ∃ m, kfind s.rrn.leases (p.lease % 4096) = some m ∧ m.num = p.lease ∧ (m.node ≠ p.src ∨ m.pool ≠ pool)
  let wr := { p with op := oWrite }
  let nt := { p with op := oNotify }
  let sd := { p with op := oSend }
  let am := { p with op := oAtomic }
  (hdrBad wr s = false → (gone → exec (.rrnWrite p) s = .next (nakPkt wr 7 s)) ∧ (foreign (poolFor oWrite p.window) → exec (.rrnWrite p) s = .next (nakPkt wr 8 s))) ∧
  (hdrBad nt s = false → (gone → exec (.writeNotify p) s = .next (nakPkt nt 7 s)) ∧ (foreign (poolFor oNotify p.window) → exec (.writeNotify p) s = .next (nakPkt nt 8 s))) ∧
  (hdrBad sd s = false → (gone → exec (.rrnSend p) s = .next (arSettle (nakPkt sd 7 s))) ∧
    (foreign (poolFor oSend p.window) → exec (.rrnSend p) s = .next (arSettle (nakPkt sd 8 s)))) ∧
  (hdrBad am s = false → (gone → exec (.atomic p) s = .next (nakPkt am 7 s)) ∧ (foreign (poolFor oAtomic p.window) → exec (.atomic p) s = .next (nakPkt am 8 s)))

/-- R159: entry i of the gear table is the little-endian 64-bit value of bytes 0 to 7 of the SHA3-256 digest of the two bytes 0x47, i, and
ING_CHUNK_CFG.GEAR_VER reads 1. -/
def Obligations.GearTable : Prop :=
  (∀ i : Fin 256, gear.getD i.val 0 = BitVec.ofNat 64 (ofLe ((sha3 [0x47, BitVec.ofNat 8 i.val]).take 8))) ∧
  rget F.ING_CHUNK_CFG_GEAR_VER .reset = 1

/-- R39, R169, R177, R178, R251, R258 and R303: the stored layouts, and the header of a host-binding message, the 32 bytes of Table 2.3 with VER 1. An
index entry is the 64 bytes of Table 6.5, a strainer bucket the 64 of Table 6.4, a map record 64 and a retained record 80, a pour journal entry the
256 of Table 8.4, each field at its place and each CRC32C over the bytes its rule names; an index page, a map page and a retained-map page are 4 KiB,
their header and CRC32C as R177 lays them out, and index entries from byte 64. A clause that rests on the model's own choice: log entry 93. -/
def Obligations.StoredLayouts : Prop :=
  let word := fun (l : List Byte) (o n : Nat) => ofLe ((l.drop o).take n)
  (∀ e : IndexEntry, let l := entryBytes e
    l.length = 64 ∧ l.take 32 = digestBytes e.fp ∧ word l 32 8 = locWord e.kind % 2 ^ 64 ∧ word l 40 4 = (if e.state = .pending then 0 else e.frameLen % 2 ^ 32) ∧
    word l 44 4 = e.chunkLen % 2 ^ 32 ∧ word l 48 4 = e.refs % 2 ^ 32 ∧ word l 52 2 = 0 ∧ word l 54 2 = e.kd % 4096 ∧ word l 56 1 = kindCode e.kind % 256 ∧
    word l 57 1 = stateByte e % 256) ∧
  (∀ (x : Bucket) (s : State), x.tags.length ≤ 48 → let n := ofLe (bucketBytes x s)
    (bucketBytes x s).length = 64 ∧ (∀ i < x.tags.length, n / 2 ^ (10 * i) % 1024 = x.tags.getD i 0 % 1024) ∧ n / 2 ^ 480 % 16 = 0 ∧ n / 2 ^ 484 % 64 = x.tags.length ∧
    n / 2 ^ 490 % 64 = 0 ∧ n / 2 ^ 496 % 2 = (if x.overflow then 1 else 0) ∧ n / 2 ^ 497 % 128 = 0 ∧ n / 2 ^ 504 = x.version % 256) ∧
  (∀ r : MapRec, let l := mapBytes r
    l.length = 64 ∧ word l 0 8 = r.addr % 2 ^ 64 ∧ word l 8 4 = r.len % 2 ^ 32 ∧ word l 12 4 = r.coff % 2 ^ 32 ∧ (∀ f, r.fp = some f → (l.drop 16).take 32 = digestBytes f) ∧
    word l 48 2 = r.kd % 2 ^ 16 ∧ word l 50 2 = 0 ∧ word l 52 8 = r.wseq % 2 ^ 64 ∧ word l 60 4 = crc32c (l.take 60) % 2 ^ 32) ∧
  (∀ r : RetRec, let l := retBytes r
    l.length = 80 ∧ l.take 60 = (mapBytes r.rec_).take 60 ∧ word l 64 8 = r.wseqEnd % 2 ^ 64 ∧ l.drop 72 = List.replicate 8 0 ∧
    word l 60 4 = crc32c (l.take 60 ++ l.drop 64) % 2 ^ 32) ∧
  (∀ j : JEntry, j.members.length ≤ 34 → let l := journalBytes j
    l.length = 256 ∧ word l 0 8 = j.stripe % 2 ^ 40 ∧ word l 8 1 = jstateCode j.state ∧ word l 9 1 = j.shelf % 8 ∧ word l 10 1 = j.k % 256 ∧ word l 11 1 = j.group % 256 ∧
    word l 12 1 = j.cls % 256 ∧ word l 13 3 = 0 ∧ word l 16 4 = j.row % 2 ^ 32 ∧ word l 20 4 = j.dataBytes % 2 ^ 32 ∧ word l 24 4 = j.frames % 2 ^ 32 ∧
    word l 28 4 = j.zoneSet % 2 ^ 32 ∧ word l 32 8 = j.epoch % 2 ^ 64 ∧ word l 40 8 = j.jseq % 2 ^ 64 ∧ word l 48 4 = 0 ∧ word l 52 4 = crc32c (l.take 52 ++ l.drop 56) % 2 ^ 32 ∧
    (∀ i < j.members.length, word l (56 + 4 * i) 4 = (j.members.getD i default).1 % 52 * 2 ^ 26 + (j.members.getD i default).2 % 2 ^ 26) ∧
    (∀ i, j.members.length ≤ i → i < 34 → word l (56 + 4 * i) 4 = 0) ∧ l.drop 192 = List.replicate 64 0) ∧
  (∀ (g : IndexPage) (s : State), let l := pageBytes g s
    let es := g.uids.filterMap (fun u => s.arr.index.find? (·.uid == u))
    l.length = 4096 ∧ word l 0 2 = 1 ∧ word l 2 1 = g.slice % 256 ∧ word l 3 1 = g.uids.length % 256 ∧ word l 4 4 = 0 ∧ word l 8 8 = g.page % 2 ^ 64 ∧ word l 16 8 = g.next % 2 ^ 64 ∧
    word l 24 8 = g.seq % 2 ^ 64 ∧ (l.drop 32).take 28 = List.replicate 28 0 ∧ word l 60 4 = crc32c (l.take 60 ++ l.drop 64) % 2 ^ 32 ∧
    (es.length ≤ 63 → ∀ i < es.length, (l.drop (64 + 64 * i)).take 64 = entryBytes (es.getD i default))) ∧
  (∀ g : MapPage, let l := mapPageBytes g
    l.length = 4096 ∧ word l 0 2 = (if g.kept then 2 else 1) ∧ word l 3 1 = g.recs.length % 256 ∧ word l 8 8 = g.page % 2 ^ 64 ∧ word l 24 8 = g.seq % 2 ^ 64 ∧
    word l 60 4 = crc32c (l.take 60 ++ l.drop 64) % 2 ^ 32) ∧
  (∀ h : HbHead, let l := hbBytes h
    l.length = 32 ∧ word l 0 1 = 1 ∧ word l 1 1 = h.typ % 256 ∧ word l 2 2 = h.id.qid % 2 ^ 16 ∧ word l 4 2 = h.id.cntlid % 2 ^ 16 ∧
    word l 6 2 = (if h.srcHead then 4 else 0) + (if h.reissue then 8 else 0) ∧ word l 8 4 = h.id.cmdseq % 2 ^ 32 ∧ word l 12 4 = h.csn % 2 ^ 32 ∧ word l 16 4 = 0 ∧
    word l 20 4 = h.dlen % 2 ^ 32 ∧ word l 24 8 = h.session % 2 ^ 64)
end

