-- ==== Sys2Proof/Laws/State.lean ====
section
/-! SUPPORT. What each named update leaves as it was: one lemma for each field of the state and each update. -/

namespace Sys2Proof.Machine

open Sys2Proof

@[simp] theorem rset_mem (f : Field) (v : Nat) (s : State) (i : Nat) : (rset f v s i).mem = s.mem := rfl
@[simp] theorem rset_pending (f : Field) (v : Nat) (s : State) (i : Nat) : (rset f v s i).pending = s.pending := rfl
@[simp] theorem rset_outbox (f : Field) (v : Nat) (s : State) (i : Nat) : (rset f v s i).outbox = s.outbox := rfl
@[simp] theorem rset_freeCtr (f : Field) (v : Nat) (s : State) (i : Nat) : (rset f v s i).freeCtr = s.freeCtr := rfl
@[simp] theorem rset_cpu (f : Field) (v : Nat) (s : State) (i : Nat) : (rset f v s i).cpu = s.cpu := rfl
@[simp] theorem rset_task (f : Field) (v : Nat) (s : State) (i : Nat) : (rset f v s i).task = s.task := rfl
@[simp] theorem rset_eng (f : Field) (v : Nat) (s : State) (i : Nat) : (rset f v s i).eng = s.eng := rfl
@[simp] theorem rset_bpm (f : Field) (v : Nat) (s : State) (i : Nat) : (rset f v s i).bpm = s.bpm := rfl
@[simp] theorem rset_keys (f : Field) (v : Nat) (s : State) (i : Nat) : (rset f v s i).keys = s.keys := rfl
@[simp] theorem rset_par (f : Field) (v : Nat) (s : State) (i : Nat) : (rset f v s i).par = s.par := rfl
@[simp] theorem rset_arr (f : Field) (v : Nat) (s : State) (i : Nat) : (rset f v s i).arr = s.arr := rfl
@[simp] theorem rset_evr (f : Field) (v : Nat) (s : State) (i : Nat) : (rset f v s i).evr = s.evr := rfl
@[simp] theorem rset_flt (f : Field) (v : Nat) (s : State) (i : Nat) : (rset f v s i).flt = s.flt := rfl
@[simp] theorem rset_phys (f : Field) (v : Nat) (s : State) (i : Nat) : (rset f v s i).phys = s.phys := rfl
@[simp] theorem rset_host (f : Field) (v : Nat) (s : State) (i : Nat) : (rset f v s i).host = s.host := rfl
@[simp] theorem rset_mir (f : Field) (v : Nat) (s : State) (i : Nat) : (rset f v s i).mir = s.mir := rfl
@[simp] theorem rset_fence (f : Field) (v : Nat) (s : State) (i : Nat) : (rset f v s i).fence = s.fence := rfl
@[simp] theorem rset_rrn (f : Field) (v : Nat) (s : State) (i : Nat) : (rset f v s i).rrn = s.rrn := rfl
@[simp] theorem rset_pwr (f : Field) (v : Nat) (s : State) (i : Nat) : (rset f v s i).pwr = s.pwr := rfl
@[simp] theorem rset_sec (f : Field) (v : Nat) (s : State) (i : Nat) : (rset f v s i).sec = s.sec := rfl
@[simp] theorem rset_chip (f : Field) (v : Nat) (s : State) (i : Nat) : (rset f v s i).chip = s.chip := rfl

@[simp] theorem rinc_mem (f : Field) (n : Nat) (s : State) (i : Nat) : (rinc f n s i).mem = s.mem := rfl
@[simp] theorem rinc_pending (f : Field) (n : Nat) (s : State) (i : Nat) : (rinc f n s i).pending = s.pending := rfl
@[simp] theorem rinc_outbox (f : Field) (n : Nat) (s : State) (i : Nat) : (rinc f n s i).outbox = s.outbox := rfl
@[simp] theorem rinc_freeCtr (f : Field) (n : Nat) (s : State) (i : Nat) : (rinc f n s i).freeCtr = s.freeCtr := rfl
@[simp] theorem rinc_cpu (f : Field) (n : Nat) (s : State) (i : Nat) : (rinc f n s i).cpu = s.cpu := rfl
@[simp] theorem rinc_task (f : Field) (n : Nat) (s : State) (i : Nat) : (rinc f n s i).task = s.task := rfl
@[simp] theorem rinc_eng (f : Field) (n : Nat) (s : State) (i : Nat) : (rinc f n s i).eng = s.eng := rfl
@[simp] theorem rinc_bpm (f : Field) (n : Nat) (s : State) (i : Nat) : (rinc f n s i).bpm = s.bpm := rfl
@[simp] theorem rinc_keys (f : Field) (n : Nat) (s : State) (i : Nat) : (rinc f n s i).keys = s.keys := rfl
@[simp] theorem rinc_par (f : Field) (n : Nat) (s : State) (i : Nat) : (rinc f n s i).par = s.par := rfl
@[simp] theorem rinc_arr (f : Field) (n : Nat) (s : State) (i : Nat) : (rinc f n s i).arr = s.arr := rfl
@[simp] theorem rinc_evr (f : Field) (n : Nat) (s : State) (i : Nat) : (rinc f n s i).evr = s.evr := rfl
@[simp] theorem rinc_flt (f : Field) (n : Nat) (s : State) (i : Nat) : (rinc f n s i).flt = s.flt := rfl
@[simp] theorem rinc_phys (f : Field) (n : Nat) (s : State) (i : Nat) : (rinc f n s i).phys = s.phys := rfl
@[simp] theorem rinc_host (f : Field) (n : Nat) (s : State) (i : Nat) : (rinc f n s i).host = s.host := rfl
@[simp] theorem rinc_mir (f : Field) (n : Nat) (s : State) (i : Nat) : (rinc f n s i).mir = s.mir := rfl
@[simp] theorem rinc_fence (f : Field) (n : Nat) (s : State) (i : Nat) : (rinc f n s i).fence = s.fence := rfl
@[simp] theorem rinc_rrn (f : Field) (n : Nat) (s : State) (i : Nat) : (rinc f n s i).rrn = s.rrn := rfl
@[simp] theorem rinc_pwr (f : Field) (n : Nat) (s : State) (i : Nat) : (rinc f n s i).pwr = s.pwr := rfl
@[simp] theorem rinc_sec (f : Field) (n : Nat) (s : State) (i : Nat) : (rinc f n s i).sec = s.sec := rfl
@[simp] theorem rinc_chip (f : Field) (n : Nat) (s : State) (i : Nat) : (rinc f n s i).chip = s.chip := rfl

@[simp] theorem rflag_mem (f : Field) (b : Bool) (s : State) (i : Nat) : (rflag f b s i).mem = s.mem := rfl
@[simp] theorem rflag_pending (f : Field) (b : Bool) (s : State) (i : Nat) : (rflag f b s i).pending = s.pending := rfl
@[simp] theorem rflag_outbox (f : Field) (b : Bool) (s : State) (i : Nat) : (rflag f b s i).outbox = s.outbox := rfl
@[simp] theorem rflag_freeCtr (f : Field) (b : Bool) (s : State) (i : Nat) : (rflag f b s i).freeCtr = s.freeCtr := rfl
@[simp] theorem rflag_cpu (f : Field) (b : Bool) (s : State) (i : Nat) : (rflag f b s i).cpu = s.cpu := rfl
@[simp] theorem rflag_task (f : Field) (b : Bool) (s : State) (i : Nat) : (rflag f b s i).task = s.task := rfl
@[simp] theorem rflag_eng (f : Field) (b : Bool) (s : State) (i : Nat) : (rflag f b s i).eng = s.eng := rfl
@[simp] theorem rflag_bpm (f : Field) (b : Bool) (s : State) (i : Nat) : (rflag f b s i).bpm = s.bpm := rfl
@[simp] theorem rflag_keys (f : Field) (b : Bool) (s : State) (i : Nat) : (rflag f b s i).keys = s.keys := rfl
@[simp] theorem rflag_par (f : Field) (b : Bool) (s : State) (i : Nat) : (rflag f b s i).par = s.par := rfl
@[simp] theorem rflag_arr (f : Field) (b : Bool) (s : State) (i : Nat) : (rflag f b s i).arr = s.arr := rfl
@[simp] theorem rflag_evr (f : Field) (b : Bool) (s : State) (i : Nat) : (rflag f b s i).evr = s.evr := rfl
@[simp] theorem rflag_flt (f : Field) (b : Bool) (s : State) (i : Nat) : (rflag f b s i).flt = s.flt := rfl
@[simp] theorem rflag_phys (f : Field) (b : Bool) (s : State) (i : Nat) : (rflag f b s i).phys = s.phys := rfl
@[simp] theorem rflag_host (f : Field) (b : Bool) (s : State) (i : Nat) : (rflag f b s i).host = s.host := rfl
@[simp] theorem rflag_mir (f : Field) (b : Bool) (s : State) (i : Nat) : (rflag f b s i).mir = s.mir := rfl
@[simp] theorem rflag_fence (f : Field) (b : Bool) (s : State) (i : Nat) : (rflag f b s i).fence = s.fence := rfl
@[simp] theorem rflag_rrn (f : Field) (b : Bool) (s : State) (i : Nat) : (rflag f b s i).rrn = s.rrn := rfl
@[simp] theorem rflag_pwr (f : Field) (b : Bool) (s : State) (i : Nat) : (rflag f b s i).pwr = s.pwr := rfl
@[simp] theorem rflag_sec (f : Field) (b : Bool) (s : State) (i : Nat) : (rflag f b s i).sec = s.sec := rfl
@[simp] theorem rflag_chip (f : Field) (b : Bool) (s : State) (i : Nat) : (rflag f b s i).chip = s.chip := rfl

@[simp] theorem rputBit_mem (f : Field) (b : Nat) (v : Bool) (s : State) (i : Nat) : (rputBit f b v s i).mem = s.mem := rfl
@[simp] theorem rputBit_pending (f : Field) (b : Nat) (v : Bool) (s : State) (i : Nat) : (rputBit f b v s i).pending = s.pending := rfl
@[simp] theorem rputBit_outbox (f : Field) (b : Nat) (v : Bool) (s : State) (i : Nat) : (rputBit f b v s i).outbox = s.outbox := rfl
@[simp] theorem rputBit_freeCtr (f : Field) (b : Nat) (v : Bool) (s : State) (i : Nat) : (rputBit f b v s i).freeCtr = s.freeCtr := rfl
@[simp] theorem rputBit_cpu (f : Field) (b : Nat) (v : Bool) (s : State) (i : Nat) : (rputBit f b v s i).cpu = s.cpu := rfl
@[simp] theorem rputBit_task (f : Field) (b : Nat) (v : Bool) (s : State) (i : Nat) : (rputBit f b v s i).task = s.task := rfl
@[simp] theorem rputBit_eng (f : Field) (b : Nat) (v : Bool) (s : State) (i : Nat) : (rputBit f b v s i).eng = s.eng := rfl
@[simp] theorem rputBit_bpm (f : Field) (b : Nat) (v : Bool) (s : State) (i : Nat) : (rputBit f b v s i).bpm = s.bpm := rfl
@[simp] theorem rputBit_keys (f : Field) (b : Nat) (v : Bool) (s : State) (i : Nat) : (rputBit f b v s i).keys = s.keys := rfl
@[simp] theorem rputBit_par (f : Field) (b : Nat) (v : Bool) (s : State) (i : Nat) : (rputBit f b v s i).par = s.par := rfl
@[simp] theorem rputBit_arr (f : Field) (b : Nat) (v : Bool) (s : State) (i : Nat) : (rputBit f b v s i).arr = s.arr := rfl
@[simp] theorem rputBit_evr (f : Field) (b : Nat) (v : Bool) (s : State) (i : Nat) : (rputBit f b v s i).evr = s.evr := rfl
@[simp] theorem rputBit_flt (f : Field) (b : Nat) (v : Bool) (s : State) (i : Nat) : (rputBit f b v s i).flt = s.flt := rfl
@[simp] theorem rputBit_phys (f : Field) (b : Nat) (v : Bool) (s : State) (i : Nat) : (rputBit f b v s i).phys = s.phys := rfl
@[simp] theorem rputBit_host (f : Field) (b : Nat) (v : Bool) (s : State) (i : Nat) : (rputBit f b v s i).host = s.host := rfl
@[simp] theorem rputBit_mir (f : Field) (b : Nat) (v : Bool) (s : State) (i : Nat) : (rputBit f b v s i).mir = s.mir := rfl
@[simp] theorem rputBit_fence (f : Field) (b : Nat) (v : Bool) (s : State) (i : Nat) : (rputBit f b v s i).fence = s.fence := rfl
@[simp] theorem rputBit_rrn (f : Field) (b : Nat) (v : Bool) (s : State) (i : Nat) : (rputBit f b v s i).rrn = s.rrn := rfl
@[simp] theorem rputBit_pwr (f : Field) (b : Nat) (v : Bool) (s : State) (i : Nat) : (rputBit f b v s i).pwr = s.pwr := rfl
@[simp] theorem rputBit_sec (f : Field) (b : Nat) (v : Bool) (s : State) (i : Nat) : (rputBit f b v s i).sec = s.sec := rfl
@[simp] theorem rputBit_chip (f : Field) (b : Nat) (v : Bool) (s : State) (i : Nat) : (rputBit f b v s i).chip = s.chip := rfl

@[simp] theorem emit_regs (o : Output) (s : State) : (emit o s).regs = s.regs := rfl
@[simp] theorem emit_mem (o : Output) (s : State) : (emit o s).mem = s.mem := rfl
@[simp] theorem emit_pending (o : Output) (s : State) : (emit o s).pending = s.pending := rfl
@[simp] theorem emit_freeCtr (o : Output) (s : State) : (emit o s).freeCtr = s.freeCtr := rfl
@[simp] theorem emit_cpu (o : Output) (s : State) : (emit o s).cpu = s.cpu := rfl
@[simp] theorem emit_task (o : Output) (s : State) : (emit o s).task = s.task := rfl
@[simp] theorem emit_eng (o : Output) (s : State) : (emit o s).eng = s.eng := rfl
@[simp] theorem emit_bpm (o : Output) (s : State) : (emit o s).bpm = s.bpm := rfl
@[simp] theorem emit_keys (o : Output) (s : State) : (emit o s).keys = s.keys := rfl
@[simp] theorem emit_par (o : Output) (s : State) : (emit o s).par = s.par := rfl
@[simp] theorem emit_arr (o : Output) (s : State) : (emit o s).arr = s.arr := rfl
@[simp] theorem emit_evr (o : Output) (s : State) : (emit o s).evr = s.evr := rfl
@[simp] theorem emit_flt (o : Output) (s : State) : (emit o s).flt = s.flt := rfl
@[simp] theorem emit_phys (o : Output) (s : State) : (emit o s).phys = s.phys := rfl
@[simp] theorem emit_host (o : Output) (s : State) : (emit o s).host = s.host := rfl
@[simp] theorem emit_mir (o : Output) (s : State) : (emit o s).mir = s.mir := rfl
@[simp] theorem emit_fence (o : Output) (s : State) : (emit o s).fence = s.fence := rfl
@[simp] theorem emit_rrn (o : Output) (s : State) : (emit o s).rrn = s.rrn := rfl
@[simp] theorem emit_pwr (o : Output) (s : State) : (emit o s).pwr = s.pwr := rfl
@[simp] theorem emit_sec (o : Output) (s : State) : (emit o s).sec = s.sec := rfl
@[simp] theorem emit_chip (o : Output) (s : State) : (emit o s).chip = s.chip := rfl

@[simp] theorem tickFree_regs (s : State) : (tickFree s).regs = s.regs := rfl
@[simp] theorem tickFree_mem (s : State) : (tickFree s).mem = s.mem := rfl
@[simp] theorem tickFree_pending (s : State) : (tickFree s).pending = s.pending := rfl
@[simp] theorem tickFree_outbox (s : State) : (tickFree s).outbox = s.outbox := rfl
@[simp] theorem tickFree_cpu (s : State) : (tickFree s).cpu = s.cpu := rfl
@[simp] theorem tickFree_task (s : State) : (tickFree s).task = s.task := rfl
@[simp] theorem tickFree_eng (s : State) : (tickFree s).eng = s.eng := rfl
@[simp] theorem tickFree_bpm (s : State) : (tickFree s).bpm = s.bpm := rfl
@[simp] theorem tickFree_keys (s : State) : (tickFree s).keys = s.keys := rfl
@[simp] theorem tickFree_par (s : State) : (tickFree s).par = s.par := rfl
@[simp] theorem tickFree_arr (s : State) : (tickFree s).arr = s.arr := rfl
@[simp] theorem tickFree_evr (s : State) : (tickFree s).evr = s.evr := rfl
@[simp] theorem tickFree_flt (s : State) : (tickFree s).flt = s.flt := rfl
@[simp] theorem tickFree_phys (s : State) : (tickFree s).phys = s.phys := rfl
@[simp] theorem tickFree_host (s : State) : (tickFree s).host = s.host := rfl
@[simp] theorem tickFree_mir (s : State) : (tickFree s).mir = s.mir := rfl
@[simp] theorem tickFree_fence (s : State) : (tickFree s).fence = s.fence := rfl
@[simp] theorem tickFree_rrn (s : State) : (tickFree s).rrn = s.rrn := rfl
@[simp] theorem tickFree_pwr (s : State) : (tickFree s).pwr = s.pwr := rfl
@[simp] theorem tickFree_sec (s : State) : (tickFree s).sec = s.sec := rfl
@[simp] theorem tickFree_chip (s : State) : (tickFree s).chip = s.chip := rfl

@[simp] theorem memWrite_regs (k : Nat) (l : List Byte) (s : State) : (memWrite k l s).regs = s.regs := rfl
@[simp] theorem memWrite_pending (k : Nat) (l : List Byte) (s : State) : (memWrite k l s).pending = s.pending := rfl
@[simp] theorem memWrite_outbox (k : Nat) (l : List Byte) (s : State) : (memWrite k l s).outbox = s.outbox := rfl
@[simp] theorem memWrite_freeCtr (k : Nat) (l : List Byte) (s : State) : (memWrite k l s).freeCtr = s.freeCtr := rfl
@[simp] theorem memWrite_cpu (k : Nat) (l : List Byte) (s : State) : (memWrite k l s).cpu = s.cpu := rfl
@[simp] theorem memWrite_task (k : Nat) (l : List Byte) (s : State) : (memWrite k l s).task = s.task := rfl
@[simp] theorem memWrite_eng (k : Nat) (l : List Byte) (s : State) : (memWrite k l s).eng = s.eng := rfl
@[simp] theorem memWrite_bpm (k : Nat) (l : List Byte) (s : State) : (memWrite k l s).bpm = s.bpm := rfl
@[simp] theorem memWrite_keys (k : Nat) (l : List Byte) (s : State) : (memWrite k l s).keys = s.keys := rfl
@[simp] theorem memWrite_par (k : Nat) (l : List Byte) (s : State) : (memWrite k l s).par = s.par := rfl
@[simp] theorem memWrite_arr (k : Nat) (l : List Byte) (s : State) : (memWrite k l s).arr = s.arr := rfl
@[simp] theorem memWrite_evr (k : Nat) (l : List Byte) (s : State) : (memWrite k l s).evr = s.evr := rfl
@[simp] theorem memWrite_flt (k : Nat) (l : List Byte) (s : State) : (memWrite k l s).flt = s.flt := rfl
@[simp] theorem memWrite_phys (k : Nat) (l : List Byte) (s : State) : (memWrite k l s).phys = s.phys := rfl
@[simp] theorem memWrite_host (k : Nat) (l : List Byte) (s : State) : (memWrite k l s).host = s.host := rfl
@[simp] theorem memWrite_mir (k : Nat) (l : List Byte) (s : State) : (memWrite k l s).mir = s.mir := rfl
@[simp] theorem memWrite_fence (k : Nat) (l : List Byte) (s : State) : (memWrite k l s).fence = s.fence := rfl
@[simp] theorem memWrite_rrn (k : Nat) (l : List Byte) (s : State) : (memWrite k l s).rrn = s.rrn := rfl
@[simp] theorem memWrite_pwr (k : Nat) (l : List Byte) (s : State) : (memWrite k l s).pwr = s.pwr := rfl
@[simp] theorem memWrite_sec (k : Nat) (l : List Byte) (s : State) : (memWrite k l s).sec = s.sec := rfl
@[simp] theorem memWrite_chip (k : Nat) (l : List Byte) (s : State) : (memWrite k l s).chip = s.chip := rfl

@[simp] theorem setCore_regs (c : CoreId) (x : Core) (s : State) : (setCore c x s).regs = s.regs := rfl
@[simp] theorem setCore_mem (c : CoreId) (x : Core) (s : State) : (setCore c x s).mem = s.mem := rfl
@[simp] theorem setCore_pending (c : CoreId) (x : Core) (s : State) : (setCore c x s).pending = s.pending := rfl
@[simp] theorem setCore_outbox (c : CoreId) (x : Core) (s : State) : (setCore c x s).outbox = s.outbox := rfl
@[simp] theorem setCore_freeCtr (c : CoreId) (x : Core) (s : State) : (setCore c x s).freeCtr = s.freeCtr := rfl
@[simp] theorem setCore_task (c : CoreId) (x : Core) (s : State) : (setCore c x s).task = s.task := rfl
@[simp] theorem setCore_eng (c : CoreId) (x : Core) (s : State) : (setCore c x s).eng = s.eng := rfl
@[simp] theorem setCore_bpm (c : CoreId) (x : Core) (s : State) : (setCore c x s).bpm = s.bpm := rfl
@[simp] theorem setCore_keys (c : CoreId) (x : Core) (s : State) : (setCore c x s).keys = s.keys := rfl
@[simp] theorem setCore_par (c : CoreId) (x : Core) (s : State) : (setCore c x s).par = s.par := rfl
@[simp] theorem setCore_arr (c : CoreId) (x : Core) (s : State) : (setCore c x s).arr = s.arr := rfl
@[simp] theorem setCore_evr (c : CoreId) (x : Core) (s : State) : (setCore c x s).evr = s.evr := rfl
@[simp] theorem setCore_flt (c : CoreId) (x : Core) (s : State) : (setCore c x s).flt = s.flt := rfl
@[simp] theorem setCore_phys (c : CoreId) (x : Core) (s : State) : (setCore c x s).phys = s.phys := rfl
@[simp] theorem setCore_host (c : CoreId) (x : Core) (s : State) : (setCore c x s).host = s.host := rfl
@[simp] theorem setCore_mir (c : CoreId) (x : Core) (s : State) : (setCore c x s).mir = s.mir := rfl
@[simp] theorem setCore_fence (c : CoreId) (x : Core) (s : State) : (setCore c x s).fence = s.fence := rfl
@[simp] theorem setCore_rrn (c : CoreId) (x : Core) (s : State) : (setCore c x s).rrn = s.rrn := rfl
@[simp] theorem setCore_pwr (c : CoreId) (x : Core) (s : State) : (setCore c x s).pwr = s.pwr := rfl
@[simp] theorem setCore_sec (c : CoreId) (x : Core) (s : State) : (setCore c x s).sec = s.sec := rfl
@[simp] theorem setCore_chip (c : CoreId) (x : Core) (s : State) : (setCore c x s).chip = s.chip := rfl

@[simp] theorem setBank_regs (x : Nat) (b : Bank) (s : State) : (setBank x b s).regs = s.regs := rfl
@[simp] theorem setBank_mem (x : Nat) (b : Bank) (s : State) : (setBank x b s).mem = s.mem := rfl
@[simp] theorem setBank_pending (x : Nat) (b : Bank) (s : State) : (setBank x b s).pending = s.pending := rfl
@[simp] theorem setBank_outbox (x : Nat) (b : Bank) (s : State) : (setBank x b s).outbox = s.outbox := rfl
@[simp] theorem setBank_freeCtr (x : Nat) (b : Bank) (s : State) : (setBank x b s).freeCtr = s.freeCtr := rfl
@[simp] theorem setBank_task (x : Nat) (b : Bank) (s : State) : (setBank x b s).task = s.task := rfl
@[simp] theorem setBank_eng (x : Nat) (b : Bank) (s : State) : (setBank x b s).eng = s.eng := rfl
@[simp] theorem setBank_bpm (x : Nat) (b : Bank) (s : State) : (setBank x b s).bpm = s.bpm := rfl
@[simp] theorem setBank_keys (x : Nat) (b : Bank) (s : State) : (setBank x b s).keys = s.keys := rfl
@[simp] theorem setBank_par (x : Nat) (b : Bank) (s : State) : (setBank x b s).par = s.par := rfl
@[simp] theorem setBank_arr (x : Nat) (b : Bank) (s : State) : (setBank x b s).arr = s.arr := rfl
@[simp] theorem setBank_evr (x : Nat) (b : Bank) (s : State) : (setBank x b s).evr = s.evr := rfl
@[simp] theorem setBank_flt (x : Nat) (b : Bank) (s : State) : (setBank x b s).flt = s.flt := rfl
@[simp] theorem setBank_phys (x : Nat) (b : Bank) (s : State) : (setBank x b s).phys = s.phys := rfl
@[simp] theorem setBank_host (x : Nat) (b : Bank) (s : State) : (setBank x b s).host = s.host := rfl
@[simp] theorem setBank_mir (x : Nat) (b : Bank) (s : State) : (setBank x b s).mir = s.mir := rfl
@[simp] theorem setBank_fence (x : Nat) (b : Bank) (s : State) : (setBank x b s).fence = s.fence := rfl
@[simp] theorem setBank_rrn (x : Nat) (b : Bank) (s : State) : (setBank x b s).rrn = s.rrn := rfl
@[simp] theorem setBank_pwr (x : Nat) (b : Bank) (s : State) : (setBank x b s).pwr = s.pwr := rfl
@[simp] theorem setBank_sec (x : Nat) (b : Bank) (s : State) : (setBank x b s).sec = s.sec := rfl
@[simp] theorem setBank_chip (x : Nat) (b : Bank) (s : State) : (setBank x b s).chip = s.chip := rfl

@[simp] theorem wr_regs (c : CoreId) (r : Rn) (v : Word) (s : State) : (wr c r v s).regs = s.regs := rfl
@[simp] theorem wr_mem (c : CoreId) (r : Rn) (v : Word) (s : State) : (wr c r v s).mem = s.mem := rfl
@[simp] theorem wr_pending (c : CoreId) (r : Rn) (v : Word) (s : State) : (wr c r v s).pending = s.pending := rfl
@[simp] theorem wr_outbox (c : CoreId) (r : Rn) (v : Word) (s : State) : (wr c r v s).outbox = s.outbox := rfl
@[simp] theorem wr_freeCtr (c : CoreId) (r : Rn) (v : Word) (s : State) : (wr c r v s).freeCtr = s.freeCtr := rfl
@[simp] theorem wr_task (c : CoreId) (r : Rn) (v : Word) (s : State) : (wr c r v s).task = s.task := rfl
@[simp] theorem wr_eng (c : CoreId) (r : Rn) (v : Word) (s : State) : (wr c r v s).eng = s.eng := rfl
@[simp] theorem wr_bpm (c : CoreId) (r : Rn) (v : Word) (s : State) : (wr c r v s).bpm = s.bpm := rfl
@[simp] theorem wr_keys (c : CoreId) (r : Rn) (v : Word) (s : State) : (wr c r v s).keys = s.keys := rfl
@[simp] theorem wr_par (c : CoreId) (r : Rn) (v : Word) (s : State) : (wr c r v s).par = s.par := rfl
@[simp] theorem wr_arr (c : CoreId) (r : Rn) (v : Word) (s : State) : (wr c r v s).arr = s.arr := rfl
@[simp] theorem wr_evr (c : CoreId) (r : Rn) (v : Word) (s : State) : (wr c r v s).evr = s.evr := rfl
@[simp] theorem wr_flt (c : CoreId) (r : Rn) (v : Word) (s : State) : (wr c r v s).flt = s.flt := rfl
@[simp] theorem wr_phys (c : CoreId) (r : Rn) (v : Word) (s : State) : (wr c r v s).phys = s.phys := rfl
@[simp] theorem wr_host (c : CoreId) (r : Rn) (v : Word) (s : State) : (wr c r v s).host = s.host := rfl
@[simp] theorem wr_mir (c : CoreId) (r : Rn) (v : Word) (s : State) : (wr c r v s).mir = s.mir := rfl
@[simp] theorem wr_fence (c : CoreId) (r : Rn) (v : Word) (s : State) : (wr c r v s).fence = s.fence := rfl
@[simp] theorem wr_rrn (c : CoreId) (r : Rn) (v : Word) (s : State) : (wr c r v s).rrn = s.rrn := rfl
@[simp] theorem wr_pwr (c : CoreId) (r : Rn) (v : Word) (s : State) : (wr c r v s).pwr = s.pwr := rfl
@[simp] theorem wr_sec (c : CoreId) (r : Rn) (v : Word) (s : State) : (wr c r v s).sec = s.sec := rfl
@[simp] theorem wr_chip (c : CoreId) (r : Rn) (v : Word) (s : State) : (wr c r v s).chip = s.chip := rfl

@[simp] theorem setPc_regs (c : CoreId) (v : Word) (s : State) : (setPc c v s).regs = s.regs := rfl
@[simp] theorem setPc_mem (c : CoreId) (v : Word) (s : State) : (setPc c v s).mem = s.mem := rfl
@[simp] theorem setPc_pending (c : CoreId) (v : Word) (s : State) : (setPc c v s).pending = s.pending := rfl
@[simp] theorem setPc_outbox (c : CoreId) (v : Word) (s : State) : (setPc c v s).outbox = s.outbox := rfl
@[simp] theorem setPc_freeCtr (c : CoreId) (v : Word) (s : State) : (setPc c v s).freeCtr = s.freeCtr := rfl
@[simp] theorem setPc_task (c : CoreId) (v : Word) (s : State) : (setPc c v s).task = s.task := rfl
@[simp] theorem setPc_eng (c : CoreId) (v : Word) (s : State) : (setPc c v s).eng = s.eng := rfl
@[simp] theorem setPc_bpm (c : CoreId) (v : Word) (s : State) : (setPc c v s).bpm = s.bpm := rfl
@[simp] theorem setPc_keys (c : CoreId) (v : Word) (s : State) : (setPc c v s).keys = s.keys := rfl
@[simp] theorem setPc_par (c : CoreId) (v : Word) (s : State) : (setPc c v s).par = s.par := rfl
@[simp] theorem setPc_arr (c : CoreId) (v : Word) (s : State) : (setPc c v s).arr = s.arr := rfl
@[simp] theorem setPc_evr (c : CoreId) (v : Word) (s : State) : (setPc c v s).evr = s.evr := rfl
@[simp] theorem setPc_flt (c : CoreId) (v : Word) (s : State) : (setPc c v s).flt = s.flt := rfl
@[simp] theorem setPc_phys (c : CoreId) (v : Word) (s : State) : (setPc c v s).phys = s.phys := rfl
@[simp] theorem setPc_host (c : CoreId) (v : Word) (s : State) : (setPc c v s).host = s.host := rfl
@[simp] theorem setPc_mir (c : CoreId) (v : Word) (s : State) : (setPc c v s).mir = s.mir := rfl
@[simp] theorem setPc_fence (c : CoreId) (v : Word) (s : State) : (setPc c v s).fence = s.fence := rfl
@[simp] theorem setPc_rrn (c : CoreId) (v : Word) (s : State) : (setPc c v s).rrn = s.rrn := rfl
@[simp] theorem setPc_pwr (c : CoreId) (v : Word) (s : State) : (setPc c v s).pwr = s.pwr := rfl
@[simp] theorem setPc_sec (c : CoreId) (v : Word) (s : State) : (setPc c v s).sec = s.sec := rfl
@[simp] theorem setPc_chip (c : CoreId) (v : Word) (s : State) : (setPc c v s).chip = s.chip := rfl

@[simp] theorem returnS_regs (c : CoreId) (s : State) : (returnS c s).regs = s.regs := rfl
@[simp] theorem returnS_mem (c : CoreId) (s : State) : (returnS c s).mem = s.mem := rfl
@[simp] theorem returnS_pending (c : CoreId) (s : State) : (returnS c s).pending = s.pending := rfl
@[simp] theorem returnS_outbox (c : CoreId) (s : State) : (returnS c s).outbox = s.outbox := rfl
@[simp] theorem returnS_freeCtr (c : CoreId) (s : State) : (returnS c s).freeCtr = s.freeCtr := rfl
@[simp] theorem returnS_task (c : CoreId) (s : State) : (returnS c s).task = s.task := rfl
@[simp] theorem returnS_eng (c : CoreId) (s : State) : (returnS c s).eng = s.eng := rfl
@[simp] theorem returnS_bpm (c : CoreId) (s : State) : (returnS c s).bpm = s.bpm := rfl
@[simp] theorem returnS_keys (c : CoreId) (s : State) : (returnS c s).keys = s.keys := rfl
@[simp] theorem returnS_par (c : CoreId) (s : State) : (returnS c s).par = s.par := rfl
@[simp] theorem returnS_arr (c : CoreId) (s : State) : (returnS c s).arr = s.arr := rfl
@[simp] theorem returnS_evr (c : CoreId) (s : State) : (returnS c s).evr = s.evr := rfl
@[simp] theorem returnS_flt (c : CoreId) (s : State) : (returnS c s).flt = s.flt := rfl
@[simp] theorem returnS_phys (c : CoreId) (s : State) : (returnS c s).phys = s.phys := rfl
@[simp] theorem returnS_host (c : CoreId) (s : State) : (returnS c s).host = s.host := rfl
@[simp] theorem returnS_mir (c : CoreId) (s : State) : (returnS c s).mir = s.mir := rfl
@[simp] theorem returnS_fence (c : CoreId) (s : State) : (returnS c s).fence = s.fence := rfl
@[simp] theorem returnS_rrn (c : CoreId) (s : State) : (returnS c s).rrn = s.rrn := rfl
@[simp] theorem returnS_pwr (c : CoreId) (s : State) : (returnS c s).pwr = s.pwr := rfl
@[simp] theorem returnS_sec (c : CoreId) (s : State) : (returnS c s).sec = s.sec := rfl
@[simp] theorem returnS_chip (c : CoreId) (s : State) : (returnS c s).chip = s.chip := rfl

@[simp] theorem raiseIrq_regs (l : Nat) (s : State) : (raiseIrq l s).regs = s.regs := rfl
@[simp] theorem raiseIrq_mem (l : Nat) (s : State) : (raiseIrq l s).mem = s.mem := rfl
@[simp] theorem raiseIrq_pending (l : Nat) (s : State) : (raiseIrq l s).pending = s.pending := rfl
@[simp] theorem raiseIrq_outbox (l : Nat) (s : State) : (raiseIrq l s).outbox = s.outbox := rfl
@[simp] theorem raiseIrq_freeCtr (l : Nat) (s : State) : (raiseIrq l s).freeCtr = s.freeCtr := rfl
@[simp] theorem raiseIrq_task (l : Nat) (s : State) : (raiseIrq l s).task = s.task := rfl
@[simp] theorem raiseIrq_eng (l : Nat) (s : State) : (raiseIrq l s).eng = s.eng := rfl
@[simp] theorem raiseIrq_bpm (l : Nat) (s : State) : (raiseIrq l s).bpm = s.bpm := rfl
@[simp] theorem raiseIrq_keys (l : Nat) (s : State) : (raiseIrq l s).keys = s.keys := rfl
@[simp] theorem raiseIrq_par (l : Nat) (s : State) : (raiseIrq l s).par = s.par := rfl
@[simp] theorem raiseIrq_arr (l : Nat) (s : State) : (raiseIrq l s).arr = s.arr := rfl
@[simp] theorem raiseIrq_evr (l : Nat) (s : State) : (raiseIrq l s).evr = s.evr := rfl
@[simp] theorem raiseIrq_flt (l : Nat) (s : State) : (raiseIrq l s).flt = s.flt := rfl
@[simp] theorem raiseIrq_phys (l : Nat) (s : State) : (raiseIrq l s).phys = s.phys := rfl
@[simp] theorem raiseIrq_host (l : Nat) (s : State) : (raiseIrq l s).host = s.host := rfl
@[simp] theorem raiseIrq_mir (l : Nat) (s : State) : (raiseIrq l s).mir = s.mir := rfl
@[simp] theorem raiseIrq_fence (l : Nat) (s : State) : (raiseIrq l s).fence = s.fence := rfl
@[simp] theorem raiseIrq_rrn (l : Nat) (s : State) : (raiseIrq l s).rrn = s.rrn := rfl
@[simp] theorem raiseIrq_pwr (l : Nat) (s : State) : (raiseIrq l s).pwr = s.pwr := rfl
@[simp] theorem raiseIrq_sec (l : Nat) (s : State) : (raiseIrq l s).sec = s.sec := rfl
@[simp] theorem raiseIrq_chip (l : Nat) (s : State) : (raiseIrq l s).chip = s.chip := rfl

@[simp] theorem clearIrq_regs (l : Nat) (s : State) : (clearIrq l s).regs = s.regs := rfl
@[simp] theorem clearIrq_mem (l : Nat) (s : State) : (clearIrq l s).mem = s.mem := rfl
@[simp] theorem clearIrq_pending (l : Nat) (s : State) : (clearIrq l s).pending = s.pending := rfl
@[simp] theorem clearIrq_outbox (l : Nat) (s : State) : (clearIrq l s).outbox = s.outbox := rfl
@[simp] theorem clearIrq_freeCtr (l : Nat) (s : State) : (clearIrq l s).freeCtr = s.freeCtr := rfl
@[simp] theorem clearIrq_task (l : Nat) (s : State) : (clearIrq l s).task = s.task := rfl
@[simp] theorem clearIrq_eng (l : Nat) (s : State) : (clearIrq l s).eng = s.eng := rfl
@[simp] theorem clearIrq_bpm (l : Nat) (s : State) : (clearIrq l s).bpm = s.bpm := rfl
@[simp] theorem clearIrq_keys (l : Nat) (s : State) : (clearIrq l s).keys = s.keys := rfl
@[simp] theorem clearIrq_par (l : Nat) (s : State) : (clearIrq l s).par = s.par := rfl
@[simp] theorem clearIrq_arr (l : Nat) (s : State) : (clearIrq l s).arr = s.arr := rfl
@[simp] theorem clearIrq_evr (l : Nat) (s : State) : (clearIrq l s).evr = s.evr := rfl
@[simp] theorem clearIrq_flt (l : Nat) (s : State) : (clearIrq l s).flt = s.flt := rfl
@[simp] theorem clearIrq_phys (l : Nat) (s : State) : (clearIrq l s).phys = s.phys := rfl
@[simp] theorem clearIrq_host (l : Nat) (s : State) : (clearIrq l s).host = s.host := rfl
@[simp] theorem clearIrq_mir (l : Nat) (s : State) : (clearIrq l s).mir = s.mir := rfl
@[simp] theorem clearIrq_fence (l : Nat) (s : State) : (clearIrq l s).fence = s.fence := rfl
@[simp] theorem clearIrq_rrn (l : Nat) (s : State) : (clearIrq l s).rrn = s.rrn := rfl
@[simp] theorem clearIrq_pwr (l : Nat) (s : State) : (clearIrq l s).pwr = s.pwr := rfl
@[simp] theorem clearIrq_sec (l : Nat) (s : State) : (clearIrq l s).sec = s.sec := rfl
@[simp] theorem clearIrq_chip (l : Nat) (s : State) : (clearIrq l s).chip = s.chip := rfl

@[simp] theorem setTok_regs (x e : Nat) (t : TokEntry) (s : State) : (setTok x e t s).regs = s.regs := rfl
@[simp] theorem setTok_mem (x e : Nat) (t : TokEntry) (s : State) : (setTok x e t s).mem = s.mem := rfl
@[simp] theorem setTok_pending (x e : Nat) (t : TokEntry) (s : State) : (setTok x e t s).pending = s.pending := rfl
@[simp] theorem setTok_outbox (x e : Nat) (t : TokEntry) (s : State) : (setTok x e t s).outbox = s.outbox := rfl
@[simp] theorem setTok_freeCtr (x e : Nat) (t : TokEntry) (s : State) : (setTok x e t s).freeCtr = s.freeCtr := rfl
@[simp] theorem setTok_task (x e : Nat) (t : TokEntry) (s : State) : (setTok x e t s).task = s.task := rfl
@[simp] theorem setTok_eng (x e : Nat) (t : TokEntry) (s : State) : (setTok x e t s).eng = s.eng := rfl
@[simp] theorem setTok_bpm (x e : Nat) (t : TokEntry) (s : State) : (setTok x e t s).bpm = s.bpm := rfl
@[simp] theorem setTok_keys (x e : Nat) (t : TokEntry) (s : State) : (setTok x e t s).keys = s.keys := rfl
@[simp] theorem setTok_par (x e : Nat) (t : TokEntry) (s : State) : (setTok x e t s).par = s.par := rfl
@[simp] theorem setTok_arr (x e : Nat) (t : TokEntry) (s : State) : (setTok x e t s).arr = s.arr := rfl
@[simp] theorem setTok_evr (x e : Nat) (t : TokEntry) (s : State) : (setTok x e t s).evr = s.evr := rfl
@[simp] theorem setTok_flt (x e : Nat) (t : TokEntry) (s : State) : (setTok x e t s).flt = s.flt := rfl
@[simp] theorem setTok_phys (x e : Nat) (t : TokEntry) (s : State) : (setTok x e t s).phys = s.phys := rfl
@[simp] theorem setTok_host (x e : Nat) (t : TokEntry) (s : State) : (setTok x e t s).host = s.host := rfl
@[simp] theorem setTok_mir (x e : Nat) (t : TokEntry) (s : State) : (setTok x e t s).mir = s.mir := rfl
@[simp] theorem setTok_fence (x e : Nat) (t : TokEntry) (s : State) : (setTok x e t s).fence = s.fence := rfl
@[simp] theorem setTok_rrn (x e : Nat) (t : TokEntry) (s : State) : (setTok x e t s).rrn = s.rrn := rfl
@[simp] theorem setTok_pwr (x e : Nat) (t : TokEntry) (s : State) : (setTok x e t s).pwr = s.pwr := rfl
@[simp] theorem setTok_sec (x e : Nat) (t : TokEntry) (s : State) : (setTok x e t s).sec = s.sec := rfl
@[simp] theorem setTok_chip (x e : Nat) (t : TokEntry) (s : State) : (setTok x e t s).chip = s.chip := rfl

@[simp] theorem tokPost_regs (x e n : Nat) (b : Bool) (s : State) : (tokPost x e n b s).regs = s.regs := rfl
@[simp] theorem tokPost_mem (x e n : Nat) (b : Bool) (s : State) : (tokPost x e n b s).mem = s.mem := rfl
@[simp] theorem tokPost_pending (x e n : Nat) (b : Bool) (s : State) : (tokPost x e n b s).pending = s.pending := rfl
@[simp] theorem tokPost_outbox (x e n : Nat) (b : Bool) (s : State) : (tokPost x e n b s).outbox = s.outbox := rfl
@[simp] theorem tokPost_freeCtr (x e n : Nat) (b : Bool) (s : State) : (tokPost x e n b s).freeCtr = s.freeCtr := rfl
@[simp] theorem tokPost_task (x e n : Nat) (b : Bool) (s : State) : (tokPost x e n b s).task = s.task := rfl
@[simp] theorem tokPost_eng (x e n : Nat) (b : Bool) (s : State) : (tokPost x e n b s).eng = s.eng := rfl
@[simp] theorem tokPost_bpm (x e n : Nat) (b : Bool) (s : State) : (tokPost x e n b s).bpm = s.bpm := rfl
@[simp] theorem tokPost_keys (x e n : Nat) (b : Bool) (s : State) : (tokPost x e n b s).keys = s.keys := rfl
@[simp] theorem tokPost_par (x e n : Nat) (b : Bool) (s : State) : (tokPost x e n b s).par = s.par := rfl
@[simp] theorem tokPost_arr (x e n : Nat) (b : Bool) (s : State) : (tokPost x e n b s).arr = s.arr := rfl
@[simp] theorem tokPost_evr (x e n : Nat) (b : Bool) (s : State) : (tokPost x e n b s).evr = s.evr := rfl
@[simp] theorem tokPost_flt (x e n : Nat) (b : Bool) (s : State) : (tokPost x e n b s).flt = s.flt := rfl
@[simp] theorem tokPost_phys (x e n : Nat) (b : Bool) (s : State) : (tokPost x e n b s).phys = s.phys := rfl
@[simp] theorem tokPost_host (x e n : Nat) (b : Bool) (s : State) : (tokPost x e n b s).host = s.host := rfl
@[simp] theorem tokPost_mir (x e n : Nat) (b : Bool) (s : State) : (tokPost x e n b s).mir = s.mir := rfl
@[simp] theorem tokPost_fence (x e n : Nat) (b : Bool) (s : State) : (tokPost x e n b s).fence = s.fence := rfl
@[simp] theorem tokPost_rrn (x e n : Nat) (b : Bool) (s : State) : (tokPost x e n b s).rrn = s.rrn := rfl
@[simp] theorem tokPost_pwr (x e n : Nat) (b : Bool) (s : State) : (tokPost x e n b s).pwr = s.pwr := rfl
@[simp] theorem tokPost_sec (x e n : Nat) (b : Bool) (s : State) : (tokPost x e n b s).sec = s.sec := rfl
@[simp] theorem tokPost_chip (x e n : Nat) (b : Bool) (s : State) : (tokPost x e n b s).chip = s.chip := rfl

@[simp] theorem setSlot_regs (i : Nat) (x : Slot) (s : State) : (setSlot i x s).regs = s.regs := rfl
@[simp] theorem setSlot_mem (i : Nat) (x : Slot) (s : State) : (setSlot i x s).mem = s.mem := rfl
@[simp] theorem setSlot_pending (i : Nat) (x : Slot) (s : State) : (setSlot i x s).pending = s.pending := rfl
@[simp] theorem setSlot_outbox (i : Nat) (x : Slot) (s : State) : (setSlot i x s).outbox = s.outbox := rfl
@[simp] theorem setSlot_freeCtr (i : Nat) (x : Slot) (s : State) : (setSlot i x s).freeCtr = s.freeCtr := rfl
@[simp] theorem setSlot_cpu (i : Nat) (x : Slot) (s : State) : (setSlot i x s).cpu = s.cpu := rfl
@[simp] theorem setSlot_eng (i : Nat) (x : Slot) (s : State) : (setSlot i x s).eng = s.eng := rfl
@[simp] theorem setSlot_bpm (i : Nat) (x : Slot) (s : State) : (setSlot i x s).bpm = s.bpm := rfl
@[simp] theorem setSlot_keys (i : Nat) (x : Slot) (s : State) : (setSlot i x s).keys = s.keys := rfl
@[simp] theorem setSlot_par (i : Nat) (x : Slot) (s : State) : (setSlot i x s).par = s.par := rfl
@[simp] theorem setSlot_arr (i : Nat) (x : Slot) (s : State) : (setSlot i x s).arr = s.arr := rfl
@[simp] theorem setSlot_evr (i : Nat) (x : Slot) (s : State) : (setSlot i x s).evr = s.evr := rfl
@[simp] theorem setSlot_flt (i : Nat) (x : Slot) (s : State) : (setSlot i x s).flt = s.flt := rfl
@[simp] theorem setSlot_phys (i : Nat) (x : Slot) (s : State) : (setSlot i x s).phys = s.phys := rfl
@[simp] theorem setSlot_host (i : Nat) (x : Slot) (s : State) : (setSlot i x s).host = s.host := rfl
@[simp] theorem setSlot_mir (i : Nat) (x : Slot) (s : State) : (setSlot i x s).mir = s.mir := rfl
@[simp] theorem setSlot_fence (i : Nat) (x : Slot) (s : State) : (setSlot i x s).fence = s.fence := rfl
@[simp] theorem setSlot_rrn (i : Nat) (x : Slot) (s : State) : (setSlot i x s).rrn = s.rrn := rfl
@[simp] theorem setSlot_pwr (i : Nat) (x : Slot) (s : State) : (setSlot i x s).pwr = s.pwr := rfl
@[simp] theorem setSlot_sec (i : Nat) (x : Slot) (s : State) : (setSlot i x s).sec = s.sec := rfl
@[simp] theorem setSlot_chip (i : Nat) (x : Slot) (s : State) : (setSlot i x s).chip = s.chip := rfl

@[simp] theorem setQ_regs (i : Nat) (l : List Task) (s : State) : (setQ i l s).regs = s.regs := rfl
@[simp] theorem setQ_mem (i : Nat) (l : List Task) (s : State) : (setQ i l s).mem = s.mem := rfl
@[simp] theorem setQ_pending (i : Nat) (l : List Task) (s : State) : (setQ i l s).pending = s.pending := rfl
@[simp] theorem setQ_outbox (i : Nat) (l : List Task) (s : State) : (setQ i l s).outbox = s.outbox := rfl
@[simp] theorem setQ_freeCtr (i : Nat) (l : List Task) (s : State) : (setQ i l s).freeCtr = s.freeCtr := rfl
@[simp] theorem setQ_cpu (i : Nat) (l : List Task) (s : State) : (setQ i l s).cpu = s.cpu := rfl
@[simp] theorem setQ_eng (i : Nat) (l : List Task) (s : State) : (setQ i l s).eng = s.eng := rfl
@[simp] theorem setQ_bpm (i : Nat) (l : List Task) (s : State) : (setQ i l s).bpm = s.bpm := rfl
@[simp] theorem setQ_keys (i : Nat) (l : List Task) (s : State) : (setQ i l s).keys = s.keys := rfl
@[simp] theorem setQ_par (i : Nat) (l : List Task) (s : State) : (setQ i l s).par = s.par := rfl
@[simp] theorem setQ_arr (i : Nat) (l : List Task) (s : State) : (setQ i l s).arr = s.arr := rfl
@[simp] theorem setQ_evr (i : Nat) (l : List Task) (s : State) : (setQ i l s).evr = s.evr := rfl
@[simp] theorem setQ_flt (i : Nat) (l : List Task) (s : State) : (setQ i l s).flt = s.flt := rfl
@[simp] theorem setQ_phys (i : Nat) (l : List Task) (s : State) : (setQ i l s).phys = s.phys := rfl
@[simp] theorem setQ_host (i : Nat) (l : List Task) (s : State) : (setQ i l s).host = s.host := rfl
@[simp] theorem setQ_mir (i : Nat) (l : List Task) (s : State) : (setQ i l s).mir = s.mir := rfl
@[simp] theorem setQ_fence (i : Nat) (l : List Task) (s : State) : (setQ i l s).fence = s.fence := rfl
@[simp] theorem setQ_rrn (i : Nat) (l : List Task) (s : State) : (setQ i l s).rrn = s.rrn := rfl
@[simp] theorem setQ_pwr (i : Nat) (l : List Task) (s : State) : (setQ i l s).pwr = s.pwr := rfl
@[simp] theorem setQ_sec (i : Nat) (l : List Task) (s : State) : (setQ i l s).sec = s.sec := rfl
@[simp] theorem setQ_chip (i : Nat) (l : List Task) (s : State) : (setQ i l s).chip = s.chip := rfl

@[simp] theorem enqueueTask_regs (t : Task) (s : State) : (enqueueTask t s).regs = s.regs := rfl
@[simp] theorem enqueueTask_mem (t : Task) (s : State) : (enqueueTask t s).mem = s.mem := rfl
@[simp] theorem enqueueTask_pending (t : Task) (s : State) : (enqueueTask t s).pending = s.pending := rfl
@[simp] theorem enqueueTask_outbox (t : Task) (s : State) : (enqueueTask t s).outbox = s.outbox := rfl
@[simp] theorem enqueueTask_freeCtr (t : Task) (s : State) : (enqueueTask t s).freeCtr = s.freeCtr := rfl
@[simp] theorem enqueueTask_cpu (t : Task) (s : State) : (enqueueTask t s).cpu = s.cpu := rfl
@[simp] theorem enqueueTask_eng (t : Task) (s : State) : (enqueueTask t s).eng = s.eng := rfl
@[simp] theorem enqueueTask_bpm (t : Task) (s : State) : (enqueueTask t s).bpm = s.bpm := rfl
@[simp] theorem enqueueTask_keys (t : Task) (s : State) : (enqueueTask t s).keys = s.keys := rfl
@[simp] theorem enqueueTask_par (t : Task) (s : State) : (enqueueTask t s).par = s.par := rfl
@[simp] theorem enqueueTask_arr (t : Task) (s : State) : (enqueueTask t s).arr = s.arr := rfl
@[simp] theorem enqueueTask_evr (t : Task) (s : State) : (enqueueTask t s).evr = s.evr := rfl
@[simp] theorem enqueueTask_flt (t : Task) (s : State) : (enqueueTask t s).flt = s.flt := rfl
@[simp] theorem enqueueTask_phys (t : Task) (s : State) : (enqueueTask t s).phys = s.phys := rfl
@[simp] theorem enqueueTask_host (t : Task) (s : State) : (enqueueTask t s).host = s.host := rfl
@[simp] theorem enqueueTask_mir (t : Task) (s : State) : (enqueueTask t s).mir = s.mir := rfl
@[simp] theorem enqueueTask_fence (t : Task) (s : State) : (enqueueTask t s).fence = s.fence := rfl
@[simp] theorem enqueueTask_rrn (t : Task) (s : State) : (enqueueTask t s).rrn = s.rrn := rfl
@[simp] theorem enqueueTask_pwr (t : Task) (s : State) : (enqueueTask t s).pwr = s.pwr := rfl
@[simp] theorem enqueueTask_sec (t : Task) (s : State) : (enqueueTask t s).sec = s.sec := rfl
@[simp] theorem enqueueTask_chip (t : Task) (s : State) : (enqueueTask t s).chip = s.chip := rfl

@[simp] theorem setHq_regs (k : Nat) (q : HQueue) (s : State) : (setHq k q s).regs = s.regs := rfl
@[simp] theorem setHq_mem (k : Nat) (q : HQueue) (s : State) : (setHq k q s).mem = s.mem := rfl
@[simp] theorem setHq_pending (k : Nat) (q : HQueue) (s : State) : (setHq k q s).pending = s.pending := rfl
@[simp] theorem setHq_outbox (k : Nat) (q : HQueue) (s : State) : (setHq k q s).outbox = s.outbox := rfl
@[simp] theorem setHq_freeCtr (k : Nat) (q : HQueue) (s : State) : (setHq k q s).freeCtr = s.freeCtr := rfl
@[simp] theorem setHq_cpu (k : Nat) (q : HQueue) (s : State) : (setHq k q s).cpu = s.cpu := rfl
@[simp] theorem setHq_task (k : Nat) (q : HQueue) (s : State) : (setHq k q s).task = s.task := rfl
@[simp] theorem setHq_eng (k : Nat) (q : HQueue) (s : State) : (setHq k q s).eng = s.eng := rfl
@[simp] theorem setHq_bpm (k : Nat) (q : HQueue) (s : State) : (setHq k q s).bpm = s.bpm := rfl
@[simp] theorem setHq_keys (k : Nat) (q : HQueue) (s : State) : (setHq k q s).keys = s.keys := rfl
@[simp] theorem setHq_par (k : Nat) (q : HQueue) (s : State) : (setHq k q s).par = s.par := rfl
@[simp] theorem setHq_arr (k : Nat) (q : HQueue) (s : State) : (setHq k q s).arr = s.arr := rfl
@[simp] theorem setHq_evr (k : Nat) (q : HQueue) (s : State) : (setHq k q s).evr = s.evr := rfl
@[simp] theorem setHq_flt (k : Nat) (q : HQueue) (s : State) : (setHq k q s).flt = s.flt := rfl
@[simp] theorem setHq_phys (k : Nat) (q : HQueue) (s : State) : (setHq k q s).phys = s.phys := rfl
@[simp] theorem setHq_mir (k : Nat) (q : HQueue) (s : State) : (setHq k q s).mir = s.mir := rfl
@[simp] theorem setHq_fence (k : Nat) (q : HQueue) (s : State) : (setHq k q s).fence = s.fence := rfl
@[simp] theorem setHq_rrn (k : Nat) (q : HQueue) (s : State) : (setHq k q s).rrn = s.rrn := rfl
@[simp] theorem setHq_pwr (k : Nat) (q : HQueue) (s : State) : (setHq k q s).pwr = s.pwr := rfl
@[simp] theorem setHq_sec (k : Nat) (q : HQueue) (s : State) : (setHq k q s).sec = s.sec := rfl
@[simp] theorem setHq_chip (k : Nat) (q : HQueue) (s : State) : (setHq k q s).chip = s.chip := rfl

@[simp] theorem setCtrl_regs (n : Nat) (c : Ctrl) (s : State) : (setCtrl n c s).regs = s.regs := rfl
@[simp] theorem setCtrl_mem (n : Nat) (c : Ctrl) (s : State) : (setCtrl n c s).mem = s.mem := rfl
@[simp] theorem setCtrl_pending (n : Nat) (c : Ctrl) (s : State) : (setCtrl n c s).pending = s.pending := rfl
@[simp] theorem setCtrl_outbox (n : Nat) (c : Ctrl) (s : State) : (setCtrl n c s).outbox = s.outbox := rfl
@[simp] theorem setCtrl_freeCtr (n : Nat) (c : Ctrl) (s : State) : (setCtrl n c s).freeCtr = s.freeCtr := rfl
@[simp] theorem setCtrl_cpu (n : Nat) (c : Ctrl) (s : State) : (setCtrl n c s).cpu = s.cpu := rfl
@[simp] theorem setCtrl_task (n : Nat) (c : Ctrl) (s : State) : (setCtrl n c s).task = s.task := rfl
@[simp] theorem setCtrl_eng (n : Nat) (c : Ctrl) (s : State) : (setCtrl n c s).eng = s.eng := rfl
@[simp] theorem setCtrl_bpm (n : Nat) (c : Ctrl) (s : State) : (setCtrl n c s).bpm = s.bpm := rfl
@[simp] theorem setCtrl_keys (n : Nat) (c : Ctrl) (s : State) : (setCtrl n c s).keys = s.keys := rfl
@[simp] theorem setCtrl_par (n : Nat) (c : Ctrl) (s : State) : (setCtrl n c s).par = s.par := rfl
@[simp] theorem setCtrl_arr (n : Nat) (c : Ctrl) (s : State) : (setCtrl n c s).arr = s.arr := rfl
@[simp] theorem setCtrl_evr (n : Nat) (c : Ctrl) (s : State) : (setCtrl n c s).evr = s.evr := rfl
@[simp] theorem setCtrl_flt (n : Nat) (c : Ctrl) (s : State) : (setCtrl n c s).flt = s.flt := rfl
@[simp] theorem setCtrl_phys (n : Nat) (c : Ctrl) (s : State) : (setCtrl n c s).phys = s.phys := rfl
@[simp] theorem setCtrl_mir (n : Nat) (c : Ctrl) (s : State) : (setCtrl n c s).mir = s.mir := rfl
@[simp] theorem setCtrl_fence (n : Nat) (c : Ctrl) (s : State) : (setCtrl n c s).fence = s.fence := rfl
@[simp] theorem setCtrl_rrn (n : Nat) (c : Ctrl) (s : State) : (setCtrl n c s).rrn = s.rrn := rfl
@[simp] theorem setCtrl_pwr (n : Nat) (c : Ctrl) (s : State) : (setCtrl n c s).pwr = s.pwr := rfl
@[simp] theorem setCtrl_sec (n : Nat) (c : Ctrl) (s : State) : (setCtrl n c s).sec = s.sec := rfl
@[simp] theorem setCtrl_chip (n : Nat) (c : Ctrl) (s : State) : (setCtrl n c s).chip = s.chip := rfl

@[simp] theorem setBuf_regs (h : Nat) (b : Buf) (s : State) : (setBuf h b s).regs = s.regs := rfl
@[simp] theorem setBuf_mem (h : Nat) (b : Buf) (s : State) : (setBuf h b s).mem = s.mem := rfl
@[simp] theorem setBuf_pending (h : Nat) (b : Buf) (s : State) : (setBuf h b s).pending = s.pending := rfl
@[simp] theorem setBuf_outbox (h : Nat) (b : Buf) (s : State) : (setBuf h b s).outbox = s.outbox := rfl
@[simp] theorem setBuf_freeCtr (h : Nat) (b : Buf) (s : State) : (setBuf h b s).freeCtr = s.freeCtr := rfl
@[simp] theorem setBuf_cpu (h : Nat) (b : Buf) (s : State) : (setBuf h b s).cpu = s.cpu := rfl
@[simp] theorem setBuf_task (h : Nat) (b : Buf) (s : State) : (setBuf h b s).task = s.task := rfl
@[simp] theorem setBuf_eng (h : Nat) (b : Buf) (s : State) : (setBuf h b s).eng = s.eng := rfl
@[simp] theorem setBuf_keys (h : Nat) (b : Buf) (s : State) : (setBuf h b s).keys = s.keys := rfl
@[simp] theorem setBuf_par (h : Nat) (b : Buf) (s : State) : (setBuf h b s).par = s.par := rfl
@[simp] theorem setBuf_arr (h : Nat) (b : Buf) (s : State) : (setBuf h b s).arr = s.arr := rfl
@[simp] theorem setBuf_evr (h : Nat) (b : Buf) (s : State) : (setBuf h b s).evr = s.evr := rfl
@[simp] theorem setBuf_flt (h : Nat) (b : Buf) (s : State) : (setBuf h b s).flt = s.flt := rfl
@[simp] theorem setBuf_phys (h : Nat) (b : Buf) (s : State) : (setBuf h b s).phys = s.phys := rfl
@[simp] theorem setBuf_host (h : Nat) (b : Buf) (s : State) : (setBuf h b s).host = s.host := rfl
@[simp] theorem setBuf_mir (h : Nat) (b : Buf) (s : State) : (setBuf h b s).mir = s.mir := rfl
@[simp] theorem setBuf_fence (h : Nat) (b : Buf) (s : State) : (setBuf h b s).fence = s.fence := rfl
@[simp] theorem setBuf_rrn (h : Nat) (b : Buf) (s : State) : (setBuf h b s).rrn = s.rrn := rfl
@[simp] theorem setBuf_pwr (h : Nat) (b : Buf) (s : State) : (setBuf h b s).pwr = s.pwr := rfl
@[simp] theorem setBuf_sec (h : Nat) (b : Buf) (s : State) : (setBuf h b s).sec = s.sec := rfl
@[simp] theorem setBuf_chip (h : Nat) (b : Buf) (s : State) : (setBuf h b s).chip = s.chip := rfl

@[simp] theorem setEngQueue_regs (e u : Nat) (l : List Chain) (s : State) : (setEngQueue e u l s).regs = s.regs := rfl
@[simp] theorem setEngQueue_mem (e u : Nat) (l : List Chain) (s : State) : (setEngQueue e u l s).mem = s.mem := rfl
@[simp] theorem setEngQueue_pending (e u : Nat) (l : List Chain) (s : State) : (setEngQueue e u l s).pending = s.pending := rfl
@[simp] theorem setEngQueue_outbox (e u : Nat) (l : List Chain) (s : State) : (setEngQueue e u l s).outbox = s.outbox := rfl
@[simp] theorem setEngQueue_freeCtr (e u : Nat) (l : List Chain) (s : State) : (setEngQueue e u l s).freeCtr = s.freeCtr := rfl
@[simp] theorem setEngQueue_cpu (e u : Nat) (l : List Chain) (s : State) : (setEngQueue e u l s).cpu = s.cpu := rfl
@[simp] theorem setEngQueue_task (e u : Nat) (l : List Chain) (s : State) : (setEngQueue e u l s).task = s.task := rfl
@[simp] theorem setEngQueue_bpm (e u : Nat) (l : List Chain) (s : State) : (setEngQueue e u l s).bpm = s.bpm := rfl
@[simp] theorem setEngQueue_keys (e u : Nat) (l : List Chain) (s : State) : (setEngQueue e u l s).keys = s.keys := rfl
@[simp] theorem setEngQueue_par (e u : Nat) (l : List Chain) (s : State) : (setEngQueue e u l s).par = s.par := rfl
@[simp] theorem setEngQueue_arr (e u : Nat) (l : List Chain) (s : State) : (setEngQueue e u l s).arr = s.arr := rfl
@[simp] theorem setEngQueue_evr (e u : Nat) (l : List Chain) (s : State) : (setEngQueue e u l s).evr = s.evr := rfl
@[simp] theorem setEngQueue_flt (e u : Nat) (l : List Chain) (s : State) : (setEngQueue e u l s).flt = s.flt := rfl
@[simp] theorem setEngQueue_phys (e u : Nat) (l : List Chain) (s : State) : (setEngQueue e u l s).phys = s.phys := rfl
@[simp] theorem setEngQueue_host (e u : Nat) (l : List Chain) (s : State) : (setEngQueue e u l s).host = s.host := rfl
@[simp] theorem setEngQueue_mir (e u : Nat) (l : List Chain) (s : State) : (setEngQueue e u l s).mir = s.mir := rfl
@[simp] theorem setEngQueue_fence (e u : Nat) (l : List Chain) (s : State) : (setEngQueue e u l s).fence = s.fence := rfl
@[simp] theorem setEngQueue_rrn (e u : Nat) (l : List Chain) (s : State) : (setEngQueue e u l s).rrn = s.rrn := rfl
@[simp] theorem setEngQueue_pwr (e u : Nat) (l : List Chain) (s : State) : (setEngQueue e u l s).pwr = s.pwr := rfl
@[simp] theorem setEngQueue_sec (e u : Nat) (l : List Chain) (s : State) : (setEngQueue e u l s).sec = s.sec := rfl
@[simp] theorem setEngQueue_chip (e u : Nat) (l : List Chain) (s : State) : (setEngQueue e u l s).chip = s.chip := rfl

@[simp] theorem setKey_regs (n : Nat) (k : KeySlot) (s : State) : (setKey n k s).regs = s.regs := rfl
@[simp] theorem setKey_mem (n : Nat) (k : KeySlot) (s : State) : (setKey n k s).mem = s.mem := rfl
@[simp] theorem setKey_pending (n : Nat) (k : KeySlot) (s : State) : (setKey n k s).pending = s.pending := rfl
@[simp] theorem setKey_outbox (n : Nat) (k : KeySlot) (s : State) : (setKey n k s).outbox = s.outbox := rfl
@[simp] theorem setKey_freeCtr (n : Nat) (k : KeySlot) (s : State) : (setKey n k s).freeCtr = s.freeCtr := rfl
@[simp] theorem setKey_cpu (n : Nat) (k : KeySlot) (s : State) : (setKey n k s).cpu = s.cpu := rfl
@[simp] theorem setKey_task (n : Nat) (k : KeySlot) (s : State) : (setKey n k s).task = s.task := rfl
@[simp] theorem setKey_eng (n : Nat) (k : KeySlot) (s : State) : (setKey n k s).eng = s.eng := rfl
@[simp] theorem setKey_bpm (n : Nat) (k : KeySlot) (s : State) : (setKey n k s).bpm = s.bpm := rfl
@[simp] theorem setKey_par (n : Nat) (k : KeySlot) (s : State) : (setKey n k s).par = s.par := rfl
@[simp] theorem setKey_arr (n : Nat) (k : KeySlot) (s : State) : (setKey n k s).arr = s.arr := rfl
@[simp] theorem setKey_evr (n : Nat) (k : KeySlot) (s : State) : (setKey n k s).evr = s.evr := rfl
@[simp] theorem setKey_flt (n : Nat) (k : KeySlot) (s : State) : (setKey n k s).flt = s.flt := rfl
@[simp] theorem setKey_phys (n : Nat) (k : KeySlot) (s : State) : (setKey n k s).phys = s.phys := rfl
@[simp] theorem setKey_host (n : Nat) (k : KeySlot) (s : State) : (setKey n k s).host = s.host := rfl
@[simp] theorem setKey_mir (n : Nat) (k : KeySlot) (s : State) : (setKey n k s).mir = s.mir := rfl
@[simp] theorem setKey_fence (n : Nat) (k : KeySlot) (s : State) : (setKey n k s).fence = s.fence := rfl
@[simp] theorem setKey_rrn (n : Nat) (k : KeySlot) (s : State) : (setKey n k s).rrn = s.rrn := rfl
@[simp] theorem setKey_pwr (n : Nat) (k : KeySlot) (s : State) : (setKey n k s).pwr = s.pwr := rfl
@[simp] theorem setKey_sec (n : Nat) (k : KeySlot) (s : State) : (setKey n k s).sec = s.sec := rfl
@[simp] theorem setKey_chip (n : Nat) (k : KeySlot) (s : State) : (setKey n k s).chip = s.chip := rfl

@[simp] theorem onArr_regs (f : Arr → Arr) (s : State) : (onArr f s).regs = s.regs := rfl
@[simp] theorem onArr_mem (f : Arr → Arr) (s : State) : (onArr f s).mem = s.mem := rfl
@[simp] theorem onArr_pending (f : Arr → Arr) (s : State) : (onArr f s).pending = s.pending := rfl
@[simp] theorem onArr_outbox (f : Arr → Arr) (s : State) : (onArr f s).outbox = s.outbox := rfl
@[simp] theorem onArr_freeCtr (f : Arr → Arr) (s : State) : (onArr f s).freeCtr = s.freeCtr := rfl
@[simp] theorem onArr_cpu (f : Arr → Arr) (s : State) : (onArr f s).cpu = s.cpu := rfl
@[simp] theorem onArr_task (f : Arr → Arr) (s : State) : (onArr f s).task = s.task := rfl
@[simp] theorem onArr_eng (f : Arr → Arr) (s : State) : (onArr f s).eng = s.eng := rfl
@[simp] theorem onArr_bpm (f : Arr → Arr) (s : State) : (onArr f s).bpm = s.bpm := rfl
@[simp] theorem onArr_keys (f : Arr → Arr) (s : State) : (onArr f s).keys = s.keys := rfl
@[simp] theorem onArr_par (f : Arr → Arr) (s : State) : (onArr f s).par = s.par := rfl
@[simp] theorem onArr_evr (f : Arr → Arr) (s : State) : (onArr f s).evr = s.evr := rfl
@[simp] theorem onArr_flt (f : Arr → Arr) (s : State) : (onArr f s).flt = s.flt := rfl
@[simp] theorem onArr_phys (f : Arr → Arr) (s : State) : (onArr f s).phys = s.phys := rfl
@[simp] theorem onArr_host (f : Arr → Arr) (s : State) : (onArr f s).host = s.host := rfl
@[simp] theorem onArr_mir (f : Arr → Arr) (s : State) : (onArr f s).mir = s.mir := rfl
@[simp] theorem onArr_fence (f : Arr → Arr) (s : State) : (onArr f s).fence = s.fence := rfl
@[simp] theorem onArr_rrn (f : Arr → Arr) (s : State) : (onArr f s).rrn = s.rrn := rfl
@[simp] theorem onArr_pwr (f : Arr → Arr) (s : State) : (onArr f s).pwr = s.pwr := rfl
@[simp] theorem onArr_sec (f : Arr → Arr) (s : State) : (onArr f s).sec = s.sec := rfl
@[simp] theorem onArr_chip (f : Arr → Arr) (s : State) : (onArr f s).chip = s.chip := rfl

@[simp] theorem onRrn_regs (f : Rrn → Rrn) (s : State) : (onRrn f s).regs = s.regs := rfl
@[simp] theorem onRrn_mem (f : Rrn → Rrn) (s : State) : (onRrn f s).mem = s.mem := rfl
@[simp] theorem onRrn_pending (f : Rrn → Rrn) (s : State) : (onRrn f s).pending = s.pending := rfl
@[simp] theorem onRrn_outbox (f : Rrn → Rrn) (s : State) : (onRrn f s).outbox = s.outbox := rfl
@[simp] theorem onRrn_freeCtr (f : Rrn → Rrn) (s : State) : (onRrn f s).freeCtr = s.freeCtr := rfl
@[simp] theorem onRrn_cpu (f : Rrn → Rrn) (s : State) : (onRrn f s).cpu = s.cpu := rfl
@[simp] theorem onRrn_task (f : Rrn → Rrn) (s : State) : (onRrn f s).task = s.task := rfl
@[simp] theorem onRrn_eng (f : Rrn → Rrn) (s : State) : (onRrn f s).eng = s.eng := rfl
@[simp] theorem onRrn_bpm (f : Rrn → Rrn) (s : State) : (onRrn f s).bpm = s.bpm := rfl
@[simp] theorem onRrn_keys (f : Rrn → Rrn) (s : State) : (onRrn f s).keys = s.keys := rfl
@[simp] theorem onRrn_par (f : Rrn → Rrn) (s : State) : (onRrn f s).par = s.par := rfl
@[simp] theorem onRrn_arr (f : Rrn → Rrn) (s : State) : (onRrn f s).arr = s.arr := rfl
@[simp] theorem onRrn_evr (f : Rrn → Rrn) (s : State) : (onRrn f s).evr = s.evr := rfl
@[simp] theorem onRrn_flt (f : Rrn → Rrn) (s : State) : (onRrn f s).flt = s.flt := rfl
@[simp] theorem onRrn_phys (f : Rrn → Rrn) (s : State) : (onRrn f s).phys = s.phys := rfl
@[simp] theorem onRrn_host (f : Rrn → Rrn) (s : State) : (onRrn f s).host = s.host := rfl
@[simp] theorem onRrn_mir (f : Rrn → Rrn) (s : State) : (onRrn f s).mir = s.mir := rfl
@[simp] theorem onRrn_fence (f : Rrn → Rrn) (s : State) : (onRrn f s).fence = s.fence := rfl
@[simp] theorem onRrn_pwr (f : Rrn → Rrn) (s : State) : (onRrn f s).pwr = s.pwr := rfl
@[simp] theorem onRrn_sec (f : Rrn → Rrn) (s : State) : (onRrn f s).sec = s.sec := rfl
@[simp] theorem onRrn_chip (f : Rrn → Rrn) (s : State) : (onRrn f s).chip = s.chip := rfl

@[simp] theorem setMeas_regs (i : Nat) (d : Digest) (s : State) : (setMeas i d s).regs = s.regs := rfl
@[simp] theorem setMeas_mem (i : Nat) (d : Digest) (s : State) : (setMeas i d s).mem = s.mem := rfl
@[simp] theorem setMeas_pending (i : Nat) (d : Digest) (s : State) : (setMeas i d s).pending = s.pending := rfl
@[simp] theorem setMeas_outbox (i : Nat) (d : Digest) (s : State) : (setMeas i d s).outbox = s.outbox := rfl
@[simp] theorem setMeas_freeCtr (i : Nat) (d : Digest) (s : State) : (setMeas i d s).freeCtr = s.freeCtr := rfl
@[simp] theorem setMeas_cpu (i : Nat) (d : Digest) (s : State) : (setMeas i d s).cpu = s.cpu := rfl
@[simp] theorem setMeas_task (i : Nat) (d : Digest) (s : State) : (setMeas i d s).task = s.task := rfl
@[simp] theorem setMeas_eng (i : Nat) (d : Digest) (s : State) : (setMeas i d s).eng = s.eng := rfl
@[simp] theorem setMeas_bpm (i : Nat) (d : Digest) (s : State) : (setMeas i d s).bpm = s.bpm := rfl
@[simp] theorem setMeas_keys (i : Nat) (d : Digest) (s : State) : (setMeas i d s).keys = s.keys := rfl
@[simp] theorem setMeas_par (i : Nat) (d : Digest) (s : State) : (setMeas i d s).par = s.par := rfl
@[simp] theorem setMeas_arr (i : Nat) (d : Digest) (s : State) : (setMeas i d s).arr = s.arr := rfl
@[simp] theorem setMeas_evr (i : Nat) (d : Digest) (s : State) : (setMeas i d s).evr = s.evr := rfl
@[simp] theorem setMeas_flt (i : Nat) (d : Digest) (s : State) : (setMeas i d s).flt = s.flt := rfl
@[simp] theorem setMeas_phys (i : Nat) (d : Digest) (s : State) : (setMeas i d s).phys = s.phys := rfl
@[simp] theorem setMeas_host (i : Nat) (d : Digest) (s : State) : (setMeas i d s).host = s.host := rfl
@[simp] theorem setMeas_mir (i : Nat) (d : Digest) (s : State) : (setMeas i d s).mir = s.mir := rfl
@[simp] theorem setMeas_fence (i : Nat) (d : Digest) (s : State) : (setMeas i d s).fence = s.fence := rfl
@[simp] theorem setMeas_rrn (i : Nat) (d : Digest) (s : State) : (setMeas i d s).rrn = s.rrn := rfl
@[simp] theorem setMeas_pwr (i : Nat) (d : Digest) (s : State) : (setMeas i d s).pwr = s.pwr := rfl
@[simp] theorem setMeas_chip (i : Nat) (d : Digest) (s : State) : (setMeas i d s).chip = s.chip := rfl

end Sys2Proof.Machine
end

