-- ==== Sys2Proof/Laws/ControlBus.lean ====
section
/-! SUPPORT. Register commands: what an accepted and a refused write of control space does. -/

namespace Sys2Proof.Machine

open Sys2Proof

/-- The checks of a register command in their order. -/
theorem regCmd_eq (who : CoreId) (a : Nat) (v : Word) (failing : List Nat) (s : State) :
    regCmd who a v failing s = if !executes s who then s else
      match ctlFault who a true v s with
      | some e => raise who e s
      | none =>
        match ctlOff a true s with
        | some n => raise who { cause := 0x06, sub := n, addr := BitVec.ofNat 64 a, done := true } (recordAccessOff n a s)
        | none => writeReg stepOnce who a v failing (ctlUngate a s) := by
  unfold regCmd; rfl

theorem regCmd_clear {who : CoreId} {a : Nat} {v : Word} {failing : List Nat} {s : State} (h1 : executes s who = true)
    (h2 : ctlFault who a true v s = none) (h3 : ctlOff a true s = none) :
    regCmd who a v failing s = writeReg stepOnce who a v failing (ctlUngate a s) := by
  rw [regCmd_eq, h1, h2, h3]; simp only [Bool.not_true, Bool.false_eq_true, if_false]

/-- An accepted write reaches its register. -/
theorem regCmd_accepts {who : CoreId} {a : Nat} {v : Word} {failing : List Nat} {s : State} (h : Accepts who a v s) :
    regCmd who a v failing s = writeReg stepOnce who a v failing (ctlUngate a s) := regCmd_clear h.1 h.2.1 h.2.2

/-- A write that a check stops raises that exception in the writing core and does nothing else. -/
theorem regCmd_faults {who : CoreId} {a : Nat} {v : Word} {failing : List Nat} {e : Exc} {s : State} (h : executes s who = true)
    (hf : ctlFault who a true v s = some e) : regCmd who a v failing s = raise who e s := by
  rw [regCmd_eq, h, hf]; simp only [Bool.not_true, Bool.false_eq_true, if_false]

/-- A write to a register of an island that is off raises ISLAND_OFF with DONE. -/
theorem regCmd_off {who : CoreId} {a : Nat} {v : Word} {failing : List Nat} {n : Nat} {s : State} (h : executes s who = true)
    (hf : ctlFault who a true v s = none) (ho : ctlOff a true s = some n) :
    regCmd who a v failing s = raise who { cause := 0x06, sub := n, addr := BitVec.ofNat 64 a, done := true } (recordAccessOff n a s) := by
  rw [regCmd_eq, h, hf, ho]; simp only [Bool.not_true, Bool.false_eq_true, if_false]

/-! ### Where a write goes, by its block -/

/-- A write to the CHIP block. -/
theorem writeReg_chip {stepper : Nat → State → State} {c : CoreId} {a : Nat} {v : Word} {failing : List Nat} {s : State} (h : blockOf a = 0) :
    writeReg stepper c a v failing s = writeChip a v s := by
  unfold writeReg; rw [h]; rfl

/-- A write to the PWR block. -/
theorem writeReg_power {stepper : Nat → State → State} {c : CoreId} {a : Nat} {v : Word} {failing : List Nat} {s : State} (h : blockOf a = 1) :
    writeReg stepper c a v failing s = writePower a v (clearIrq 1 s) := by
  unfold writeReg; rw [h]; rfl

/-- A write to the EVR block. -/
theorem writeReg_evr {stepper : Nat → State → State} {c : CoreId} {a : Nat} {v : Word} {failing : List Nat} {s : State} (h : blockOf a = 3) :
    writeReg stepper c a v failing s = writeEvr c a v s := by
  unfold writeReg; rw [h]; rfl

/-- A write to the BPM block. -/
theorem writeReg_bpm {stepper : Nat → State → State} {c : CoreId} {a : Nat} {v : Word} {failing : List Nat} {s : State} (h : blockOf a = 4) :
    writeReg stepper c a v failing s = writeBpm a v s := by
  unfold writeReg; rw [h]; rfl

/-- A write to the TSK block. -/
theorem writeReg_tsk {stepper : Nat → State → State} {c : CoreId} {a : Nat} {v : Word} {failing : List Nat} {s : State} (h : blockOf a = 5) :
    writeReg stepper c a v failing s = writeTsk a v s := by
  unfold writeReg; rw [h]; rfl

/-- A write to the NET block. -/
theorem writeReg_net {stepper : Nat → State → State} {c : CoreId} {a : Nat} {v : Word} {failing : List Nat} {s : State} (h : blockOf a = 7) :
    writeReg stepper c a v failing s = settleNet (storeWord a v (clearIrq 6 s)) := by
  unfold writeReg; rw [h]; rfl

/-- A write to the PNL block. -/
theorem writeReg_pnl {stepper : Nat → State → State} {c : CoreId} {a : Nat} {v : Word} {failing : List Nat} {s : State} (h : blockOf a = 9) :
    writeReg stepper c a v failing s = writePnl a v failing (clearIrq 0 s) := by
  unfold writeReg; rw [h]; rfl

/-- A write to the ING block. -/
theorem writeReg_ing {stepper : Nat → State → State} {c : CoreId} {a : Nat} {v : Word} {failing : List Nat} {s : State} (h : blockOf a = 10) :
    writeReg stepper c a v failing s = writeEngine c a v failing s := by
  unfold writeReg; rw [h]; rfl

/-- A write to the CMP block. -/
theorem writeReg_cmp {stepper : Nat → State → State} {c : CoreId} {a : Nat} {v : Word} {failing : List Nat} {s : State} (h : blockOf a = 11) :
    writeReg stepper c a v failing s = writeEngine c a v failing s := by
  unfold writeReg; rw [h]; rfl

/-- A write to the CIP block. -/
theorem writeReg_cip {stepper : Nat → State → State} {c : CoreId} {a : Nat} {v : Word} {failing : List Nat} {s : State} (h : blockOf a = 12) :
    writeReg stepper c a v failing s = writeEngine c a v failing s := by
  unfold writeReg; rw [h]; rfl

/-- A write to the PAR block. -/
theorem writeReg_par {stepper : Nat → State → State} {c : CoreId} {a : Nat} {v : Word} {failing : List Nat} {s : State} (h : blockOf a = 13) :
    writeReg stepper c a v failing s = writeEngine c a v failing s := by
  unfold writeReg; rw [h]; rfl

/-- A write to the PCI block. -/
theorem writeReg_pci {stepper : Nat → State → State} {c : CoreId} {a : Nat} {v : Word} {failing : List Nat} {s : State} (h : blockOf a = 14) :
    writeReg stepper c a v failing s = writePci a v (clearIrq 5 s) := by
  unfold writeReg; rw [h]; rfl

/-- A write to the SHF block. -/
theorem writeReg_shf {stepper : Nat → State → State} {c : CoreId} {a : Nat} {v : Word} {failing : List Nat} {s : State} (h : blockOf a = 16) :
    writeReg stepper c a v failing s = writeShf a v (clearIrq 7 s) := by
  unfold writeReg; rw [h]; rfl

/-- A write to the SEC block. -/
theorem writeReg_sec {stepper : Nat → State → State} {c : CoreId} {a : Nat} {v : Word} {failing : List Nat} {s : State} (h : blockOf a = 17) :
    writeReg stepper c a v failing s = writeSec c a v (clearIrq 9 s) := by
  unfold writeReg; rw [h]; rfl

/-- A write to the DPC block. -/
theorem writeReg_dpc {stepper : Nat → State → State} {c : CoreId} {a : Nat} {v : Word} {failing : List Nat} {s : State} (h : blockOf a = 19) :
    writeReg stepper c a v failing s = writeDpc stepper a v s := by
  unfold writeReg; rw [h]; rfl

/-- The command bit that a command sets is set. -/
theorem wbit_withBit (a b : Nat) (s : State) (h : b < 64) : wbit (withBit a b s) b = true := by
  unfold wbit withBit; rw [BitVec.toNat_ofNat, Nat.testBit_mod_two_pow]; simp [h, Nat.testBit_or, Nat.testBit_two_pow_self]

end Sys2Proof.Machine
end

