-- ==== Sys2Proof/Laws/KMap.lean ====
section
/-! SUPPORT. Sparse tables: what an entry reads as after a write, and that every operation keeps the keys rising and the form canonical. -/

namespace Sys2Proof.Machine

variable {V : Type}

theorem kfind_below (m : KMap V) (b k : Nat) (hs : ksortedFrom (some b) m = true) (hk : k ≤ b) : kfind m k = none := by
  cases m with
  | nil => rfl
  | cons p m =>
    obtain ⟨a, v⟩ := p
    simp only [ksortedFrom, Bool.and_eq_true, decide_eq_true_eq] at hs
    simp only [kfind]
    rw [if_neg (by omega), if_pos (by omega)]

theorem kfind_kput_same (m : KMap V) (k : Nat) (v : V) : kfind (kput m k v) k = some v := by
  induction m with
  | nil => simp [kput, kfind]
  | cons p m ih =>
    obtain ⟨a, w⟩ := p
    simp only [kput]
    split
    · simp [kfind]
    · split
      · simp [kfind]
      · rename_i h1 h2
        simp only [kfind, if_neg h1, if_neg h2, ih]

theorem kfind_kput_other (m : KMap V) (k j : Nat) (v : V) (h : j ≠ k) : kfind (kput m k v) j = kfind m j := by
  induction m with
  | nil =>
    simp only [kput, kfind, if_neg h]
    split <;> rfl
  | cons p m ih =>
    obtain ⟨a, w⟩ := p
    simp only [kput]
    split
    · rename_i h1; subst h1; simp only [kfind, if_neg h]
    · split
      · rename_i h1 h2
        simp only [kfind, if_neg h]
        by_cases hj : j < k
        · rw [if_pos hj, if_neg (by omega), if_pos (by omega)]
        · rw [if_neg hj]
      · simp only [kfind, ih]

@[simp] theorem kget_kput_same (d : V) (m : KMap V) (k : Nat) (v : V) : kget d (kput m k v) k = v := by
  simp [kget, kfind_kput_same]

theorem kget_kput_other (d : V) (m : KMap V) (k j : Nat) (v : V) (h : j ≠ k) : kget d (kput m k v) j = kget d m j := by
  simp [kget, kfind_kput_other m k j v h]

@[simp] theorem kget_kmod_same (d : V) (m : KMap V) (k : Nat) (f : V → V) : kget d (kmod d m k f) k = f (kget d m k) := by
  simp [kmod]

theorem kget_kmod_other (d : V) (m : KMap V) (k j : Nat) (f : V → V) (h : j ≠ k) : kget d (kmod d m k f) j = kget d m j := by
  simp [kmod, kget_kput_other d m k j _ h]

/-- Rising keys above a bound stay above it when a key above it is written. -/
theorem ksortedFrom_kput (lo : Option Nat) (m : KMap V) (k : Nat) (v : V) (hm : ksortedFrom lo m = true)
    (hk : ∀ b, lo = some b → b < k) : ksortedFrom lo (kput m k v) = true := by
  induction m generalizing lo with
  | nil =>
    cases lo with
    | none => rfl
    | some b => simpa [kput, ksortedFrom] using hk b rfl
  | cons p m ih =>
    obtain ⟨a, w⟩ := p
    simp only [ksortedFrom, Bool.and_eq_true] at hm
    simp only [kput]
    split
    · rename_i h1; subst h1; simpa [ksortedFrom] using hm
    · split
      · rename_i h1 h2
        cases lo with
        | none => simp [ksortedFrom, h2, hm.2]
        | some b => simp [ksortedFrom, h2, hm.2, hk b rfl]
      · rename_i h1 h2
        simp only [ksortedFrom, Bool.and_eq_true]
        exact ⟨hm.1, ih (some a) hm.2 (by intro b hb; cases hb; omega)⟩

theorem ksortedFrom_weaken (lo lo' : Nat) (m : KMap V) (h : lo' ≤ lo) (hm : ksortedFrom (some lo) m = true) :
    ksortedFrom (some lo') m = true := by
  cases m with
  | nil => rfl
  | cons p m =>
    simp only [ksortedFrom, Bool.and_eq_true, decide_eq_true_eq] at hm ⊢
    exact ⟨by omega, hm.2⟩

theorem ksortedFrom_none (lo : Nat) (m : KMap V) (hm : ksortedFrom (some lo) m = true) : ksortedFrom none m = true := by
  cases m with
  | nil => rfl
  | cons p m =>
    simp only [ksortedFrom, Bool.and_eq_true] at hm ⊢
    exact ⟨trivial, hm.2⟩

theorem ksortedFrom_kdel (lo : Option Nat) (m : KMap V) (k : Nat) (hm : ksortedFrom lo m = true) :
    ksortedFrom lo (kdel m k) = true := by
  induction m generalizing lo with
  | nil => rfl
  | cons p m ih =>
    obtain ⟨a, w⟩ := p
    simp only [ksortedFrom, Bool.and_eq_true] at hm
    simp only [kdel]
    split
    · cases lo with
      | none => exact ksortedFrom_none a m hm.2
      | some b => exact ksortedFrom_weaken a b m (by have := hm.1; simp at this; omega) hm.2
    · split
      · simp only [ksortedFrom, Bool.and_eq_true]; exact hm
      · simp only [ksortedFrom, Bool.and_eq_true]; exact ⟨hm.1, ih (some a) hm.2⟩

theorem ksorted_kput (m : KMap V) (k : Nat) (v : V) (hm : ksorted m = true) : ksorted (kput m k v) = true :=
  ksortedFrom_kput none m k v hm (by intro b hb; cases hb)

theorem ksorted_kdel (m : KMap V) (k : Nat) (hm : ksorted m = true) : ksorted (kdel m k) = true := ksortedFrom_kdel none m k hm

theorem ksorted_kmod (d : V) (m : KMap V) (k : Nat) (f : V → V) (hm : ksorted m = true) : ksorted (kmod d m k f) = true :=
  ksorted_kput m k _ hm

theorem kfind_kdel_same (lo : Option Nat) (m : KMap V) (k : Nat) (hm : ksortedFrom lo m = true) : kfind (kdel m k) k = none := by
  induction m generalizing lo with
  | nil => rfl
  | cons p m ih =>
    obtain ⟨a, w⟩ := p
    simp only [ksortedFrom, Bool.and_eq_true] at hm
    simp only [kdel]
    split
    · rename_i h1; subst h1; exact kfind_below m k k hm.2 (Nat.le_refl k)
    · split
      · rename_i h1 h2; simp only [kfind, if_neg h1, if_pos h2]
      · rename_i h1 h2; simp only [kfind, if_neg h1, if_neg h2]; exact ih (some a) hm.2

theorem kfind_kdel_other (lo : Option Nat) (m : KMap V) (k j : Nat) (hm : ksortedFrom lo m = true) (h : j ≠ k) :
    kfind (kdel m k) j = kfind m j := by
  induction m generalizing lo with
  | nil => rfl
  | cons p m ih =>
    obtain ⟨a, w⟩ := p
    simp only [ksortedFrom, Bool.and_eq_true] at hm
    simp only [kdel]
    split
    · rename_i h1; subst h1
      simp only [kfind, if_neg h]
      split
      · rename_i h2; exact kfind_below m k j hm.2 (by omega)
      · rfl
    · split
      · rfl
      · simp only [kfind, ih (some a) hm.2]

theorem kget_kset_same [DecidableEq V] (d : V) (m : KMap V) (k : Nat) (v : V) (hm : ksorted m = true) :
    kget d (kset d m k v) k = v := by
  unfold kset
  split
  · rename_i h; subst h; simp [kget, kfind_kdel_same none m k hm]
  · simp

theorem kget_kset_other [DecidableEq V] (d : V) (m : KMap V) (k j : Nat) (v : V) (hm : ksorted m = true) (h : j ≠ k) :
    kget d (kset d m k v) j = kget d m j := by
  unfold kset
  split
  · simp [kget, kfind_kdel_other none m k j hm h]
  · exact kget_kput_other d m k j v h

theorem ksorted_kset [DecidableEq V] (d : V) (m : KMap V) (k : Nat) (v : V) (hm : ksorted m = true) : ksorted (kset d m k v) = true := by
  unfold kset
  split
  · exact ksorted_kdel m k hm
  · exact ksorted_kput m k v hm

theorem kput_all (p : Nat × V → Bool) (m : KMap V) (k : Nat) (v : V) (hm : m.all p = true) (hv : p (k, v) = true) :
    (kput m k v).all p = true := by
  induction m with
  | nil => simp [kput, hv]
  | cons q m ih =>
    obtain ⟨a, w⟩ := q
    rw [List.all_cons, Bool.and_eq_true] at hm
    simp only [kput]
    split
    · rw [List.all_cons, hv, hm.2]; rfl
    · split
      · rw [List.all_cons, List.all_cons, hv, hm.1, hm.2]; rfl
      · rw [List.all_cons, hm.1, ih hm.2]; rfl

theorem kdel_all (p : Nat × V → Bool) (m : KMap V) (k : Nat) (hm : m.all p = true) : (kdel m k).all p = true := by
  induction m with
  | nil => rfl
  | cons q m ih =>
    obtain ⟨a, w⟩ := q
    rw [List.all_cons, Bool.and_eq_true] at hm
    simp only [kdel]
    split
    · exact hm.2
    · split
      · rw [List.all_cons, hm.1, hm.2]; rfl
      · rw [List.all_cons, hm.1, ih hm.2]; rfl

/-- Writing one entry keeps a table canonical. -/
theorem kcanon_kset [DecidableEq V] (d : V) (m : KMap V) (k : Nat) (v : V) (hm : kcanon d m = true) : kcanon d (kset d m k v) = true := by
  unfold kcanon at *
  rw [Bool.and_eq_true] at *
  refine ⟨ksorted_kset d m k v hm.1, ?_⟩
  unfold kset
  split
  · exact kdel_all _ m k hm.2
  · rename_i h; exact kput_all _ m k v hm.2 (by simpa using h)

theorem kcanon_sorted [DecidableEq V] (d : V) (m : KMap V) (hm : kcanon d m = true) : ksorted m = true := by
  unfold kcanon at hm; rw [Bool.and_eq_true] at hm; exact hm.1

end Sys2Proof.Machine
end

