-- ==== Sys2Proof/Laws/Dyris.lean ====
section
/-! SUPPORT. The frame of an instruction: what it does when its own effect comes about, and what reads give after the updates it makes. -/

namespace Sys2Proof.Machine

open Sys2Proof

@[simp] theorem coreOf_setCore (c : CoreId) (x : Core) (s : State) : coreOf (setCore c x s) c = x := kget_kput_same _ _ _ _
@[simp] theorem bankOf_setBank (x : Nat) (b : Bank) (s : State) : bankOf (setBank x b s) x = b := kget_kput_same _ _ _ _
@[simp] theorem bankOf_setCore (c : CoreId) (x : Core) (s : State) (n : Nat) : bankOf (setCore c x s) n = bankOf s n := rfl
@[simp] theorem coreOf_setBank (c : CoreId) (x : Nat) (b : Bank) (s : State) : coreOf (setBank x b s) c = coreOf s c := rfl
@[simp] theorem ctxOf_setBank (c : CoreId) (x : Nat) (b : Bank) (s : State) : ctxOf (setBank x b s) c = ctxOf s c := rfl
@[simp] theorem ctxOf_wr (c c' : CoreId) (r : Rn) (v : Word) (s : State) : ctxOf (wr c r v s) c' = ctxOf s c' := rfl
@[simp] theorem ctxOf_setPc (c c' : CoreId) (v : Word) (s : State) : ctxOf (setPc c v s) c' = ctxOf s c' := rfl
@[simp] theorem coreOf_wr (c c' : CoreId) (r : Rn) (v : Word) (s : State) : coreOf (wr c r v s) c' = coreOf s c' := rfl
@[simp] theorem coreOf_setPc (c c' : CoreId) (v : Word) (s : State) : coreOf (setPc c v s) c' = coreOf s c' := rfl
@[simp] theorem rget_setBank (f : Field) (x : Nat) (b : Bank) (s : State) (i : Nat) : rget f (setBank x b s) i = rget f s i := rfl
@[simp] theorem rget_setCore (f : Field) (c : CoreId) (x : Core) (s : State) (i : Nat) : rget f (setCore c x s) i = rget f s i := rfl

theorem bankOf_setBank_other (x y : Nat) (b : Bank) (s : State) (h : y ≠ x) : bankOf (setBank x b s) y = bankOf s y :=
  kget_kput_other _ _ _ _ _ h

/-- With no mismatch waiting, the comparison passes. -/
theorem lockstep_quiet (c : CoreId) (s : State) (h : isPair c = true → s.cpu.mismatch.getD (c.val - 64) 0 = 0) :
    lockstep c s = (false, s) := by
  unfold lockstep
  dsimp only
  rw [if_pos]
  cases hp : isPair c
  · left; simp
  · right; exact h hp

/-- An instruction whose own effect comes about: its body's answer. -/
theorem runInstr_own {c : CoreId} {n : Nat} {reads : List Rn} {levels : List Nat} {body : State → IRes} {s : State}
    (h : Fetches c reads s) (hl : levels.contains (privOf s c) = true) :
    runInstr c n reads false levels body s =
      match body s with
      | .done t => retire c n (setPc c (pcOf s c + 4) t)
      | .jump t p => retire c n (setPc c p t)
      | .stay t => t
      | .exc e t => raise c e t
      | .off e t => raise c { e with done := true } (countInstr c n t)
      | .left t => countInstr c n t := by
  obtain ⟨he, hm, hb, hf, _⟩ := h
  unfold runInstr
  rw [he, lockstep_quiet c s hm]
  simp only [Bool.not_true, Bool.false_eq_true, if_false, hb, hf, hl]
  all_goals (cases body s <;> rfl)

/-- An instruction that the encoding makes ILLEGAL takes that exception, whatever its level (R107, R111). -/
theorem runInstr_illegal {c : CoreId} {n : Nat} {reads : List Rn} {levels : List Nat} {body : State → IRes} {s : State}
    (h : Fetches c reads s) : runInstr c n reads true levels body s = raise c { cause := 0x01 } s := by
  obtain ⟨he, hm, hb, hf, _⟩ := h
  unfold runInstr
  rw [he, lockstep_quiet c s hm]
  simp only [Bool.not_true, Bool.false_eq_true, if_false, hb, hf, if_true]

/-- An instruction at a level that may not execute it takes PRIV (R102). -/
theorem runInstr_priv {c : CoreId} {n : Nat} {reads : List Rn} {levels : List Nat} {body : State → IRes} {s : State}
    (h : Fetches c reads s) (hl : levels.contains (privOf s c) = false) :
    runInstr c n reads false levels body s = raise c { cause := 0x02 } s := by
  obtain ⟨he, hm, hb, hf, _⟩ := h
  unfold runInstr
  rw [he, lockstep_quiet c s hm]
  simp only [Bool.not_true, Bool.false_eq_true, if_false, hb, hf, hl, Bool.not_false, if_true]

/-- A core that executes nothing is not changed. -/
theorem runInstr_stopped {c : CoreId} {n : Nat} {reads : List Rn} {ill : Bool} {levels : List Nat} {body : State → IRes} {s : State}
    (h : executes s c = false) : runInstr c n reads ill levels body s = s := by
  unfold runInstr; rw [h]; rfl

theorem lvAll_contains {c : CoreId} {reads : List Rn} {s : State} (h : Fetches c reads s) : lvAll.contains (privOf s c) = true := by
  have := h.2.2.2.2
  match hp : privOf s c with
  | 0 => rfl
  | 1 => rfl
  | 2 => rfl
  | n + 3 => omega

theorem badReg_subset {b : Bank} {l m : List Rn} (h : badReg b l = none) (hs : ∀ r ∈ m, r ∈ l) : badReg b m = none := by
  unfold badReg at *
  rw [List.find?_eq_none] at *
  exact fun r hr => h r (hs r hr)

theorem Fetches.subset {c : CoreId} {l m : List Rn} {s : State} (h : Fetches c l s) (hs : ∀ r ∈ m, r ∈ l) : Fetches c m s :=
  ⟨h.1, h.2.1, badReg_subset h.2.2.1 hs, h.2.2.2⟩

end Sys2Proof.Machine
end

