-- ==== Sys2Proof/Laws/Host.lean ====
section
/-! SUPPORT. Host commands in slots: what a command whose task code runs does. -/

namespace Sys2Proof.Machine

open Sys2Proof

/-- The slot's task carries the command. -/
theorem slotCmd_task {i : Nat} {admin : Bool} {opc : Nat} {s : State} {m : HbMsg} (h : slotCmd i admin opc s = some m) :
    (slotOf s i).task.cmd = some m ∧ m.sqe.opc = opc ∧ (m.id.qid == 0) = admin := by
  unfold slotCmd at h
  dsimp only at h
  split at h
  · cases hc : (slotOf s i).task.cmd with
    | none => rw [hc] at h; cases h
    | some x =>
      rw [hc] at h
      simp only [Option.bind_some] at h
      split at h
      · cases h; exact ⟨rfl, by assumption⟩
      · cases h
  · cases h

/-- A command whose task code runs reaches it. -/
theorem hostCmd_runs {i : Nat} {admin : Bool} {opc : Nat} {t : Task} {m : HbMsg} {s : State} (h : HostRuns i admin opc t m s)
    (f : Task → HbMsg → State → State) : hostCmd i admin opc f s = f t m s := by
  obtain ⟨h1, h2, h3, h4, h5⟩ := h
  unfold hostCmd
  simp only [h1]
  rw [if_neg, if_neg, if_neg, h5]
  · simp [h4]
  · rcases h3 with h3 | ⟨h3, h6⟩ <;> simp [*]
  · rintro ⟨a, b⟩; rcases h2 with h2 | h2
    · exact a h2
    · rw [h2] at b; cases b

/-- The cancellation point with CANCEL clear. -/
theorem atPoint_passes {i : Nat} {r w : Bool} {m : HbMsg} {s : State} (h : (slotOf s i).task.cmd = some m) (hc : cancelled i s = false)
    (f : Nat → State → State) :
    atPoint i r w f s = f (addRec i (slotOf s i).task.group (.take r w m.id (slotOf s i).task.wseq m.sqe) s).1
      (passSlot i (addRec i (slotOf s i).task.group (.take r w m.id (slotOf s i).task.wseq m.sqe) s).2) := by
  unfold atPoint
  simp only [h, hc, Bool.false_eq_true, if_false]

/-- An admin command past its cancellation point. -/
theorem adminCmd_runs {i opc : Nat} {t : Task} {m : HbMsg} {u s : State} (h : AdminRuns i opc t m u s) (f : Task → HbMsg → State → State) :
    adminCmd i opc f s = f t m u := by
  obtain ⟨hr, hc, rfl⟩ := h
  unfold adminCmd
  rw [hostCmd_runs hr]
  have ht := (slotCmd_task hr.1).1
  have h5 := hr.2.2.2.2
  cases hl : m.loc
  · simp only [Bool.false_eq_true, if_false]
    rw [atPoint_passes ht hc, ← h5]
  · simp only [hc, Bool.false_eq_true, if_false, if_true]

/-- A Fabrics command past its cancellation point. -/
theorem fabricsCmd_runs {i fctype : Nat} {admin : Bool} {t : Task} {m : HbMsg} {u s : State} (h : FabricsRuns i fctype admin t m u s)
    (f : Task → HbMsg → State → State) : fabricsCmd i fctype admin f s = f t m u := by
  obtain ⟨hr, hn, hc, rfl⟩ := h
  unfold fabricsCmd
  rw [hostCmd_runs hr]
  have ht := (slotCmd_task hr.1).1
  have h5 := hr.2.2.2.2
  simp only [hn, if_true]
  rw [atPoint_passes ht hc, ← h5]

end Sys2Proof.Machine
end

