-- ==== Sys2Proof/Laws/Jobs.lean ====
section
/-! SUPPORT. The job at the head of a unit's queue: what running it does. -/

namespace Sys2Proof.Machine

open Sys2Proof

/-- A unit with a job of the operation runs it and ends it as the job's function says. -/
theorem runUnit_job {e u : Nat} {p : Desc → Bool} {f : Chain → Desc → State → JobRes × State} {c : Chain} {rest : List Chain} {d : Desc} {s : State}
    (h : HasJob e u p c rest d s) :
    runUnit e u p f s = jobEnds c d u (f c d (takeJob e u rest d s)).1 (f c d (takeJob e u rest d s)).2 := by
  obtain ⟨h1, h2, h3, h4⟩ := h
  unfold runUnit
  rw [h1, h2]
  cases hd : c.descs with
  | nil => rw [hd] at h3; simp at h3
  | cons x l =>
    rw [hd] at h3
    simp only [List.head?_cons, Option.some.injEq] at h3
    subst h3
    simp only [Bool.false_eq_true, if_false, hd, h4, if_true]
    rfl

/-- A job that names no place beside its buffers wakes nothing. -/
theorem takeJob_none {e u : Nat} {rest : List Chain} {d : Desc} {s : State} (h : jobPlace d = none) : takeJob e u rest d s = setEngQueue e u rest s := by
  unfold takeJob
  rw [h]
  rfl

/-- A unit whose queue is empty, or whose island is off, does nothing. -/
theorem runUnit_none {e u : Nat} {p : Desc → Bool} {f : Chain → Desc → State → JobRes × State} {s : State}
    (h : islandOff (engIsland e) s = true ∨ engQueue e u s = []) : runUnit e u p f s = s := by
  unfold runUnit
  rcases h with h | h
  · rw [h]; rfl
  · rw [h]; split <;> rfl

/-- With no test waiting for a gated island, none is run first. -/
theorem runDue_none {s : State} (h : s.pwr.katDue = []) : runDue s = s := by
  unfold runDue
  rw [h]
  show { s with pwr := { s.pwr with katDue := [] } } = s
  rw [← h]

/-- A job that reads its input and writes bytes that fit ends OK with them written. -/
theorem runInOut_writes {c : Chain} {d : Desc} {f : List Byte → State → Nat × List Byte × State} {s v w : State} {data out : List Byte}
    {oh oo cap : Nat} {al : Bool} (h : FindsBuffers c d s data oh oo cap al v) (hf : f data v = (jOk, out, w)) (hc : out.length ≤ cap) :
    runInOut c d f s = ({ outBytes := out.length, outHandle := some (oo * 2 ^ 32 + oh), alloc := if al then some oh else none }, writeBuf oh oo out w) := by
  obtain ⟨s1, h1, h2⟩ := h
  unfold runInOut
  simp only [h1, h2, hf]
  rw [if_neg (by simp), if_neg (by omega)]

end Sys2Proof.Machine
end

