-- ==== Sys2Proof/Laws/Memory.lean ====
section
/-! SUPPORT. Memory: a write keeps the canonical form, its bytes read back, and every other byte stays. -/

namespace Sys2Proof.Machine

open Sys2Proof

theorem memWriteCells_wf (m : List Host.Cell) (k : Nat) (l : List Byte) (h : Memory.wf m = true) : Memory.wf (memWriteCells m k l) = true := by
  induction l generalizing m k with
  | nil => exact h
  | cons b l ih => exact ih _ _ (kcanon_kset 0 m k b h)

/-- Every write of memory keeps its canonical form. -/
theorem memWrite_wf (k : Nat) (l : List Byte) (s : State) (h : Memory.wf s.mem = true) : Memory.wf (memWrite k l s).mem = true :=
  memWriteCells_wf s.mem k l h

theorem memWriteCells_other (m : List Host.Cell) (k j : Nat) (l : List Byte) (h : Memory.wf m = true) (hj : j < k ∨ k + l.length ≤ j) :
    kget 0 (memWriteCells m k l) j = kget 0 m j := by
  induction l generalizing m k with
  | nil => rfl
  | cons b l ih =>
    simp only [List.length_cons] at hj
    have h1 := ih (kset 0 m k b) (k + 1) (kcanon_kset 0 m k b h) (by omega)
    have h2 := kget_kset_other 0 m k j b (kcanon_sorted 0 m h) (by omega)
    exact h1.trans h2

theorem memWriteCells_at (m : List Host.Cell) (k i : Nat) (l : List Byte) (h : Memory.wf m = true) (hi : i < l.length) :
    kget 0 (memWriteCells m k l) (k + i) = l[i] := by
  induction l generalizing m k i with
  | nil => simp at hi
  | cons b l ih =>
    cases i with
    | zero =>
      have h1 := memWriteCells_other (kset 0 m k b) (k + 1) (k + 0) l (kcanon_kset 0 m k b h) (by omega)
      have h2 := kget_kset_same 0 m k b (kcanon_sorted 0 m h)
      exact h1.trans h2
    | succ i =>
      simp only [List.length_cons] at hi
      have h1 := ih (kset 0 m k b) (k + 1) i (kcanon_kset 0 m k b h) (by omega)
      rw [show k + (i + 1) = k + 1 + i by omega]
      simpa [memWriteCells] using h1

/-- A byte outside a write reads as before. -/
theorem memByte_memWrite_other (k j : Nat) (l : List Byte) (s : State) (h : Memory.wf s.mem = true) (hj : j < k ∨ k + l.length ≤ j) :
    memByte (memWrite k l s) j = memByte s j := memWriteCells_other s.mem k j l h hj

/-- A byte inside a write reads as written. -/
theorem memByte_memWrite_at (k i : Nat) (l : List Byte) (s : State) (h : Memory.wf s.mem = true) (hi : i < l.length) :
    memByte (memWrite k l s) (k + i) = l[i] := memWriteCells_at s.mem k i l h hi

theorem memRead_length (s : State) (k n : Nat) : (memRead s k n).length = n := by
  induction n generalizing k with
  | zero => rfl
  | succ n ih => simp [memRead, ih]

theorem memRead_congr (s t : State) (k n : Nat) (h : ∀ i, i < n → memByte s (k + i) = memByte t (k + i)) : memRead s k n = memRead t k n := by
  induction n generalizing k with
  | zero => rfl
  | succ n ih =>
    simp only [memRead]
    rw [show memByte s k = memByte t k from h 0 (by omega)]
    rw [ih (k + 1) (fun i hi => by rw [show k + 1 + i = k + (i + 1) by omega]; exact h (i + 1) (by omega))]

/-- What was written is what is read. -/
theorem memRead_memWrite (k : Nat) (l : List Byte) (s : State) (h : Memory.wf s.mem = true) : memRead (memWrite k l s) k l.length = l := by
  apply List.ext_getElem
  · rw [memRead_length]
  · intro i h1 h2
    have key : ∀ (n : Nat) (t : State) (k i : Nat) (hi : i < (memRead t k n).length), (memRead t k n)[i] = memByte t (k + i) := by
      intro n
      induction n with
      | zero => intro t k i hi; simp [memRead] at hi
      | succ n ih =>
        intro t k i hi
        cases i with
        | zero => rfl
        | succ i =>
          simp only [memRead, List.getElem_cons_succ]
          rw [ih t (k + 1) i, show k + 1 + i = k + (i + 1) by omega]
    rw [key l.length _ k i h1]
    exact memByte_memWrite_at k i l s h h2

/-- The bytes of a number spell it. -/
theorem ofLe_leBytes (n x : Nat) : ofLe (leBytes n x) = x % 256 ^ n := by
  induction n generalizing x with
  | zero => simp [leBytes, ofLe, Nat.mod_one]
  | succ n ih =>
    simp only [leBytes, ofLe, ih, BitVec.toNat_ofNat]
    have h := Nat.mod_mul (a := 256) (b := 256 ^ n) (x := x)
    rw [show 256 ^ (n + 1) = 256 * 256 ^ n by rw [Nat.pow_add_one, Nat.mul_comm]]
    omega

@[simp] theorem leBytes_length (n x : Nat) : (leBytes n x).length = n := by
  induction n generalizing x with
  | zero => rfl
  | succ n ih => simp [leBytes, ih]

end Sys2Proof.Machine
end

