-- ==== Sys2Proof/Laws/Recorder.lean ====
section
/-! SUPPORT. Recording an event touches the register file and the recorder and nothing else (R400 to R411). -/

namespace Sys2Proof.Machine

open Sys2Proof

theorem openHead_frame (s : State) : ∃ r v, openHead s = { s with regs := r, evr := v } := by
  unfold openHead
  split
  · exact ⟨s.regs, s.evr, rfl⟩
  · split
    · exact ⟨_, s.evr, rfl⟩
    · split
      · exact ⟨_, _, rfl⟩
      · exact ⟨_, _, rfl⟩

theorem syncOpen_frame (w : Evr) (s : State) : ∃ r v, syncFifo (openHead { s with evr := w }) = { s with regs := r, evr := v } := by
  obtain ⟨r, v, h⟩ := openHead_frame { s with evr := w }
  rw [h]
  exact ⟨_, v, rfl⟩

theorem enterFifo_frame (e : EvEntry) (s : State) : ∃ r v, enterFifo e s = { s with regs := r, evr := v } := syncOpen_frame _ s

theorem dropReport_frame (e : EvEntry) (s : State) : ∃ r v, dropReport e s = { s with regs := r, evr := v } := by
  unfold dropReport
  dsimp only
  split <;> split <;> exact ⟨_, _, rfl⟩

theorem enterOrDrop_frame (p : Prop) [Decidable p] (e : EvEntry) (s : State) :
    ∃ r v, (if p then (Intake.entered, enterFifo e s) else (Intake.dropped, dropReport e s)).2 = { s with regs := r, evr := v } := by
  by_cases h : p
  · rw [if_pos h]; exact enterFifo_frame e s
  · rw [if_neg h]; exact dropReport_frame e s

theorem intake_frame (e : EvEntry) (s : State) : ∃ r v, (intake e s).2 = { s with regs := r, evr := v } := by
  unfold intake
  split
  · split
    · exact syncOpen_frame _ s
    · exact enterOrDrop_frame _ e s
  · split
    · exact dropReport_frame e s
    · exact enterFifo_frame e s

theorem opEventReport_frame (r : EvReport) (s : State) : ∃ g v, opEventReport r s = { s with regs := g, evr := v } :=
  intake_frame (entryOf r s) s

@[simp] theorem opEventReport_mem (r : EvReport) (s : State) : (opEventReport r s).mem = s.mem := by
  obtain ⟨g, v, h⟩ := opEventReport_frame r s; rw [h]
@[simp] theorem opEventReport_pending (r : EvReport) (s : State) : (opEventReport r s).pending = s.pending := by
  obtain ⟨g, v, h⟩ := opEventReport_frame r s; rw [h]
@[simp] theorem opEventReport_outbox (r : EvReport) (s : State) : (opEventReport r s).outbox = s.outbox := by
  obtain ⟨g, v, h⟩ := opEventReport_frame r s; rw [h]
@[simp] theorem opEventReport_freeCtr (r : EvReport) (s : State) : (opEventReport r s).freeCtr = s.freeCtr := by
  obtain ⟨g, v, h⟩ := opEventReport_frame r s; rw [h]
@[simp] theorem opEventReport_cpu (r : EvReport) (s : State) : (opEventReport r s).cpu = s.cpu := by
  obtain ⟨g, v, h⟩ := opEventReport_frame r s; rw [h]
@[simp] theorem opEventReport_task (r : EvReport) (s : State) : (opEventReport r s).task = s.task := by
  obtain ⟨g, v, h⟩ := opEventReport_frame r s; rw [h]
@[simp] theorem opEventReport_eng (r : EvReport) (s : State) : (opEventReport r s).eng = s.eng := by
  obtain ⟨g, v, h⟩ := opEventReport_frame r s; rw [h]
@[simp] theorem opEventReport_bpm (r : EvReport) (s : State) : (opEventReport r s).bpm = s.bpm := by
  obtain ⟨g, v, h⟩ := opEventReport_frame r s; rw [h]
@[simp] theorem opEventReport_keys (r : EvReport) (s : State) : (opEventReport r s).keys = s.keys := by
  obtain ⟨g, v, h⟩ := opEventReport_frame r s; rw [h]
@[simp] theorem opEventReport_par (r : EvReport) (s : State) : (opEventReport r s).par = s.par := by
  obtain ⟨g, v, h⟩ := opEventReport_frame r s; rw [h]
@[simp] theorem opEventReport_arr (r : EvReport) (s : State) : (opEventReport r s).arr = s.arr := by
  obtain ⟨g, v, h⟩ := opEventReport_frame r s; rw [h]
@[simp] theorem opEventReport_flt (r : EvReport) (s : State) : (opEventReport r s).flt = s.flt := by
  obtain ⟨g, v, h⟩ := opEventReport_frame r s; rw [h]
@[simp] theorem opEventReport_phys (r : EvReport) (s : State) : (opEventReport r s).phys = s.phys := by
  obtain ⟨g, v, h⟩ := opEventReport_frame r s; rw [h]
@[simp] theorem opEventReport_host (r : EvReport) (s : State) : (opEventReport r s).host = s.host := by
  obtain ⟨g, v, h⟩ := opEventReport_frame r s; rw [h]
@[simp] theorem opEventReport_mir (r : EvReport) (s : State) : (opEventReport r s).mir = s.mir := by
  obtain ⟨g, v, h⟩ := opEventReport_frame r s; rw [h]
@[simp] theorem opEventReport_fence (r : EvReport) (s : State) : (opEventReport r s).fence = s.fence := by
  obtain ⟨g, v, h⟩ := opEventReport_frame r s; rw [h]
@[simp] theorem opEventReport_rrn (r : EvReport) (s : State) : (opEventReport r s).rrn = s.rrn := by
  obtain ⟨g, v, h⟩ := opEventReport_frame r s; rw [h]
@[simp] theorem opEventReport_pwr (r : EvReport) (s : State) : (opEventReport r s).pwr = s.pwr := by
  obtain ⟨g, v, h⟩ := opEventReport_frame r s; rw [h]
@[simp] theorem opEventReport_sec (r : EvReport) (s : State) : (opEventReport r s).sec = s.sec := by
  obtain ⟨g, v, h⟩ := opEventReport_frame r s; rw [h]
@[simp] theorem opEventReport_chip (r : EvReport) (s : State) : (opEventReport r s).chip = s.chip := by
  obtain ⟨g, v, h⟩ := opEventReport_frame r s; rw [h]
@[simp] theorem record_mem (a b c : Nat) (p : List Byte) (s : State) : (record a b c p s).mem = s.mem := opEventReport_mem _ s
@[simp] theorem record_pending (a b c : Nat) (p : List Byte) (s : State) : (record a b c p s).pending = s.pending := opEventReport_pending _ s
@[simp] theorem record_outbox (a b c : Nat) (p : List Byte) (s : State) : (record a b c p s).outbox = s.outbox := opEventReport_outbox _ s
@[simp] theorem record_freeCtr (a b c : Nat) (p : List Byte) (s : State) : (record a b c p s).freeCtr = s.freeCtr := opEventReport_freeCtr _ s
@[simp] theorem record_cpu (a b c : Nat) (p : List Byte) (s : State) : (record a b c p s).cpu = s.cpu := opEventReport_cpu _ s
@[simp] theorem record_task (a b c : Nat) (p : List Byte) (s : State) : (record a b c p s).task = s.task := opEventReport_task _ s
@[simp] theorem record_eng (a b c : Nat) (p : List Byte) (s : State) : (record a b c p s).eng = s.eng := opEventReport_eng _ s
@[simp] theorem record_bpm (a b c : Nat) (p : List Byte) (s : State) : (record a b c p s).bpm = s.bpm := opEventReport_bpm _ s
@[simp] theorem record_keys (a b c : Nat) (p : List Byte) (s : State) : (record a b c p s).keys = s.keys := opEventReport_keys _ s
@[simp] theorem record_par (a b c : Nat) (p : List Byte) (s : State) : (record a b c p s).par = s.par := opEventReport_par _ s
@[simp] theorem record_arr (a b c : Nat) (p : List Byte) (s : State) : (record a b c p s).arr = s.arr := opEventReport_arr _ s
@[simp] theorem record_flt (a b c : Nat) (p : List Byte) (s : State) : (record a b c p s).flt = s.flt := opEventReport_flt _ s
@[simp] theorem record_phys (a b c : Nat) (p : List Byte) (s : State) : (record a b c p s).phys = s.phys := opEventReport_phys _ s
@[simp] theorem record_host (a b c : Nat) (p : List Byte) (s : State) : (record a b c p s).host = s.host := opEventReport_host _ s
@[simp] theorem record_mir (a b c : Nat) (p : List Byte) (s : State) : (record a b c p s).mir = s.mir := opEventReport_mir _ s
@[simp] theorem record_fence (a b c : Nat) (p : List Byte) (s : State) : (record a b c p s).fence = s.fence := opEventReport_fence _ s
@[simp] theorem record_rrn (a b c : Nat) (p : List Byte) (s : State) : (record a b c p s).rrn = s.rrn := opEventReport_rrn _ s
@[simp] theorem record_pwr (a b c : Nat) (p : List Byte) (s : State) : (record a b c p s).pwr = s.pwr := opEventReport_pwr _ s
@[simp] theorem record_sec (a b c : Nat) (p : List Byte) (s : State) : (record a b c p s).sec = s.sec := opEventReport_sec _ s
@[simp] theorem record_chip (a b c : Nat) (p : List Byte) (s : State) : (record a b c p s).chip = s.chip := opEventReport_chip _ s
@[simp] theorem recordFw_mem (a b c : Nat) (p : List Byte) (s : State) : (recordFw a b c p s).mem = s.mem := opEventReport_mem _ s
@[simp] theorem recordFw_pending (a b c : Nat) (p : List Byte) (s : State) : (recordFw a b c p s).pending = s.pending := opEventReport_pending _ s
@[simp] theorem recordFw_outbox (a b c : Nat) (p : List Byte) (s : State) : (recordFw a b c p s).outbox = s.outbox := opEventReport_outbox _ s
@[simp] theorem recordFw_freeCtr (a b c : Nat) (p : List Byte) (s : State) : (recordFw a b c p s).freeCtr = s.freeCtr := opEventReport_freeCtr _ s
@[simp] theorem recordFw_cpu (a b c : Nat) (p : List Byte) (s : State) : (recordFw a b c p s).cpu = s.cpu := opEventReport_cpu _ s
@[simp] theorem recordFw_task (a b c : Nat) (p : List Byte) (s : State) : (recordFw a b c p s).task = s.task := opEventReport_task _ s
@[simp] theorem recordFw_eng (a b c : Nat) (p : List Byte) (s : State) : (recordFw a b c p s).eng = s.eng := opEventReport_eng _ s
@[simp] theorem recordFw_bpm (a b c : Nat) (p : List Byte) (s : State) : (recordFw a b c p s).bpm = s.bpm := opEventReport_bpm _ s
@[simp] theorem recordFw_keys (a b c : Nat) (p : List Byte) (s : State) : (recordFw a b c p s).keys = s.keys := opEventReport_keys _ s
@[simp] theorem recordFw_par (a b c : Nat) (p : List Byte) (s : State) : (recordFw a b c p s).par = s.par := opEventReport_par _ s
@[simp] theorem recordFw_arr (a b c : Nat) (p : List Byte) (s : State) : (recordFw a b c p s).arr = s.arr := opEventReport_arr _ s
@[simp] theorem recordFw_flt (a b c : Nat) (p : List Byte) (s : State) : (recordFw a b c p s).flt = s.flt := opEventReport_flt _ s
@[simp] theorem recordFw_phys (a b c : Nat) (p : List Byte) (s : State) : (recordFw a b c p s).phys = s.phys := opEventReport_phys _ s
@[simp] theorem recordFw_host (a b c : Nat) (p : List Byte) (s : State) : (recordFw a b c p s).host = s.host := opEventReport_host _ s
@[simp] theorem recordFw_mir (a b c : Nat) (p : List Byte) (s : State) : (recordFw a b c p s).mir = s.mir := opEventReport_mir _ s
@[simp] theorem recordFw_fence (a b c : Nat) (p : List Byte) (s : State) : (recordFw a b c p s).fence = s.fence := opEventReport_fence _ s
@[simp] theorem recordFw_rrn (a b c : Nat) (p : List Byte) (s : State) : (recordFw a b c p s).rrn = s.rrn := opEventReport_rrn _ s
@[simp] theorem recordFw_pwr (a b c : Nat) (p : List Byte) (s : State) : (recordFw a b c p s).pwr = s.pwr := opEventReport_pwr _ s
@[simp] theorem recordFw_sec (a b c : Nat) (p : List Byte) (s : State) : (recordFw a b c p s).sec = s.sec := opEventReport_sec _ s
@[simp] theorem recordFw_chip (a b c : Nat) (p : List Byte) (s : State) : (recordFw a b c p s).chip = s.chip := opEventReport_chip _ s

end Sys2Proof.Machine
end

