-- ==== Sys2Proof/WellFormed.lean ====
section
/-! DEFINITION. Well-formed commands: every operand that the syntax does not bound itself fits the field that the spec gives it. A command that
is not well formed has no meaning that the spec gives; `exec` still answers. -/

namespace Sys2Proof

/-- A number that fits `n` bits. -/
def fits (n x : Nat) : Bool := decide (x < 2 ^ n)

/-- A command's name (Table 2.3). -/
def CmdId.wf (c : CmdId) : Bool := fits 16 c.cntlid && decide (c.qid ≤ 256) && fits 32 c.cmdseq

/-- A host-binding message (Table 2.3). -/
def HbMsg.wf (m : HbMsg) : Bool :=
  m.id.wf && fits 8 m.ver && fits 8 m.typ && fits 16 m.rdgen && fits 32 m.dlen && fits 64 m.session && fits 8 m.sqe.opc && fits 32 m.sqe.nsid

/-- A Rearn packet (Table 12.2). -/
def RrnPkt.wf (p : RrnPkt) : Bool :=
  fits 8 p.ver && fits 2 p.pkt && fits 16 p.src && fits 16 p.dst && fits 32 p.msgId && fits 32 p.totalLen && fits 32 p.offset && fits 16 p.window &&
  fits 32 p.key && fits 16 p.gen && fits 8 p.code && fits 64 p.raddr && fits 32 p.lease && fits 32 p.arg && decide (p.payload.length ≤ 8192)

/-- A HELLO payload (Table 12.4). -/
def HelloBody.wf (h : HelloBody) : Bool := fits 16 h.node && fits 8 h.verMin && fits 8 h.verMax && fits 32 h.maxMsg && fits 8 h.pkt && fits 8 h.domain && fits 8 h.array

/-- A window request (Table 12.8). -/
def WinReq.wf (r : WinReq) : Bool := fits 48 r.base && fits 32 r.len && fits 32 r.key

/-- An event report (R400). -/
def EvReport.wf (r : EvReport) : Bool := fits 16 r.code && decide (r.source < 19) && fits 16 r.inst && fits 2 r.sev && decide (r.payload.length ≤ 24)

/-- A chunk to settle (R182). -/
def ConfirmReq.wf (q : ConfirmReq) : Bool := fits 12 q.kd && fits 32 q.chunkLen && fits 32 q.nsid && fits 64 q.lba

/-- A dedup message (Table 6.7). -/
def DedupMsg.wf (m : DedupMsg) : Bool := fits 12 m.kd && fits 32 m.chunkLen && fits 32 m.frameLen && fits 64 m.serial

/-- A well-formed command. DESIGN CHOICE, unsafe: log 83. -/
def Instr.wf (i : Instr) : Bool :=
  match i with
  | .registerWrite _ addr _ => fits 48 addr
  | .meshStall _ => true
  | .add _ _ _ _ => true
  | .sub _ _ _ _ => true
  | .and _ _ _ _ => true
  | .or _ _ _ _ => true
  | .xor _ _ _ _ => true
  | .sll _ _ _ _ => true
  | .srl _ _ _ _ => true
  | .sra _ _ _ _ => true
  | .slt _ _ _ _ => true
  | .sltu _ _ _ _ => true
  | .mul _ _ _ _ => true
  | .mulhu _ _ _ _ => true
  | .div _ _ _ _ => true
  | .divu _ _ _ _ => true
  | .rem _ _ _ _ => true
  | .remu _ _ _ _ => true
  | .min _ _ _ _ => true
  | .max _ _ _ _ => true
  | .minu _ _ _ _ => true
  | .maxu _ _ _ _ => true
  | .clz _ _ _ _ => true
  | .ctz _ _ _ _ => true
  | .popc _ _ _ _ => true
  | .bswap _ _ _ _ => true
  | .rotr _ _ _ _ => true
  | .andn _ _ _ _ => true
  | .addi _ _ _ _ => true
  | .andi _ _ _ _ => true
  | .ori _ _ _ _ => true
  | .xori _ _ _ _ => true
  | .clti _ _ _ _ => true
  | .cltiu _ _ _ _ => true
  | .slli _ _ _ _ => true
  | .srli _ _ _ _ => true
  | .srai _ _ _ _ => true
  | .lmi _ _ _ _ => true
  | .lhi _ _ _ _ => true
  | .lxi _ _ _ _ => true
  | .lb _ _ _ _ => true
  | .lbu _ _ _ _ => true
  | .lh _ _ _ _ => true
  | .lhu _ _ _ _ => true
  | .lw _ _ _ _ => true
  | .lwu _ _ _ _ => true
  | .ld _ _ _ _ => true
  | .sb _ _ _ _ => true
  | .sh _ _ _ _ => true
  | .sw _ _ _ _ => true
  | .sd _ _ _ _ => true
  | .beq _ _ _ _ => true
  | .bne _ _ _ _ => true
  | .blt _ _ _ _ => true
  | .bge _ _ _ _ => true
  | .bltu _ _ _ _ => true
  | .bgeu _ _ _ _ => true
  | .jalr _ _ _ _ => true
  | .j _ _ => true
  | .jal _ _ => true
  | .sync _ _ _ _ => true
  | .syncW _ _ _ _ => true
  | .syncR _ _ _ _ => true
  | .syncI _ _ _ _ => true
  | .mfs _ _ _ _ => true
  | .mts _ _ _ _ => true
  | .tget _ _ _ _ => true
  | .tdone _ _ _ _ => true
  | .wtok _ _ _ _ => true
  | .job _ _ _ _ => true
  | .bget _ _ _ _ => true
  | .bref _ _ _ _ => true
  | .bdrop _ _ _ _ => true
  | .send _ _ _ _ => true
  | .waitp _ _ _ _ => true
  | .hcall _ _ _ _ => true
  | .hret _ _ _ _ => true
  | .eret _ _ _ _ => true
  | .svc _ _ _ _ => true
  | .brk _ _ _ _ => true
  | .amoSwap _ _ _ _ _ _ _ => true
  | .amoAdd _ _ _ _ _ _ _ => true
  | .amoAnd _ _ _ _ _ _ _ => true
  | .amoOr _ _ _ _ _ _ _ => true
  | .amoXor _ _ _ _ _ _ _ => true
  | .amoMin _ _ _ _ _ _ _ => true
  | .amoMax _ _ _ _ _ _ _ => true
  | .amoMinu _ _ _ _ _ _ _ => true
  | .amoMaxu _ _ _ _ _ _ _ => true
  | .amoCas _ _ _ _ _ _ _ => true
  | .irq _ _ => true
  | .budget _ => true
  | .en _ _ _ => true
  | .halt _ _ _ => true
  | .step _ _ _ => true
  | .retire _ _ _ => true
  | .dispatchPlace => true
  | .taskWatchdog _ => true
  | .drain _ => true
  | .drainTimeout => true
  | .cmd m => m.wf
  | .landingToken cntlid qid cmdseq _ => fits 16 cntlid && decide (qid ≤ 256) && fits 32 cmdseq
  | .controllerReset cntlid => fits 16 cntlid
  | .shutdown cntlid => fits 16 cntlid
  | .disassociate cntlid => fits 16 cntlid
  | .flush _ => true
  | .write _ => true
  | .read _ => true
  | .writeZeroes _ => true
  | .datasetManagement _ => true
  | .getLogPage _ => true
  | .identify _ => true
  | .abort _ => true
  | .setFeatures _ => true
  | .getFeatures _ => true
  | .asynchronousEventRequest _ => true
  | .namespaceManagement _ => true
  | .namespaceAttachment _ => true
  | .keepAlive _ => true
  | .firmwareImageDownload _ => true
  | .commitAction000 _ => true
  | .commitAction001 _ => true
  | .commitAction010 _ => true
  | .commitAction011 _ => true
  | .deleteIoSq _ => true
  | .createIoSq _ => true
  | .deleteIoCq _ => true
  | .createIoCq _ => true
  | .connect cntlid qid sqsize conn => fits 16 cntlid && decide (qid ≤ 256) && fits 16 sqsize && fits 64 conn
  | .propertyGet _ => true
  | .propertySet _ => true
  | .disconnect _ => true
  | .snapshotCreate _ => true
  | .snapshotDelete _ => true
  | .stage _ => true
  | .stageTimeout id => id.wf
  | .stageHoldExpiry _ => true
  | .replicateStart _ => true
  | .replicatePause _ => true
  | .replicateResume _ => true
  | .replicateCancel _ => true
  | .replicateStatus _ => true
  | .shelfControlReport _ => true
  | .shelfControlWake _ => true
  | .shelfControlRelease _ => true
  | .shelfControlPin _ => true
  | .shelfControlUnpin _ => true
  | .attestationReport _ => true
  | .eventRecorderRead _ => true
  | .ownershipHandover _ => true
  | .anRestart _ => true
  | .netLinkChange _ _ _ _ => true
  | .pauseFrame _ => true
  | .frameDrop _ len _ => fits 16 len
  | .sEn _ => true
  | .dEn _ => true
  | .dRebuildDone => true
  | .lwReset _ _ _ => true
  | .bufferRetry _ => true
  | .copy _ => true
  | .fill _ => true
  | .compare _ => true
  | .cut _ => true
  | .fpList _ => true
  | .check _ => true
  | .hash _ => true
  | .ingChunkCfgWrite _ _ => true
  | .ingKat _ _ => true
  | .runNow _ _ => true
  | .confirm q => q.wf
  | .confirmRetry q => q.wf
  | .dirProbe m => m.wf
  | .dirProbeTimeout _ kd => fits 12 kd
  | .dirReply m => m.wf
  | .dirDrop m => m.wf
  | .import_ m => m.wf
  | .importReply m => m.wf
  | .importTimeout serial => fits 64 serial
  | .release m => m.wf
  | .releaseReply m => m.wf
  | .releaseResend serial => fits 64 serial
  | .fetch m => m.wf
  | .evict m => m.wf
  | .compress _ _ => true
  | .decompress _ => true
  | .gcmSeal _ _ => true
  | .gcmOpen _ _ => true
  | .xtsEnc _ _ => true
  | .xtsDec _ _ => true
  | .cbcEnc _ _ => true
  | .cbcDec _ _ => true
  | .cfbEnc _ _ => true
  | .cfbDec _ _ => true
  | .ctr _ _ => true
  | .cmpKat _ _ => true
  | .cipKat _ _ => true
  | .katRunNow _ _ => true
  | .cipKatRunNow _ _ => true
  | .load _ _ _ addr => fits 48 addr
  | .generate _ _ _ addr => fits 48 addr
  | .zeroize _ _ => true
  | .query _ _ _ addr => fits 48 addr
  | .zeroizeAll _ => true
  | .nonceLimitSet _ _ => true
  | .pqOpen => true
  | .pqAdd => true
  | .pqEmit => true
  | .pqCheck => true
  | .recon => true
  | .pqFree => true
  | .parKat _ => true
  | .parKatRunNow _ _ => true
  | .nvmeRead _ _ => true
  | .append _ _ => true
  | .nvmeWrite _ _ => true
  | .zoneClose _ _ => true
  | .zoneFinish _ _ => true
  | .zoneOpen _ _ => true
  | .zoneReset _ _ => true
  | .zoneReport _ _ => true
  | .nvmeAdmin _ _ => true
  | .cmdTimeout _ => true
  | .driveRemoved _ _ => true
  | .steepMax _ _ => true
  | .pour stripe => fits 64 stripe
  | .commit stripe => fits 64 stripe
  | .dirtyRelease wseq => fits 64 wseq
  | .gc _ => true
  | .zoneSetReclaim zs => fits 32 zs
  | .nextWriteShelf storedRate => fits 64 storedRate
  | .shelfWakeGrant => true
  | .minOff _ => true
  | .shelfPgAssert _ => true
  | .shelfPgTimeout _ => true
  | .shelfLinked _ => true
  | .shelfReadyTimeout _ _ => true
  | .shelfRelease _ => true
  | .drainReport _ _ => true
  | .plannedDownReport _ _ => true
  | .shelfPgDeassert _ => true
  | .shelfPgStuck _ => true
  | .shelfPgLost _ => true
  | .shelfFaultRetry _ => true
  | .present _ _ => true
  | .shelfAlert _ _ => true
  | .alarm => true
  | .clkAlarm _ _ => true
  | .pciLinkPlanned _ => true
  | .pciLinkLost _ => true
  | .pciRetrainRetry _ => true
  | .pciLinkStable _ => true
  | .pciLinkUp _ _ _ => true
  | .perstRelease _ => true
  | .smartPoll _ _ => true
  | .notReadyTimeout _ => true
  | .unreachableTimeout _ => true
  | .memberReport _ _ => true
  | .zoneSetSwitch zs => fits 32 zs
  | .rebuildCheckpoint => true
  | .driveInserted _ _ => true
  | .scrub zs row _ => fits 32 zs && fits 32 row
  | .scrubCheckpoint => true
  | .snapshotSweep snapid => fits 64 snapid
  | .repSchedule nsid _ => fits 32 nsid
  | .repOpen _ => true
  | .repOpenReply _ => true
  | .repOpenRetry session => fits 32 session
  | .repFps _ => true
  | .repNeed _ => true
  | .repData _ => true
  | .repBatchAck _ => true
  | .repCheckpoint => true
  | .repCommit _ => true
  | .repCommitReply _ => true
  | .repClose _ => true
  | .repFetch _ => true
  | .repFetchReply _ => true
  | .epochClose => true
  | .record => true
  | .barrier => true
  | .epoch _ => true
  | .reply _ => true
  | .resendRoundTimeout => true
  | .replyLost x_epoch => fits 64 x_epoch
  | .cplForward x_epoch index => fits 64 x_epoch && fits 32 index
  | .health _ => true
  | .healthSend => true
  | .partnerHealthLost => true
  | .idle => true
  | .test _ _ _ => true
  | .testSend => true
  | .loopbackRun _ _ => true
  | .power target x_agree => fits 2 target && fits 16 x_agree
  | .stateCopy _ => true
  | .stateCopyDone => true
  | .laneRetrain _ _ => true
  | .partnerLinkLost => true
  | .sendPauseEnd => true
  | .pnlEn _ => true
  | .partnerLinkUp _ mpvMin mpvMax _ periodNs => fits 8 mpvMin && fits 8 mpvMax && fits 16 periodNs
  | .hbEn _ _ => true
  | .kick _ => true
  | .wdogTrip => true
  | .armed => true
  | .hbLost => true
  | .pwrgoodLost => true
  | .fenceIn _ => true
  | .fenced => true
  | .egressDiscard => true
  | .fenceInFall => true
  | .fenceDone => true
  | .assert _ => true
  | .fenceRelease _ => true
  | .pulse _ => true
  | .selfStop _ => true
  | .wireTest _ => true
  | .wireTestEnd _ => true
  | .startAlone => true
  | .rrnWrite p => p.wf
  | .writeNotify p => p.wf
  | .readReq p => p.wf
  | .readResp p => p.wf
  | .rrnSend p => p.wf
  | .atomic p => p.wf
  | .creditReq p => p.wf
  | .creditGrant p => p.wf
  | .ack p => p.wf
  | .nak p => p.wf
  | .hello p h => p.wf && h.wf
  | .helloReply p h => p.wf && h.wf
  | .helloRetry x_node => fits 16 x_node
  | .helloRefresh => true
  | .bindingLapse x_node => fits 16 x_node
  | .rto msgId => fits 32 msgId
  | .timeout msgId => fits 32 msgId
  | .leaseExpiry lease => fits 32 lease
  | .receiptExpiry src msgId => fits 16 src && fits 32 msgId
  | .ctxIdle src msgId => fits 16 src && fits 32 msgId
  | .winArm r => r.wf
  | .winDisarm r => r.wf
  | .arm _ => true
  | .disarm _ => true
  | .eventReport r => r.wf
  | .recordClose => true
  | .recordProgrammed => true
  | .eraseDone => true
  | .optimeMark => true
  | .evtLost => true
  | .evrWinSel _ _ => true
  | .evrWinData _ _ => true
  | .evrInject _ addr => fits 48 addr
  | .fltSlotAdvance _ => true
  | .fltCtrCfgWrite _ _ _ => true
  | .pwrMode _ _ => true
  | .retainPropose x_agree x_alarm => fits 16 x_agree && fits 32 x_alarm
  | .agree x_agree => fits 16 x_agree
  | .refuse x_agree id => fits 16 x_agree && fits 4 id
  | .powerAgreeTimeout => true
  | .smbusMatch _ => true
  | .gpioWake _ => true
  | .heartbeatWake => true
  | .hbInAbsent => true
  | .clockGate _ => true
  | .powerGate _ => true
  | .wake _ _ => true
  | .forceOff _ _ => true
  | .level _ _ _ => true
  | .levelChangeDone _ => true
  | .thermalSample _ heldBelow => fits 32 heldBelow
  | .thermalTrip => true
  | .report _ addr => fits 48 addr
  | .verify _ addr => fits 48 addr
  | .measure _ addr => fits 48 addr
  | .awkGenerate _ addr => fits 48 addr
  | .awkUnseal _ addr => fits 48 addr
  | .sendKey _ addr => fits 48 addr
  | .receiveKey _ addr => fits 48 addr
  | .writeSlot _ addr => fits 48 addr
  | .setDir _ addr => fits 48 addr
  | .advance _ _ _ => true
  | .secIdWin _ _ => true
  | .keyQuery _ => true
  | .keyCerts _ => true
  | .keyOffer _ => true
  | .keyAccept _ => true
  | .porn _ => true
  | .rstn => true
  | .warm _ => true
  | .trstn => true
  | .brownout _ => true
  | .sramDrop => true
  | .refclkLost => true
  | .refclkReturn => true
  | .pllLockLost _ => true
  | .pllRelockRetry _ _ => true
  | .avsFault => true
  | .avsRetry _ => true
  | .initDone => true
  | .powerFail _ => true
  | .vaultDestageDone => true
  | .pwrRestore => true
  | .queueConnectionClosed cntlid qid => fits 16 cntlid && decide (qid ≤ 256)
  | .patrolScrub addr _ row _ => fits 48 addr && fits 32 row
  | .pciCorrectableError _ => true
  | .hbInEdge => true
  | .partnerLinkNotUp => true
  | .evrReady => true
  | .dramTrainingComplete _ _ speed gib => fits 3 speed && decide (gib ≤ 4096)
  | .strainerRebuildDone => true
  | .rtcHourlyRecord => true

end Sys2Proof
end

