-- ==== Sys2Proof/Tests/Slice0.lean ====
section
/-! SUPPORT. The model's own tests: ill-formed commands are refused, values from outside the model, one step each, and for every statement with
hypotheses a concrete state and operands that meet them. -/

open Sys2Proof Sys2Proof.Machine

namespace Sys2Proof.Tests

set_option Elab.async false

/-! ### Small states -/

/-- A state with register fields set. -/
def withFields (l : List (Field × Nat × Nat)) (s : State) : State := l.foldl (fun s x => rset x.1 x.2.2 s x.2.1) s

/-- Core 0 runs slot 0 in U in its core-local SRAM. -/
def sU : State :=
  let s := withFields [(F.DPC_CORE_CTL_EN, 0, 1)] .reset
  { s with cpu := { s.cpu with cores := [(0, { cur := some 0, evec := 0x100 })], banks := [(0, { pc := 0x1000, priv := 1 })] },
           task := { s.task with slots := [(0, { st := .running, task := { typ := 1 } })] } }

/-- The same with slot 0's bank changed. -/
def sBank (f : Bank → Bank) : State := { sU with cpu := { sU.cpu with banks := [(0, f (bankOf sU 0))] } }

/-- The same with register `r` holding `v`. -/
def sReg (r : Rn) (v : Word) : State := sBank (gput r v)

/-- Core 0 runs a hook: region 0 spans pages 1 to 3 of core-local SRAM. -/
def sHook : State :=
  { sU with cpu := { sU.cpu with cores := [(0, { cur := some 0, hbudget := 100, hrg := [0x1000, 0x4000, 0, 0, 0, 0, 0x2000, 0x4000] })],
                                 banks := [(0, { pc := 0x1000, priv := 2 })] } }

/-- Core 0 runs a task in S, its data-path hooks idle. -/
def sS : State := sBank (fun b => { b with priv := 0 })

/-- A pair of which the second answer is left as it is. -/
theorem pair_of {α β : Type} {x : α × β} {a : α} (h : x.1 = a) : ∃ b, x = (a, b) := ⟨x.2, by rw [← h]⟩

/-- Set S enabled, buffers 0 and 1 of caddy C1 held with 64 bytes each, the first bytes of buffer 0 written. -/
def sBuf : State :=
  let s := withFields [(F.BPM_CTL_S_EN, 0, 1), (F.BPM_CLASS_FREE_FREE, 1, 2046)] .reset
  { s with bpm := { s.bpm with bufs := [(0x10000000, { cnt := 1, fill := 64 }), (0x10000001, { cnt := 1, fill := 64 })], fresh := [(1, 2)] },
           mem := [(0x23400000, 7), (0x23400001, 9)] }

/-- A job at the head of a unit's queue, posted by pair 0. -/
def chainOf (d : Desc) : Chain := { ctx := 512, entry := 1, serial := 1, descs := [d] }

/-- A state whose unit `u` of class `e` has the job at its head. -/
def sJob (e u : Nat) (d : Desc) : State := setEngQueue e u [chainOf d] sBuf

/-- The hypotheses of a job that reads `data` and writes to buffer 1 are met. -/
def meets (e u : Nat) (d : Desc) (n cap : Nat) : Bool :=
  let s := sJob e u d
  let s0 := takeJob e u [] d s
  let i := inputOf (chainOf d) d s0
  let r := readBuf d i.1 i.2.1 i.2.2 s0
  !islandOff (engIsland e) s && engQueue e u s == [chainOf d] && (r.1.map (·.length)) == some n && (outBuf d r.2).1 == some (0x10000001, 0, cap, false)

/-- IN names buffer 0, OUT buffer 1. -/
def ioDesc (e op : Nat) : Desc := { engine := e, op := op, inn := 0x10000000, out := 0x10000001 }

/-! ### Well-formedness: each check refuses something -/

theorem test_wf_refuses :
    (∀ i ∈ [Instr.registerWrite 0 (2 ^ 48) 0, .cmd { id := { cntlid := 65536 } }, .cmd { id := { qid := 257 } }, .cmd { id := { cmdseq := 2 ^ 32 } }, .cmd { ver := 256 }, .cmd { typ := 256 }, .cmd { rdgen := 65536 },
      .cmd { dlen := 2 ^ 32 }, .cmd { session := 2 ^ 64 }, .cmd { sqe := { opc := 256 } }, .cmd { sqe := { nsid := 2 ^ 32 } }, .landingToken 65536 0 0 true, .landingToken 0 257 0 true, .landingToken 0 0 (2 ^ 32) true,
      .controllerReset 65536, .connect 0 0 65536 0, .connect 0 0 0 (2 ^ 64), .stageTimeout { qid := 257 }, .frameDrop 0 65536 none, .load 0 0 0 (2 ^ 48)], i.wf = false) ∧
    (∀ i ∈ [Instr.registerWrite 0 (2 ^ 48 - 1) 0, .cmd { id := { cntlid := 65535, qid := 256, cmdseq := 2 ^ 32 - 1 } }, .connect 65535 256 65535 (2 ^ 64 - 1)], i.wf = true) := by
  refine ⟨?_, ?_⟩ <;> decide +kernel

theorem test_wf_refuses_arguments :
    ConfirmReq.wf { kd := 4096 } = false ∧ ConfirmReq.wf { chunkLen := 2 ^ 32 } = false ∧ ConfirmReq.wf { nsid := 2 ^ 32 } = false ∧ ConfirmReq.wf { lba := 2 ^ 64 } = false ∧ ConfirmReq.wf {} = true ∧
    DedupMsg.wf { kd := 4096 } = false ∧ DedupMsg.wf { chunkLen := 2 ^ 32 } = false ∧ DedupMsg.wf { frameLen := 2 ^ 32 } = false ∧ DedupMsg.wf { serial := 2 ^ 64 } = false ∧ DedupMsg.wf {} = true ∧
    (∀ p ∈ [({ ver := 256 } : RrnPkt), { pkt := 4 }, { src := 65536 }, { dst := 65536 }, { msgId := 2 ^ 32 }, { totalLen := 2 ^ 32 }, { offset := 2 ^ 32 }, { window := 65536 }, { key := 2 ^ 32 }, { gen := 65536 }, { code := 256 },
      { raddr := 2 ^ 64 }, { lease := 2 ^ 32 }, { arg := 2 ^ 32 }], p.wf = false) ∧ RrnPkt.wf { pkt := 3 } = true ∧
    (∀ h ∈ [({ node := 65536 } : HelloBody), { verMin := 256 }, { verMax := 256 }, { maxMsg := 2 ^ 32 }, { pkt := 256 }, { domain := 256 }, { array := 256 }], h.wf = false) ∧
    (∀ r ∈ [({ base := 2 ^ 48 } : WinReq), { len := 2 ^ 32 }, { key := 2 ^ 32 }], r.wf = false) ∧
    (∀ r ∈ [({ code := 65536 } : EvReport), { source := 19 }, { inst := 65536 }, { sev := 4 }, { payload := List.replicate 25 0 }], r.wf = false) := by
  refine ⟨?_, ?_, ?_, ?_, ?_, ?_, ?_, ?_, ?_, ?_, ?_, ?_, ?_, ?_, ?_⟩ <;> decide +kernel

/-! ### Values from outside the model -/

/-- A hexadecimal number's `n` bytes, the first the highest. -/
def hexBytes (n x : Nat) : List Byte := (leBytes n x).reverse

/-- The example after R234: k = 4, data 0x11, 0x22, 0x33, 0x44 give P 0x44 and Q 0x83. -/
theorem test_parity_example : pOf 1 [(0, [0x11]), (1, [0x22]), (2, [0x33]), (3, [0x44])] = [0x44] ∧ qOf 1 [(0, [0x11]), (1, [0x22]), (2, [0x33]), (3, [0x44])] = [0x83] := by decide +kernel

/-- The example of the member chapter: with D_1 and D_3 out, the row decodes to 0x22 and 0x44. -/
theorem test_decode_example :
    decodeStrip 4 1 [some [0x11], none, some [0x33], none, some [0x44], some [0x83]] 1 = some [0x22] ∧ decodeStrip 4 1 [some [0x11], none, some [0x33], none, some [0x44], some [0x83]] 3 = some [0x44] := by decide +kernel

/-- The example after Table 5.1: set D of a 1 TiB head. -/
theorem test_buffer_address_example :
    bufAddr 0xA0000123 (withFields [(F.BPM_SET_BASE_D_BASE, 0, 0x100040000000), (F.BPM_CLASS_CFG_COUNT, 8, 16777216), (F.BPM_CLASS_CFG_COUNT, 9, 3145728), (F.BPM_CLASS_CFG_COUNT, 10, 393216),
      (F.BPM_CLASS_CFG_COUNT, 11, 131072), (F.BPM_CLASS_CFG_COUNT, 12, 40960)] .reset) = 0x101C4B030000 := by decide +kernel

/-! ### One step each -/

theorem test_add_wraps : rd (runAlu .add 0 3 1 2 (sBank (gput 2 1 ∘ gput 1 0xFFFFFFFFFFFFFFFF))) 0 3 = 0 := by decide +kernel

/-- FIPS 202: SHA3-256 of the empty message. -/
theorem test_sha3_empty : sha3 [] = leBytes 32 0x4A43F8804B0AD882FA493BE44DFF80F562D661A05647C15166D71EBFF8C6FFA7 := by decide +kernel

/-- Table 4.8: a quotient by 0 is all ones, −2^63 / −1 is −2^63. -/
theorem test_div_corners : aluOp .div 7 0 = 0xFFFFFFFFFFFFFFFF ∧ aluOp .div 0x8000000000000000 0xFFFFFFFFFFFFFFFF = 0x8000000000000000 := by decide +kernel

/-- Table 4.12: SB stores the low byte, and its neighbours stay. -/
theorem test_sb_stores_one_byte :
    let t := runMem .sb 0 2 1 0 (sBank (gput 2 0x1234 ∘ gput 1 0x2000))
    memByte t (physKey 0 0x2000) = 0x34 ∧ memByte t (physKey 0 0x2001) = 0 := by decide +kernel

/-- The register chapter's example: PCI_PORT_STATUS_6 stands at 0x20000E000230, BPM_CLASS_FREE_1_2 at 0x200004000250. -/
theorem test_register_addresses : (F.PCI_PORT_STATUS_GEN, 6) ∈ fieldsAt 0x20000E000230 ∧ (F.BPM_CLASS_FREE_FREE, 10) ∈ fieldsAt 0x200004000250 := by decide +kernel

/-- The register chapter's example: CMP_ERR_CNT of a power-gated CMP island reads as all ones, with ISLAND_OFF. -/
theorem test_island_off_example :
    let s := rputBit F.PWR_STATUS_PG 12 true .reset
    ctlOff 0x20000B000010 false s = some 12 ∧ ctlOff 0x20000B000018 false s = none := by decide +kernel

/-- An empty queue lets 1 µs pass; a command at the front leaves the queue. -/
theorem test_idle_tick : rget F.CLK_TICK_TICK (idleTick .reset) = 1 := by decide +kernel

theorem test_queue_is_first_in_first_out :
    (match step { (State.reset) with pending := [.trstn, .idle] } with | .next t => t.pending | _ => []) = [.idle] := by decide +kernel

/-- Table 3.6 gives HOST_MAX 384 and BG_MAX 64. -/
theorem test_reset_caps : rget F.TSK_CTL_HOST_MAX .reset = 384 ∧ rget F.TSK_CTL_BG_MAX .reset = 64 := by decide +kernel

/-- R111: the encoder's words decode. -/
theorem test_decode_words :
    decodeDyris (encodeDyris (.alu .rotr 31 1 0)) = some (.alu .rotr 31 1 0) ∧ decodeDyris (encodeDyris (.mem .lwu 1 2 0x8000)) = some (.mem .lwu 1 2 0x8000) ∧
    decodeDyris 0b000000_00011_00100_00101_00000000000#32 = some (.alu .add 3 4 5) := by decide +kernel

theorem witness_DyrisEncodingRoundTrip : decodeDyris 0b000000_00011_00100_00101_00000000000#32 ≠ none := by decide +kernel

theorem witness_StepRunsTheFrontCommand : ({ (State.reset) with pending := [Instr.trstn] } : State).pending = Instr.trstn :: [] ∧ (State.reset).pending = [] := ⟨rfl, rfl⟩

/-! ### Dyris: hypotheses met -/

theorem witness_AluResults :
    Fetches 0 [1, 2] sU ∧ (0 : Rn) = 0 ∧ (31 : Rn) ≠ 0 ∧ Fetches 64 [1] .reset ∧ ((63 : BitVec 16).toNat < 64) ∧ 64 ≤ (64 : BitVec 16).toNat ∧
    (0x8000000000000000 : Word) ≠ 0 := by
  unfold Fetches; decide +kernel

theorem witness_BranchAndJumpTargets : Fetches 0 [1, 2] sU ∧ Fetches 0 [] sHook := by
  unfold Fetches; decide +kernel

theorem witness_LoadAndStoreResults :
    Fetches 0 [1, 2] (sReg 1 0x7FFF8) ∧ dataFault 0 0x7FFF8 8 false (sReg 1 0x7FFF8) = none ∧ dataFault 0 0x7FFFF 1 true sU = none ∧ dataFault 0 0 4 true sU = none ∧
    dataFault 0 0x7FFFE 2 false sU = none ∧ accessOff 0x7FFF8 sU = none ∧ (loadBytes 0 0x7FFF8 8 (ungate 0x7FFF8 sU)).1 = some 0 ∧
    (loadBytes 0 0x10000000 1 (ungate 0x10000000 sU)).1 = some 0 := by
  unfold Fetches; decide +kernel

theorem witness_MemoryAccessExceptions :
    Fetches 0 [1] sU ∧ Fetches 0 [1, 2] sU ∧ dataFault 0 0x80000 1 false sU = some { cause := 0x04, addr := 0x80000 } ∧
    dataFault 0 0x1001 2 true sU = some { cause := 0x03, addr := 0x1001 } ∧ dataFault 0 0x200000000000 4 false sU = some { cause := 0x05, addr := 0x200000000000 } ∧
    (let s := rputBit F.PWR_STATUS_PG 3 true sU
     Fetches 0 [1, 2] s ∧ dataFault 0 0x10800000 4 false s = none ∧ dataFault 0 0x10800000 4 true s = none ∧ accessOff 0x10800000 s = some 3) := by
  unfold Fetches; decide +kernel

theorem witness_AtomicResults :
    Fetches 0 [1, 2, 3] (sReg 1 0x1008) ∧ dataFault 0 0x1008 8 true sU = none ∧ dataFault 0 0x100C 4 true sU = none ∧
    (loadBytes 0 0x1008 8 (ungate 0x1008 sU)).1 = some 0 ∧ (loadBytes 0 0x100C 4 (ungate 0x100C sU)).1 = some 0 ∧ privOf sU 0 ≠ 2 ∧ (1 : BitVec 4) ≠ 0 ∧
    Fetches 0 [1, 2, 3] sHook ∧ privOf sHook 0 = 2 := by
  unfold Fetches; decide +kernel

theorem witness_BarriersAndSpecialRegisters :
    Fetches 0 [1] sU ∧ privOf sU 0 ≠ 2 ∧ srReadLevels 0 = some lvSU ∧ 1 ∈ lvSU ∧ srReadLevels 13 = some lvAll ∧ srReadLevels 22 = some lvAll ∧ 1 ∈ lvAll ∧
    runningSlot sU 0 = some 0 ∧ (15 : Rn).val < 16 ∧ srWriteLevels 21 = some lvSU ∧ srReadLevels 7 = some [0] ∧ 1 ∉ [0] ∧ 28 ≤ (28 : Rn).val := by
  unfold Fetches; decide +kernel

/-- Slot 0 holds a token of serial 5 at entry 1, its job ended with status 3 when `st` says so. -/
def sTok (st : Option Nat) : State := { sReg 1 0x40005 with cpu := { (sReg 1 0x40005).cpu with toks := [(1, { held := true, serial := 5, status := st })] } }

theorem witness_TaskTokenAndJobInstructions :
    Fetches 0 [1, 2] sU ∧ privOf sU 0 ≠ 2 ∧ runningSlot sU 0 = some 0 ∧ bits (rd sU 0 2).toNat 31 1 = 0 ∧
    (Fetches 0 [1, 2] (sReg 2 2) ∧ bits (rd (sReg 2 2) 0 2).toNat 31 1 ≠ 0) ∧
    (rd (sTok none) 0 1 = 0x40005 ∧ bits 0x40005 31 22 = ctxOf (sTok none) 0 ∧ bits 0x40005 21 18 = 1 ∧ bits 0x40005 17 0 = 5) ∧
    tokOf (sTok (some 3)) 0 1 = { held := true, serial := 5, status := some 3 } ∧ tokOf (sTok none) 0 1 = { held := true, serial := 5 } ∧
    bits (rd sU 0 1).toNat 17 0 = 0 ∧
    (readChain 0 8 0x2000 (sReg 1 0x2000)).1.toOption = some [parseDesc 0x2000 (List.replicate 64 0)] ∧
    (∃ e n, tokChoice sU 0 = .ok e n) ∧ chainOk [parseDesc 0x2000 (List.replicate 64 0)] = false := by
  refine ⟨?_, ?_, ?_, ?_, ?_, ?_, ?_, ?_, ?_, ?_, ⟨_, _, rfl⟩, ?_⟩ <;> first | decide +kernel | (unfold Fetches; decide +kernel)

/-- All 16 token entries of slot 0 held. -/
def sTokFull : State := { sU with cpu := { sU.cpu with toks := (List.range 16).map (fun e => (e, { held := true, serial := 1 })) } }

theorem witness_JobTokensFull : tokChoice sTokFull 0 = .full := by decide +kernel

/-- A COPY descriptor for MOVE unit 0 stands at 0x2000, the address in g1. -/
def sFull : State :=
  let s := memWrite (physKey 0 0x2000) ([1, 0, 0, 0, 0] ++ List.replicate 59 0) (sReg 1 0x2000)
  setEngQueue 1 0 (List.replicate (max 1 (Config.queueDepth 1)) (chainOf {})) s

theorem witness_JobWaitsForRoom :
    let d := parseDesc 0x2000 ([1, 0, 0, 0, 0] ++ List.replicate 59 0)
    (readChain 0 8 0x2000 sFull).1.toOption = some [d] ∧ (chainOk [d] && [d].all (fun y => placeOk 0 y sFull)) = true ∧ (∃ e n, tokChoice sFull 0 = .ok e n) ∧
    engineFull d sFull = true := by
  refine ⟨rfl, rfl, ⟨_, _, rfl⟩, ?_⟩
  have h : engQueue 1 0 sFull = List.replicate (max 1 (Config.queueDepth 1)) (chainOf {}) := rfl
  unfold engineFull
  rw [show chooseUnit (parseDesc 0x2000 ([1, 0, 0, 0, 0] ++ List.replicate 59 0)) sFull = some 0 from rfl]
  simp only [show (parseDesc 0x2000 ([1, 0, 0, 0, 0] ++ List.replicate 59 0)).engine = 1 from rfl, h, List.length_replicate]
  rw [show rtest F.PWR_ISLAND_GATE_FORCE_OFF (engIsland 1) sFull = false from rfl]
  simp

theorem witness_BufferInstructions :
    (let s := { sBuf with cpu := sU.cpu }
     (bpmAlloc .core 0 1 s).1 = some 0x10000002 ∧ (bpmAlloc .core 1 4 s).1 = none ∧ (15 < 16 ∧ 12 % 8 < 5) ∧ 5 ≤ 13 % 8 ∧
     waitsRebuild 0x10000000 s = false ∧ checkHandle .bref 0x10000000 0 s = .ok 0x10000000 ∧ checkHandle .bdrop 0x10000001 0 s = .ok 0x10000001 ∧
     checkHandle .bref 0x10000002 0 s = .error 2 ∧ checkHandle .bdrop 0x10000002 0 s = .error 5) := by
  refine ⟨?_, ?_, ?_, ?_, ?_, ?_, ?_, ?_, ?_⟩ <;> first | rfl | decide +kernel

/-- Pair 0 with IRQ line 5 pending and enabled. -/
def sIrq : State :=
  { (State.reset) with cpu := { (State.reset).cpu with irq := 32, cores := [(64, { imask := 0x20 })], banks := [(512, { pc := 0x300000000000, ie := true })] } }

theorem witness_LevelChangingInstructions :
    (Fetches 0 [1] sU ∧ privOf sU 0 = 1) ∧ (Fetches 0 [] sHook ∧ privOf sHook 0 = 2 ∧ executes sHook 0 = true) ∧
    (Fetches 0 [1] sS ∧ privOf sS 0 = 0 ∧ (coreOf sS 0).start = false) ∧
    (isPair 64 = true ∧ coreRunning sIrq 64 = true ∧ privOf sIrq 64 = 0 ∧ (bankOf sIrq 512).ie = true ∧ ctxOf sIrq 64 = 512 ∧ (pendingLines sIrq).testBit 5 = true ∧
      (coreOf sIrq 64).imask.toNat.testBit 5 = true) := by
  unfold Fetches; decide +kernel

theorem witness_ExceptionEntryAndReturn : privOf sU 0 ≠ 2 ∧ privOf sHook 0 = 2 ∧ (0x08 : Nat) ≠ 0x0B := by decide +kernel

theorem witness_AluFrame : Fetches 0 [1, 2] sU ∧ (privOf sU 0 = 2 → 4 < (coreOf sU 0).hbudget) ∧ Fetches 0 [1, 2] sHook ∧ 4 < (coreOf sHook 0).hbudget ∧
    ∃ t, exec (.add 0 3 1 2) sU = .next t := by
  refine ⟨?_, ?_, ?_, ?_, _, rfl⟩ <;> first | decide +kernel | (unfold Fetches; decide +kernel)

theorem witness_StoreFrame : Fetches 0 [1, 2] (sReg 1 0x1000) ∧ Memory.wf (sReg 1 0x1000).mem = true ∧ dataFault 0 0x1000 8 true (sReg 1 0x1000) = none ∧
    accessOff 0x1000 (sReg 1 0x1000) = none ∧ ∃ t, exec (.sb 0 2 1 0) (sReg 1 0x1000) = .next t := by
  refine ⟨?_, ?_, ?_, ?_, _, rfl⟩ <;> first | decide +kernel | (unfold Fetches; decide +kernel)

theorem witness_StoreThenLoadReturnsValue :
    (let s := sReg 1 0x2000
     let t := runMem .sw 0 2 1 0 s
     Fetches 0 [1, 2] s ∧ Memory.wf s.mem = true ∧ s.phys.lineErr = [] ∧ accessOff 0x2000 s = none ∧ regionOf 0 0x2000 s ≠ some .rom ∧ Fetches 0 [1] t ∧
     dataFault 0 0x2000 4 true s = none ∧ dataFault 0 0x2000 4 false t = none) := by
  unfold Fetches; decide +kernel

theorem witness_DyrisStepsKeepTheInvariant :
    LegalLevels { sU with pending := [.add 0 1 2 3] } ∧ (∀ x : Nat, (bankOf sU x).badParity = 0) ∧ Memory.wf sU.mem = true := by
  have h : ∀ x : Nat, bankOf sU x = { pc := 0x1000, priv := 1 } ∨ bankOf sU x = {} := by
    intro x
    show kget {} [(0, ({ pc := 0x1000, priv := 1 } : Bank))] x = _ ∨ kget {} [(0, ({ pc := 0x1000, priv := 1 } : Bank))] x = _
    unfold kget kfind
    by_cases hx : x = 0
    · left; simp [hx]
    · right; simp [hx, kfind]
  refine ⟨fun x => ?_, fun x => ?_, by decide +kernel⟩
  · show (bankOf sU x).priv ≤ 2 ∧ (bankOf sU x).ppriv ≤ 2
    rcases h x with h | h <;> rw [h] <;> decide
  · rcases h x with h | h <;> rw [h]

theorem witness_LevelsStayLegal : LegalLevels .reset ∧ Fetches 0 [1] sU ∧ privOf sU 0 = 1 ∧ Fetches 0 [1] sHook ∧ privOf sHook 0 = 2 := by
  refine ⟨fun x => ?_, by unfold Fetches; decide +kernel⟩
  show (kget {} [(512, ({ pc := 0x300000000000 } : Bank)), (513, { pc := 0x300000000000 })] x).priv ≤ 2 ∧
    (kget {} [(512, ({ pc := 0x300000000000 } : Bank)), (513, { pc := 0x300000000000 })] x).ppriv ≤ 2
  unfold kget kfind
  by_cases hx : x = 512
  · simp [hx]
  · by_cases hy : x = 513
    · simp [hy, kfind]
    · simp [hx, hy, kfind]

/-! ### Jobs: hypotheses met -/

theorem witness_MoveAndParityJobs :
    meets 1 3 { ioDesc 1 0 with inLen := 64, outLimit := 64 } 64 64 = true ∧ meets 1 0 { ioDesc 1 2 with aux := 0x10000001 } 64 4096 = true ∧
    (outBuf { engine := 1, op := 1, out := 0x10000001, outLimit := 4096, param := 255 } sBuf).1 = some (0x10000001, 0, 4096, false) ∧
    (readBuf (ioDesc 1 2) 0x10000001 0 64 sBuf).1.map (·.length) = some 64 ∧
    (let d : Desc := { ioDesc 7 0 with param := 0x100403F }
     onlyBits d.param 0x1F3F003F = false ∧ onlyBits 0x104003F 0x1F3F003F = true ∧ bits 0x104003F 21 16 = 4 ∧ bits 0x104003F 28 24 = 1 ∧ bits 0x1020003F 28 24 = 16 ∧
     bits 0x1020003F 21 16 = 32 ∧ kfind sBuf.par 63 = none) ∧
    (let x : ParCtx := { k := 4, len := 64, p := zeroStrip 64, q := zeroStrip 64 }
     let s := setPar [(5, x)] (sJob 7 0 { ioDesc 7 1 with param := 0x305 })
     kfind s.par (bits 0x305 5 0) = some x ∧ onlyBits 0x305 0x1F3F = true ∧ bits 0x305 12 8 < x.k ∧
     (readBuf (ioDesc 7 1) 0x10000000 0 64 (takeJob 7 0 [] { ioDesc 7 1 with param := 0x305 } s)).1.map (·.length) = some 64 ∧
     (outBuf (ioDesc 7 2) s).1 = some (0x10000001, 0, 4096, false) ∧ checkHandle .engine 0x10000000 64 s = .ok 0x10000000 ∧
     onlyBits 0x5 0x3F = true) ∧
    parFull { k := 4, len := 64, p := zeroStrip 64, q := zeroStrip 64, added := [3, 1, 0, 2] } = true := by
  refine ⟨?_, ?_, ?_, ?_, ?_, ⟨?_, ?_, ?_, ?_, ?_, ?_, ?_⟩, ?_⟩ <;> first | rfl | decide +kernel

/-- With MIN_SAVE as large as it goes COMPRESS emits the raw frame, whatever the compressor makes. -/
theorem emitted_raw (l : List Byte) (h : rawLen l.length ≤ 4096) : emittedFrame 9 65535 4096 true l = some (rawFrame l) := by
  unfold emittedFrame
  simp only
  rw [if_pos ⟨trivial, Or.inl (by omega)⟩, if_neg (by omega)]

theorem witness_DataReductionJobs :
    sBuf.pwr.katDue = [] ∧ meets 2 3 { ioDesc 2 0 with param := 1 } 64 4096 = true ∧
    (cutOut { ioDesc 2 0 with param := 1 } 64 sBuf).1 = some (0x10000002, 0, 4096, true) ∧
    meets 3 7 { ioDesc 3 2 with aux := 0xFFF } 64 4096 = true ∧ saltOf 0xFFF sBuf = some [] ∧
    meets 3 0 { ioDesc 3 1 with aux := 0xFFF + 0x10000040 * 65536 } 64 4096 = true ∧ saltOf (0xFFF % 4096) sBuf = some [] ∧
    (readMem (physKey (ctxCore 512) 0x10000040) 32 sBuf).1.map (·.length) = some 32 ∧
    meets 4 7 { ioDesc 4 0 with param := 0xFFFF0109 } 64 4096 = true ∧
    0xFFFF0109 = 0xFFFF0109 % 16 + (if (0xFFFF0109).testBit 8 then 256 else 0) + bits 0xFFFF0109 31 16 * 65536 ∧
    emittedFrame 9 65535 4096 true (List.replicate 64 7) = some (rawFrame (List.replicate 64 7)) ∧
    meets 5 0 (ioDesc 5 0) 64 4096 = true ∧ frameSize (rawFrame [1, 2]) = some (2, 6) ∧ decodeFrame (rawFrame [1, 2]) = some [1, 2] := by
  refine ⟨by decide +kernel, ?_, ?_, ?_, ?_, ?_, ?_, ?_, ?_, ?_, emitted_raw _ (by decide +kernel), ?_, ?_, ?_⟩ <;> decide +kernel

/-- A chunk list of one chunk of 2 bytes, and the 2 bytes after it, in buffer 0. -/
def sList : State :=
  let s := sJob 3 2 { ioDesc 3 0 with aux := 0xFFF, inLen := 72, out := 0 }
  memWrite 0x23400000 (leBytes 4 0x10000000 ++ leBytes 4 72 ++ leBytes 4 2 ++ leBytes 2 1 ++ List.replicate 18 0 ++ leBytes 4 0 ++ leBytes 4 2 ++ List.replicate 32 0 ++ [5, 6]) s

theorem witness_FpListRuns :
    let d : Desc := { ioDesc 3 0 with aux := 0xFFF, inLen := 72, out := 0 }
    engQueue 3 2 sList = [chainOf d] ∧ (sha3FpList (chainOf d) d (takeJob 3 2 [] d sList)).1.status = 0 := by decide +kernel

/-- Cipher lane 63 with frame key slot 7, XTS key slot 8 and stream key slot 9, keys of zeros. -/
def sKeys (op : Nat) (d : Desc) : State :=
  let s := withFields [(F.CIP_CTL_LOCK, 0, 1)] (sJob 6 63 { d with op := op })
  setKey 7 { typ := 1, mat := List.replicate 32 0, kd := 5, gen := 1, counter := 3, limit := 10 }
    (setKey 8 { typ := 2, mat := List.replicate 64 0 } (setKey 9 { typ := 4, mat := List.replicate 32 0 } s))

/-- The jobs of the modes: their block in cluster SRAM. -/
def modeDesc (slot len : Nat) : Desc := { ioDesc 6 0 with inLen := len, aux := slot + 0x10000040 * 65536 }

/-- A mode job's hypotheses. -/
def modeMeets (op slot len : Nat) : Bool :=
  let d := { modeDesc slot len with op := op }
  let s := sKeys op (modeDesc slot len)
  let s0 := takeJob 6 63 [] d s
  let r := readBuf d 0x10000000 0 len s0
  engQueue 6 63 s == [chainOf d] && (r.1.map (·.length)) == some len && (outBuf d r.2).1 == some (0x10000001, 0, 4096, false) && bits d.aux 15 12 == 0 &&
    d.aux / 65536 % 16 == 0 && dataPlace (ctxCore 512) (d.aux / 65536) false s0 && (readMem (physKey (ctxCore 512) (d.aux / 65536)) 16 s0).1.isSome && d.param == 0

theorem witness_CipherJobs :
    (let d : Desc := { ioDesc 6 0 with aux := 7, param := 64 }
     let s := sKeys 0 d
     (keyOf 7 s).typ = 1 ∧ rbit F.CIP_CTL_LOCK s = true ∧ (keyOf 7 s).counter ≠ (keyOf 7 s).limit ∧ gcmBad d true = false ∧
     (readBuf d 0x10000000 0 64 s).1.map (·.length) = some 64 ∧ (outBuf d s).1 = some (0x10000001, 0, 4096, false) ∧ 64 + 48 ≤ 4096) ∧
    modeMeets 2 8 4096 = true ∧ modeMeets 3 8 0 = true ∧ modeMeets 4 9 16 = true ∧ modeMeets 5 9 16 = true ∧ modeMeets 6 9 1 = true ∧ modeMeets 7 9 1 = true ∧
    modeMeets 8 9 1 = true := by
  refine ⟨⟨?_, ?_, ?_, ?_, ?_, ?_, ?_⟩, ?_, ?_, ?_, ?_, ?_, ?_, ?_⟩ <;> decide +kernel

theorem witness_SealedFrameOpens :
    (keyOf 7 (sKeys 0 (ioDesc 6 0))).typ = 1 ∧ (keyOf 7 (sKeys 0 (ioDesc 6 0))).kd < 4096 ∧ (keyOf 7 (sKeys 0 (ioDesc 6 0))).gen < 65536 ∧
    32 ≤ (keyOf 7 (sKeys 0 (ioDesc 6 0))).mat.length ∧ (sealWith 7 20 (List.replicate 14 1) (sKeys 0 (ioDesc 6 0))).1 = 0 := by
  refine ⟨?_, ?_, ?_, ?_, ?_⟩ <;> decide +kernel

theorem witness_ParityRestoresOneStrip :
    ∀ e ∈ [(1, [5, 6]), (2, [(7 : Byte), 8])], e.2.length = 2 := by decide

/-- A drive that answers. -/
def okResp : DriveResp := { code := 0, data := [], lba := 0 }

/-! ### Drives, tests, epochs: hypotheses met -/

/-- A job at drive `n`, whose port's link is up. -/
def sDrive (n : Nat) (d : Desc) : State := withFields [(F.PCI_PORT_STATUS_LINK_UP, portOf n, 1)] (sJob 9 n d)

theorem witness_DriveJobsAndFailures :
    ({} : DriveResp).code = 0 ∧ ({ code := 0x2281 } : DriveResp).code ≠ 0 ∧
    (let d : Desc := { ioDesc 9 0 with aux := 3, outLimit := 4096 }
     nvmeDrive d = 3 ∧ engQueue 9 3 (sDrive 3 d) = [chainOf d] ∧ (outBuf d (takeJob 9 3 [] d (sDrive 3 d))).1 = some (0x10000001, 0, 4096, false) ∧ okLen 4096 = true ∧
     driveReach 3 (sDrive 3 d) = true ∧ islandOff (engIsland 9) (sDrive 3 d) = false ∧ driveReach 3 sBuf = false) ∧
    (let d : Desc := { ioDesc 9 1 with aux := 415 + 2 ^ 16, inLen := 4096, param := 7 * 2 ^ 32 + 2 }
     d.aux = nvmeDrive d + 2 ^ 16 + bits d.aux 29 24 * 2 ^ 24 + bits d.aux 36 32 * 2 ^ 32 ∧ nvmeDrive d = 415 ∧
     (readBuf d 0x10000000 0 4096 (sDrive 415 d)).1.map (·.length) = some 4096 ∧ driveReach 415 (sDrive 415 d) = true ∧ d.param / 2 ^ 32 = 7 ∧
     (let s := setPar [(0, { k := 4, len := 4096, p := zeroStrip 4096, q := zeroStrip 4096 })] (sDrive 415 d)
      feedBad 0 0 s = false ∧ driveReach 415 (parFeed 0 0 (zeroStrip 4096) s) = true)) ∧
    (let d : Desc := { ioDesc 9 2 with aux := 512, inLen := 4096 }
     nvmeDrive d = 512 ∧ 512 ≤ nvmeDrive d ∧ driveReach 512 (sDrive 512 d) = true) ∧
    (let d : Desc := { ioDesc 9 3 with aux := 3, param := 4 * 2 ^ 32 }
     bits d.param 35 32 = 4 ∧ d.aux = nvmeDrive d ∧ d.param < 2 ^ 36) ∧
    watched 3 sBuf = false ∧
    (let d : Desc := { ({ } : Desc) with engine := 9, op := 5, param := 3, aux := 0x10000040 }
     nvmeDrive d = 3 ∧ dataPlace (ctxCore 512) d.aux true (sDrive 3 d) = true ∧ d.flag fOutAlloc = false ∧
     (readMem (physKey (ctxCore 512) d.aux) 64 (sDrive 3 d)).1.map (·.length) = some 64) := by
  refine ⟨?_, ?_, ⟨?_, ?_, ?_, ?_, ?_, ?_, ?_⟩, ⟨?_, ?_, ?_, ?_, ?_, ?_, ?_⟩, ⟨?_, ?_, ?_⟩, ⟨?_, ?_, ?_⟩, ?_, ⟨?_, ?_, ?_, ?_⟩⟩ <;> decide +kernel

/-- A CPL record of 64 bytes in cluster SRAM and a RECORD job for it. -/
def sRec : State :=
  let d : Desc := { engine := 8, op := 0, aux := 0x10000040, param := 64 }
  memWrite 0x10000040 ([3, 0, 0, 0] ++ leBytes 4 64 ++ [1, 1] ++ List.replicate 54 0) (sJob 8 0 d)

theorem witness_DriveTimeout :
    let d : Desc := { ioDesc 9 3 with aux := 3, param := 4 * 2 ^ 32 }
    let s := setEngQueue 9 3 [] (sDrive 3 d)
    engQueue 9 3 (sDrive 3 d) = [chainOf d] ∧ d.op = 3 ∧ d.aux = nvmeDrive d ∧ driveReach (nvmeDrive d) s = true ∧
    ∃ (j : JobRes) (s1 : State), driveJob { code := 0xFFFE } (chainOf d) d s = (j, s1) := by
  refine ⟨?_, ?_, ?_, ?_, _, _, rfl⟩ <;> decide +kernel

theorem witness_OtherAnswersFail (u : Nat) : ingKatExpect u ++ [0] ≠ ingKatExpect u ∧ cmpKatExpect u ++ [0] ≠ cmpKatExpect u := by
  constructor <;> intro h <;> simpa using congrArg List.length h

theorem witness_KnownAnswerTestsAndEpochJobs :
    rbit F.ING_KAT_CTL_KAT_EN .reset = true ∧ rbit F.CMP_VERIFY_CFG_KAT_EN .reset = true ∧ rbit F.CIP_CTL_KAT_EN .reset = true ∧ rbit F.PAR_CTL_KAT_EN .reset = true ∧
    unitRetired 2 3 .reset = false ∧ unitRetired 3 7 .reset = false ∧ unitRetired 4 7 .reset = false ∧ unitRetired 5 7 .reset = false ∧ unitRetired 6 63 .reset = false ∧ unitRetired 7 0 .reset = false ∧
    (∀ e ∈ [2, 3, 4, 5, 6, 7], islandOff (engIsland e) .reset = false) ∧
    (let d : Desc := { engine := 8, op := 0, aux := 0x10000040, param := 64 }
     engQueue 8 0 sRec = [chainOf d] ∧ epochFull sRec = false ∧ dataPlace (ctxCore 512) 0x10000040 false sRec = true ∧ dataPlace (ctxCore 512) 0x1000007F false sRec = true ∧
     (let b := ((readMem (physKey (ctxCore 512) 0x10000040) 64 sRec).1).getD []
      hdrField 4 4 b = 64 ∧ hdrField 0 1 b ≠ 0x02 ∧ isWriteTake (parseRec b) = false)) ∧
    slotUnconfirmed 512 (rget F.PNL_EPOCH_SEQ_NUMBER .reset) .reset = false := by
  refine ⟨?_, ?_, ?_, ?_, ?_, ?_, ?_, ?_, ?_, ?_, ?_, ⟨?_, ?_, ?_, ?_, ⟨?_, ?_, ?_⟩⟩, ?_⟩ <;> decide +kernel

/-! ### Register commands: hypotheses met -/

theorem witness_EnginePowerAndChipCommands :
    (∀ a ∈ [0x20000a000000, 0x20000a000010, 0x20000b000008, 0x20000c000000, 0x20000d000000, 0x20000c000008, 0x20000c000018, 0x200004000000, 0x200001000000, 0x200001000010,
      0x200001000178, 0x200002000028, 0x200005000000, 0x200010000000], Accepts 64 a 0 .reset) ∧
    Accepts 64 (0x200004000200 + 64 * 1 + 8 * 4) (BitVec.ofNat 64 (2 ^ 63)) .reset ∧ Accepts 64 0x20000c000008 (BitVec.ofNat 64 (2 * 2 ^ 60 + 15 * 2 ^ 56 + 4095 * 2 ^ 42)) .reset ∧
    Accepts 64 0x200000000020 (withBit 0x200000000020 0 .reset) .reset ∧ wbit (withBits 0x200001000010 56 38 0x7FFFF .reset) 57 = false ∧ wbit (withBits 0x200001000010 18 0 0x7FFFF .reset) 57 = false ∧
    rbit F.BPM_CTL_S_EN .reset = false ∧ cfgOk 0 .reset = true ∧ wbit (withBit 0x200004000000 0 .reset) 1 = false ∧ rbit F.BPM_CTL_D_EN .reset = false ∧
    rbit F.TSK_CTL_DRAIN .reset = false ∧ rbit F.TSK_CTL_DRAIN (storeWord 0x200005000000 (withBit 0x200005000000 1 .reset) .reset) = true ∧ atStep3 .reset = false := by
  unfold Accepts; refine ⟨?_, ?_, ?_, ?_, ?_, ?_, ?_, ?_, ?_, ?_, ?_, ?_, ?_⟩ <;> decide +kernel

/-- 8 GiB of DRAM trained, with set D laid out in it. -/
def sSetD : State :=
  withFields [(F.MEM_TRAIN_STATUS_READY, 0, 1), (F.MEM_TRAIN_STATUS_CAPACITY_GIB, 0, 8), (F.BPM_SET_BASE_D_BASE, 0, 0x100000000000), (F.BPM_SET_LIMIT_D_LIMIT, 0, 0x100010000000),
    (F.BPM_CLASS_CFG_COUNT, 9, 512)] .reset

theorem witness_KeyCommandsBusy :
    rbit F.CIP_KEYSLOT_STATUS_BUSY (ctlUngate 0x20000c000000 .reset) = false ∧
    (let s := rflag F.CIP_KEYSLOT_STATUS_BUSY true .reset
     Accepts 64 0x20000c000008 (BitVec.ofNat 64 (5 * 2 ^ 60)) s ∧ rbit F.CIP_KEYSLOT_STATUS_BUSY (ctlUngate 0x20000c000000 s) ≠ false) := by
  unfold Accepts; decide +kernel

theorem witness_RetiresOnce :
    rtest F.DPC_CORE_RETIRED_CORES 0 (storeWord 0x200013000100 9 sU) = false ∧
    (let s := rputBit F.DPC_CORE_RETIRED_CORES 0 true sU
     Accepts 64 0x200013000100 9 s ∧ rbit F.DPC_CORE_CTL_EN s 0 = true ∧ rbit F.DPC_CORE_CTL_HALT s 0 = false ∧ rtest F.DPC_CORE_RETIRED_CORES 0 (storeWord 0x200013000100 9 s) = true) := by
  unfold Accepts; decide +kernel

theorem witness_SetDEnables :
    let s := rflag F.BPM_CTL_D_KEEP false sSetD
    Accepts 64 0x200004000000 (withBit 0x200004000000 1 sSetD) sSetD ∧ cfgOk 1 s = true ∧ rbit F.BPM_CTL_D_EN s = false ∧ rbit F.BPM_CTL_D_KEEP s = false ∧
    rbit F.BPM_CTL_D_EN (rflag F.BPM_CTL_D_EN true (emptySet 1 s)) = true ∧ wbit (withBit 0x200004000000 1 sSetD) 0 = false ∧ wbit (withBit 0x200004000000 1 sSetD) 2 = false := by
  unfold Accepts; decide +kernel

/-- An entry into P2 stands at step 3. -/
theorem witness_PwrModeAborts :
    let s := withFields [(F.PWR_STATUS_STEP, 0, 3)] .reset
    Accepts 64 0x200001000000 0 s ∧ atStep3 s = true := by
  unfold Accepts; decide +kernel

theorem witness_CoreRecorderAndWindowCommands :
    (let a := 0x200013000100 + 8 * 63
     Accepts 64 a 1 .reset ∧ rbit F.DPC_CORE_CTL_EN .reset 63 = false ∧ rbit F.DPC_CORE_CTL_HALT .reset 63 = false ∧
     rtest F.DPC_CORE_RETIRED_CORES 63 (storeWord a 1 .reset) = false ∧ wbit (1 : Word) 2 = false ∧ wbit (1 : Word) 3 = false) ∧
    (let a := 0x200013000100
     Accepts 64 a 3 sU ∧ Accepts 64 a 7 sU ∧ Accepts 64 a 9 sU ∧ rbit F.DPC_CORE_CTL_EN sU 0 = true ∧ rbit F.DPC_CORE_CTL_HALT sU 0 = false ∧ wbit (7 : Word) 3 = false ∧ wbit (9 : Word) 2 = false ∧
     executes (selectNext 0 (rflag F.DPC_CORE_CTL_HALT false (storeWord a 7 sU) 0)) 0 = true) ∧
    Accepts 64 0x200003000018 0 .reset ∧ (selectRecord 0 .reset).2 = none ∧
    (let e : EvEntry := { code := 1, seq := some 0 }
     let s : State := { (State.reset) with evr := { (State.reset).evr with flash := [(0, e)], next := 1 } }
     (selectRecord 0 s).2 = some e) ∧
    ctlFault 64 0x200003000020 false 0 .reset = none ∧ executes .reset 64 = true ∧ Accepts 64 0x200003000028 0x10000000 .reset ∧ dataPlace 64 0x10000000 true .reset = true ∧
    (readMem (physKey 64 0x10000000) 32 .reset).1.map (·.length) = some 32 ∧ Accepts 64 (0x200012000100 + 8 * 6) 0 .reset ∧
    (let s := withFields [(F.RRN_WIN_SEL_WORD, 0, 2)] .reset
     Accepts 64 0x200008000018 2 s ∧ Accepts 64 0x200008000018 1 s ∧ rget F.RRN_WIN_SEL_WORD s = 2) := by
  unfold Accepts; refine ⟨⟨?_, ?_, ?_, ?_, ?_, ?_⟩, ⟨?_, ?_, ?_, ?_, ?_, ?_, ?_, ?_⟩, ?_, ?_, ?_, ?_, ?_, ?_, ?_, ?_, ?_, ?_⟩ <;> decide +kernel

theorem witness_RegisterWriteChecks :
    executes .reset 0 = false ∧ executes sHook 0 = true ∧ privOf sHook 0 = 2 ∧ executes sU 0 = true ∧ privOf sU 0 ≠ 2 ∧ uMayWrite 0x200013FFFFF8 = false ∧ privOf sU 0 ≠ 0 ∧
    privOf .reset 64 = 0 ∧ writerOk 64 0x200000000001 0 .reset = true ∧ writerOk 64 0x200009000028 0 .reset = false ∧ regDefined 0x200013FFFFF8 = false ∧
    regDefined 0x20000a000000 = true ∧ writerOk 64 0x20000a000000 0 .reset = true ∧ servedBy 0x20000a000000 true = some 11 ∧ islandOff 11 (rputBit F.PWR_STATUS_PG 11 true .reset) = true ∧
    executes (rputBit F.PWR_STATUS_PG 11 true .reset) 64 = true ∧ ctlOff 0x20000a000000 true .reset = none := by
  decide +kernel

theorem witness_RegisterFieldsByAccessClass :
    Accepts 64 0x200006000000 0 .reset ∧ blockOf 0x200006000000 = 6 ∧ ksorted (State.reset).regs = true ∧ (F.HQ_CTL_TCP_EN, 0) ∈ fieldsAt 0x200006000000 ∧ blockOf 0x20000f000000 = 15 := by
  unfold Accepts; refine ⟨?_, ?_, ?_, ?_, ?_⟩ <;> decide +kernel

theorem witness_PartnerAndFenceCommands :
    (∀ b ∈ [0, 2], Accepts 64 0x200009000000 (withBit 0x200009000000 b .reset) .reset) ∧ wbit (withBit 0x200009000000 0 .reset) 2 = false ∧
    (∀ b ∈ [2, 3, 4, 5, 6], Accepts 65 0x200009000028 (withBit 0x200009000028 b .reset) .reset ∧
      ∀ k ∈ [2, 3, 4, 5, 6], k ≠ b → wbit (withBit 0x200009000028 b .reset) k = false) ∧
    (∀ on ∈ [false, true], Accepts 64 0x200009000020 (withBits 0x200009000020 0 0 (if on then 1 else 0) .reset) .reset ∧ wbit (withBits 0x200009000020 0 0 (if on then 1 else 0) .reset) 0 = on) ∧
    Accepts 64 0x200009000020 (withBit 0x200009000020 1 .reset) .reset ∧ wbit (withBit 0x200009000020 1 .reset) 0 = rbit F.PNL_HB_CFG_HB_EN .reset ∧
    rbit F.PNL_FENCE_STATUS_FENCE_IN .reset = false ∧ rbit F.PNL_FENCE_STATUS_FENCE_OUT .reset = false ∧
    (let s := withFields [(F.PNL_FENCE_STATUS_FENCE_IN, 0, 1), (F.PNL_FENCE_STATUS_FENCE_OUT, 0, 1)] .reset
     Accepts 65 0x200009000028 (withBit 0x200009000028 3 s) s ∧ rbit F.PNL_FENCE_STATUS_FENCE_OUT s = true ∧ rbit F.PNL_FENCE_STATUS_FENCE_IN s = true) := by
  unfold Accepts; refine ⟨?_, ?_, ?_, ?_, ?_, ?_, ?_, ?_, ⟨?_, ?_, ?_⟩⟩ <;> decide +kernel

/-! ### Security block: hypotheses met -/

/-- A tag is at most 16 bytes. -/
theorem gcmTag_take (ks : List (List Byte)) (iv aad ct : List Byte) : (gcmTag ks iv aad ct).take 16 = gcmTag ks iv aad ct := by
  apply List.take_of_length_le
  unfold gcmTag xorBytes beBytes
  simp only [List.length_zipWith, List.length_reverse, leBytes_length]
  omega

/-- Under any key some 60 bytes open. -/
theorem opens (key : List Byte) : ∃ b l, openSealed key [] b 32 = some l := by
  refine ⟨List.replicate 12 0 ++ (List.replicate 32 0 ++ gcmTag (roundKeys key) (List.replicate 12 0) [] (List.replicate 32 0)),
    gcmStream (roundKeys key) (List.replicate 12 0) (List.replicate 32 0), ?_⟩
  unfold openSealed
  rw [List.take_left' (by rfl), List.drop_left' (by rfl), List.take_left' (by rfl), ← List.drop_drop, List.drop_left' (by rfl), List.drop_left' (by rfl), gcmTag_take]
  unfold gcmDec
  rw [if_pos rfl]

/-- A block that pair 0 wrote in cluster SRAM is read whole, whatever its bytes. -/
theorem blockRead_put (b : List Byte) (hb : 0 < b.length) (hl : b.length ≤ 4096) :
    (blockRead 64 0x10000000 0 b.length (memWrite 0x10000000 b .reset)).1 = some b := by
  have h : ∀ x : Nat, x < 4096 → dataPlace 64 (0x10000000 + x) true (memWrite 0x10000000 b .reset) = true := by
    intro x hx
    unfold dataPlace
    have hr : regionOf 64 (0x10000000 + x) (memWrite 0x10000000 b .reset) = some .cluster := by
      unfold regionOf
      rw [if_neg (by rintro ⟨_, h⟩; omega), if_neg (by rintro ⟨h, _⟩; exact h rfl), if_pos ⟨by omega, by omega⟩]
    rw [hr]; simp; omega
  have h0 := h 0 (by omega)
  have h1 := h (b.length - 1) (by omega)
  unfold blockRead
  have e : (0x10000000 : Nat) + 0 = 0x10000000 := rfl
  rw [e] at *
  rw [h0, h1]
  have hk : physKey 64 0x10000000 = 0x10000000 := by decide
  rw [hk]
  unfold readMem
  rw [if_neg (by rintro ⟨_, _, h⟩)]
  exact congrArg some (memRead_memWrite 0x10000000 b .reset rfl)

/-- The block at 0x10000000 of cluster SRAM holds `b`, and pair 0 asks for an operation. -/
def sBlk (b : List Byte) : State := memWrite 0x10000000 b (withFields [(F.SEC_STATUS_ALIAS_READY, 0, 1), (F.SEC_STATUS_STAGE, 0, 1)] .reset)

theorem witness_SecurityBlockAndKeyTransport :
    (∀ op ∈ [1, 2, 3, 4, 5, 6, 7, 8, 9], Accepts 64 0x200011000018 (BitVec.ofNat 64 (op * 2 ^ 60 + 0x10000000 / 64)) .reset) ∧
    rget F.SEC_ATTEST_CTL_OBJ .reset < 8 ∧ rget F.SEC_ATTEST_CTL_INDEX .reset < 1024 ∧
    (blockRead 64 0x10000000 0 33 (sBlk [])).1.isSome = true ∧ rbit F.SEC_STATUS_ALIAS_READY (sBlk []) = true ∧ (reportItem 4 [] (sBlk [])).1.isSome = true ∧
    (blockRead 64 0x10000000 0 9 (sBlk (leBytes 8 0x10001000 ++ [1]))).1 = some (leBytes 8 0x10001000 ++ [1]) ∧ (blockImage 64 0x10001000 1 (sBlk [])).1.isSome = true ∧
    (blockRead 64 0x10000000 0 40 (sBlk [2])).1.map (fun b => ofLe (b.take 8)) = some 2 ∧ rget F.SEC_STATUS_STAGE (sBlk [2]) = 1 ∧
    rbit F.SEC_STATUS_TEST (sBlk []) = false ∧ (sBlk []).keys.awk = none ∧ dataPlace 64 0x10000000 true (sBlk []) = true ∧
    (blockRead 64 0x10000000 0 10 (sBlk (leBytes 8 0x10001000 ++ [3, 1]))).1 = some (leBytes 8 0x10001000 ++ [3, 1]) ∧
    (blockRead 64 0x10000000 0 3 (sBlk [3, 1, 1])).1 = some [3, 1, 1] := by
  unfold Accepts; refine ⟨?_, ?_, ?_, ?_, ?_, rfl, ?_, ?_, ?_, ?_, ?_, ?_, ?_, ?_, ?_⟩ <;> decide +kernel

/-- AWK_UNSEAL: some block opens under the sealing key, and is read from where it stands. -/
theorem witness_AwkUnseal : ∃ b l, openSealed (sealKey .reset) [] b 32 = some l := opens _

/-- RECEIVE_KEY: some payload opens under the shared secret. -/
theorem witness_ReceiveKey (ss : List Byte) : ∃ b l, openSealed (xferKey ss) [] b 32 = some l := opens _

theorem witness_SvnAdvances :
    let s := withFields [(F.SEC_SVN_S1_SVN, 0, 128), (F.SEC_SVN_RT_SVN, 0, 128)] .reset
    Accepts 64 0x200011000008 (BitVec.ofNat 64 (128 * 2 ^ 56)) s ∧ 128 ≤ rget F.SEC_SVN_S1_SVN (clearIrq 9 s) ∧ 128 ≤ rget F.SEC_SVN_RT_SVN (clearIrq 9 s) ∧
    rget F.SEC_SVN_FUSED (clearIrq 9 s) < 128 ∧ ctlFault 64 0x200011000010 false 0 s = none ∧ rget F.SEC_ATTEST_CTL_OBJ (withFields [(F.SEC_ATTEST_CTL_OBJ, 0, 3)] s) = 3 := by
  unfold Accepts; decide +kernel

/-- A part that holds an array wrapping key and waits for array 9's certificates. -/
def sPeer : State :=
  let s : State := State.reset
  { s with keys := { s.keys with awk := some (List.replicate 32 1) }, arr := { s.arr with sessions := [{ num := 1, mine := true, chip := 9, sends := 1, st := .queued }] } }

theorem witness_KeyTransport :
    (let m : KeyMsg := { chip := 9, session := 1, purpose := 1 }
     (keyWaiter m sPeer).map (·.num) = some 1 ∧ m.ok = true ∧ svnF sPeer ≤ m.svn ∧ (sessOf 1 sPeer).map (·.chip) = some 9) ∧
    (sendKey 1 1 [] [] sPeer).1.result = 0 ∧ (reportItem 0 [] sPeer).1.isSome = true := by
  refine ⟨⟨?_, ?_, ?_, ?_⟩, rfl, rfl⟩ <;> decide +kernel

/-- Under any key some record of a head of 16 bytes unwraps. -/
theorem unwraps (awk hd : List Byte) (h : hd.length = 16) : ∃ t m, unwrap awk (hd ++ t) = some m := by
  refine ⟨List.replicate 12 0 ++ (List.replicate 64 0 ++ gcmTag (roundKeys awk) (List.replicate 12 0) hd (List.replicate 64 0)),
    gcmStream (roundKeys awk) (List.replicate 12 0) (List.replicate 64 0), ?_⟩
  unfold unwrap
  rw [List.take_left' h, List.drop_left' h, List.take_left' (by rfl), show (28 : Nat) = 16 + 12 from rfl, show (92 : Nat) = 16 + (12 + 64) from rfl,
    ← List.drop_drop, ← List.drop_drop, ← List.drop_drop, List.drop_left' h, List.drop_left' (by rfl), List.take_left' (by rfl), List.drop_left' (by rfl), gcmTag_take]
  unfold gcmDec
  rw [if_pos rfl]

/-- A part with a record of generation 2 of key domain 3, which chip 9 has not accepted. -/
def sPend (t : List Byte) : State :=
  let s : State := State.reset
  { s with keys := { s.keys with awk := some (List.replicate 32 1), pend := [{ kd := 3, gen := 2, chips := [9] }],
                                 records := [[1, 0, 1, 0, 3, 0, 2, 0, 0, 0, 0, 0, 0, 0, 0, 0] ++ t] } }

/-- A record that is due to a chip goes to it whole. -/
theorem witness_RecordPends (t : List Byte) :
    let m : KeyMsg := { chip := 9, session := 3 * 65536 + 2, purpose := 2 }
    pendingRecord m (sPend t) = some ([1, 0, 1, 0, 3, 0, 2, 0, 0, 0, 0, 0, 0, 0, 0, 0] ++ t) ∧ m.ok = true ∧ svnF (sPend t) ≤ m.svn ∧ m.result = 0 := by
  refine ⟨?_, rfl, ?_, rfl⟩
  · have e : ∀ u : List Byte, (ofLe ((([1, 0, 1, 0, 3, 0, 2, 0, 0, 0, 0, 0, 0, 0, 0, 0] ++ u : List Byte).drop 2).take 1) == 1 &&
        ofLe ((([1, 0, 1, 0, 3, 0, 2, 0, 0, 0, 0, 0, 0, 0, 0, 0] ++ u : List Byte).drop 4).take 2) * 65536 +
          ofLe ((([1, 0, 1, 0, 3, 0, 2, 0, 0, 0, 0, 0, 0, 0, 0, 0] ++ u : List Byte).drop 6).take 2) == 196610) = true := fun u => by simp [ofLe]
    unfold pendingRecord
    rw [if_pos (by simp [sPend])]
    exact List.find?_cons_of_pos (e t)
  show svnF (.reset : State) ≤ 0
  decide +kernel

/-- SEND_KEY of a record that unwraps answers OK. -/
theorem witness_RecordSent (t mat : List Byte) (h : unwrap (List.replicate 32 1) t = some mat) : (sendKey 2 0 [] t (sPend [])).1.result = 0 := by
  unfold sendKey
  rw [if_neg (by decide +kernel)]
  simp only [sPend, h]
  rfl

/-- A request block in cluster SRAM. -/
theorem witness_SendAndWaitp :
    (let s := sReg 1 0x10000040
     Fetches 0 [1] s ∧ privOf s 0 ≤ 1 ∧ descPlace 0 0x10000040 s = true ∧ (readMem (physKey 0 0x10000040) 64 s).1.map (·.length) = some 64) ∧
    (∃ e n, tokChoice (sReg 1 0x10000040) 0 = .ok e n) ∧
    (let s := withFields [(F.PWR_MODE_STATE, 0, 1)] .reset
     Fetches 64 [] s ∧ privOf s 64 = 0 ∧ rget F.PWR_MODE_STATE s = 1) ∧
    (let s := withFields [(F.PWR_MODE_STATE, 0, 3), (F.PWR_MODE_VETO, 0, 0xFFFF)] .reset
     Fetches 64 [] s ∧ 2 ≤ rget F.PWR_MODE_STATE s ∧ refusers 3 { s with pwr := { s.pwr with waitp := some 1, before := 0 } } ≠ 0) := by
  refine ⟨?_, ⟨_, _, rfl⟩, ?_, ?_⟩ <;> (unfold Fetches; decide +kernel)

/-! ### Recorder and dispatcher: hypotheses met -/

/-- A recorder with the entries given. -/
def sFifo (l : List EvEntry) : State := let s : State := State.reset; { s with evr := { s.evr with fifo := l } }

theorem witness_RecorderIntake :
    (let s : State := sFifo [entryOf { code := 9, sev := 2 } .reset]
     s.evr.fifo.getLast? = some (entryOf { code := 9, sev := 2 } .reset) ∧ evSame (entryOf { code := 9, sev := 2 } .reset) (entryOf { code := 9, sev := 2 } s) = true ∧
     (entryOf { code := 9, sev := 2 } (.reset : State)).closed = false ∧ (entryOf { code := 9, sev := 2 } (.reset : State)).rept < 0xFFFF) ∧
    (sFifo []).evr.fifo.getLast? = none ∧ wearLimited (sFifo []) = false ∧
    (∀ p ∈ [(223, 2, true), (224, 2, false), (255, 3, true), (256, 3, false)],
      let s := sFifo (List.replicate p.1 { code := 1, sev := 3 })
      let e := entryOf { code := 2, sev := p.2.1 } s
      evSame { code := 1, sev := 3 } e = false ∧ decide (s.evr.fifo.length < (if e.sev = 3 then 256 else 224) ∧ (2 ≤ e.sev ∨ wearLimited s = false)) = p.2.2 ∧ s.evr.fifo.length ≤ 256) := by
  decide +kernel

/-- The recorder holds the record numbered `q`, closed. -/
def sOpenRec (q : Nat) : State := sFifo [{ code := 1, seq := some q, closed := true }]

theorem witness_RecorderAndDispatcherSteps :
    (∀ q ∈ [0, 16382, 16384], (sOpenRec q).evr.fifo = [{ code := 1, seq := some q, closed := true }] ∧ (sOpenRec q).evr.erasing ≠ some (flashSlot q / 1024) ∧ q ≠ 16383 ∧
      wearLimited (syncFifo (openHead { commitRecord { code := 1, seq := some q, closed := true } (sOpenRec q) with evr := { (commitRecord { code := 1, seq := some q, closed := true } (sOpenRec q)).evr with fifo := [] } })) = false) ∧
    wearLimited (record Ev.BIRTH_LOCKED srcAON 0 [] (syncFifo (openHead { commitRecord { code := 1, seq := some 16383, closed := true } (sOpenRec 16383) with evr := { (commitRecord { code := 1, seq := some 16383, closed := true } (sOpenRec 16383)).evr with fifo := [] } }))) = false ∧
    (let s : State := { sOpenRec 16384 with evr := { (sOpenRec 16384).evr with erasing := some 17 } }
     s.evr.erasing = some 17) ∧
    rbit F.EVR_STATUS_READY (withFields [(F.EVR_STATUS_READY, 0, 1)] .reset) = true ∧
    rget F.EVR_LOST_PENDING (withFields [(F.EVR_LOST_PENDING, 3, 1)] .reset) 3 ≠ 0 ∧ (withFields [(F.EVR_LOST_PENDING, 3, 1)] .reset).evr.fifo.length < 224 ∧
    rbit F.EVR_STATUS_READY .reset = false ∧ ksorted (State.reset).regs = true := by
  refine ⟨?_, ?_, ?_, ?_, ?_, ?_, ?_, ?_⟩ <;> decide +kernel

/-- The dispatcher runs with a task in a queue. -/
def sQueue (q : Nat) (t : Task) : State := setQ q [t] (withFields [(F.TSK_CTL_DISPATCH_EN, 0, 1), (F.TSK_SLOT_MAP_CORE_EN, 0, 0xFFFFFFFFFFFFFFFF)] .reset)

theorem witness_DispatchAndTimers :
    (let t : Task := { typ := 4, queue := 0 }
     let s := sQueue 0 t
     rbit F.TSK_CTL_DISPATCH_EN s = true ∧ s.task.q.getD 0 [] = [t] ∧ t.cmd = none ∧ t.since = none ∧ chooseSlot s t.group = some 0) ∧
    (let t : Task := { typ := 1, queue := 1, cmd := some { id := { qid := 1, cmdseq := 1 } } }
     let s := sQueue 1 t
     rbit F.TSK_CTL_DISPATCH_EN s = true ∧ s.task.q.getD 0 [] = [] ∧ rbit F.TSK_CTL_DRAIN s = false ∧ capHit s 1 = false ∧ capHit s 3 = false ∧
     (pickQueue s 4 s.task.turn s.task.credit).map (·.1) = some 1 ∧
     (hostPick s).map (·.1) = some t ∧ (chooseSlot s t.group).isSome = true) ∧
    (let t : Task := { typ := 4, queue := 3 }
     let s := sQueue 3 t
     s.task.q.getD 0 [] = [] ∧ capHit s 1 = false ∧ capHit s 3 = false ∧ (pickQueue s 4 s.task.turn s.task.credit).map (·.1) = some 3 ∧ s.task.q.getD 3 [] = [t] ∧ (chooseSlot s t.group).isSome = true) ∧
    (∀ p ∈ [(1, false), (1, true), (4, false)],
      let x : Slot := { st := .waiting, task := { typ := p.1 }, passed := p.2 }
      let s := setSlot 511 x (withFields [(F.TSK_WATCHDOG_LIMIT_MS, 0, 1)] .reset)
      slotOf s 511 = x ∧ rget F.TSK_WATCHDOG_LIMIT_MS s ≠ 0 ∧ x.fired = false) ∧
    rbit F.TSK_CTL_DRAIN (withFields [(F.TSK_CTL_DRAIN, 0, 1)] .reset) = true ∧
    rbit F.BPM_CTL_D_REBUILDING (withFields [(F.BPM_CTL_D_REBUILDING, 0, 1)] .reset) = true ∧
    (let w : StageReq := { id := { qid := 1, cmdseq := 1 }, task := some { typ := 1 } }
     let s : State := { (State.reset) with host := { (State.reset).host with stageWait := [w] } }
     s.host.stageWait.find? (fun q => q.id == { qid := 1, cmdseq := 1 } && q.task.isSome) = some w) := by
  refine ⟨?_, ?_, ?_, ?_, ?_, ?_, ?_⟩ <;> decide +kernel


/-! ### Host commands: hypotheses met -/

/-- Intake on; controller 0 live with a grant; its admin queue and I/O queue 1 live; namespace 1 of 1000 LBAs. -/
def sIntake : State :=
  let s := emptySet 0 (withFields [(F.HQ_CTL_INTAKE_EN, 0, 1), (F.HQ_CTL_REARN_EN, 0, 1), (F.HQ_CTL_TCP_EN, 0, 1), (F.BPM_CTL_S_EN, 0, 1), (F.BPM_CTL_D_EN, 0, 1)] .reset)
  { s with host := { s.host with ctrls := [(0, { live := true, attached := [1], grant := 2 ^ 30, rdy := true, cc := 1 })], queues := [(0, { sq := true, cq := true }), (1, { sq := true, cq := true })],
                                 ns := [(1, { lbas := 1000 })] } }

/-- A command on queue `q`. -/
def hMsg (q : Nat) (x : Sqe) (dlen : Nat) : HbMsg := { id := { qid := q, cmdseq := 1 }, sqe := x, dlen := dlen, bodyLen := dlen }

/-- The task of a command. -/
def hTask (m : HbMsg) (h : Option Nat) : Task := hostTask m 0 false false h sIntake

/-- A state `b` with the command's task running in slot 5. -/
def sOn (b : State) (m : HbMsg) : State := setSlot 5 { st := .running, task := hTask m none } b

/-- `sIntake` with it. -/
def sHost (m : HbMsg) : State := sOn sIntake m

/-- The same with its data in the buffer `h`. -/
def sHostH (m : HbMsg) (h : Nat) : State := setSlot 5 { st := .running, task := hTask m (some h) } sIntake

/-- `HostRuns` with CANCEL clear, as a computation. -/
def runsIn (b : State) (q : Nat) (x : Sqe) : Bool :=
  let m := hMsg q x 64
  let s := sOn b m
  slotCmd 5 (q == 0) x.opc s == some m && m.dlen == 64 && !taskOver (slotOf s 5).task && !(slotOf s 5).task.refused && m.xferOk && !cancelled 5 s

theorem runs_of (b : State) (q : Nat) (x : Sqe) (h : runsIn b q x = true) :
    HostRuns 5 (q == 0) x.opc (slotOf (sOn b (hMsg q x 64)) 5).task (hMsg q x 64) (sOn b (hMsg q x 64)) ∧ cancelled 5 (sOn b (hMsg q x 64)) = false := by
  unfold runsIn at h
  simp only [Bool.and_eq_true, beq_iff_eq, Bool.not_eq_true'] at h
  obtain ⟨⟨⟨⟨⟨h1, h2⟩, h3⟩, h4⟩, h5⟩, h6⟩ := h
  exact ⟨⟨h1, Or.inl h2, Or.inr ⟨h3, h4⟩, h5, rfl⟩, h6⟩

/-- The state past the cancellation point of an admin command. -/
def afterIn (b : State) (x : Sqe) : State :=
  let m := hMsg 0 x 64
  let s := sOn b m
  passSlot 5 (if m.loc then s else (addRec 5 (slotOf s 5).task.group (.take false false m.id (slotOf s 5).task.wseq m.sqe) s).2)

theorem admin_of (b : State) (x : Sqe) (h : runsIn b 0 x = true) :
    AdminRuns 5 x.opc (slotOf (sOn b (hMsg 0 x 64)) 5).task (hMsg 0 x 64) (afterIn b x) (sOn b (hMsg 0 x 64)) :=
  ⟨(runs_of b 0 x h).1, (runs_of b 0 x h).2, rfl⟩

/-- The same from `sIntake`. -/
def runsB (q : Nat) (x : Sqe) : Bool := runsIn sIntake q x

/-- The same from `sIntake`. -/
def afterTake (x : Sqe) : State := afterIn sIntake x

theorem witness_HostIntakeAndLanding :
    (∀ m ∈ [({ ver := 2 } : HbMsg), { typ := 0 }, { typ := 6 }, { dlen := 65 }, { dlen := 63, bodyLen := 63 }], badHeader m = true) ∧ rbit F.HQ_CTL_INTAKE_EN .reset = false ∧
    (∀ m ∈ [hMsg 1 { opc := 2, nsid := 1 } 64, hMsg 1 { opc := 1, nsid := 1, cdw12 := 0 } 4160, hMsg 1 { opc := 1, nsid := 1, cdw12 := 511 } 2097216],
      badHeader m = false ∧ m.typ = 1 ∧ rbit F.HQ_CTL_INTAKE_EN sIntake = true ∧ rbit F.HQ_CTL_REARN_EN sIntake = true ∧ queueLive (idKey m.id) sIntake = true ∧
      localWrong m (openCmd m.id (noteSession m sIntake)) = false ∧ owns (groupOfCmd m (noteSession m sIntake)) (openCmd m.id (noteSession m sIntake)) = true ∧ accepted m = true ∧ m.tcp = false ∧
      (overGrant m (openCmd m.id (noteSession m sIntake)) || (openCmd m.id (noteSession m sIntake)).mir.overSeen.contains m.id) = false ∧ dataLen m ≤ 0x200000) ∧
    dataLen (hMsg 1 { opc := 2, nsid := 1 } 64) = 0 ∧ dataLen (hMsg 1 { opc := 1, nsid := 1, cdw12 := 511 } 2097216) = 0x200000 ∧
    (landData 0 (hMsg 1 { opc := 1, nsid := 1 } 4160) (openCmd { qid := 1, cmdseq := 1 } sIntake)).1.isSome = true ∧
    overGrant (hMsg 1 { opc := 1, nsid := 1 } 4160) { sIntake with host := { sIntake.host with ctrls := [(0, { live := true, grant := 4095 })] } } = true ∧
    localWrong (hMsg 0 { opc := 0xC6 } 64) sIntake = true ∧
    (let s := rset F.PNL_OWN_MAP_OWNER (2 ^ 64 - 1) sIntake 0
     owns 0 s = false ∧ queueLive 1 s = true ∧ tcpAdmin { hMsg 1 { opc := 2, nsid := 1 } 64 with tcp := true } = false) := by
  refine ⟨?_, ?_, ?_, ?_, ?_, ?_, ?_, ?_, ?_⟩ <;> decide +kernel

theorem witness_MovingGroupAndOverGrant :
    (let m := { hMsg 1 { opc := 2, nsid := 1 } 64 with tcp := true }
     let s : State := { sIntake with mir := { sIntake.mir with moving := [(0, [0], true, none)] } }
     let o := openCmd m.id (noteSession m s)
     badHeader m = false ∧ m.typ = 1 ∧ rbit F.HQ_CTL_INTAKE_EN s = true ∧ rbit F.HQ_CTL_TCP_EN s = true ∧ queueLive (idKey m.id) s = true ∧ localWrong m o = false ∧
     (m.tcp && m.id.qid != 0 && movingGroup (groupOfCmd m (noteSession m s)) o) = true) ∧
    (let m := hMsg 1 { opc := 1, nsid := 1 } 4160
     let s : State := { sIntake with mir := { sIntake.mir with overSeen := [m.id] } }
     let o := openCmd m.id (noteSession m s)
     (overGrant m o || o.mir.overSeen.contains m.id) = true ∧ overGrant m o = false) := by
  decide +kernel

theorem witness_LandingTokens :
    (let m := { hMsg 1 { opc := 1, nsid := 1 } 4160 with landed := false }
     let s := sHostH m 0x10000000
     lowest 512 (fun i => slotBusy s i && waitsFor m.id (slotOf s i).task) = some 5 ∧ (slotOf s 5).task.cmd = some m ∧ m.tcp = false) ∧
    (let m := { hMsg 1 { opc := 1, nsid := 1 } 4160 with landed := false }
     let s : State := { sIntake with host := { sIntake.host with ring := [{ m := m }] } }
     lowest 512 (fun i => slotBusy s i && waitsFor m.id (slotOf s i).task) = none ∧ (s.task.q.getD 1 []).find? (waitsFor m.id) = none ∧ ringOf m.id s = some { m := m } ∧ m.landed = false ∧
     s.host.lateLand.find? (·.1 == m.id) = none ∧
     (let u : State := { s with host := { s.host with lateLand := [(m.id, 5, 0x10000000)] } }
      lowest 512 (fun i => slotBusy u i && waitsFor m.id (slotOf u i).task) = none ∧ u.host.lateLand.find? (·.1 == m.id) = some (m.id, 5, 0x10000000))) := by
  decide +kernel

theorem witness_ControllersAndConnections :
    (ctrlOf sIntake 0).live = true ∧ (ctrlQueues 0 (putCtrl 0 { ctrlOf sIntake 0 with ending := true } sIntake)).contains 0 = true ∧
    (let s := setCtrl 7 { live := true } sIntake
     (ctrlOf s 7).live = true ∧ (ctrlQueues 7 (putCtrl 7 { ctrlOf s 7 with ending := true } s)).contains 0 = false) ∧
    (let s := setHq (512 * 0 + 256) { sq := true, tcp := true } sIntake
     (hqOf s 256).sq = true ∧ (hqOf s 256).tcp = true) ∧
    owns 0 sIntake = true ∧ rbit F.HQ_CTL_INTAKE_EN sIntake = true ∧ (nodeOf 3 sIntake).maxMsg < 2101248 ∧ (nodeOf 3 (setNode 3 { maxMsg := 2101248, bound := true } sIntake)).maxMsg = 2101248 ∧
    lowest 1024 (fun n => !(ctrlOf sIntake n).live) = some 1 ∧
    (let s := setCtrl 0 { live := true, tcp := true } sIntake
     ((ctrlOf s 0).live = true ∧ (ctrlOf s 0).tcp = true ∧ (hqOf s 256).sq = false ∧ queuePairs s < maxQp s)) := by
  refine ⟨?_, ?_, ?_, ?_, ?_, ?_, ?_, ?_, ?_, ?_⟩ <;> decide +kernel

theorem witness_HostWritesReadsAndStage :
    (let m := hMsg 1 { opc := 1, nsid := 1, cdw10 := 488, cdw12 := 511 } 2097216
     let t := { hTask m (some 0x90000000) with replay := true }
     let s := setSlot 5 { st := .running, task := t } sIntake
     HostRuns 5 false 1 t m s ∧ cancelled 5 s = false ∧ writeProtected m s = false ∧ awaitsReceipt m s = false ∧ overlapWaits 5 s = false ∧ m.tcp = false ∧
     solo (passSlot 5 (addRec 5 t.group (.take false true m.id t.wseq m.sqe) s).2) = false ∧ 4096 * sqeNlb m.sqe = 0x200000 ∧ dataLen m = 0x200000 ∧
     rangeStatus m (sqeSlba m.sqe) (sqeNlb m.sqe) s = none ∧ taskHandle t = some 0x90000000 ∧ hSet 0x90000000 = 1) ∧
    (let x : Sqe := { opc := 8, nsid := 1, cdw10 := 999 }
     let m := hMsg 1 x 64
     let s := sHost m
     runsB 1 x = true ∧ writeProtected m s = false ∧ awaitsReceipt m s = false ∧ overlapWaits 5 s = false ∧ sqeNlb m.sqe ≤ 512 ∧ rangeStatus m (sqeSlba m.sqe) (sqeNlb m.sqe) s = none ∧
     solo (passSlot 5 (addRec 5 (some 0) (.take false true m.id 0 m.sqe) s).2) = false ∧ taskHandle (slotOf (passSlot 5 (addRec 5 (some 0) (.take false true m.id 0 m.sqe) s).2) 5).task = none) ∧
    (let m := hMsg 1 { opc := 9, nsid := 1, cdw11 := 4 } 80
     let t := hTask m (some 0x10000000)
     let s := setBuf 0x10000000 { cnt := 1, fill := 16 } (sHostH m 0x10000000)
     HostRuns 5 false 9 t m s ∧ cancelled 5 s = false ∧ overlapWaits 5 s = false ∧ (dsmRanges m.sqe (taskData t s)).findSome? (fun p => rangeStatus m (p.1 / 4096) (p.2 / 4096) s) = none ∧
     16 * (m.sqe.cdw10 % 256 + 1) ≤ (taskData t s).length ∧ m.sqe.cdw11.testBit 2 = true) ∧
    runsB 1 { opc := 0, nsid := 0xFFFFFFFF } = true ∧
    (let m := { hMsg 1 { opc := 1, nsid := 1 } 4160 with xferOk := false }
     slotCmd 5 false 1 (sHostH m 0x10000000) = some m ∧ m.landed = true ∧ taskOver (slotOf (sHostH m 0x10000000) 5).task = false ∧ (slotOf (sHostH m 0x10000000) 5).task.refused = false) ∧
    (let m := hMsg 1 { opc := 1, nsid := 1 } 4160
     let s := setSlot 5 { st := .running, task := hostTask m 0 true false none sIntake } sIntake
     slotCmd 5 false 1 s = some { m with dlen := 64 } ∧ (slotOf s 5).passed = false ∧ taskOver (slotOf s 5).task = true) ∧
    (let x : Sqe := { opc := 2, nsid := 1, cdw10 := 999 }
     let m := hMsg 1 x 64
     let s := sHost m
     let srcs := [lbaSrc 1 (4096 * 999) s]
     runsB 1 x = true ∧ rangeStatus m (sqeSlba m.sqe) (sqeNlb m.sqe) s = none ∧ (slotOf s 5).passed = false ∧ srcs = [.zero] ∧ sleeping 1 999 .zero s = none ∧ missing (recsOf srcs) s = [] ∧
     (recChunks (recsOf srcs) s).1 = []) ∧
    (let x : Sqe := { opc := 2, nsid := 1, cdw10 := 7 }
     let s : State := onArr (fun a => { a with maps := [{ nsid := 1, addr := 28672, len := 4096, frame := { shelf := 1, stripe := 1 } }], stripes := [{ stripe := 1, frames := [{ len := 100 }] }] }) (sHost (hMsg 1 x 64))
     sleeping 1 7 (lbaSrc 1 28672 s) s = some 1) ∧
    (let m := hMsg 0 { opc := 0xC1, nsid := 1 } 80
     let t := hTask m (some 0x10000000)
     let s := setBuf 0x10000000 { cnt := 1, fill := 16 } (sHostH m 0x10000000)
     HostRuns 5 true 0xC1 t m s ∧ rangesClean 0 (taskData t s) = true ∧ (ioNs m s).isSome = true ∧ (stageRanges 1 0 (taskData t s)).findSome? (fun r => rangeStatus m r.2.1 r.2.2 s) = none ∧
     (stageRanges 1 0 (taskData t s)).all (fun r => readable r s) = true) := by
  refine ⟨⟨⟨?_, ?_, ?_, ?_, rfl⟩, ?_, ?_, ?_, ?_, ?_, ?_, ?_, ?_, ?_, ?_, ?_⟩, ?_, ⟨⟨?_, ?_, ?_, ?_, rfl⟩, ?_, ?_, ?_, ?_, ?_⟩, ?_, ?_, ?_, ?_, ?_, ⟨⟨?_, ?_, ?_, ?_, rfl⟩, ?_, ?_, ?_, ?_⟩⟩ <;> decide +kernel

/-- The facts that `AdminRuns` and `FabricsRuns` need hold of each of the commands. -/
theorem witness_AdminNamespaceAndQueueCommands :
    (∀ x ∈ [({ opc := 2, nsid := 1, cdw10 := 2 } : Sqe), { opc := 2, cdw10 := 4 }, { opc := 6, nsid := 1 }, { opc := 6, nsid := 2 }, { opc := 6, cdw10 := 1 }, { opc := 6, cdw10 := 2 }, { opc := 8 }, { opc := 9, cdw10 := 7 },
      { opc := 9, cdw10 := 0x0B }, { opc := 9, cdw10 := 0x0F }, { opc := 9, cdw10 := 0x16 }, { opc := 0x0A, cdw10 := 7 }, { opc := 0x0A, cdw10 := 0x0B }, { opc := 0x0A, cdw10 := 0x0F }, { opc := 0x0A, cdw10 := 0x16 },
      { opc := 0x0C }, { opc := 0x18 }, { opc := 0x0D }, { opc := 0x0D, nsid := 1, cdw10 := 1 }, { opc := 0x15, nsid := 1 }, { opc := 0x15, nsid := 1, cdw10 := 1 }, { opc := 5, cdw10 := 65536 * 1023 + 256 }, { opc := 5, cdw10 := 65536 + 257 },
      { opc := 1, cdw10 := 65536 + 2, cdw11 := 65536 }, { opc := 1, cdw10 := 0 }, { opc := 4, cdw10 := 1 }, { opc := 0, cdw10 := 1 }, { opc := 0x7F, nsid := 4, cdw11 := 0x14 }, { opc := 0x7F, nsid := 4, cdw11 := 0x1C },
      { opc := 0x7F, cdw11 := 0x20 }, { opc := 0x7F, cdw11 := 0x14, cdw12 := 1 }, { opc := 0x7F, cdw11 := 0x14 }], runsB 0 x = true) ∧
    runsB 1 { opc := 0x7F, nsid := 8 } = true ∧ logPage (hMsg 0 { opc := 2, cdw10 := 4 } 64) (afterTake { opc := 2, cdw10 := 4 }) ≠ none ∧
    logPage (hMsg 0 { opc := 2, cdw10 := 0xBF } 64) (afterTake { opc := 2, cdw10 := 0xBF }) = none ∧ ioNs (hMsg 0 { opc := 6, nsid := 1 } 64) (afterTake { opc := 6, nsid := 1 }) ≠ none ∧
    ioNs (hMsg 0 { opc := 6, nsid := 2 } 64) (afterTake { opc := 6, nsid := 2 }) = none ∧ (ctrlOf (afterTake { opc := 0x0C }) 0).aers.length < 8 ∧ versionsDiffer (afterTake { opc := 0x0D }) = false ∧
    nsFrom [] (afterTake { opc := 0x0D }) = none ∧ (nsOf 1 (afterTake { opc := 0x0D, nsid := 1, cdw10 := 1 })).isSome = true ∧ (afterTake { opc := 0x0D }).arr.snaps = [] ∧
    (nsFrom (leBytes 8 1000 ++ List.replicate 4088 0) (afterTake { opc := 0x0D })).isSome = true ∧
    (hqOf (afterTake { opc := 5 }) 256).cq = false ∧ (hqOf (afterTake { opc := 1 }) 2).sq = false ∧ (hqOf (afterTake { opc := 1 }) 1).cq = true ∧ queuePairs (afterTake { opc := 1 }) < maxQp (afterTake { opc := 1 }) ∧
    (afterTake { opc := 4 }).host.queues.any (fun p => p.1 / 512 == 0 && p.1 % 512 != 0 && p.2.sq && p.2.cqid == 1) = false ∧ (hqOf (afterTake { opc := 0 }) 1).closing = false ∧
    ctrlList (leBytes 2 1 ++ leBytes 2 0) = [0] ∧ (ctrlOf (afterTake { opc := 0x15, nsid := 1 }) 0).live = true ∧ (ctrlOf (afterTake { opc := 0x7F }) 0).cc % 2 = 1 := by
  refine ⟨?_, ?_, ?_, ?_, ?_, ?_, ?_, ?_, ?_, ?_, ?_, ?_, ?_, ?_, ?_, ?_, ?_, ?_, ?_, ?_, ?_⟩ <;> decide +kernel

/-! ### Firmware, shelves, handover, snapshots and replication commands: hypotheses met -/

/-- No image can be shown to pass, since the signature check is an unknown function; the other hypotheses, and those of an image that fails. -/
theorem witness_FirmwareCommands :
    (let m : HbMsg := { hMsg 0 { opc := 0x11 } 68 with data := List.replicate 4 0 }
     let t := hTask m (some 0x10000000)
     let s := sHostH m 0x10000000
     HostRuns 5 true 0x11 t m s ∧ cancelled 5 s = false ∧ dataLen m = 4) ∧
    (let s := { sIntake with host := { sIntake.host with staged := List.replicate 4 0 }, sec := { sIntake.sec with badStage := false } }
     s.host.staged.length = 4 ∧ s.sec.badStage = false ∧ stagedClass s = 2 ∧ checkImage 2 s.host.staged s = 1 ∧ fsSlot 2 s = some 1 ∧ runningSlotOf 2 s ≠ 1) ∧
    (∀ x ∈ [({ opc := 0x10, cdw10 := 2 } : Sqe), { opc := 0x10, cdw10 := 10 }, { opc := 0x10, cdw10 := 18 }, { opc := 0x10, cdw10 := 26 }], runsB 0 x = true) ∧
    partnerHere (withFields [(F.PNL_LINK_STATUS_LINK_UP, 0, 1)] sIntake) = true ∧ sIntake.mir.partnerFirm = false ∧
    (let m : HbMsg := { hMsg 0 { opc := 0xC5, cdw10 := 4 } 128 with data := List.replicate 64 0 }
     let t := hTask m (some 0x10000000)
     let s := sHostH m 0x10000000
     HostRuns 5 true 0xC5 t m s ∧ cancelled 5 s = false ∧ dataLen m = 64 ∧ (m.data.drop 32).any (· != 0) = false ∧ (reportItem 4 (m.data.take 32) s).1.isSome = true) := by
  refine ⟨⟨⟨?_, ?_, ?_, ?_, rfl⟩, ?_, ?_⟩, ?_, ?_, ?_, ?_, ⟨⟨?_, ?_, ?_, ?_, rfl⟩, ?_, ?_, ?_, ?_⟩⟩ <;> decide +kernel

/-- `sIntake` with shelves present and the partner link up. -/
def sShelves : State := withFields [(F.SHF_CTL_PRESENT, 0, 255), (F.SHF_BUDGET_BUDGET, 0, 2), (F.PNL_LINK_STATUS_LINK_UP, 0, 1)] sIntake

theorem witness_ShelfRecorderAndHandoverCommands :
    (∀ x ∈ [({ opc := 0xC4 } : Sqe), { opc := 0xC4, cdw10 := 256 + 7 }, { opc := 0xC4, cdw10 := 512 }, { opc := 0xC4, cdw10 := 768 }, { opc := 0xC4, cdw10 := 1024 + 7 }, { opc := 0xC6, cdw12 := 1023 },
      { opc := 0xC8, cdw10 := 255 * 256 + 65536 }, { opc := 0xC8, cdw10 := 255 * 256 }], runsIn sShelves 0 x = true) ∧
    (let u := afterIn sShelves { opc := 0xC4 }
     shelfPresent 0 u = true ∧ shelfPresent 7 u = true ∧ placesPinned 0 u = false ∧ (holdsOn 0 u).contains .hostPin = false ∧ hostPins u + 1 < budgetOf u) ∧
    (let u := afterIn (setShelf 0 { holds := [(.hostPin, none)] } sShelves) { opc := 0xC4 }
     (holdsOn 0 u).contains .hostPin = true ∧ (holdsOn 7 u).contains .hostPin = false ∧ budgetOf u ≤ hostPins u + 1) ∧
    (let u := afterIn (withFields [(F.SHF_BUDGET_BUDGET, 0, 1), (F.SHF_STATE_STATE, 3, 3)] (setShelf 3 { holds := [(.write, none)] } sShelves)) { opc := 0xC4 }
     placesPinned 7 u = true) ∧
    partnerHere (afterIn sShelves { opc := 0xC8 }) = true ∧ sShelves.mir.moving.any (fun x => (List.range 256).any (x.2.1.contains ·)) = false ∧ (afterIn sShelves { opc := 0xC8 }).mir.partnerFirm = false ∧ runsIn sShelves 0 { opc := 0xC8 } = true ∧ (List.range 256).filter (fun g => decide (0 ≤ g) && decide (g ≤ 0) && ownerOf g sShelves != 0) = [] ∧
    (List.range 256).filter (fun g => ownerOf g sShelves != 1) ≠ [] ∧ ((true == (headSlot sShelves == 1)) = false) ∧
    (let s := withFields [(F.CHIP_STRAPS_HEAD_SLOT, 0, 1)] sShelves
     (true == (headSlot s == 1)) = true) := by
  refine ⟨?_, ?_, ?_, ?_, ?_, ?_, ?_, ?_, ?_, ?_, ?_, ?_⟩ <;> decide +kernel

/-- A state with snapshots of namespace 1. -/
def sSnaps (l : List Snapshot) : State := onArr (fun a => { a with snaps := l }) sIntake

theorem witness_SnapshotCommands :
    (∀ x ∈ [({ opc := 0xC0, nsid := 1 } : Sqe), { opc := 0xC0, nsid := 1, cdw10 := 1, cdw13 := 1, cdw12 := 5 }], runsB 0 x = true) ∧
    (nsOf 1 (afterTake { opc := 0xC0 })).isSome = true ∧ owns (groupOfNs 1 (afterTake { opc := 0xC0 })) (afterTake { opc := 0xC0 }) = true ∧ snapLimit 1 (afterTake { opc := 0xC0 }) = false ∧
    snapLimit 1 (afterIn (sSnaps (List.replicate 1024 { snapid := 4294967301 })) { opc := 0xC0 }) = true ∧
    (let u := afterIn (rset F.PNL_OWN_MAP_OWNER (2 ^ 64 - 1) sIntake 0) { opc := 0xC0 }
     owns (groupOfNs 1 u) u = false ∧ solo u = false) ∧
    (∀ n ∈ [0, 1], let u := afterIn (sSnaps [{ snapid := 4294967301, inUse := n }]) { opc := 0xC0 }
     snapOf 4294967301 u = some { snapid := 4294967301, inUse := n } ∧ snapNs 4294967301 = 1) ∧
    snapOf 4294967301 (afterTake { opc := 0xC0 }) = none ∧
    snapOf 4294967301 (sSnaps [{ snapid := 4294967301, deleting := true }]) = some { snapid := 4294967301, deleting := true } := by
  refine ⟨?_, ?_, ?_, ?_, ?_, ?_, ?_, ?_, ?_⟩ <;> decide +kernel

/-! ### Replication: hypotheses met -/

/-- `sIntake` with a pairing of namespace 1 and a snapshot of it. -/
def sRep (l : List Session) : State :=
  onArr (fun a => { a with pairings := [(1, [{ chip := 0x3FF, nsid := 9 }])], snaps := [{ snapid := 4294967301 }], sessions := l, schedule := [(1, 3600)] }) sIntake

/-- A session of that snapshot to that chip. -/
def sess0 (st : SessState) : Session := { num := 1, snapid := 4294967301, chip := 0x3FF, dstNsid := 9, st := st }

theorem witness_ReplicateCommands :
    (∀ a ∈ [0, 1, 2, 3, 4], runsIn (sRep []) 0 { opc := 0xC2, nsid := 1, cdw10 := a, cdw11 := 0x3FF, cdw13 := 1, cdw12 := 5 } = true) ∧
    (let u := afterIn (sRep []) { opc := 0xC2, nsid := 1 }
     (nsOf 1 u).isSome = true ∧ ((nsOf 1 u).map (·.replica)) = some false ∧ (pairingsOf 1 u).find? (·.chip == 0x3FF) = some { chip := 0x3FF, nsid := 9 } ∧ (pairingsOf 1 u).find? (·.chip == 0) = none ∧
     usable 1 4294967301 u = some { snapid := 4294967301 } ∧ sessClash 4294967301 { chip := 0x3FF, nsid := 9 } u = false ∧ queuedCount u < 1024 ∧ namedSess 1 4294967301 0x3FF u = none) ∧
    (∀ st ∈ [SessState.running, .paused], let u := afterIn (sRep [sess0 st]) { opc := 0xC2, nsid := 1 }
     namedSess 1 4294967301 0x3FF u = some (sess0 st) ∧ sessEnded (sess0 st) = false) ∧
    (let s := sRep []
     let made := makeSnap 1 true s
     let v := autoDelete 1 made.2
     kget 0 s.arr.schedule 1 ≠ 0 ∧ (nsOf 1 s).isSome = true ∧ owns (groupOfNs 1 s) s = true ∧ snapLimit 1 s = false ∧ v.task.policyHooks.testBit 3 = false ∧ pairingsOf 1 v = [{ chip := 0x3FF, nsid := 9 }] ∧
     sessClash made.1 { chip := 0x3FF, nsid := 9 } v = false ∧ queuedCount v < 1024) ∧
    (let s := onArr (fun a => { a with pairings := [] }) (sRep [])
     pairingsOf 1 (autoDelete 1 (makeSnap 1 true s).2) = []) ∧
    snapLimit 1 (onArr (fun a => { a with snapSerial := [(1, 0xFFFFFFFF)] }) (sRep [])) = true := by
  refine ⟨?_, ?_, ?_, ?_, ?_, ?_⟩ <;> decide +kernel

/-- One batch of one entry in flight. -/
def flight0 : Nat × List RepEntry := (7, [{ addr := 4096, len := 4096, chunkLen := 4096 }])

theorem witness_ReplicationSourceAndTarget :
    (∀ x ∈ [sess0 .opening, { sess0 .running with sends := 1 }, { sess0 .running with flight := [flight0] }, sess0 .committing, { sess0 .opening with sends := 3 }],
      srcSess { session := 1, chip := 0x3FF, batch := 7 } (sRep [x]) = some x ∧ (sessOf 1 (sRep [x])).filter (fun x => x.mine && !sessEnded x) = some x) ∧
    ({ sess0 .running with flight := [flight0] } : Session).flight.find? (·.1 == 7) = some flight0 ∧ (sess0 .opening).sends ≠ 0 ∧ (sess0 .opening).sends < 3 := by
  refine ⟨?_, ?_, ?_, ?_⟩ <;> decide +kernel

/-- The target of a session, its namespace 1. -/
def sTgt (l : List InSession) : State := onArr (fun a => { a with inSessions := l }) (sRep [])

theorem witness_ReplicationAtTheTarget :
    owns (groupOfNs 1 (sTgt [])) (sTgt []) = true ∧ openResult { chip := 5, dstNsid := 2 } (sTgt []) ≠ 0 ∧
    (let s : State := onArr (fun a => { a with pairings := [(1, [{ chip := 5, nsid := 3 }])] }) { sTgt [] with host := { (sTgt []).host with ns := [(1, { lbas := 1000, replica := true })] } }
     openResult { chip := 5, srcNsid := 3, dstNsid := 1, session := 2, snapid := 9, probe := saltProbe 1 s } s = 0 ∧
     s.arr.inSessions.find? (fun y => y.nsid == 1 && y.num == 2 && y.snapid == 9 && !y.done) = none) ∧
    (let u := rset F.PNL_OWN_MAP_OWNER (2 ^ 64 - 1) (sTgt []) 0
     owns (groupOfNs 1 u) u = false ∧ solo u = false) ∧
    (let b : InBatch := { batch := 7, entries := flight0.2, need := [0] }
     let x : InSession := { num := 2, chip := 5, nsid := 1, batches := [b] }
     let m : RepMsg := { session := 2, chip := 5, batch := 7 }
     inSess m (sTgt [x]) = some x ∧ x.batches.find? (·.batch == 7) = some b ∧ (b.entries[0]?).filter (fun _ => b.need.contains 0) = flight0.2.head? ∧ x.batches.any (·.batch == 8) = false ∧
     dedupNs 1 (sTgt [x]) = true ∧ kget 0 b.tries 0 < 2) ∧
    (let x : InSession := { num := 2, chip := 5, nsid := 1 }
     inSess { session := 2, chip := 5 } (sTgt [x]) = some x ∧ x.batches = [] ∧ snapLimit 1 (sTgt [x]) = false ∧ latestReplica 1 (sTgt [x]) = none ∧ noSpace 0 (sTgt [x]) = false ∧ noSpace 4096 (sTgt [x]) = true) ∧
    saltProbe 1 (sTgt []) ≠ 0 ∧
    (let l : Lost := { fp := 3, peers := [{ chip := 5 }] }
     let s := onArr (fun a => { a with lost := [l] }) (sTgt [])
     s.arr.lost.find? (fun l => l.fp == 3 && (l.peers.head?).any (fun p => p.chip == 5)) = some l) := by
  refine ⟨?_, ?_, ?_, ?_, ?_, ?_, ?_, ?_⟩ <;> decide +kernel

/-- A frame whose tag was made under its key opens. -/
theorem frame_opens (slot : Nat) (hd ct key iv : List Byte) (s : State) (hh : hd.length = 32) (ht : (gcmTag (roundKeys key) iv hd ct).length = 16)
    (hi : (hd.drop 8).take 12 = iv) (hk : (keyOf slot s).mat.take 32 = key)
    (hs : sealedStatus slot (hd ++ (ct ++ gcmTag (roundKeys key) iv hd ct)) s = jOk) :
    openWith slot (hd ++ (ct ++ gcmTag (roundKeys key) iv hd ct)) s = (jOk, gcmStream (roundKeys key) iv ct) := by
  unfold openWith
  generalize hg : gcmTag (roundKeys key) iv hd ct = tag at *
  have hl : (hd ++ (ct ++ tag)).length = 32 + (ct.length + 16) := by simp [hh, ht]
  have h2 : ((hd ++ (ct ++ tag)).drop 8).take 12 = iv := by
    rw [List.drop_append_of_le_length (by omega), List.take_append_of_le_length (by simp [hh]), hi]
  rw [if_neg (by rw [hs]; simp), hk, h2, List.take_left' hh, hl, show 32 + (ct.length + 16) - 48 = ct.length by omega,
    show 32 + (ct.length + 16) - 16 = 32 + ct.length by omega, ← List.drop_drop, List.drop_left' hh, List.take_left' rfl, List.drop_left' rfl]
  unfold gcmDec
  rw [if_pos hg]

/-- The header of a frame of 2 bytes, key domain 5, generation 1. -/
def sealedHead : List Byte := [0xF7, 1] ++ leBytes 2 5 ++ leBytes 2 1 ++ leBytes 2 0 ++ List.replicate 12 0 ++ leBytes 4 2 ++ leBytes 4 2 ++ leBytes 4 0

/-- A frame of 2 bytes sealed under a key of zeros. -/
def sealedTwo : List Byte := sealedHead ++ ([7, 9] ++ gcmTag (roundKeys (List.replicate 32 0)) (List.replicate 12 0) sealedHead [7, 9])

/-- A peer that holds the live chunk 3, its frame steeping where `on` says so, with a session of chip 5 and its key. -/
def sPeerChunk (on : Bool) : State :=
  let s := onArr (fun a => { a with
    index := [{ uid := 1, fp := 3, kd := 0xFFF, kind := .chunk { shelf := 1, stripe := 1 }, frameLen := 50, chunkLen := 2, refs := 1, state := .live }]
    steeps := if on then [{ je := { stripe := 1, shelf := 1 }, handle := 0x10000000 }] else [] }) (sTgt [{ num := 1, chip := 5 }])
  { s with keys := { s.keys with slots := [(7, { typ := 1, mat := List.replicate 32 0, kd := 5, gen := 1 }), (9, { typ := 4, mat := List.replicate 32 0, keyId := 5 * 2 ^ 32 + 1 })] } }

theorem witness_PeerHoldsTheChunk :
    (let s := sPeerChunk true
     (s.arr.index.find? (fun e => e.fp == 3 && e.kd == kdOf 0 s && e.state == .live && !e.lost && (match e.kind with | .chunk _ => true | _ => false))).map (·.kind) = some (.chunk { shelf := 1, stripe := 1 }) ∧
     (steepOf 1 s).isNone = false ∧ sessKey 5 1 s = some 9 ∧ (s.arr.inSessions.find? (fun x => x.chip == 5 && x.num == 1)).isSome = true) ∧
    (let s := sPeerChunk false
     ((steepOf 1 s).isNone && !shelfReads 1 s) = true) := by
  refine ⟨⟨?_, ?_, ?_, ?_⟩, ?_⟩ <;> decide +kernel

/-- The sealed frame has its 50 bytes and opens under its key. -/
theorem witness_FrameOpens : sealedTwo.length = 50 ∧ ∃ z, openWith 7 sealedTwo (sPeerChunk true) = (jOk, z) :=
  ⟨by decide +kernel, _, frame_opens 7 _ _ _ _ _ rfl (by decide +kernel) (by decide +kernel) (by decide +kernel) (by decide +kernel)⟩

theorem steepOf_memWrite (k n : Nat) (l : List Byte) (s : State) : steepOf n (memWrite k l s) = steepOf n s := rfl

/-- A steeping frame that opens is what the peer reads at its place. -/
theorem steeping_frame_read (l : Loc) (f z : List Byte) (n : Nat) (x : Steep) (s : State) (hx : steepOf l.stripe s = some x) (hw : Memory.wf s.mem = true)
    (ho : openFrame f (memWrite (bufAddr x.handle s + l.off) f s) = some (z, n)) : readFrame l f.length (memWrite (bufAddr x.handle s + l.off) f s) = some (z, n) := by
  have hf : frameAt l f.length (memWrite (bufAddr x.handle s + l.off) f s) = some f := by
    unfold frameAt
    rw [steepOf_memWrite, hx]
    dsimp only
    rw [show bufAddr x.handle (memWrite (bufAddr x.handle s + l.off) f s) = bufAddr x.handle s from rfl]
    exact congrArg some (memRead_memWrite _ _ _ hw)
  unfold readFrame
  rw [hf, Option.bind_some, ho]

theorem witness_PeerReadsTheFrame : (steepOf 1 (sPeerChunk true)).map (·.handle) = some 0x10000000 ∧ Memory.wf (sPeerChunk true).mem = true ∧
    openSlot (ofLe ((sealedTwo.drop 2).take 2)) (ofLe ((sealedTwo.drop 4).take 2)) (sPeerChunk true) = some 7 := by
  refine ⟨?_, ?_, ?_⟩ <;> decide +kernel

/-! ### Deduplication across arrays: hypotheses met -/

/-- Namespace 1 of scope `sc`, array 3 of its domain, with index entries and domain work. -/
def sDed (sc : Scope) (ix : List IndexEntry) (dom : List DomWork) : State :=
  onArr (fun a => { a with index := ix, dom := dom, arrayNum := 3 }) (strainerInsert 5 { sIntake with host := { sIntake.host with ns := [(1, { lbas := 1000, scope := sc })] } }).2

/-- A chunk's entry. -/
def ent0 (k : EntryKind) (h : Nat) : IndexEntry := { uid := 1, fp := 5, kd := 0xFFF, kind := k, refs := 1, holds := h, state := .live, shared := true }

theorem witness_ConfirmAndDirectory :
    (∀ sc ∈ [Scope.array, .domain], let s := sDed sc [] []
     (nsOf 1 s).map (·.scope) = some sc ∧ sc ≠ .none ∧ (nsOf 1 s).map (fun ns => scopeOf ns s) = some sc ∧ serves (sliceOf 5) s = true ∧ domOf 5 0xFFF s = none ∧
      strainerHas s.arr.strainer 5 = true ∧ findEntry 5 0xFFF (readPage { fp := 5, nsid := 1 } s) = none ∧
      (let u := onArr (fun a => { a with strainer := {} }) s
       let c := createEntry 5 0xFFF 4096 true u
       strainerHas u.arr.strainer 5 = false ∧ homeOf 5 c ≠ c.arr.arrayNum)) ∧
    (let d : Dirty := { wseq := 1, nsid := 1, chunks := [{ fp := 5, len := 4096 }] }
     let s := rset F.PNL_OWN_MAP_OWNER (2 ^ 64 - 1) (onArr (fun a => { a with dirty := [d] }) (sDed .array [] [])) 0
     serves (sliceOf 5) s = false ∧ (askedBy { fp := 5, nsid := 1, chunkLen := 4096 } s).isSome = true) ∧
    (∀ h ∈ [0, 0xFFFE, 0xFFFF], let s := sDed .array [ent0 (.chunk {}) h] []
     strainerHas s.arr.strainer 5 = true ∧ findEntry 5 0xFFF (readPage { fp := 5, nsid := 1 } s) = some (ent0 (.chunk {}) h) ∧ serves (sliceOf 5) s = true) ∧
    (∀ x ∈ [3, 7], let s := onArr (fun a => { a with home := [(digestField 5 2 2 % 4096, 3)] }) (sDed .domain [ent0 (.dir x) 0] [])
     homeOf 5 s = s.arr.arrayNum ∧ dirEntry 5 0xFFF s = some (ent0 (.dir x) 0)) ∧
    (let s := onArr (fun a => { a with home := [(digestField 5 2 2 % 4096, 3)] }) (sDed .domain [] [])
     homeOf 5 s = s.arr.arrayNum ∧ dirEntry 5 0xFFF s = none ∧ lostOf 5 0xFFF s = none) ∧
    (∀ p ∈ [DomPhase.probe 1, .probe 3, .claim 7 2, .claim 7 3], let w : DomWork := { req := { fp := 5, nsid := 1 }, phase := p }
     domOf 5 0xFFF (sDed .domain [] [w]) = some w) := by
  refine ⟨?_, ?_, ?_, ?_, ?_, ?_⟩ <;> decide +kernel

theorem witness_ImportReleaseAndFetch :
    (let m : DedupMsg := { fp := 5, kd := 0xFFF, from_ := 7, serial := 9 }
     let x := ent0 (.extRef 7) 0
     let s := sDed .domain [{ x with serial := 9 }, ent0 (.chunk {}) 0] []
     extRef m s = some { x with serial := 9 } ∧ exportable m s = some (ent0 (.chunk {}) 0) ∧ referenced m s = some (ent0 (.chunk {}) 0) ∧ exportable m (sDed .domain [] []) = none ∧ extRef m (sDed .domain [] []) = none ∧
     extRef m (sDed .domain [ent0 (.chunk {}) 0] []) = none ∧ exportable m (sDed .domain [ent0 (.chunk {}) 0] []) = some (ent0 (.chunk {}) 0)) ∧
    (∀ k ∈ [1, 2, 3], let w : DomWork := { req := { fp := 5, nsid := 1 }, phase := .importing 9 7 k }
     let e : IndexEntry := { ent0 (.importFrom 7) 1 with serial := 9, state := .pending }
     let s := sDed .domain [e] [w]
     domOf 5 0xFFF s = some w ∧ importWork 9 s = some w ∧ importEntry 9 s = some e ∧ homeOf 5 (entryKind w.req (.chunk {}) 0 s) ≠ (entryKind w.req (.chunk {}) 0 s).arr.arrayNum) ∧
    (∀ st ∈ [EntryState.live, .dead], let e : IndexEntry := { ent0 (.importFrom 7) 1 with serial := 9, state := st }
     importEntry 9 (sDed .domain [e] []) = some e) ∧
    (let r : RelWork := { serial := 9, exporter := 7, wait := 3600 }
     let s := onArr (fun a => { a with releases := [r] }) (sDed .domain [] [])
     s.arr.releases.find? (·.serial == 9) = some r ∧ kfind s.arr.deferredAt 7 = none ∧ opsec s < 0 + 86400) ∧
    (let m : DedupMsg := { fp := 5, kd := 0xFFF, from_ := 7 }
     let e := { ent0 (.chunk { shelf := 1, stripe := 4 }) 0 with frameLen := 64 }
     let s := rset F.SHF_STATE_STATE 0 (sDed .domain [e] []) 1
     let t := onArr (fun a => { a with steeps := [{ je := { stripe := 4 }, handle := 0x40000000 }] }) (rset F.SHF_STATE_STATE 3 s 1)
     lostOf 5 0xFFF s = none ∧ s.arr.fetches = [] ∧ heldChunk m s = some e ∧ steepOf 4 s = none ∧ shelfState 1 s = 0 ∧ heldChunk m (sDed .domain [] []) = none ∧
     shelfAwake 1 t = true ∧ (frameAt { shelf := 1, stripe := 4 } 64 t).isSome = true) ∧
    (let m : DedupMsg := { fp := 5, kd := 0xFFF, from_ := 7, frame := [1, 2, 3] }
     let s := onArr (fun a => { a with writeShelf := some 0, steeps := [{ je := { stripe := 4, k := 16 }, handle := 0x40000000 }] }) (rset F.SHF_STATE_STATE 3 (sDed .domain [ent0 (.importFrom 7) 1] []) 0)
     importedFrom m s = some (ent0 (.importFrom 7) 1) ∧ (placeSealed 0 0 0 s.arr.width none none m.frame m.fp m.kd true s).1.isSome = true) := by
  refine ⟨?_, ?_, ?_, ?_, ?_, ?_⟩ <;> decide +kernel

/-! ### Stripes and shelves: hypotheses met -/

/-- Shelf 0 write-open and AWAKE, with zone set 2 of four drives, its rows 0 to 9, and a closed steeping stripe 4. -/
def sStr (st : JState) (l : List FrameDir) : State :=
  onArr (fun a => { a with writeShelf := some 0, zoneSets := [(2, { k := 4, members := [(0, 1), (1, 1), (2, 1), (3, 1), (4, 1), (5, 1)], rows := 10 })],
                           steeps := [{ je := { stripe := 4, k := 4, state := st }, handle := 0x40000000, fill := 64, frames := l, closed := true }] }) (rset F.SHF_STATE_STATE 3 sIntake 0)

/-- The second head's straps, groups of head A. -/
def asB (s : State) : State := rset F.CHIP_STRAPS_HEAD_SLOT 1 s

theorem witness_StripesAndCollection :
    (let s := asB (sStr .steeping [])
     (steepOf 4 s).map (fun x => x.closed && x.je.state == .steeping && x.unsealed == 0 && x.je.shelf == 0 && x.je.k == 4 && x.gc.isNone) = some true ∧ lowest 64 (fun c => (kfind s.par c).isNone) = some 0 ∧
     (chooseZs 0 4 false s).1 = some 2) ∧
    (let s := asB { sStr .steeping [] with par := (List.range 64).map (fun i => (i, {})) }
     lowest 64 (fun c => (kfind s.par c).isNone) = none ∧ isMaster s = false) ∧
    (steepOf 4 (sStr .landed [])).map (fun x => x.je.state) = some .landed ∧
    (let d : Dirty := { wseq := 9, committed := true }
     let s := onArr (fun a => { a with dirty := [d] }) (rset F.PNL_EPOCH_SEQ_NUMBER 1 sIntake)
     dirtyOf 9 s = some d ∧ d.own = true ∧ commitDurable d s = true ∧ coversOlder d s = false ∧
     (let z : Dirty := { wseq := 10, committed := true, kind := .zeroes, ranges := [(0, 4096)] }
      coversOlder z (onArr (fun a => { a with dirty := [{ d with len := 4096 }, z] }) s) = true)) ∧
    (let d : Dirty := { wseq := 9 }
     let s := onArr (fun a => { a with dirty := [d] }) sIntake
     dirtyOf 9 s = some d ∧ commitDurable d s = false) ∧
    (let f : FrameDir := { fp := 5, kd := 0xFFF, len := 100 }
     let s := onArr (fun a => { a with evacuating := [2], stripes := [{ stripe := 6, zoneSet := 2, frames := [f] }], index := [{ uid := 1, fp := 5, kd := 0xFFF, kind := .chunk { stripe := 6 }, state := .live, refs := 1 }] }) (sStr .steeping [])
     shelfAwake 0 s = true ∧ writeTight s = false ∧ (placeShelf s).isSome = true ∧ (gcPick 0 s).isSome = true) ∧
    (let s := onArr (fun a => { a with zoneSets := [(2, { k := 4, isOpen := false })], steeps := [] }) (sStr .steeping [])
     (kfind s.arr.zoneSets 2).map (fun z => (z.own, z.isOpen, z.readers, z.shelf)) = some (true, false, 0, 0) ∧ liveBytes 2 s = 0 ∧ redoDone s = true ∧ shelfAwake 0 s = true ∧ pouringOn 2 s = false) := by
  refine ⟨?_, ?_, ?_, ?_, ?_, ?_, ?_⟩ <;> decide +kernel

/-- Shelf `n` in a state of Table 8.7. -/
def sShf (n st : Nat) : State := withFields [(F.SHF_STATE_STATE, n, st), (F.SHF_BUDGET_BUDGET, 0, 1)] sIntake

theorem witness_ShelfStates :
    isMaster (sShf 7 0) = true ∧ isMaster (asB (sShf 7 0)) = false ∧ (∀ p ∈ [(1, ShelfState.powering), (2, .linking), (3, .awake), (4, .draining), (5, .releasing), (6, .fault)], shelfSt 7 (sShf 7 p.1) = p.2) ∧
    (sShf 7 0).arr.nextShelf = none ∧ (sShf 7 0).arr.writeShelf = none ∧ (chooseWrite (sShf 7 0)).isSome = true ∧
    (let s := onArr (fun a => { a with writeShelf := some 7 }) (sShf 7 3)
     writeRoom 7 s < 1 * wakeAhead s ∧ 0 * wakeAhead s ≤ writeRoom 7 s) ∧
    (let s := onArr (fun a => { a with requests := [(7, .write)] }) (sShf 7 0)
     nextRequest s = some (7, .write) ∧ shelvesUp s < budgetOf s) ∧
    (let s := onArr (fun a => { a with requests := [(7, .write)] }) (rset F.SHF_STATE_TIME_IN_STATE 100000 (rset F.SHF_STATE_STATE 3 (sShf 7 0) 2) 2)
     nextRequest s = some (7, .write) ∧ budgetOf s ≤ shelvesUp s ∧ s.arr.releasing = none ∧ (victim (rankOf .write) s).isSome = true) ∧
    (let s := syncHolds 7 (rset F.SHF_STATE_TIME_IN_STATE 100000 (sShf 7 3) 7)
     shelfAwake 7 s = true ∧ holdsOn 7 s = [] ∧ (writeOpen s).contains 7 = false ∧ rget F.SHF_SEQ_CFG_MIN_AWAKE_S s ≤ rget F.SHF_STATE_TIME_IN_STATE s 7) ∧
    holdsOn 7 (syncHolds 7 (setShelf 7 { holds := [(.write, none)] } (sShf 7 3))) ≠ [] ∧ ownWorkEnded 7 (sShf 7 4) = true ∧
    (bothReport [true, true] (sShf 7 4) = true ∧ bothReport [true, false] (sShf 7 4) = false) ∧
    rbit F.SHF_STATE_PG (withFields [(F.SHF_STATE_PG, 7, 1)] (sShf 7 5)) 7 = true ∧ rbit F.SHF_STATE_EN_SENSE (withFields [(F.SHF_STATE_EN_SENSE, 7, 1)] (sShf 7 3)) 7 = true ∧
    60 ≤ rget F.SHF_STATE_TIME_IN_STATE (rset F.SHF_STATE_TIME_IN_STATE 60 (sShf 7 6) 7) 7 ∧
    ((shelfOf 7 (sShf 7 6)).retries.filter (fun t => decide (opsec (sShf 7 6) < t + 3600))).length < 3 ∧
    3 ≤ ((shelfOf 7 (setShelf 7 { retries := [0, 0, 0] } (sShf 7 6))).retries.filter (fun t => decide (opsec (sShf 7 6) < t + 3600))).length := by
  refine ⟨?_, ?_, ?_, ?_, ?_, ?_, ?_, ?_, ?_, ?_, ?_, ?_, ?_, ?_, ?_, ?_, ?_, ?_⟩ <;> decide +kernel

/-! ### Backend ports and members: hypotheses met -/

theorem witness_AlertsAlarmAndBackendPorts :
    (let s := sIntake
     let a := record Ev.SHELF_ALERT srcAON 7 [] (rflag F.SHF_STATE_ALERT_LATCH true (rflag F.SHF_STATE_ALERT true s 7) 7)
     rbit F.SHF_STATE_ALERT s 7 = false ∧ rtest F.PWR_WAKE_EN_SHELF 7 a = false ∧ rtest F.PWR_WAKE_EN_SHELF 7 (rset F.PWR_WAKE_EN_SHELF 128 a) = true ∧ rtest F.SHF_CTL_ALERT_EN 7 a = false) ∧
    (let s := withFields [(F.CLK_ALARM_ALARM, 0, 5)] sIntake
     rget F.CLK_ALARM_ALARM s ≠ 0 ∧ rbit F.PWR_WAKE_EN_RTC s = true ∧ rbit F.PWR_WAKE_EN_RTC (rflag F.PWR_WAKE_EN_RTC false s) = false) ∧
    (∀ i ∈ [0, 15, 16], let s := withFields [(F.PCI_PORT_STATUS_LINK_UP, i, 1)] sIntake
     rbit F.PCI_PORT_STATUS_LINK_UP s i = true ∧ rtest F.PCI_PLANNED_DOWN_PLANNED i s = false ∧ rtest F.PCI_PLANNED_DOWN_PLANNED i (rputBit F.PCI_PLANNED_DOWN_PLANNED i true s) = true ∧ portMatters i s = (i == 15) ∧
     (portShelf i).isNone = (i != 0)) ∧
    (let s := withFields [(F.PCI_PORT_STATUS_LINK_UP, 0, 1), (F.PNL_CTL_SOLO, 0, 1), (F.SHF_STATE_STATE, 0, 3)] sIntake
     portShelf 0 = some 0 ∧ shelfUp 0 s = true ∧ solo s = true ∧ partnerHere s = false) ∧ (portMatters 0 sIntake = false ∧ solo sIntake = false ∧ portMatters 15 sIntake = true ∧ portShelf 15 = none ∧ partnerHere (withFields [(F.PNL_LINK_STATUS_LINK_UP, 0, 1)] sIntake) = true) ∧
    (onArr (fun a => { a with handed := [1] }) sIntake).arr.handed ≠ [] ∧
    (let s := withFields [(F.PCI_PORT_CFG_EN, 16, 1)] sIntake
     portMayTrain 16 s = true ∧ rbit F.PNL_FENCE_STATUS_GATED s = false ∧ rbit F.PCI_PORT_CFG_EN s 16 = true) ∧ portMayTrain 0 sIntake = false ∧
    (fltError 2 16 (rinc F.PCI_ERR_CNT_CORR 1 sIntake 16)).1 = false ∧
    (let s := withFields [(F.FLT_CTR_CFG_THRESHOLD, 2, 1), (F.FLT_CTR_CFG_ACT_EN, 2, 1)] sIntake
     (fltError 2 16 s).1 = true ∧ fltActs 2 s = true) ∧
    (∀ i ∈ [0, 15, 16], rtest F.CLK_PLL_STATUS_PCIE_REF_OK (if i = 16 then 0 else i / 4) (rset F.CLK_PLL_STATUS_PCIE_REF_OK 0xF sIntake) = true) := by
  refine ⟨?_, ?_, ?_, ?_, ?_, ?_, ?_, ?_, ?_, ?_, ?_⟩ <;> decide +kernel

/-- A drive that meets R238, and a member in service. -/
def drive0 : DriveInfo := { zones := 2, zoneCap := 2 ^ 30, zoneSize := 2 ^ 30, capacity := 2 ^ 31 }

/-- Zone set 2 of drives 0 to 5, all in service. -/
def sMem : State :=
  onArr (fun a => { a with zoneSets := [(2, { k := 4, members := [(0, 1), (1, 1), (2, 1), (3, 1), (4, 1), (5, 1)], rows := 10 })], members := (List.range 6).map (fun d => (d, { st := .inService, info := drive0 })) })
    (rset F.SHF_STATE_STATE 3 sIntake 0)

theorem witness_MembersRebuildAndScrub :
    watched 0 sMem = true ∧ shelfAwake 0 sMem = true ∧ rbit F.PCI_PORT_STATUS_LINK_UP (rflag F.PCI_PORT_STATUS_LINK_UP true sMem (portOf 0)) (portOf 0) = true ∧ (0x0D : Nat) &&& 0x0D ≠ 0 ∧ (0xF2 : Nat) &&& 0x0D = 0 ∧
    isMaster sMem = true ∧ isMaster (asB sMem) = false ∧ (memberOf 51 sMem).st = .absent ∧ meetsSpec 51 drive0 sMem = true ∧ meetsSpec 51 { drive0 with zoneCap := 2 ^ 30 - 1 } sMem = false ∧
    (let s := transact none [.member 51 .spare, .split 51 1] (forEach (List.range 2) (fun z s => egress (.drive 51 3 (z + 4 * 2 ^ 32) false []) s) (setMember 51 { info := drive0, split := 1 } sMem))
     s.arr.rebuilds = []) ∧
    (let s := onArr (fun a => { a with rebuildList := [2] }) sMem
     s.arr.rebuildList.contains 2 = true ∧ shelfAwake (zsOf 2 s).shelf s = true ∧ (startTargets 2 s).1 = true ∧ waitsPointer 2 (startTargets 2 s).2 = false ∧ (takeBufs (min (settings (startTargets 2 s).2).rebuildBufs ((zsOf 2 s).k + 2)) 2 (startTargets 2 s).2).1.length = 6 ∧
     (takeBufs (min (settings s).rebuildBufs ((zsOf 2 s).k + 2)) 2 (startTargets 2 (rflag F.BPM_CTL_S_EN false s)).2).1.length ≠ 6) ∧
    (let s := onArr (fun a => { a with rebuildList := [2], members := kput a.members 1 { st := .failed }, rebuilds := [{ drive := 1, target := some 9 }], rebPos := [(2, [{ member := 1, drive := 9, check := true }])], unread := [(9, 0)] }) sMem
     (startTargets 2 s).1 = true ∧ waitsPointer 2 (startTargets 2 s).2 = true) ∧
    (kfind sMem.arr.zoneSets 2).map (fun z => z.own && shelfAwake z.shelf sMem && z.firstAppend.isNone && (rowOf z 0 true sMem).length == z.k + 2) = some true ∧
    (onArr (fun a => { a with scrubPos := some (2, 9) }) sMem).arr.scrubPos ≠ none := by
  refine ⟨?_, ?_, ?_, ?_, ?_, ?_, ?_, ?_, ?_, ?_, ?_, ?_, ?_, ?_, ?_⟩ <;> decide +kernel

/-- A row of which every strip can be read, whatever the drives hold. -/
theorem witness_ScrubRow (z : ZoneSet) (s : State) (row : Nat) (h : ∀ j < z.k + 2, memberGone (stripPlace z row j).1 s = false) : (rowOf z row true s).all (·.isSome) = true := by
  unfold rowOf
  simp only [List.all_map, List.all_eq_true, List.mem_range, Function.comp]
  intro j hj
  simp [h j hj]

/-! ### Two heads: hypotheses met -/

/-- A mirrored head with the link up. -/
def sPair : State := withFields [(F.PNL_LINK_STATUS_LINK_UP, 0, 1), (F.PNL_CTL_MIRROR_EN, 0, 1), (F.PNL_CTL_PNL_EN, 0, 1), (F.PNL_LINK_STATUS_MPV, 0, 4)] sIntake

/-- Its mirror changed. -/
def onMir (f : Mir → Mir) (s : State) : State := { s with mir := f s.mir }

theorem witness_MirrorEpochsAndStateCopy :
    (sPair.mir.seqEnd = false ∧ solo sPair = false ∧ ¬ epochWindow sPair ≤ sPair.mir.sent.length ∧ rbit F.PNL_CTL_MIRROR_EN sPair = true ∧ sPair.mir.sendPaused = false ∧
     max (rget F.PNL_EPOCH_SEQ_NUMBER sPair + 1) (sPair.mir.recvMax + 1) ≤ 0xFFFFFFFFFFFF) ∧
    epochWindow sPair ≤ (onMir (fun m => { m with sent := List.replicate 64 {} }) sPair).mir.sent.length ∧
    (let m : EpochMsg := { number := 1 }
     m.crcOk = true ∧ sPair.mir.lastApplied < m.number ∧ epochFits m sPair = true ∧ handsHere m.records sPair = false) ∧
    (let m : EpochMsg := { number := 1, records := [{ body := .handover [255] true }] }
     epochFits m (asB sPair) = true ∧ handsHere m.records (asB sPair) = true) ∧
    (let m : EpochMsg := { number := 9, prev := 8 }
     sPair.mir.lastApplied < m.number ∧ epochFits m sPair = false) ∧
    (noteAck 0 sPair).mir.roundFrom = none ∧
    (let s := onMir (fun m => { m with roundFrom := some 3, ackSeen := 3, sent := [{ num := 4 }] }) sPair
     s.mir.roundFrom = some 3 ∧ s.mir.ackSeen ≤ 3 ∧ s.mir.sent.any (fun e => decide (3 < e.num)) = true ∧ s.mir.sent.find? (·.num == 4) = some { num := 4 } ∧ ¬ 4 ≤ s.mir.ackSeen) ∧
    (let r : ERecord := { slot := 5, group := some 0, body := .cpl false false false { qid := 1, cmdseq := 1 } 1 {} }
     let s := onMir (fun m => { m with await := [(4, 0, r)] }) (onArr (fun a => { a with dirty := [{ id := { qid := 1, cmdseq := 1 } }] }) sPair)
     s.mir.await.find? (fun p => p.1 == 4 && p.2.1 == 0) = some (4, 0, r) ∧ s.arr.dirty.find? (fun d => d.id == { qid := 1, cmdseq := 1 } && d.kind != .zeroes) = some { id := { qid := 1, cmdseq := 1 } } ∧
     4 ≤ rget F.PNL_LINK_STATUS_MPV s) ∧ rget F.PNL_LINK_STATUS_MPV sIntake < 4 ∧ rbit F.PNL_FENCE_STATUS_FENCE_IN sPair = false := by
  refine ⟨?_, ?_, ?_, ?_, ?_, ?_, ?_, ?_, ?_, ?_⟩ <;> decide +kernel

theorem witness_PartnerLinkAndHealth :
    sPair.mir.healthLast.flags ≠ ({ flags := 1 } : HealthWord).flags ∧ mayTalk sPair = true ∧ laneUp 7 (withFields [(F.PNL_LINK_STATUS_LANES_UP, 0, 255)] sPair) = true ∧
    (nextLane 0 (withFields [(F.PNL_LINK_STATUS_LANES_UP, 0, 255)] sPair)).isSome = true ∧
    (let s := withFields [(F.PNL_LINK_STATUS_LANES_DROPPED, 0, 128)] sPair
     (rget F.PNL_LINK_STATUS_LANES_DROPPED s).testBit 7 = true ∧ rbit F.PNL_LINK_STATUS_LINK_UP (rputBit F.PNL_LINK_STATUS_LANES_DROPPED 7 false s) = true ∧ rbit F.PNL_CTL_PNL_EN s = true) ∧
    rbit F.PNL_FENCE_STATUS_HB_IN_LIVE (linkDown sPair) = false ∧
    (let s := onMir (fun m => { m with partnerShadow := true }) (withFields [(F.PNL_FENCE_STATUS_HB_IN_LIVE, 0, 1)] sPair)
     linkLossQuiet (linkDown s) = false ∧ rbit F.PNL_FENCE_STATUS_HB_IN_LIVE (linkDown s) = true ∧ (linkDown s).mir.partnerShadow = true ∧ headSlot (linkDown s) = 0 ∧ headSlot (linkDown (asB s)) = 1 ∧
     runtimeUp (record Ev.PARTNER_LINK_LOST srcPNL 0 [] (selfStop (linkDown (asB s)))) = true ∧ runtimeUp (record Ev.PARTNER_LINK_LOST srcPNL 0 [] (selfStop (linkDown (asB (withFields [(F.PWR_STATUS_STATE, 0, 2)] s))))) = false) ∧
    islandRuns 18 sPair = true ∧ rget F.PNL_LINK_STATUS_LANES_DROPPED sPair = 0 ∧ (sPair.mir.partnerShadow = false ∧ sPair.chip.noPair = false ∧ sPair.mir.refused = false) := by
  refine ⟨?_, ?_, ?_, ?_, ?_, ?_, ?_, ?_, ?_, ?_⟩ <;> decide +kernel

theorem witness_HeartbeatAndFence :
    (let s : State := { sPair with fence := { sPair.fence with hbOut := true } }
     let t := rset F.CLK_TICK_TICK (s.fence.kickAt + kickWindow s) s
     s.fence.hbOut = true ∧ t.fence.kickAt + kickWindow t ≤ rget F.CLK_TICK_TICK t ∧ rget F.CLK_TICK_TICK s < s.fence.kickAt + kickWindow s) ∧
    (let s : State := { sPair with fence := { sPair.fence with edges := 8 } }
     8 ≤ s.fence.edges ∧ rbit F.PNL_FENCE_STATUS_FENCE_OUT s = false ∧ s.chip.pfLow = false ∧ linkLossQuiet s = false) ∧
    rbit F.PNL_FENCE_STATUS_ARMED (rflag F.PNL_FENCE_STATUS_HB_IN_LIVE false (rflag F.PNL_FENCE_STATUS_ARMED true sPair)) = true ∧ rbit F.PNL_FENCE_STATUS_ARMED sPair = false ∧
    rget F.PWR_STATUS_STATE (rflag F.PNL_FENCE_STATUS_HB_IN_LIVE true (withFields [(F.PWR_STATUS_STATE, 0, 2)] sPair)) = 2 ∧ rget F.PWR_STATUS_STATE (rflag F.PNL_FENCE_STATUS_HB_IN_LIVE true sPair) ≠ 2 ∧
    (let s := asB (rflag F.PNL_FENCE_STATUS_FENCE_OUT true sPair)
     let g := redriveShelves (setGated true (rflag F.PNL_FENCE_STATUS_FENCE_IN true s))
     s.fence.window = false ∧ (rbit F.PNL_FENCE_STATUS_FENCE_OUT g && headSlot g == 1) = true) ∧
    (let s := rflag F.PNL_FENCE_STATUS_FENCE_IN true sPair
     rbit F.PNL_FENCE_STATUS_FENCE_OUT s = false ∧ s.fence.window = false ∧ s.fence.fenced = false) ∧
    rbit F.PNL_FENCE_STATUS_SELF_STOPPED sPair = false ∧ (liftHold sPair).mir.joiner = false ∧ (liftHold (onMir (fun m => { m with joiner := true, copyDone := true }) sPair)).mir.joiner = true ∧
    (let s := rflag F.PNL_FENCE_STATUS_FENCE_OUT true sPair
     rbit F.PNL_FENCE_STATUS_FENCE_DONE s = false ∧ s.chip.noPair = false ∧ servesNone s = false) ∧ servesNone sPair = false ∧
    runtimeUp sPair = true ∧
    (let s := rflag F.PNL_CTL_SOLO true (rflag F.PNL_FENCE_STATUS_TEST_SEEN true { sPair with fence := { sPair.fence with window := true } })
     s.mir.joiner = false ∧ s.fence.window = true ∧ rbit F.PNL_FENCE_STATUS_TEST_SEEN { s with fence := { s.fence with window := false } } = true ∧ solo s = true) := by
  refine ⟨?_, ?_, ?_, ?_, ?_, ?_, ?_, ?_, ?_, ?_, ?_, ?_, ?_, ?_, ?_⟩ <;> decide +kernel

/-! ### Power and resets: hypotheses met -/

theorem witness_PowerStatesWakesAndLevels :
    (arVeto .reset = 0 ∧ (sendPartner (.agree 1) .reset).pwr.waitp = none ∧ rget F.PWR_STATUS_STATE (sendPartner (.agree 1) .reset) < 2) ∧
    (let s := onArr (fun a => { a with rebuildList := [2] }) .reset
     arVeto s ≠ 0 ∧ (sendPartner (.refuse 1 3) s).pwr.waitp = none ∧ rget F.PWR_STATUS_STATE (sendPartner (.refuse 1 3) s) < 2) ∧
    atStep3 (withFields [(F.PWR_STATUS_STEP, 0, 3)] .reset) = true ∧ atStep3 .reset = false ∧ rget F.PWR_MODE_AGREE_SEQ .reset = 0 ∧
    (let s := withFields [(F.PWR_SMB_WAKE_ADDR_ADDR, 0, 127), (F.PWR_SMB_WAKE_ADDR_MASK, 0, 127), (F.PWR_WAKE_EN_SMBUS, 0, 1)] .reset
     (127 : BitVec 7).toNat &&& rget F.PWR_SMB_WAKE_ADDR_MASK s = rget F.PWR_SMB_WAKE_ADDR_ADDR s &&& rget F.PWR_SMB_WAKE_ADDR_MASK s ∧ rbit F.PWR_WAKE_EN_SMBUS (rinc F.PWR_SMB_WAKE_ADDR_MATCHES 1 s) = true ∧
     rbit F.PWR_WAKE_EN_SMBUS (rinc F.PWR_SMB_WAKE_ADDR_MATCHES 1 (rflag F.PWR_WAKE_EN_SMBUS false s)) = false) ∧
    rtest F.PWR_WAKE_EN_GPIO 7 (withFields [(F.PWR_WAKE_EN_GPIO, 0, 128)] .reset) = true ∧ rtest F.PWR_WAKE_EN_GPIO 7 (withFields [(F.PWR_WAKE_EN_GPIO, 0, 127)] .reset) = false ∧
    (let s : State := withFields [(F.PWR_STATUS_STATE, 0, 2), (F.PWR_WAKE_EN_HEARTBEAT, 0, 1)] .reset
     let t := { s with pwr := { s.pwr with edges := 8 } }
     rget F.PWR_STATUS_STATE t = 2 ∧ rbit F.PWR_WAKE_EN_HEARTBEAT t = true ∧ s.pwr.edges < 8) ∧
    (let s : State := onMir (fun m => { m with partnerShadow := true }) .reset
     linkLossQuiet s = false ∧ s.fence.edges = 0 ∧ runtimeUp s = true) ∧
    rbit F.PNL_LINK_STATUS_LINK_UP .reset = false ∧
    (let s := withFields [(F.PWR_STATUS_STATE, 0, 1), (F.PWR_ISLAND_GATE_AUTO_PG, 0, 0x7FFFF)] .reset
     rget F.PWR_STATUS_STATE s = 1 ∧ clockIdle 14 s = true ∧ islandOff 14 s = false ∧ powerIdle 14 s = true ∧ rtest F.PWR_ISLAND_GATE_AUTO_PG 14 s = true) ∧
    (let s := withFields [(F.PWR_DVFS_CHANGING, 15, 1)] .reset
     rbit F.PWR_DVFS_CHANGING s 15 = true ∧ kfind s.chip.plls 15 = none) ∧
    (let w := fun (t : Int) (c : Nat) => let s := withFields [(F.PWR_DVFS_CAP, 1, c)] .reset; tempEvents s.pwr.tj t { s with pwr := { s.pwr with tj := t } }
     capNow (w 106 0) < capAt 106 ∧ capAt 100 < capNow (w 100 1) ∧ (100 : Int) ≤ capThreshold (capNow (w 100 1)) - 5 ∧ capAt 50 = capNow (w 50 0)) ∧ (State.reset).pwr.tripped = false := by
  refine ⟨?_, ?_, ?_, ?_, ?_, ?_, ?_, ?_, ?_, ?_, ?_, ?_, ?_, ?_, ?_⟩ <;> decide +kernel

/-- Chip-level state changed. -/
def onChip (f : Chip → Chip) (s : State) : State := { s with chip := f s.chip }

theorem witness_ResetsClocksAndPowerFailure :
    (onChip (fun c => { c with refLost := true }) .reset).chip.refLost = true ∧ kfind (State.reset).chip.plls 15 = none ∧
    (∀ k ∈ [0, 1, 2], kfind (onChip (fun c => { c with plls := [(15, k)] }) .reset).chip.plls 15 = some k) ∧
    rbit F.MEM_TRAIN_STATUS_READY .reset = false ∧ rbit F.MEM_TRAIN_STATUS_READY (withFields [(F.MEM_TRAIN_STATUS_READY, 0, 1)] .reset) = true ∧
    (State.reset).chip.pfLow = false ∧ rget F.PWR_STATUS_STATE (record Ev.POWER_FAIL srcAON 0 [] (onChip (fun c => { c with pfLow := true }) .reset)) < 2 ∧
    2 ≤ rget F.PWR_STATUS_STATE (record Ev.POWER_FAIL srcAON 0 [] (onChip (fun c => { c with pfLow := true }) (withFields [(F.PWR_STATUS_STATE, 0, 2)] .reset))) ∧
    (∀ low ∈ [true, false], let s := onChip (fun c => { c with destaging := true, pfLow := low }) .reset
     let v0 := record Ev.VAULT_DESTAGE_DONE srcPCI 16 [] (onChip (fun c => { c with destaging := false }) s)
     s.chip.destaging = true ∧ (enterRetain (pwrStep2 { v0 with pwr := { v0.pwr with before := rget F.PWR_STATUS_STATE v0, restoreOnly := true } })).chip.pfLow = low) ∧
    (∀ ro ∈ [true, false], let s := onChip (fun c => { c with pfLow := true }) (withFields [(F.PWR_STATUS_STATE, 0, 2), (F.PWR_WAKE_EN_PWR_RESTORE, 0, 1)] .reset)
     let r := disarm { s with pwr := { s.pwr with restoreOnly := ro }, chip := { s.chip with pfLow := false } }
     rget F.PWR_STATUS_STATE r = 2 ∧ r.pwr.restoreOnly = ro ∧ rbit F.PWR_WAKE_EN_PWR_RESTORE r = true) ∧
    rget F.PWR_STATUS_STATE (disarm (onChip (fun c => { c with pfLow := false }) .reset)) ≠ 2 ∧
    rbit F.MEM_PATROL_CFG_EN (withFields [(F.MEM_PATROL_CFG_EN, 0, 1)] .reset) = true ∧
    (let s := onArr (fun a => { a with strainer := { a.strainer with rebuilding := true } }) .reset
     s.arr.strainer.rebuilding = true ∧ (State.reset).arr.strainer.rebuilding = false) ∧
    rbit F.CLK_PLL_STATUS_AVS_FAULT (rflag F.CLK_PLL_STATUS_AVS_FAULT true .reset) = true ∧ rbit F.CLK_PLL_STATUS_AVS_FAULT .reset = false := by
  refine ⟨?_, ?_, ?_, ?_, ?_, ?_, ?_, ?_, ?_, ?_, ?_, ?_, ?_, ?_, ?_⟩ <;> decide +kernel

/-- VDD_CORE stands at another voltage than its islands ask for, whatever the fuses give. -/
theorem witness_CoreVoltageDiffers : ∃ s : State, rbit F.CLK_PLL_STATUS_AVS_FAULT s = false ∧ coreVolt s ≠ s.pwr.core := by
  refine ⟨{ State.reset with pwr := { (State.reset).pwr with core := coreVolt .reset + 1 } }, by decide +kernel, ?_⟩
  show coreVolt .reset ≠ coreVolt .reset + 1
  omega

/-! ### Rearn: hypotheses met -/

/-- Rearn runs on chip 0, node 1 is bound, window 2 is armed, lease 4097 of the RMA pool and 4098 of the FAB pool are granted to node 1. -/
def sRrn : State :=
  let s := withFields [(F.RRN_CTL_EN, 0, 1), (F.RRN_CREDIT_POOL_FAB_4K, 0, 4096), (F.RRN_CREDIT_POOL_RMA_4K, 0, 4096)] sIntake
  { s with rrn := { s.rrn with nodes := [(1, { addrs := [17], identity := 3, ver := 2, maxMsg := 2101248, pkt := 3, bound := true })],
                               windows := [(2, { base := 0x10000000, perm := 15, key := 99, len := 4096, armed := true, gen := 5 })],
                               leases := [(1, { num := 4097, node := 1, pool := 2, bytes := 65536 }), (2, { num := 4098, node := 1, pool := 0, bytes := 65536 })], issue := 1 } }

/-- A packet of node 1 with `n` bytes of a message of `t`. -/
def rPkt (op n t lease win : Nat) : RrnPkt :=
  { addr := 17, op := op, src := 1, dst := 0, msgId := 7, totalLen := t, window := win, key := if win = 2 then 99 else 0, gen := if win = 2 then 5 else 0, lease := lease, payload := List.replicate n 1 }

theorem witness_RearnPackets :
    rbit F.RRN_CTL_EN .reset = false ∧ rbit F.RRN_CTL_EN sRrn = true ∧
    (∀ p ∈ [rPkt oWrite 64 64 4097 2, rPkt oNotify 64 64 4097 2, rPkt oSend 64 64 4098 0, rPkt oReadReq 0 64 0 2, rPkt oCreditReq 0 4096 0 0, { rPkt oAtomic 16 16 4097 2 with code := 0 }],
      p.crcOk = true ∧ firstBad p sRrn = none ∧ ctxFor p sRrn = none ∧ sRrn.rrn.receipts.find? (isReceipt p.src p.msgId) = none ∧ leaseFull p sRrn = false) ∧
    (∀ p ∈ [rPkt oWrite 64 64 0 2, rPkt oNotify 64 64 4098 2, rPkt oSend 64 64 4097 0, rPkt oAtomic 15 15 4097 2, { rPkt oReadReq 0 64 0 2 with raddr := 4033 }], (firstBad p sRrn).isSome = true) ∧
    (∀ p ∈ [{ rPkt oWrite 1024 2048 4097 2 with pkt := 0 }, { rPkt oNotify 1024 2048 4097 2 with pkt := 0 }, { rPkt oSend 1024 2048 4098 0 with pkt := 0 }, rPkt oAtomic 16 16 4097 2], ∀ j ∈ [0, 1],
      let w := onRrn (fun r => { r with windows := [(2, { base := 0x10000000, perm := 15, key := 99, len := 65536, armed := true, gen := 5 })] }) sRrn
      let c : RCtx := { first := p, op := p.op, slots := [j] }
      let s := { w with rrn := { w.rrn with ctxs := [c] } }
      firstBad p s = none ∧ ctxFor p s = some c ∧ (p.offset / pktSize p.pkt = 0) ∧ leaseFull p s = false) ∧
    (let p := rPkt oNotify 64 64 4097 2
     let r : Receipt := { src := 1, msgId := 7, live := true, op := oNotify }
     let s := onRrn (fun x => { x with receipts := [r] }) sRrn
     firstBad p s = none ∧ ctxFor p s = none ∧ s.rrn.receipts.find? (isReceipt p.src p.msgId) = some r) ∧
    (grantLease 1 2 4096 sRrn).1.isSome = true ∧ (grantLease 1 1 4096 (withFields [(F.RRN_CREDIT_POOL_HOST_4K, 0, 0)] sRrn)).1 = none ∧
    (∀ op ∈ [oWrite, oAtomic, oReadReq], let o : ROp := { msgId := 7, req := { op := op, dst := 1, length := 64 }, phase := .sent, firstAt := some 0 }
     let s := onRrn (fun r => { r with ops := [o] }) sRrn
     firstBad (rPkt oAck 0 0 0 0) s = none ∧ firstBad (rPkt oNak 0 0 0 0) s = none ∧ firstBad (rPkt oReadResp 64 64 0 0) s = none ∧ opBy 7 s = some o ∧
     s.rrn.ops.find? (fun o => o.req.dst == 1 && (o.msgId == 7 || (o.phase == .lease && o.asked == 7))) = some o ∧ (nodeOf 1 s).sends = 0 ∧
     ((o.slots ++ [0]).length = packetCount 64 (pktSize 3))) ∧
    (let o : ROp := { msgId := 6, req := { op := oWrite, dst := 1, length := 64 }, phase := .lease, asked := 7 }
     let s := onRrn (fun r => { r with ops := [o] }) sRrn
     firstBad (rPkt oCreditGrant 0 0 0 0) s = none ∧ s.rrn.ops.find? (fun o => o.phase == .lease && o.asked == 7 && o.req.dst == 1) = some o) := by
  refine ⟨?_, ?_, ?_, ?_, ?_, ?_, ?_, ?_, ?_, ?_⟩ <;> decide +kernel

theorem witness_DirectoryTimersWindowsAndPorts :
    (let p : RrnPkt := { ver := 1, src := 1, dst := 0, addr := 17 }
     let h : HelloBody := { node := 1, identity := 3 }
     rbit F.RRN_CTL_EN sRrn = true ∧ helloBad { p with op := 0x0C } h sRrn = false ∧ helloBad { p with op := 0x0C, ver := 2 } h sRrn = true ∧ p.src ≠ ownChip sRrn ∧ h.withdraw = false ∧ h.conflict = false ∧
     (nodeOf 1 sRrn).identity = h.identity ∧ (nodeOf 1 sRrn).bound = true ∧ (nodeOf 1 sRrn).identity ≠ ({ h with identity := 4 } : HelloBody).identity ∧ helloBad { p with op := 0x0D } h sRrn = false) ∧
    (∀ n ∈ [1, 2, 3], (nodeOf 1 (setNode 1 { nodeOf 1 sRrn with sends := n, helloId := 9 } sRrn)).sends = n) ∧ (nodeOf 2 sRrn).bound = false ∧
    (let o : ROp := { msgId := 7, phase := .sent }
     (onRrn (fun r => { r with ops := [o] }) sRrn).rrn.ops.find? (fun o => o.msgId == 7 || (o.phase == .lease && o.asked == 7)) = some o) ∧
    (kfind sRrn.rrn.leases (4097 % 4096)).map (·.num) = some 4097 ∧
    (let c : RCtx := { first := rPkt oSend 64 64 4098 0 }
     (onRrn (fun r => { r with ctxs := [c] }) sRrn).rrn.ctxs.find? (fun c => c.first.src == 1 && c.first.msgId == 7) = some c) ∧
    baseOk 0x10000000 sRrn = true ∧ netMayUp 15 sRrn = false ∧
    (let s := withFields [(F.NET_PORT_CFG_PORT_EN, 0, 1), (F.NET_PORT_CFG_TX_EN, 0, 1)] sRrn
     netMayUp 0 s = true ∧ rbit F.NET_PORT_STATUS_LINK_UP s 0 = false ∧ (settledSpeed 0 0xFFFFFFFF true s).isSome = true ∧ rbit F.NET_PORT_CFG_PORT_EN s 0 = true ∧ rbit F.NET_PORT_STATUS_LINK_UP (rflag F.NET_PORT_STATUS_LINK_UP true s 0) 0 = true ∧
     netMayUp 0 (rflag F.NET_PORT_CFG_AN_EN true s 0) = true ∧ settledSpeed 0 0 true (rflag F.NET_PORT_CFG_AN_EN true s 0) = none) ∧
    (let s := withFields [(F.NET_PORT_CFG_PORT_EN, 0, 1), (F.NET_PORT_CFG_AN_EN, 0, 1)] sRrn
     rbit F.NET_PORT_CFG_AN_EN s 0 = true) := by
  refine ⟨?_, ?_, ?_, ?_, ?_, ?_, ?_, ?_, ?_, ?_⟩ <;> decide +kernel

theorem witness_LeaseRefusals :
    (∀ p ∈ [rPkt oWrite 64 64 0 2, rPkt oNotify 64 64 1048575 2, rPkt oSend 64 64 0 0, rPkt oAtomic 16 16 0 2], hdrBad p sRrn = false ∧ (kfind sRrn.rrn.leases (p.lease % 4096)).all (fun m => m.num != p.lease) = true) ∧
    (∀ p ∈ [rPkt oWrite 64 64 4098 2, rPkt oNotify 64 64 4098 2, rPkt oSend 64 64 4097 0, rPkt oAtomic 16 16 4098 2], hdrBad p sRrn = false ∧
      (kfind sRrn.rrn.leases (p.lease % 4096)).any (fun m => m.num == p.lease && m.pool != poolFor p.op p.window) = true) := by
  refine ⟨?_, ?_⟩ <;> decide +kernel


theorem witness_StoredLayouts :
    (let x : Bucket := { version := 9, overflow := true, tags := [5, 1023, 77] }; x.tags.length ≤ 48 ∧ 2 < x.tags.length) ∧
    (({ fp := some 5 } : MapRec).fp = some 5) ∧
    (let j : JEntry := { members := [(3, 5), (51, 67108863)] }; j.members.length ≤ 34 ∧ 1 < j.members.length) ∧
    (let e : IndexEntry := { uid := 4, fp := 77, chunkLen := 100, state := .live }
     let s : State := { (State.reset) with arr := { (State.reset).arr with index := [e] } }
     ([4, 9] : List Nat).filterMap (fun u => s.arr.index.find? (·.uid == u)) = [e]) := by decide +kernel

theorem test_journal_members : (let l := journalBytes { stripe := 5, members := [(3, 5)] }
    l.length = 256 ∧ (l.drop 56).take 4 = [0x05, 0, 0, 0x0C] ∧ l.take 9 = [5, 0, 0, 0, 0, 0, 0, 0, 1]) := by decide +kernel

end Sys2Proof.Tests
end

section
/-! PROOFS. Loads and stores of normal memory (Table 4.10): what a load and a store that meet no exception do, and what a store leaves
as it was. -/

namespace Sys2Proof.Machine

open Sys2Proof

/-! ### Tables and the counters of a core -/

/-- Of two writes of one entry the later one stays. -/
theorem kput_kput {V : Type} (m : KMap V) (k : Nat) (v w : V) : kput (kput m k v) k w = kput m k w := by
  induction m with
  | nil => simp [kput]
  | cons p m ih =>
    obtain ⟨a, x⟩ := p
    by_cases h1 : k = a
    · simp [kput, h1]
    · by_cases h2 : k < a
      · simp [kput, h1, h2]
      · simp [kput, h1, h2, ih]

@[simp] theorem setCore_setCore (c : CoreId) (x y : Core) (s : State) : setCore c y (setCore c x s) = setCore c y s := by
  simp [setCore, kput_kput]

/-- A core's state replaced by one with the same running slot leaves the core in its context. -/
theorem ctxOf_setCore {c : CoreId} {k : Core} {s : State} (h : k.cur = (coreOf s c).cur) : ctxOf (setCore c k s) c = ctxOf s c := by
  simp [ctxOf, h]

/-- An instruction whose cycles the hook budget covers changes nothing but its core's counters when it retires. -/
theorem retire_within_budget {c : CoreId} {n : Nat} {s : State} (h : privOf s c = 2 → n < (coreOf s c).hbudget) :
    ∃ k, k.cur = (coreOf s c).cur ∧ retire c n s = setCore c k s := by
  have hp : privOf (countInstr c n s) c = privOf s c := by
    simp only [privOf, countInstr, bankOf_setCore]
    rw [ctxOf_setCore (by rfl)]
  have hk : (coreOf (countInstr c n s) c).hbudget = (coreOf s c).hbudget := by simp [countInstr]
  unfold retire
  simp only [hp, hk]
  by_cases h2 : privOf s c = 2
  · rw [if_pos h2, if_neg (by have := h h2; omega)]
    simp only [countInstr, setCore_setCore, coreOf_setCore]
    exact ⟨_, by rfl, rfl⟩
  · rw [if_neg h2]
    exact ⟨_, by rfl, rfl⟩

/-! ### A load and a store that meet no exception -/

/-- An access that meets no exception of normal memory is not one of control space (R105). -/
theorem isControl_of_dataFault {c : CoreId} {x : Word} {n : Nat} {w : Bool} {s : State} (h : dataFault c x n w s = none) :
    isControl c x s = false := by
  by_contra hc
  obtain ⟨hx, hr⟩ : x.toNat < 2 ^ 48 ∧ regionOf c x.toNat s = some .control := by simpa [isControl] using hc
  unfold dataFault at h
  simp only [if_pos hx, hr, if_true] at h
  split at h <;> cases h

/-- What a load leaves that read `v` and left memory as in `u`. -/
def loadDone (o : MemOp) (c : CoreId) (d : Rn) (v : Nat) (s u : State) : State :=
  retire c 2 (setPc c (pcOf s c + 4) (wr c d (loadExtend o v) u))

/-- What a store of gd at `x` leaves. -/
def storeDone (o : MemOp) (c : CoreId) (d : Rn) (x : Word) (s : State) : State :=
  retire c 1 (setPc c (pcOf s c + 4) (memWrite (physKey c x.toNat) (leBytes (memSize o) (rd s c d).toNat) (ungate x.toNat s)))

section
variable {o : MemOp} {c : CoreId} {d a : Rn} {i : BitVec 16} {v : Nat} {x : Word} {s u : State}

theorem loadNormal_done (hf : dataFault c x (memSize o) false s = none) (ho : accessOff x.toNat s = none)
    (hl : loadBytes c x (memSize o) (ungate x.toNat s) = (some v, u)) : loadNormal o c d x s = .done (wr c d (loadExtend o v) u) := by
  unfold loadNormal
  rw [hf, ho, hl]

theorem storeNormal_done (hf : dataFault c x (memSize o) true s = none) (ho : accessOff x.toNat s = none) :
    storeNormal o c d x s = .done (memWrite (physKey c x.toNat) (leBytes (memSize o) (rd s c d).toNat) (ungate x.toNat s)) := by
  unfold storeNormal
  rw [hf, ho]

/-- A load other than LD. -/
theorem runMem_load (hm : memStore o = false) (h : Fetches c [a] s) (hf : dataFault c (effAddr s c a i) (memSize o) false s = none)
    (ho : accessOff (effAddr s c a i).toNat s = none)
    (hl : loadBytes c (effAddr s c a i) (memSize o) (ungate (effAddr s c a i).toNat s) = (some v, u)) :
    runMem o c d a i s = loadDone o c d v s u := by
  unfold runMem
  rw [hm, if_neg Bool.false_ne_true, runInstr_own h (lvAll_contains h), loadNormal_done hf ho hl]
  rfl

theorem runLd_load (h : Fetches c [a] s) (hf : dataFault c (effAddr s c a i) 8 false s = none)
    (ho : accessOff (effAddr s c a i).toNat s = none)
    (hl : loadBytes c (effAddr s c a i) 8 (ungate (effAddr s c a i).toNat s) = (some v, u)) : runLd c d a i s = loadDone .ld c d v s u := by
  unfold runLd
  rw [runInstr_own h (lvAll_contains h)]
  simp only [isControl_of_dataFault hf, Bool.not_false, if_true, loadNormal_done (o := .ld) hf ho hl]
  rfl

/-- A store other than SD. -/
theorem runMem_store (hm : memStore o = true) (h : Fetches c [a, d] s) (hf : dataFault c (effAddr s c a i) (memSize o) true s = none)
    (ho : accessOff (effAddr s c a i).toNat s = none) : runMem o c d a i s = storeDone o c d (effAddr s c a i) s := by
  unfold runMem
  rw [hm, if_pos rfl, runInstr_own h (lvAll_contains h), storeNormal_done hf ho]
  rfl

theorem runSd_store {stepper : Nat → State → State} (h : Fetches c [a, d] s) (hf : dataFault c (effAddr s c a i) 8 true s = none)
    (ho : accessOff (effAddr s c a i).toNat s = none) : runSd stepper c d a i s = storeDone .sd c d (effAddr s c a i) s := by
  unfold runSd
  rw [runInstr_own h (lvAll_contains h)]
  simp only [isControl_of_dataFault hf, Bool.not_false, if_true, storeNormal_done (o := .sd) hf ho]
  rfl

end

/-- Settles O3: the body of each instruction is its table row's access, run in the frame that every instruction shares. -/
theorem loadAndStoreResults : Obligations.LoadAndStoreResults := by
  unfold Obligations.LoadAndStoreResults
  refine ⟨fun c d a i s u v h => ⟨?_, ?_, ?_, ?_⟩, fun c d a i s h => ⟨?_, ?_, ?_, ?_⟩⟩
  · rintro ⟨hf, ho, hl⟩
    exact ⟨congrArg _ (runMem_load (o := .lb) rfl h hf ho hl), congrArg _ (runMem_load (o := .lbu) rfl h hf ho hl)⟩
  · rintro ⟨hf, ho, hl⟩
    exact ⟨congrArg _ (runMem_load (o := .lh) rfl h hf ho hl), congrArg _ (runMem_load (o := .lhu) rfl h hf ho hl)⟩
  · rintro ⟨hf, ho, hl⟩
    exact ⟨congrArg _ (runMem_load (o := .lw) rfl h hf ho hl), congrArg _ (runMem_load (o := .lwu) rfl h hf ho hl)⟩
  · rintro ⟨hf, ho, hl⟩
    exact congrArg _ (runLd_load h hf ho hl)
  · rintro ⟨hf, ho⟩
    exact congrArg _ (runMem_store (o := .sb) rfl h hf ho)
  · rintro ⟨hf, ho⟩
    exact congrArg _ (runMem_store (o := .sh) rfl h hf ho)
  · rintro ⟨hf, ho⟩
    exact congrArg _ (runMem_store (o := .sw) rfl h hf ho)
  · rintro ⟨hf, ho⟩
    exact congrArg _ (runSd_store h hf ho)

/-! ### What a store leaves as it was -/

/-- Ungating a cluster changes its clock-gate bit, and its body bias and SRAM assist, which follow it (R425). -/
theorem ungate_eq (n : Nat) (s : State) : ungate n s = { s with regs := (ungate n s).regs, pwr := (ungate n s).pwr } := by
  unfold ungate
  split <;> rfl

@[simp] theorem ungate_cpu (n : Nat) (s : State) : (ungate n s).cpu = s.cpu := by rw [ungate_eq]
@[simp] theorem ungate_mem (n : Nat) (s : State) : (ungate n s).mem = s.mem := by rw [ungate_eq]
@[simp] theorem ungate_phys (n : Nat) (s : State) : (ungate n s).phys = s.phys := by rw [ungate_eq]
@[simp] theorem coreOf_ungate (n : Nat) (s : State) (c : CoreId) : coreOf (ungate n s) c = coreOf s c := by rw [ungate_eq]; rfl
@[simp] theorem bankOf_ungate (n : Nat) (s : State) (x : Nat) : bankOf (ungate n s) x = bankOf s x := by rw [ungate_eq]; rfl
@[simp] theorem ctxOf_ungate (n : Nat) (s : State) (c : CoreId) : ctxOf (ungate n s) c = ctxOf s c := by rw [ungate_eq]; rfl
@[simp] theorem coreOf_memWrite (k : Nat) (l : List Byte) (s : State) (c : CoreId) : coreOf (memWrite k l s) c = coreOf s c := rfl
@[simp] theorem bankOf_memWrite (k : Nat) (l : List Byte) (s : State) (x : Nat) : bankOf (memWrite k l s) x = bankOf s x := rfl
@[simp] theorem ctxOf_memWrite (k : Nat) (l : List Byte) (s : State) (c : CoreId) : ctxOf (memWrite k l s) c = ctxOf s c := rfl

/-- Byte `j` of a number's bytes. -/
theorem leBytes_getElem (n x j : Nat) (h : j < (leBytes n x).length) : (leBytes n x)[j] = BitVec.ofNat 8 (x / 256 ^ j) := by
  induction n generalizing x j with
  | zero => simp [leBytes] at h
  | succ n ih =>
    cases j with
    | zero => simp [leBytes]
    | succ j =>
      simp only [leBytes, List.getElem_cons_succ]
      rw [ih, Nat.div_div_eq_div_mul, Nat.pow_add_one, Nat.mul_comm 256]

section
variable {o : MemOp} {c : CoreId} {d r : Rn} {x : Word} {s : State} (hb : privOf s c = 2 → 1 < (coreOf s c).hbudget)
include hb

/-- A store writes memory, ungates the cluster, moves the PC on and counts its cycle, and no more. -/
theorem storeDone_eq_writes : ∃ k, k.cur = (coreOf s c).cur ∧ storeDone o c d x s =
    setCore c k (setBank (ctxOf s c) { bankOf s (ctxOf s c) with pc := pcOf s c + 4 }
      (memWrite (physKey c x.toNat) (leBytes (memSize o) (rd s c d).toNat) (ungate x.toNat s))) := by
  obtain ⟨k, hk, he⟩ := retire_within_budget (c := c) (n := 1)
    (s := setPc c (pcOf s c + 4) (memWrite (physKey c x.toNat) (leBytes (memSize o) (rd s c d).toNat) (ungate x.toNat s)))
    (by simpa [privOf, setPc] using hb)
  exact ⟨k, by simpa using hk, by simpa [storeDone, setPc] using he⟩

theorem ctxOf_storeDone : ctxOf (storeDone o c d x s) c = ctxOf s c := by
  obtain ⟨k, hk, he⟩ := storeDone_eq_writes (o := o) (d := d) (x := x) hb
  simp [he, ctxOf, hk]

theorem bankOf_storeDone_self :
    bankOf (storeDone o c d x s) (ctxOf s c) = { bankOf s (ctxOf s c) with pc := pcOf s c + 4 } := by
  obtain ⟨k, -, he⟩ := storeDone_eq_writes (o := o) (d := d) (x := x) hb
  simp [he]

theorem bankOf_storeDone_other {y : Nat} (hy : y ≠ ctxOf s c) : bankOf (storeDone o c d x s) y = bankOf s y := by
  obtain ⟨k, -, he⟩ := storeDone_eq_writes (o := o) (d := d) (x := x) hb
  rw [he, bankOf_setCore, bankOf_setBank_other _ _ _ _ hy, bankOf_memWrite, bankOf_ungate]

theorem rd_storeDone : rd (storeDone o c d x s) c r = rd s c r := by
  simp only [rd, ctxOf_storeDone hb, bankOf_storeDone_self hb]
  rfl

theorem privOf_storeDone : privOf (storeDone o c d x s) c = privOf s c := by
  simp only [privOf, ctxOf_storeDone hb, bankOf_storeDone_self hb]

/-- Beside the cores and memory a store changes the clock-gate bit of the cluster stored to, with its bias and assist. -/
theorem storeDone_eq : storeDone o c d x s =
    { s with cpu := (storeDone o c d x s).cpu, mem := (memWrite (physKey c x.toNat) (leBytes (memSize o) (rd s c d).toNat) s).mem,
             regs := (ungate x.toNat s).regs, pwr := (ungate x.toNat s).pwr } := by
  obtain ⟨k, -, he⟩ := storeDone_eq_writes (o := o) (d := d) (x := x) hb
  rw [he, ungate_eq]
  rfl

theorem storeDone_mem : (storeDone o c d x s).mem = (memWrite (physKey c x.toNat) (leBytes (memSize o) (rd s c d).toNat) s).mem := by
  rw [storeDone_eq hb]

end

/-- The frame of a store, in the form of O12 with what O12 leaves out: ungating a cluster sets its bias and assist (R425) in `pwr`. -/
theorem storeDone_frame {o : MemOp} {c : CoreId} {d : Rn} {x : Word} {s : State} (hb : privOf s c = 2 → 1 < (coreOf s c).hbudget)
    (hwf : Memory.wf s.mem = true) :
    let t := storeDone o c d x s
    let k := physKey c x.toNat
    (∀ j : Nat, j < k ∨ k + memSize o ≤ j → memByte t j = memByte s j) ∧
    (∀ j : Nat, j < memSize o → memByte t (k + j) = BitVec.ofNat 8 ((rd s c d).toNat / 256 ^ j)) ∧
    Memory.wf t.mem = true ∧ (∀ r : Rn, rd t c r = rd s c r) ∧ (∀ y : Nat, y ≠ ctxOf s c → bankOf t y = bankOf s y) ∧
    t = { s with cpu := t.cpu, mem := t.mem, regs := (ungate x.toNat s).regs, pwr := (ungate x.toNat s).pwr } := by
  intro t k
  have hm : t.mem = _ := storeDone_mem hb
  refine ⟨fun j hj => ?_, fun j hj => ?_, ?_, fun r => rd_storeDone hb, fun y hy => bankOf_storeDone_other hb hy, ?_⟩
  · rw [memByte, hm]
    exact memByte_memWrite_other k j _ s hwf (by simpa using hj)
  · rw [memByte, hm, ← leBytes_getElem (memSize o) _ j (by simpa using hj)]
    exact memByte_memWrite_at k j _ s hwf (by simpa using hj)
  · rw [hm]
    exact memWrite_wf _ _ s hwf
  · rw [hm]
    exact storeDone_eq hb

/-! ### What a load reads of a store -/

/-- Deleting an entry does not change what entries above it read as, whatever the order of the keys. -/
theorem kfind_kdel_above {V : Type} (m : KMap V) {k j : Nat} (h : k < j) : kfind (kdel m k) j = kfind m j := by
  induction m with
  | nil => rfl
  | cons p m ih =>
    obtain ⟨a, v⟩ := p
    simp only [kdel]
    split
    · next h1 => simp only [kfind, if_neg (show j ≠ a by omega), if_neg (show ¬ j < a by omega)]
    · split
      · rfl
      · simp only [kfind, ih]

/-- Ungating leaves every field that stands above the clock-gate bits in the register file. -/
theorem rget_ungate {f : Field} {n i : Nat} {s : State} (h : F.PWR_STATUS_CG.key 0 < f.key i) : rget f (ungate n s) i = rget f s i := by
  have hr : ∀ v, rget f (rset F.PWR_STATUS_CG v s) i = rget f s i := by
    intro v
    simp only [rget, rset, kset, kget]
    split
    · rw [kfind_kdel_above _ h]
    · rw [kfind_kput_other _ _ _ _ (by omega)]
  unfold ungate
  split
  · exact hr _
  · rfl

/-- Two states that read alike above the clock-gate bits have the same islands powered off. -/
theorem accessOff_congr {n : Nat} {s t : State} (h : ∀ f i, F.PWR_STATUS_CG.key 0 < f.key i → rget f t i = rget f s i) :
    accessOff n t = accessOff n s := by
  have hoff (i : Nat) : islandOff i t = islandOff i s := by
    simp only [islandOff, rtest]
    rw [h _ _ (by decide), h _ _ (by decide)]
  simp only [accessOff, hoff]

/-- Two states that read alike above the clock-gate bits have the same address map. -/
theorem regionOf_congr {c : CoreId} {m : Nat} {s t : State} (h : ∀ f i, F.PWR_STATUS_CG.key 0 < f.key i → rget f t i = rget f s i) :
    regionOf c m t = regionOf c m s := by
  have hready : rbit F.MEM_TRAIN_STATUS_READY t = rbit F.MEM_TRAIN_STATUS_READY s := by
    rw [rbit, rbit, h _ _ (by decide)]
  have hdram : dramBytes t = dramBytes s := by
    simp only [dramBytes, hready, h F.MEM_TRAIN_STATUS_CAPACITY_GIB 0 (by decide)]
  simp only [regionOf, hdram]

theorem listSet_getD {V : Type} (l : List V) (i : Nat) (x y : V) (h : i < l.length) : (listSet l i x).getD i y = x := by
  induction l generalizing i with
  | nil => simp at h
  | cons z l ih =>
    cases i with
    | zero => rfl
    | succ i => simpa [listSet] using ih i (by simpa using h)

/-- A register that the bank holds reads back what is written to it. -/
theorem greg_gput {b : Bank} {r : Rn} {v : Word} (hr : r ≠ 0) (hl : r.val ≤ b.g.length) : greg (gput r v b) r = v := by
  have h0 : r.val ≠ 0 := fun h => hr (Fin.ext h)
  simp only [greg, gput, if_neg h0]
  exact listSet_getD _ _ _ _ (by omega)

section
variable {o l : MemOp} {c : CoreId} {d r : Rn} {v : Nat} {x : Word} {s u : State}

/-- A load within the hook budget leaves its value in gd. -/
theorem rd_loadDone (hu : u.cpu = s.cpu) (hb : privOf s c = 2 → 2 < (coreOf s c).hbudget) (hr : r ≠ 0)
    (hl : r.val ≤ (bankOf s (ctxOf s c)).g.length) : rd (loadDone l c r v s u) c r = loadExtend l v := by
  have hx : ctxOf u c = ctxOf s c := by simp [ctxOf, coreOf, hu]
  have hbk : bankOf u (ctxOf s c) = bankOf s (ctxOf s c) := by simp [bankOf, hu]
  have hc : coreOf u c = coreOf s c := by simp [coreOf, hu]
  have hp : ∀ b w, (gput r w b).priv = b.priv := by
    intro b w
    unfold gput
    split <;> rfl
  obtain ⟨k, hk, he⟩ := retire_within_budget (c := c) (n := 2) (s := setPc c (pcOf s c + 4) (wr c r (loadExtend l v) u)) (by
    simp only [privOf, setPc, wr, ctxOf_setBank, bankOf_setBank, coreOf_setBank, hp, hx, hbk]
    exact hc ▸ hb)
  rw [loadDone, he, rd, ctxOf_setCore hk, bankOf_setCore]
  simp only [setPc, wr, ctxOf_setBank, bankOf_setBank, hx, hbk]
  exact greg_gput hr hl

variable (hb : privOf s c = 2 → 1 < (coreOf s c).hbudget)
include hb

theorem rget_storeDone {f : Field} {i : Nat} (h : F.PWR_STATUS_CG.key 0 < f.key i) : rget f (storeDone o c d x s) i = rget f s i := by
  rw [storeDone_eq hb]
  exact rget_ungate h

/-- With no bad line, a load of the bytes just stored outside the boot ROM reads them back. -/
theorem loadBytes_storeDone (hwf : Memory.wf s.mem = true) (hline : s.phys.lineErr = []) (hrom : regionOf c x.toNat s ≠ some .rom) :
    loadBytes c x (memSize o) (ungate x.toNat (storeDone o c d x s)) =
      (some ((rd s c d).toNat % 256 ^ memSize o), ungate x.toNat (storeDone o c d x s)) := by
  have hreg : regionOf c x.toNat (ungate x.toNat (storeDone o c d x s)) = regionOf c x.toNat s := by
    rw [regionOf_congr fun f i h => rget_ungate h, regionOf_congr fun f i h => rget_storeDone hb h]
  have hphys : (storeDone o c d x s).phys = s.phys := by rw [storeDone_eq hb]
  have hread : memRead (ungate x.toNat (storeDone o c d x s)) (physKey c x.toNat) (memSize o) = leBytes (memSize o) (rd s c d).toNat := by
    have h := memRead_memWrite (physKey c x.toNat) (leBytes (memSize o) (rd s c d).toNat) s hwf
    rw [leBytes_length] at h
    refine (memRead_congr _ _ _ _ fun i _ => ?_).trans h
    simp only [memByte, ungate_mem, storeDone_mem hb]
  unfold loadBytes
  rw [hreg, if_neg hrom]
  simp only [readMem, ungate_phys, hphys, hline, ne_eq, not_true_eq_false, and_false, if_false, hread, Option.map_some, ofLe_leBytes]

end

/-- A store in `s` and a load in `t` at the same address, under the premises of O13 and one that it lacks: the bank holds all of g1 to g31. -/
structure StoreThenLoad (c : CoreId) (d r a : Rn) (v : BitVec 16) (s t : State) : Prop where
  storeFetches : Fetches c [a, d] s
  loadFetches : Fetches c [a] t
  canonical : Memory.wf s.mem = true
  noBadLine : s.phys.lineErr = []
  fullBank : (bankOf s (ctxOf s c)).g.length = 31
  target : r ≠ 0
  storeBudget : privOf s c = 2 → 4 < (coreOf s c).hbudget
  loadBudget : privOf s c = 2 → 4 < (coreOf t c).hbudget
  islandOn : accessOff (effAddr s c a v).toNat s = none
  notRom : regionOf c (effAddr s c a v).toNat s ≠ some .rom

section
variable {so lo : MemOp} {c : CoreId} {d r a : Rn} {v : BitVec 16} {s t : State}

/-- The load finds the store's address and takes what gd held, cut to the store's size. -/
theorem StoreThenLoad.reads (h : StoreThenLoad c d r a v s t) (ht : t = storeDone so c d (effAddr s c a v) s) (hsize : memSize lo = memSize so) :
    effAddr t c a v = effAddr s c a v ∧ accessOff (effAddr s c a v).toNat t = none ∧
    ∃ n u, loadBytes c (effAddr s c a v) (memSize lo) (ungate (effAddr s c a v).toNat t) = (some n, u) ∧
      rd (loadDone lo c r n t u) c r = loadExtend lo ((rd s c d).toNat % 256 ^ memSize so) := by
  have hb : privOf s c = 2 → 1 < (coreOf s c).hbudget := fun hp => by
    have := h.storeBudget hp
    omega
  have hbt : privOf t c = 2 → 2 < (coreOf t c).hbudget := fun hp => by
    rw [ht, privOf_storeDone hb] at hp
    have := h.loadBudget hp
    omega
  have hlen : r.val ≤ (bankOf t (ctxOf t c)).g.length := by
    rw [ht, ctxOf_storeDone hb, bankOf_storeDone_self hb]
    exact h.fullBank ▸ Nat.le_of_lt_succ r.isLt
  refine ⟨?_, ?_, _, ungate (effAddr s c a v).toNat t, ?_, rd_loadDone (ungate_cpu _ _) hbt h.target hlen⟩
  · simp only [ht, effAddr, rd_storeDone hb]
  · rw [ht, accessOff_congr fun f i hk => rget_storeDone hb hk]
    exact h.islandOn
  · rw [ht, hsize]
    exact loadBytes_storeDone hb h.canonical h.noBadLine h.notRom

/-- What a load other than LD reads after a store of its size. -/
theorem StoreThenLoad.runMem_reads (h : StoreThenLoad c d r a v s t) (ht : t = storeDone so c d (effAddr s c a v) s)
    (hsize : memSize lo = memSize so) (hm : memStore lo = false) (hf : dataFault c (effAddr s c a v) (memSize lo) false t = none) :
    rd (runMem lo c r a v t) c r = loadExtend lo ((rd s c d).toNat % 256 ^ memSize so) := by
  obtain ⟨hx, ho, n, u, hl, hv⟩ := h.reads ht hsize
  rw [← hx] at hf ho hl
  rw [runMem_load hm h.loadFetches hf ho hl, hv]

theorem StoreThenLoad.runLd_reads (h : StoreThenLoad c d r a v s t) (ht : t = storeDone .sd c d (effAddr s c a v) s)
    (hf : dataFault c (effAddr s c a v) 8 false t = none) : rd (runLd c r a v t) c r = rd s c d := by
  obtain ⟨hx, ho, n, u, hl, hv⟩ := h.reads (lo := .ld) ht rfl
  rw [← hx] at hf ho hl
  rw [runLd_load h.loadFetches hf ho hl, hv]
  simp [loadExtend, memSize, Nat.mod_eq_of_lt (rd s c d).isLt]

/-- O13 on a full bank: LD reads what SD wrote, and LW and LWU the low word of what SW wrote. -/
theorem StoreThenLoad.returns_value (h : StoreThenLoad c d r a v s t) :
    (dataFault c (effAddr s c a v) 8 true s = none → dataFault c (effAddr s c a v) 8 false t = none → exec (.sd c d a v) s = .next t →
      ∃ u, exec (.ld c r a v) t = .next u ∧ rd u c r = rd s c d) ∧
    (dataFault c (effAddr s c a v) 4 true s = none → dataFault c (effAddr s c a v) 4 false t = none → exec (.sw c d a v) s = .next t →
      (∃ u, exec (.lw c r a v) t = .next u ∧ rd u c r = ((rd s c d).setWidth 32).signExtend 64) ∧
      (∃ u, exec (.lwu c r a v) t = .next u ∧ rd u c r = ((rd s c d).setWidth 32).zeroExtend 64)) := by
  refine ⟨fun hfs hf he => ?_, fun hfs hf he => ?_⟩
  · have ht : t = storeDone .sd c d (effAddr s c a v) s :=
      (Host.Outcome.next.inj he).symm.trans (runSd_store h.storeFetches hfs h.islandOn)
    exact ⟨_, rfl, h.runLd_reads ht hf⟩
  · have ht : t = storeDone .sw c d (effAddr s c a v) s :=
      (Host.Outcome.next.inj he).symm.trans (runMem_store rfl h.storeFetches hfs h.islandOn)
    have hlow : BitVec.ofNat 32 ((rd s c d).toNat % 256 ^ 4) = (rd s c d).setWidth 32 := BitVec.eq_of_toNat_eq (by simp)
    refine ⟨⟨_, rfl, (h.runMem_reads (lo := .lw) ht rfl rfl hf).trans ?_⟩, ⟨_, rfl, (h.runMem_reads (lo := .lwu) ht rfl rfl hf).trans ?_⟩⟩
    · exact congrArg (BitVec.signExtend 64) hlow
    · exact BitVec.eq_of_toNat_eq (by simp [loadExtend, memSize])

end

/-! ### Where O12 and O13 fail -/

/-- Core 0 runs slot 0 with the bank given. -/
def stateWithBank (b : Bank) : State := setBank 0 b (setCore 0 { cur := some 0 } (rflag F.DPC_CORE_CTL_EN true .reset))

/-- Core 0 in U, g1 an address in the SRAM of the second cluster, whose clock is gated at voltage level 0. -/
def gatedState : State :=
  rputBit F.PWR_STATUS_CG 3 true (rset F.PWR_DVFS_CUR_LEVEL 0 (stateWithBank (gput 1 0x10800000 { pc := 0x1000, priv := 1 })) 2)

theorem gatedState_fetches : Fetches 0 [1, 2] gatedState := by
  unfold Fetches
  decide +kernel

/-- Refutes O12: a store to a clock-gated cluster at level 0 ungates it, and with its clock come back its forward bias and its wordline
underdrive (R425), which the statement has stay. `storeDone_frame` is the frame that holds. -/
theorem not_storeFrame : ¬ Obligations.StoreFrame := by
  unfold Obligations.StoreFrame
  intro h
  obtain ⟨-, -, -, -, -, ht⟩ := h 0 2 1 0 8 (.sd 0 2 1 0) gatedState _ gatedState_fetches (by decide +kernel) (by decide +kernel) (by simp)
    (by decide +kernel) (by decide +kernel) rfl
  exact absurd (congrArg (fun t : State => t.pwr.elec) ht) (by decide +kernel)

/-- The premises of `StoreThenLoad.returns_value` can be met. -/
theorem storeThenLoad_met :
    let s := stateWithBank (gput 2 5 (gput 1 0x2000 { pc := 0x1000, priv := 1 }))
    StoreThenLoad 0 2 3 1 0 s (runSd stepOnce 0 2 1 0 s) := by
  constructor
  case storeFetches => unfold Fetches; decide +kernel
  case loadFetches => unfold Fetches; decide +kernel
  all_goals decide +kernel

/-- Core 0 in U with a bank that holds no more than g1, the address 0x2000, and g2, the number 5. -/
def shortBankState : State := stateWithBank { g := [0x2000, 5], pc := 0x1000, priv := 1 }

/-- Refutes O13: a bank is a list of any length, and a load into a register beyond its end is lost, so that g3 reads 0 after SD has stored 5
and LD has read it. `StoreThenLoad.returns_value` is the statement that holds, for a bank of 31 registers. -/
theorem not_storeThenLoadReturnsValue : ¬ Obligations.StoreThenLoadReturnsValue := by
  unfold Obligations.StoreThenLoadReturnsValue
  intro h
  obtain ⟨hld, -⟩ := h 0 2 3 1 0 shortBankState (runSd stepOnce 0 2 1 0 shortBankState) (by unfold Fetches; decide +kernel)
    (by decide +kernel) rfl (by decide) (by decide +kernel) (by decide +kernel) (by decide +kernel) (by unfold Fetches; decide +kernel)
    (by decide +kernel)
  obtain ⟨u, hu, hr⟩ := hld (by decide +kernel) (by decide +kernel) rfl
  have hrun : runLd 0 3 1 0 (runSd stepOnce 0 2 1 0 shortBankState) = u := Host.Outcome.next.inj hu
  rw [← hrun] at hr
  exact absurd hr (by decide +kernel)

end Sys2Proof.Machine
end

section
/-! PROOFS. Register writes: each field of a register takes what its access class lets it take (R11). -/

namespace Sys2Proof.Machine

open Sys2Proof

/-! ### One field -/

theorem rget_rset_same {f : Field} {v i : Nat} {s : State} (h : ksorted s.regs = true) : rget f (rset f v s i) i = v % 2 ^ f.width :=
  kget_kset_same _ _ _ _ h

theorem rget_rset_other {f g : Field} {v i j : Nat} {s : State} (h : ksorted s.regs = true) (hk : g.key j ≠ f.key i) :
    rget g (rset f v s i) j = rget g s j := by
  simp only [rget, rset, kset, kget]
  split
  · rw [kfind_kdel_other none _ _ _ h hk]
  · rw [kfind_kput_other _ _ _ _ hk]

theorem ksorted_rset {f : Field} {v i : Nat} {s : State} (h : ksorted s.regs = true) : ksorted (rset f v s i).regs = true :=
  ksorted_kset _ _ _ _ h

/-- What a field that holds `old` holds after a write of a word with `n` in its bits (R11). -/
def Field.written (f : Field) (old n : Nat) : Nat :=
  match f.acc with
  | .rw | .rws => n % 2 ^ f.width
  | .rw1c => (old - (old &&& n)) % 2 ^ f.width
  | _ => old

/-- A write sets a field or, by its class, leaves it. -/
theorem storeField_cases (v : Nat) (p : Field × Nat) (s : State) :
    storeField v p s = s ∨ ∃ n, storeField v p s = rset p.1 n s p.2 := by
  unfold storeField
  cases p.1.acc
  case ro => exact .inl rfl
  case wo => exact .inl rfl
  all_goals exact .inr ⟨_, rfl⟩

theorem ksorted_storeField {v : Nat} {p : Field × Nat} {s : State} (h : ksorted s.regs = true) : ksorted (storeField v p s).regs = true := by
  rcases storeField_cases v p s with he | ⟨n, he⟩ <;> rw [he]
  · exact h
  · exact ksorted_rset h

theorem rget_storeField_same {v : Nat} {f : Field} {i : Nat} {s : State} (h : ksorted s.regs = true) :
    rget f (storeField v (f, i) s) i = f.written (rget f s i) (bits v f.msb f.lsb) := by
  unfold storeField Field.written
  cases f.acc
  case ro => rfl
  case wo => rfl
  all_goals exact rget_rset_same h

theorem rget_storeField_other {v : Nat} {p : Field × Nat} {f : Field} {i : Nat} {s : State} (h : ksorted s.regs = true)
    (hk : f.key i ≠ p.1.key p.2) : rget f (storeField v p s) i = rget f s i := by
  rcases storeField_cases v p s with he | ⟨n, he⟩ <;> rw [he]
  exact rget_rset_other h hk

/-! ### The fields of one register -/

/-- Fields that share no key keep their values while others are written. -/
theorem rget_storeFields_other {v : Nat} {f : Field} {i : Nat} (l : List (Field × Nat)) {s : State} (h : ksorted s.regs = true)
    (hk : ∀ p ∈ l, f.key i ≠ p.1.key p.2) : rget f (forEach l (storeField v) s) i = rget f s i := by
  induction l generalizing s with
  | nil => rfl
  | cons p l ih =>
    obtain ⟨hp, hl⟩ := List.forall_mem_cons.mp hk
    exact (ih (ksorted_storeField h) hl).trans (rget_storeField_other h hp)

/-- Of fields with keys of their own each is written as if it were alone. -/
theorem rget_storeFields {v : Nat} {f : Field} {i : Nat} (l : List (Field × Nat)) {s : State} (h : ksorted s.regs = true)
    (hd : l.Pairwise (fun p q => p.1.key p.2 ≠ q.1.key q.2)) (hm : (f, i) ∈ l) :
    rget f (forEach l (storeField v) s) i = f.written (rget f s i) (bits v f.msb f.lsb) := by
  induction l generalizing s with
  | nil => cases hm
  | cons p l ih =>
    obtain ⟨hp, hl⟩ := List.pairwise_cons.mp hd
    rcases List.mem_cons.mp hm with rfl | hm
    · exact (rget_storeFields_other l (ksorted_storeField h) hp).trans (rget_storeField_same h)
    · have hne : f.key i ≠ p.1.key p.2 := (hp _ hm).symm
      refine (ih (ksorted_storeField h) hl hm).trans ?_
      rw [rget_storeField_other h hne]

/-- Two fields that no register holds in the same place: they start at different bits, or their families' addresses do not meet. -/
def Field.apart (f g : Field) : Bool :=
  f.lsb != g.lsb || decide (f.addr + 8 * f.cnt ≤ g.addr) || decide (g.addr + 8 * g.cnt ≤ f.addr)

/-- Which register of a family stands at an address. -/
theorem fieldAt_eq_some {a i : Nat} {f : Field} (h : fieldAt a f = some i) : f.addr + 8 * i = a ∧ i < f.cnt := by
  unfold fieldAt at h
  split at h
  · next hc =>
    simp only [Bool.and_eq_true, decide_eq_true_eq, beq_iff_eq] at hc
    cases h
    omega
  · cases h

/-- In a block whose fields stand apart the fields of a register have keys of their own. -/
theorem fieldsAt_keys_distinct {a : Nat} (h : (F.ofBlock (blockOf a)).Pairwise (Field.apart · ·)) :
    (fieldsAt a).Pairwise (fun p q => p.1.key p.2 ≠ q.1.key q.2) := by
  refine List.Pairwise.filterMap _ (fun f g hfg p hp q hq => ?_) h
  simp only [Option.map_eq_some_iff] at hp hq
  obtain ⟨i, hi, rfl⟩ := hp
  obtain ⟨j, hj, rfl⟩ := hq
  obtain ⟨hia, hic⟩ := fieldAt_eq_some hi
  obtain ⟨hja, hjc⟩ := fieldAt_eq_some hj
  simp only [Field.apart, Bool.or_eq_true, bne_iff_ne, decide_eq_true_eq] at hfg
  simp only [Field.key]
  omega

theorem allHQ_apart : F.allHQ.Pairwise (Field.apart · ·) := by decide +kernel

theorem allMEM_apart : F.allMEM.Pairwise (Field.apart · ·) := by decide +kernel

/-- A write to the HQ or the MEM block stores the register and does nothing beside. -/
theorem writeReg_stores {stepper : Nat → State → State} {c : CoreId} {a : Nat} {v : Word} {failing : List Nat} {s : State}
    (h : blockOf a = 6 ∨ blockOf a = 15) : writeReg stepper c a v failing s = storeWord a v s := by
  unfold writeReg
  rcases h with h | h <;> rw [h] <;> rfl

/-- No gated island serves the HQ and the MEM block. -/
theorem servedBy_none {a : Nat} (h : blockOf a = 6 ∨ blockOf a = 15) : servedBy a true = none := by
  unfold servedBy
  rw [Bool.not_true, Bool.false_and, if_neg Bool.false_ne_true]
  rcases h with h | h <;> rw [h] <;> rfl

/-- A write to a register that no gated island serves ungates nothing. The function is unfolded before it meets its address: on a variable
address the kernel would evaluate `blockOf` in unary. -/
theorem ctlUngate_of_servedBy_none {a : Nat} {s : State} (h : servedBy a true = none) : ctlUngate a s = s := by
  have unfolded : ctlUngate = ctlUngate := rfl
  conv at unfolded => rhs; delta ctlUngate
  rw [unfolded]
  simp only [h]

theorem opRegisterWrite_stores {who : CoreId} {a : Nat} {v : Word} {s : State} (h : Accepts who a v s) (hb : blockOf a = 6 ∨ blockOf a = 15)
    (ha : 0x200000000000 ≤ a) : opRegisterWrite who a v s = storeWord a v s := by
  have hlt : a < 0x200014000000 := by
    simp only [blockOf] at hb
    omega
  rw [opRegisterWrite, if_pos ⟨ha, hlt⟩, regCmd_accepts h, ctlUngate_of_servedBy_none (servedBy_none hb), writeReg_stores hb]

/-- Settles O28: a register of the two blocks is stored field by field, and no two of its fields share a place in the register file. -/
theorem registerFieldsByAccessClass : Obligations.RegisterFieldsByAccessClass := by
  unfold Obligations.RegisterFieldsByAccessClass
  intro who a v f i s hacc hb ha hs hm
  have hapart : (F.ofBlock (blockOf a)).Pairwise (Field.apart · ·) := by
    rcases hb with hb | hb <;> rw [hb]
    · exact allHQ_apart
    · exact allMEM_apart
  exact ⟨_, congrArg Host.Outcome.next (opRegisterWrite_stores hacc hb ha), rget_storeFields _ hs (fieldsAt_keys_distinct hapart) hm⟩

end Sys2Proof.Machine
end

section
/-! PROOFS. The state after power-on reset (R12, R101, R483). -/

namespace Sys2Proof.Machine

open Sys2Proof

/-- After power-on reset the register file lists nothing, so that every field reads its reset value. -/
theorem rget_reset (f : Field) (i : Nat) : rget f .reset i = f.reset i := rfl

/-- After power-on reset every bank holds zeros but for the PC of the two pairs. -/
theorem bankOf_reset (x : Nat) : bankOf .reset x = { pc := if x = 512 ∨ x = 513 then 0x300000000000 else 0 } := by
  show kget ({} : Bank) [(512, { pc := 0x300000000000 }), (513, { pc := 0x300000000000 })] x = _
  by_cases h1 : x = 512
  · simp [kget, kfind, h1]
  · by_cases h2 : x = 513
    · simp [kget, kfind, h2]
    · simp [kget, kfind, h1, h2]

theorem rd_reset (c : CoreId) (r : Rn) : rd .reset c r = 0 := by
  rw [rd, bankOf_reset, greg]
  split
  · rfl
  · exact List.getElem?_getD_replicate_default_eq 0 31 (r.val - 1)

/-- Out of reset the pairs run, and no data-path core is enabled. -/
theorem executes_reset (c : CoreId) : executes .reset c = isPair c := by decide +revert +kernel

theorem statusWord_reset (c : CoreId) : srRead c 0 .reset = if isPair c then 0x100 else 0 := by
  show statusWord c (bankOf .reset (ctxOf .reset c)) = _
  rw [bankOf_reset]
  cases h : isPair c <;> simp [statusWord, h]

/-- Settles O56: the register file, memory and the queues are empty, so that what is read is the reset value of each field's definition, which
is compared with the tables' numbers. -/
theorem resetValues : Obligations.ResetValues := by
  unfold Obligations.ResetValues
  refine ⟨fun f _ i => rget_reset f i, ?_, ?_, ?_, ?_, ?_, fun c r => ⟨rd_reset c r, executes_reset c, rfl, rfl, statusWord_reset c⟩,
    fun _ => rfl, rfl, rfl, rfl⟩
  all_goals
    simp only [rget_reset]
    decide

end Sys2Proof.Machine
end

section
/-! PROOFS. Stripes pour and commit, dirty copies are given up, and zone sets are collected and reset (R246 to R250, R254, R256). -/

namespace Sys2Proof.Machine

open Sys2Proof

/-! ### The pour of a stripe (R247) -/

/-- What the pour of stripe `x` leaves that took parity context `ctx` and the next row of zone set `zs` in `u`. -/
def rowPoured (n : Nat) (x : Steep) (ctx zs : Nat) (u : State) : State :=
  let z := zsOf zs u
  let taken := setZs zs { z with nextRow := z.nextRow + 1, firstAppend := z.firstAppend.or (some (rget F.CLK_ALARM_RTC_SEC u)) } u
  let filled := setFill x.handle (x.je.k * 65536)
    (memWrite (bufAddr x.handle taken + x.fill) (List.replicate (x.je.k * 65536 - x.fill) 0) taken)
  let noted := setJournal n (fun j => { j with state := .pouring, row := z.nextRow, zoneSet := zs, members := z.members,
                                               dataBytes := x.fill, frames := x.frames.length })
    (setSteep { x with ctx := some ctx, ok := [], failed := false, pBuf := none, qBuf := none } filled)
  forEach (List.range x.je.k)
    (fun i => postStrip n i (stripPlace z z.nextRow i).1 (stripPlace z z.nextRow i).2 z.nextRow x.handle (65536 * i) ctx true)
    (setPar (kput noted.par ctx { k := x.je.k, len := 65536, p := zeroStrip 65536, q := zeroStrip 65536 }) noted)

section
variable {n ctx zs : Nat} {x : Steep} {s u : State}
  (hx : steepOf n s = some x) (hc : x.closed = true) (hs : x.je.state = .steeping) (hu : x.unsealed = 0)
include hc hs hu

/-- A closed steeping stripe whose frames are all sealed passes the guard of the pour. -/
theorem pourGuard_of_sealed : (!x.closed || x.je.state != .steeping || x.unsealed != 0) = false := by
  simp [hc, hs, hu]

include hx

/-- A closed and sealed stripe that finds a parity context and a zone set pours. -/
theorem pourStripe_eq_rowPoured (hctx : lowest 64 (fun c => (kfind s.par c).isNone) = some ctx)
    (hzs : chooseZs x.je.shelf x.je.k x.gc.isSome s = (some zs, u)) : pourStripe n s = rowPoured n x ctx zs u := by
  unfold pourStripe
  simp only [hx, pourGuard_of_sealed hc hs hu, hctx, hzs]
  rfl

/-- A stripe that finds no free parity context waits. -/
theorem pourStripe_of_no_context (hctx : lowest 64 (fun c => (kfind s.par c).isNone) = none) : pourStripe n s = s := by
  unfold pourStripe
  simp only [hx, pourGuard_of_sealed hc hs hu, hctx]
  rfl

end

/-- Only the admin owner moves splits after a pour (R240). -/
theorem pourOrSplit_of_not_master {n : Nat} {s t : State} (ht : arSettle (pourStripe n s) = t) (hm : isMaster t = false) :
    pourOrSplit n s = t := by
  have ho : opPour n s = t := ht
  unfold pourOrSplit
  simp only [ho, hm]
  cases steepOf n t with
  | none => rfl
  | some y => exact if_neg (by simp)

/-! ### The commit of a stripe and the release of a write (R249, R250) -/

theorem opCommit_of_landed {n : Nat} {x : Steep} {s : State} (hx : steepOf n s = some x) (hl : x.je.state = .landed) :
    opCommit n s = mergeRecent (commitReady (dropSteep n (dropAll [x.handle] (freePour x (noteDirect x (commitEntry x.je s)))))) := by
  unfold opCommit
  simp only [hx, hl, ne_eq, not_true_eq_false, if_false]

section
variable {w : Nat} {d : Dirty} {s : State} (hd : dirtyOf w s = some d)
include hd

theorem opDirtyRelease_of_durable (hown : d.own = true) (hdur : commitDurable d s = true) (hcov : coversOlder d s = false) :
    opDirtyRelease w s = grantAll (addRec' (some d.group) (.release [w])
      (dropAll d.handle.toList (onArr (fun a => { a with dirty := a.dirty.filter (·.wseq != w) }) s))) := by
  unfold opDirtyRelease
  simp only [hd, hown, hdur, hcov, Bool.not_true, Bool.or_self, Bool.false_eq_true, if_false]

/-- A write whose commit is not durable, and a change that covers an earlier write, keep their dirty copy. -/
theorem opDirtyRelease_keeps (h : commitDurable d s = false ∨ coversOlder d s = true) : opDirtyRelease w s = s := by
  have hkeep : (!d.own || !commitDurable d s || coversOlder d s) = true := by
    rcases h with h | h <;> simp [h]
  unfold opDirtyRelease
  simp only [hd, hkeep, if_true]

end

/-! ### Collection and reclaim (R254, R256) -/

theorem opGc_moves {shelf : Fin 8} {dst z : Nat} {s : State} (ha : shelfAwake shelf.val s = true) (hw : writeTight s = false)
    (hp : placeShelf s = some dst) (hg : gcPick shelf.val s = some z) :
    opGc shelf s = arSettle (moveFrames z none (framesOf z (fun _ => true) s) s) := by
  unfold opGc
  simp only [ha, hw, hp, hg, Bool.not_true, Bool.false_eq_true, false_and, or_self, if_false]

/-- While the write shelf is short of free zones, collection leaves the other shelves. -/
theorem opGc_of_tight_elsewhere {shelf : Fin 8} {s : State} (hw : writeTight s = true) (hne : s.arr.writeShelf ≠ some shelf.val) :
    opGc shelf s = s :=
  if_pos (.inr ⟨hw, hne⟩)

/-- What the reclaim of zone set `z`, number `zs`, leaves. -/
def zoneSetFreed (zs : Nat) (z : ZoneSet) (s : State) : State :=
  let reset := forEach z.members
    (fun m s => if memberGone m.1 s then s else resetZone m.1 m.2 (egress (.drive m.1 3 (m.2 + 4 * 2 ^ 32) false []) s)) s
  let swept := forEach (deadIn zs s) removeDead reset
  let freed := takeZones z.members false (transact none ((stripesOf zs swept).map (fun t => .stripeDel t.stripe) ++ [.zsDel zs]) swept)
  onArr (fun a => { a with evacuating := a.evacuating.filter (· != zs), rebuildList := a.rebuildList.filter (· != zs) }) freed

theorem opZoneSetReclaim_eq_zoneSetFreed {zs : Nat} {z : ZoneSet} {s : State} (hz : kfind s.arr.zoneSets zs = some z) (hown : z.own = true)
    (hopen : z.isOpen = false) (hlive : liveBytes zs s = 0) (hread : z.readers = 0) (hredo : redoDone s = true)
    (hawake : shelfAwake z.shelf s = true) (hpour : pouringOn zs s = false) : opZoneSetReclaim zs s = zoneSetFreed zs z s := by
  unfold opZoneSetReclaim
  simp only [hz, hown, hopen, hlive, hread, hredo, hawake, hpour]
  rfl

/-- Settles O45: each command is its operation, followed by the work of the Array Runtime that settles after it; the hypotheses of a clause
say which branch of the operation is taken. -/
theorem stripesAndCollection : Obligations.StripesAndCollection := by
  unfold Obligations.StripesAndCollection
  intro group cls shelf n zs w ctx pick dst x z d u s
  refine ⟨rfl, ?_, ?_, ?_, ?_, ?_, ?_, ?_, ?_⟩
  · rintro ⟨hx, hc, hs, hu⟩ hctx hzs hm
    exact congrArg _ (pourOrSplit_of_not_master (congrArg arSettle (pourStripe_eq_rowPoured hx hc hs hu hctx hzs)) hm)
  · rintro ⟨hx, hc, hs, hu⟩ hctx hm
    exact congrArg _ (pourOrSplit_of_not_master (congrArg arSettle (pourStripe_of_no_context hx hc hs hu hctx)) hm)
  · intro hx hl
    exact congrArg (fun t => Host.Outcome.next (settleRep (arSettle t))) (opCommit_of_landed hx hl)
  · intro hd hown hdur hcov
    exact congrArg (fun t => Host.Outcome.next (settleVault (settleRep (retryR2t t)))) (opDirtyRelease_of_durable hd hown hdur hcov)
  · intro hd h
    exact congrArg (fun t => Host.Outcome.next (settleVault (settleRep (retryR2t t)))) (opDirtyRelease_keeps hd h)
  · intro ha hw hp hg
    exact congrArg (fun t => Host.Outcome.next (settleLost t)) (opGc_moves ha hw hp hg)
  · intro _ hw hne
    exact congrArg (fun t => Host.Outcome.next (settleLost t)) (opGc_of_tight_elsewhere hw hne)
  · rintro ⟨hz, hown, hopen, hlive, hread, hredo, hawake, hpour⟩
    exact congrArg _ (opZoneSetReclaim_eq_zoneSetFreed hz hown hopen hlive hread hredo hawake hpour)

end Sys2Proof.Machine
end

section
/-! PROOFS. The stored layouts (R39, R169, R177, R178, R251, R258, R303). -/

namespace Sys2Proof.Machine

open Sys2Proof

/-! ### Fields of a row of bytes -/

/-- The number that `n` bytes from byte `o` spell. -/
def wordAt (l : List Byte) (o n : Nat) : Nat := ofLe ((l.drop o).take n)

/-- The bytes before a field can be left out. -/
theorem wordAt_append_right {a b : List Byte} {o n : Nat} (h : a.length ≤ o) : wordAt (a ++ b) o n = wordAt b (o - a.length) n := by
  rw [wordAt, List.drop_append, List.drop_eq_nil_of_le h, List.nil_append, wordAt]

/-- So can those after it. -/
theorem wordAt_append_left {a b : List Byte} {o n : Nat} (h : o + n ≤ a.length) : wordAt (a ++ b) o n = wordAt a o n := by
  rw [wordAt, List.drop_append_of_le_length (by omega), List.take_append_of_le_length (by rw [List.length_drop]; omega), wordAt]

theorem wordAt_leBytes (n x : Nat) : wordAt (leBytes n x) 0 n = x % 256 ^ n := by
  rw [wordAt, List.drop_zero, List.take_of_length_le (leBytes_length n x).le, ofLe_leBytes]

theorem wordAt_leBytes_append (n x : Nat) (b : List Byte) : wordAt (leBytes n x ++ b) 0 n = x % 256 ^ n := by
  rw [wordAt_append_left (by simp), wordAt_leBytes]

theorem ofLe_replicate_zero (n : Nat) : ofLe (List.replicate n 0) = 0 := by
  induction n with
  | zero => rfl
  | succ n ih =>
    simp only [List.replicate_succ, ofLe, ih]
    rfl

@[simp] theorem digestBytes_length (d : Digest) : (digestBytes d).length = 32 := by simp [digestBytes]

@[simp] theorem padTo_length (n : Nat) (l : List Byte) : (padTo n l).length = n := by
  simp only [padTo, List.length_append, List.length_take, List.length_replicate]
  omega

theorem padTo_of_length_le {n : Nat} {l : List Byte} (h : l.length ≤ n) : padTo n l = l ++ List.replicate (n - l.length) 0 := by
  rw [padTo, List.take_of_length_le h]

section
variable {α : Type} [Inhabited α] {f : α → List Byte} {w : Nat} (hw : ∀ a, (f a).length = w)
include hw

omit [Inhabited α] in
theorem length_flatMap_const (l : List α) : (l.flatMap f).length = w * l.length := by
  simp [List.length_flatMap, hw, Nat.mul_comm]

omit [Inhabited α] in
/-- Records of one width: those before record `i` take `w * i` bytes. -/
theorem drop_flatMap_const (l : List α) (i : Nat) : (l.flatMap f).drop (w * i) = (l.drop i).flatMap f := by
  induction l generalizing i with
  | nil => simp
  | cons a l ih =>
    cases i with
    | zero => simp
    | succ i =>
      rw [List.flatMap_cons, List.drop_append, List.drop_eq_nil_of_le (by rw [hw, Nat.mul_succ]; omega), hw, List.nil_append,
        show w * (i + 1) - w = w * i by rw [Nat.mul_succ]; omega, ih, List.drop_succ_cons]

/-- Record `i` stands at byte `w * i`. -/
theorem take_drop_flatMap_const {l : List α} {i : Nat} (hi : i < l.length) (r : List Byte) :
    ((l.flatMap f ++ r).drop (w * i)).take w = f (l.getD i default) := by
  have hle : w * i + w ≤ (l.flatMap f).length := by
    rw [length_flatMap_const hw, ← Nat.mul_succ]
    exact Nat.mul_le_mul_left w hi
  rw [List.drop_append_of_le_length (by omega), List.take_append_of_le_length (by rw [List.length_drop]; omega),
    drop_flatMap_const hw, List.drop_eq_getElem_cons hi, List.flatMap_cons, List.take_append_of_le_length (hw _).ge,
    List.take_of_length_le (hw _).le, List.getD_eq_getElem _ _ hi]

end

/-! ### The layouts -/

/-- An index entry (Table 6.5). -/
theorem entryBytes_layout (e : IndexEntry) :
    let l := entryBytes e
    l.length = 64 ∧ l.take 32 = digestBytes e.fp ∧ wordAt l 32 8 = locWord e.kind % 2 ^ 64 ∧
    wordAt l 40 4 = (if e.state = .pending then 0 else e.frameLen % 2 ^ 32) ∧ wordAt l 44 4 = e.chunkLen % 2 ^ 32 ∧
    wordAt l 48 4 = e.refs % 2 ^ 32 ∧ wordAt l 52 2 = 0 ∧ wordAt l 54 2 = e.kd % 4096 ∧ wordAt l 56 1 = kindCode e.kind % 256 ∧
    wordAt l 57 1 = stateByte e % 256 := by
  simp only [entryBytes, List.append_assoc]
  refine ⟨by simp, by simp, ?_, ?_, ?_, ?_, ?_, ?_, ?_, ?_⟩
  all_goals simp [wordAt_append_right, wordAt_leBytes_append]
  · split <;> rfl
  · omega

/-! ### Strainer buckets (Table 6.4) -/

section
variable {f : Nat → Nat} (hf : ∀ i, f i < 2 ^ 10)
include hf

/-- Ten-bit slots added up one above the other keep to their bits. -/
theorem slotSum_lt (k : Nat) : (List.range k).foldl (fun n i => n + f i * 2 ^ (10 * i)) 0 < 2 ^ (10 * k) := by
  induction k with
  | zero => simp
  | succ k ih =>
    rw [List.range_succ, List.foldl_append, List.foldl_cons, List.foldl_nil, Nat.mul_succ, Nat.pow_add, Nat.mul_comm (2 ^ (10 * k))]
    have := Nat.mul_le_mul_right (2 ^ (10 * k)) (Nat.le_sub_one_of_lt (hf k))
    omega

/-- Slot `i` is read back, whatever stands above the slots. -/
theorem slotSum_slot {k i : Nat} (hi : i < k) (y : Nat) :
    ((List.range k).foldl (fun n i => n + f i * 2 ^ (10 * i)) 0 + y * 2 ^ (10 * k)) / 2 ^ (10 * i) % 2 ^ 10 = f i := by
  induction k generalizing y with
  | zero => omega
  | succ k ih =>
    have hsplit : (List.range (k + 1)).foldl (fun n i => n + f i * 2 ^ (10 * i)) 0 + y * 2 ^ (10 * (k + 1)) =
        (List.range k).foldl (fun n i => n + f i * 2 ^ (10 * i)) 0 + (f k + y * 2 ^ 10) * 2 ^ (10 * k) := by
      rw [List.range_succ, List.foldl_append, List.foldl_cons, List.foldl_nil, Nat.mul_succ, Nat.pow_add]
      ring
    rw [hsplit]
    rcases Nat.lt_succ_iff_lt_or_eq.mp hi with h | rfl
    · exact ih h _
    · rw [Nat.add_mul_div_right _ _ (by positivity), Nat.div_eq_of_lt (slotSum_lt hf i), Nat.zero_add, Nat.add_mul_mod_self_right,
        Nat.mod_eq_of_lt (hf i)]

end

/-- What slot `i` of a bucket holds: its tag, and above COUNT a free value. -/
def bucketSlot (x : Bucket) (s : State) (i : Nat) : Nat :=
  if i < x.tags.length then x.tags.getD i 0 % 1024 else (Config.undefByte (s.freeCtr * 48 + i)).toNat * 4 % 1024

theorem bucketSlot_lt (x : Bucket) (s : State) (i : Nat) : bucketSlot x s i < 2 ^ 10 := by
  unfold bucketSlot
  split <;> omega

/-- What stands above the 48 slots of a bucket: COUNT at bit 4, OVERFLOW at bit 16 and VERSION at bit 24. -/
def bucketTop (x : Bucket) : Nat :=
  x.tags.length % 64 * 2 ^ 4 + (if x.overflow then 2 ^ 16 else 0) + x.version % 256 * 2 ^ 24

theorem ofLe_bucketBytes (x : Bucket) (s : State) :
    ofLe (bucketBytes x s) = (List.range 48).foldl (fun n i => n + bucketSlot x s i * 2 ^ (10 * i)) 0 + bucketTop x * 2 ^ (10 * 48) := by
  have hlt := slotSum_lt (bucketSlot_lt x s) 48
  have htop : bucketTop x < 2 ^ 32 := by
    unfold bucketTop
    split <;> omega
  have hnum : bucketBytes x s = leBytes 64 ((List.range 48).foldl (fun n i => n + bucketSlot x s i * 2 ^ (10 * i)) 0 +
      bucketTop x * 2 ^ (10 * 48)) := by
    have h4 : (2 : Nat) ^ 484 = 2 ^ 4 * 2 ^ (10 * 48) := by rw [← Nat.pow_add]
    have h16 : (2 : Nat) ^ 496 = 2 ^ 16 * 2 ^ (10 * 48) := by rw [← Nat.pow_add]
    have h24 : (2 : Nat) ^ 504 = 2 ^ 24 * 2 ^ (10 * 48) := by rw [← Nat.pow_add]
    unfold bucketBytes bucketTop bucketSlot
    rw [h4, h16, h24, Nat.add_mul, Nat.add_mul, ite_mul, Nat.zero_mul]
    simp only [Nat.mul_assoc, Nat.add_assoc]
  rw [hnum, ofLe_leBytes, Nat.mod_eq_of_lt]
  omega

theorem bucketBytes_layout (x : Bucket) (s : State) (hx : x.tags.length ≤ 48) :
    let n := ofLe (bucketBytes x s)
    (bucketBytes x s).length = 64 ∧ (∀ i < x.tags.length, n / 2 ^ (10 * i) % 1024 = x.tags.getD i 0 % 1024) ∧ n / 2 ^ 480 % 16 = 0 ∧
    n / 2 ^ 484 % 64 = x.tags.length ∧ n / 2 ^ 490 % 64 = 0 ∧ n / 2 ^ 496 % 2 = (if x.overflow then 1 else 0) ∧ n / 2 ^ 497 % 128 = 0 ∧
    n / 2 ^ 504 = x.version % 256 := by
  have hlt := slotSum_lt (bucketSlot_lt x s) 48
  have hn := ofLe_bucketBytes x s
  refine ⟨leBytes_length 64 _, fun i hi => ?_, ?_⟩
  · rw [hn]
    refine (slotSum_slot (bucketSlot_lt x s) (by omega) _).trans ?_
    rw [bucketSlot, if_pos hi]
  · unfold bucketTop at hn
    generalize (List.range 48).foldl (fun n i => n + bucketSlot x s i * 2 ^ (10 * i)) 0 = slots at hn hlt
    cases ho : x.overflow
    all_goals
      simp only [ho, if_true, Bool.false_eq_true, if_false] at hn ⊢
      omega

/-! ### Map records and retained records (R258, R303) -/

/-- A row with its CRC32C after the first `n` bytes, over all the others. -/
def withCrc (b e : List Byte) : List Byte := b ++ leBytes 4 (crc32c (b ++ e)) ++ e

section
variable {b e : List Byte} {n : Nat} (hb : b.length = n)
include hb

theorem withCrc_length : (withCrc b e).length = n + 4 + e.length := by simp [withCrc, hb, Nat.add_assoc]

theorem withCrc_take : (withCrc b e).take n = b := by simp [withCrc, ← hb]

theorem withCrc_drop : (withCrc b e).drop (n + 4) = e := by simp [withCrc, ← hb, List.drop_append]

theorem withCrc_crc : wordAt (withCrc b e) n 4 = crc32c ((withCrc b e).take n ++ (withCrc b e).drop (n + 4)) % 2 ^ 32 := by
  rw [withCrc_take hb, withCrc_drop hb, withCrc, List.append_assoc, wordAt_append_right hb.le, hb, Nat.sub_self, wordAt_leBytes_append]
  rfl

theorem wordAt_withCrc_before {o k : Nat} (h : o + k ≤ n) : wordAt (withCrc b e) o k = wordAt b o k := by
  rw [withCrc, List.append_assoc, wordAt_append_left (hb ▸ h)]

theorem wordAt_withCrc_after {o k : Nat} (h : n + 4 ≤ o) : wordAt (withCrc b e) o k = wordAt e (o - (n + 4)) k := by
  have hl : (b ++ leBytes 4 (crc32c (b ++ e))).length = n + 4 := by simp [hb]
  rw [withCrc, wordAt_append_right (by rw [hl]; exact h), hl]

end

/-- The bytes of a map record before its CRC32C; `name` is its fingerprint, or the place of its frame. -/
def mapBody (r : MapRec) (name : List Byte) : List Byte :=
  leBytes 8 r.addr ++ leBytes 4 r.len ++ leBytes 4 r.coff ++ name ++ leBytes 2 r.kd ++ leBytes 2 0 ++ leBytes 8 r.wseq

theorem mapBody_length {r : MapRec} {name : List Byte} (h : name.length = 32) : (mapBody r name).length = 60 := by simp [mapBody, h]

theorem mapBytes_eq (r : MapRec) :
    ∃ name, name.length = 32 ∧ (∀ f, r.fp = some f → name = digestBytes f) ∧ mapBytes r = withCrc (mapBody r name) [] := by
  cases h : r.fp with
  | none => exact ⟨padTo 32 (leBytes 8 (locWord (.chunk r.frame))), padTo_length _ _, nofun, by simp [mapBytes, withCrc, mapBody, h]⟩
  | some f => exact ⟨digestBytes f, digestBytes_length f, fun _ hf => by cases hf; rfl, by simp [mapBytes, withCrc, mapBody, h]⟩

theorem mapBytes_layout (r : MapRec) :
    let l := mapBytes r
    l.length = 64 ∧ wordAt l 0 8 = r.addr % 2 ^ 64 ∧ wordAt l 8 4 = r.len % 2 ^ 32 ∧ wordAt l 12 4 = r.coff % 2 ^ 32 ∧
    (∀ f, r.fp = some f → (l.drop 16).take 32 = digestBytes f) ∧ wordAt l 48 2 = r.kd % 2 ^ 16 ∧ wordAt l 50 2 = 0 ∧
    wordAt l 52 8 = r.wseq % 2 ^ 64 ∧ wordAt l 60 4 = crc32c (l.take 60) % 2 ^ 32 := by
  obtain ⟨name, hlen, hname, he⟩ := mapBytes_eq r
  have hb := mapBody_length (r := r) hlen
  have hcrc := withCrc_crc (e := []) hb
  rw [withCrc_drop hb, List.append_nil] at hcrc
  rw [he]
  refine ⟨withCrc_length hb, ?_, ?_, ?_, fun f hf => ?_, ?_, ?_, ?_, hcrc⟩
  case refine_4 =>
    simp only [withCrc, mapBody, List.append_assoc]
    rw [← List.append_assoc, ← List.append_assoc, List.drop_left' (by simp), List.take_left' hlen, hname f hf]
  all_goals
    rw [wordAt_withCrc_before hb (by norm_num)]
    simp [mapBody, wordAt_append_right, wordAt_leBytes_append, wordAt_leBytes, hlen]

theorem retBytes_layout (r : RetRec) :
    let l := retBytes r
    l.length = 80 ∧ l.take 60 = (mapBytes r.rec_).take 60 ∧ wordAt l 64 8 = r.wseqEnd % 2 ^ 64 ∧ l.drop 72 = List.replicate 8 0 ∧
    wordAt l 60 4 = crc32c (l.take 60 ++ l.drop 64) % 2 ^ 32 := by
  have hb : ((mapBytes r.rec_).take 60).length = 60 := by
    rw [List.length_take, (mapBytes_layout r.rec_).1]
    rfl
  have he : retBytes r = withCrc ((mapBytes r.rec_).take 60) (leBytes 8 r.wseqEnd ++ List.replicate 8 0) := rfl
  rw [he]
  refine ⟨?_, withCrc_take hb, ?_, ?_, withCrc_crc hb⟩
  · simp [withCrc_length hb]
  · rw [wordAt_withCrc_after hb (by norm_num), wordAt_leBytes_append]
    rfl
  · rw [show 72 = 60 + 4 + 8 from rfl, ← List.drop_drop, withCrc_drop hb]
    simp

/-! ### Journal entries (Table 8.4) -/

/-- The bytes of a journal entry before its CRC32C. -/
def journalBody (j : JEntry) : List Byte :=
  leBytes 8 (j.stripe % 2 ^ 40) ++ leBytes 1 (jstateCode j.state) ++ leBytes 1 (j.shelf % 8) ++ leBytes 1 j.k ++ leBytes 1 j.group ++
    leBytes 1 j.cls ++ leBytes 3 0 ++ leBytes 4 j.row ++ leBytes 4 j.dataBytes ++ leBytes 4 j.frames ++ leBytes 4 j.zoneSet ++ leBytes 8 j.epoch ++
    leBytes 8 j.jseq ++ leBytes 4 0

/-- A member of a stripe in four bytes: its drive and its zone. -/
def memberBytes (m : Nat × Nat) : List Byte := leBytes 4 (m.1 % 52 * 2 ^ 26 + m.2 % 2 ^ 26)

theorem journalBytes_eq (j : JEntry) (hj : j.members.length ≤ 34) :
    journalBytes j = withCrc (journalBody j)
      (j.members.flatMap memberBytes ++ List.replicate (4 * (34 - j.members.length)) 0 ++ List.replicate 64 0) := by
  have hlen := length_flatMap_const (f := memberBytes) (fun m => leBytes_length 4 _) j.members
  have hpad : padTo 136 (j.members.flatMap memberBytes) = j.members.flatMap memberBytes ++ List.replicate (4 * (34 - j.members.length)) 0 := by
    rw [padTo_of_length_le (by omega), hlen, show 136 - 4 * j.members.length = 4 * (34 - j.members.length) by omega]
  rw [← hpad]
  rfl

theorem jstateCode_lt (t : JState) : jstateCode t < 256 := by cases t <;> decide

theorem journalBytes_layout (j : JEntry) (hj : j.members.length ≤ 34) :
    let l := journalBytes j
    l.length = 256 ∧ wordAt l 0 8 = j.stripe % 2 ^ 40 ∧ wordAt l 8 1 = jstateCode j.state ∧ wordAt l 9 1 = j.shelf % 8 ∧
    wordAt l 10 1 = j.k % 256 ∧ wordAt l 11 1 = j.group % 256 ∧ wordAt l 12 1 = j.cls % 256 ∧ wordAt l 13 3 = 0 ∧
    wordAt l 16 4 = j.row % 2 ^ 32 ∧ wordAt l 20 4 = j.dataBytes % 2 ^ 32 ∧ wordAt l 24 4 = j.frames % 2 ^ 32 ∧
    wordAt l 28 4 = j.zoneSet % 2 ^ 32 ∧ wordAt l 32 8 = j.epoch % 2 ^ 64 ∧ wordAt l 40 8 = j.jseq % 2 ^ 64 ∧ wordAt l 48 4 = 0 ∧
    wordAt l 52 4 = crc32c (l.take 52 ++ l.drop 56) % 2 ^ 32 ∧
    (∀ i < j.members.length, wordAt l (56 + 4 * i) 4 = (j.members.getD i default).1 % 52 * 2 ^ 26 + (j.members.getD i default).2 % 2 ^ 26) ∧
    (∀ i, j.members.length ≤ i → i < 34 → wordAt l (56 + 4 * i) 4 = 0) ∧ l.drop 192 = List.replicate 64 0 := by
  have hb : (journalBody j).length = 52 := by simp [journalBody]
  have hlen := length_flatMap_const (f := memberBytes) (fun m => leBytes_length 4 _) j.members
  rw [journalBytes_eq j hj]
  refine ⟨?_, ?_, ?_, ?_, ?_, ?_, ?_, ?_, ?_, ?_, ?_, ?_, ?_, ?_, ?_, withCrc_crc hb, fun i hi => ?_, fun i hi h34 => ?_, ?_⟩
  case refine_1 => simp only [withCrc_length hb, List.length_append, hlen, List.length_replicate]; omega
  case refine_16 =>
    rw [wordAt_withCrc_after hb (by omega), List.append_assoc, show 56 + 4 * i - (52 + 4) = 4 * i by omega, wordAt,
      take_drop_flatMap_const (f := memberBytes) (fun m => leBytes_length 4 _) hi, memberBytes, ofLe_leBytes]
    omega
  case refine_17 =>
    rw [wordAt_withCrc_after hb (by omega), List.append_assoc, List.replicate_append_replicate, wordAt_append_right (by omega), wordAt,
      List.drop_replicate, List.take_replicate, ofLe_replicate_zero]
  case refine_18 =>
    rw [show 192 = 52 + 4 + 136 from rfl, ← List.drop_drop, withCrc_drop hb, List.drop_left']
    simp only [List.length_append, hlen, List.length_replicate]
    omega
  all_goals
    rw [wordAt_withCrc_before hb (by norm_num)]
    simp [journalBody, wordAt_append_right, wordAt_leBytes_append, wordAt_leBytes]
  · omega
  · exact jstateCode_lt j.state
  · omega

/-! ### Pages (R177) -/

/-- The header of a page before its CRC32C. -/
def pageHead (format slice count page next seq : Nat) : List Byte :=
  leBytes 2 format ++ leBytes 1 slice ++ leBytes 1 count ++ leBytes 4 0 ++ leBytes 8 page ++ leBytes 8 next ++ leBytes 8 seq ++ List.replicate 28 0

section
variable (format slice count page next seq : Nat) (body : List Byte)

theorem pageHead_length : (pageHead format slice count page next seq).length = 60 := by simp [pageHead]

theorem pageWith_eq : pageWith format slice count page next seq body = withCrc (pageHead format slice count page next seq) (padTo 4032 body) := rfl

theorem pageWith_layout :
    let l := pageWith format slice count page next seq body
    l.length = 4096 ∧ wordAt l 0 2 = format % 2 ^ 16 ∧ wordAt l 2 1 = slice % 256 ∧ wordAt l 3 1 = count % 256 ∧ wordAt l 4 4 = 0 ∧
    wordAt l 8 8 = page % 2 ^ 64 ∧ wordAt l 16 8 = next % 2 ^ 64 ∧ wordAt l 24 8 = seq % 2 ^ 64 ∧
    (l.drop 32).take 28 = List.replicate 28 0 ∧ wordAt l 60 4 = crc32c (l.take 60 ++ l.drop 64) % 2 ^ 32 := by
  have hb := pageHead_length format slice count page next seq
  rw [pageWith_eq]
  refine ⟨?_, ?_, ?_, ?_, ?_, ?_, ?_, ?_, ?_, withCrc_crc hb⟩
  case refine_1 => rw [withCrc_length hb, padTo_length]
  case refine_9 =>
    rw [withCrc, List.append_assoc, pageHead, List.append_assoc, List.drop_left' (by simp), List.take_left' (by simp)]
  all_goals
    rw [wordAt_withCrc_before hb (by norm_num)]
    simp [pageHead, wordAt_append_right, wordAt_leBytes_append]

/-- Records of one width stand from byte 64. -/
theorem pageWith_record {α : Type} [Inhabited α] {f : α → List Byte} {w : Nat} (hw : ∀ a, (f a).length = w) {l : List α}
    (hl : w * l.length ≤ 4032) {i : Nat} (hi : i < l.length) :
    ((pageWith format slice count page next seq (l.flatMap f)).drop (64 + w * i)).take w = f (l.getD i default) := by
  have hb := pageHead_length format slice count page next seq
  rw [pageWith_eq, ← List.drop_drop, withCrc_drop hb, padTo_of_length_le (by rw [length_flatMap_const hw]; exact hl),
    take_drop_flatMap_const hw hi]

end

theorem pageBytes_layout (g : IndexPage) (s : State) :
    let l := pageBytes g s
    let es := g.uids.filterMap (fun u => s.arr.index.find? (·.uid == u))
    l.length = 4096 ∧ wordAt l 0 2 = 1 ∧ wordAt l 2 1 = g.slice % 256 ∧ wordAt l 3 1 = g.uids.length % 256 ∧ wordAt l 4 4 = 0 ∧
    wordAt l 8 8 = g.page % 2 ^ 64 ∧ wordAt l 16 8 = g.next % 2 ^ 64 ∧ wordAt l 24 8 = g.seq % 2 ^ 64 ∧
    (l.drop 32).take 28 = List.replicate 28 0 ∧ wordAt l 60 4 = crc32c (l.take 60 ++ l.drop 64) % 2 ^ 32 ∧
    (es.length ≤ 63 → ∀ i < es.length, (l.drop (64 + 64 * i)).take 64 = entryBytes (es.getD i default)) := by
  obtain ⟨hlen, hformat, hslice, hcount, hzero, hpage, hnext, hseq, hrest, hcrc⟩ := pageWith_layout 1 g.slice g.uids.length g.page g.next g.seq
    ((g.uids.filterMap (fun u => s.arr.index.find? (·.uid == u))).flatMap entryBytes)
  exact ⟨hlen, hformat, hslice, hcount, hzero, hpage, hnext, hseq, hrest, hcrc,
    fun hes i hi => pageWith_record _ _ _ _ _ _ (fun e => (entryBytes_layout e).1) (by omega) hi⟩

theorem mapPageBytes_layout (g : MapPage) :
    let l := mapPageBytes g
    l.length = 4096 ∧ wordAt l 0 2 = (if g.kept then 2 else 1) ∧ wordAt l 3 1 = g.recs.length % 256 ∧ wordAt l 8 8 = g.page % 2 ^ 64 ∧
    wordAt l 24 8 = g.seq % 2 ^ 64 ∧ wordAt l 60 4 = crc32c (l.take 60 ++ l.drop 64) % 2 ^ 32 := by
  obtain ⟨hlen, hformat, -, hcount, -, hpage, -, hseq, -, hcrc⟩ := pageWith_layout (if g.kept then 2 else 1) 0 g.recs.length g.page 0 g.seq
    (g.recs.flatMap (fun r => if g.kept then retBytes r else mapBytes r.rec_))
  exact ⟨hlen, hformat.trans (Nat.mod_eq_of_lt (by split <;> decide)), hcount, hpage, hseq, hcrc⟩

/-- The header of a host-binding message (Table 2.3). -/
theorem hbBytes_layout (h : HbHead) :
    let l := hbBytes h
    l.length = 32 ∧ wordAt l 0 1 = 1 ∧ wordAt l 1 1 = h.typ % 256 ∧ wordAt l 2 2 = h.id.qid % 2 ^ 16 ∧ wordAt l 4 2 = h.id.cntlid % 2 ^ 16 ∧
    wordAt l 6 2 = (if h.srcHead then 4 else 0) + (if h.reissue then 8 else 0) ∧ wordAt l 8 4 = h.id.cmdseq % 2 ^ 32 ∧
    wordAt l 12 4 = h.csn % 2 ^ 32 ∧ wordAt l 16 4 = 0 ∧ wordAt l 20 4 = h.dlen % 2 ^ 32 ∧ wordAt l 24 8 = h.session % 2 ^ 64 := by
  simp only [hbBytes, List.append_assoc]
  refine ⟨by simp, ?_, ?_, ?_, ?_, ?_, ?_, ?_, ?_, ?_, ?_⟩
  all_goals simp [wordAt_append_right, wordAt_leBytes_append, wordAt_leBytes]
  cases h.srcHead <;> cases h.reissue <;> decide

/-- Settles O60, layout by layout. -/
theorem storedLayouts : Obligations.StoredLayouts :=
  ⟨entryBytes_layout, bucketBytes_layout, mapBytes_layout, retBytes_layout, journalBytes_layout, pageBytes_layout,
    mapPageBytes_layout, hbBytes_layout⟩

end Sys2Proof.Machine
end

section
/-! PROOFS. Host messages are taken in or refused, and their landing tokens complete (R39, R40, R46, R51, R66, R76, R77, R79, R86, R323). -/

namespace Sys2Proof.Machine

open Sys2Proof

/-- A command's outcome depends only on the state it leaves. -/
theorem next_congr {x y : State} (h : x = y) : Host.Outcome.next x = (Host.Outcome.next y : Host.Outcome State Fault Refusal) := congrArg _ h

/-! ### The routes of a command (R46, R51, R77, R323) -/

/-- A command as it is routed: LOCAL is what its opcode makes it (R46). -/
def routed (m : HbMsg) : HbMsg := { m with loc := isLocalCmd m }

/-- A message that R39 and R40 take in: a CMD with a good header on a live queue, intake and its binding on. -/
structure ComesIn (m : HbMsg) (s : State) : Prop where
  header : badHeader m = false
  isCmd : m.typ = 1
  intake : rbit F.HQ_CTL_INTAKE_EN s = true
  binding : (if m.tcp then rbit F.HQ_CTL_TCP_EN s else rbit F.HQ_CTL_REARN_EN s) = true
  live : queueLive (idKey m.id) s = true

section
variable {m : HbMsg} {s : State}

theorem opCmd_discards (hb : badHeader m = true) : opCmd m s = record Ev.HB_MSG_DISCARDED srcNET 0 [] s := if_pos hb

theorem opCmd_of_intake_off (hb : badHeader m = false) (hin : rbit F.HQ_CTL_INTAKE_EN s = false) : opCmd m s = s := by
  simp [opCmd, hb, hin]

theorem opCmd_routes (h : ComesIn m s) : opCmd m s = routeCmd m (noteSession m s) := by
  obtain ⟨hb, htyp, hin, hen, hlive⟩ := h
  simp [opCmd, hb, htyp, hin, hen, hlive]

/-- A command that breaks a LOCAL rule (R46). -/
theorem routeCmd_of_local_rules_broken (h : localWrong (routed m) (openCmd m.id s) = true) :
    routeCmd m s = refuseCmd (routed m) stLocalRequired (openCmd m.id s) := if_pos h

section
variable (hl : localWrong (routed m) (openCmd m.id s) = false)
include hl

/-- An NVMe/TCP I/O command of a group that is moving (R51). -/
theorem routeCmd_of_moving
    (h : (m.tcp && m.id.qid != 0 && movingGroup (groupOfCmd (routed m) s) (openCmd m.id s)) = true) :
    routeCmd m s = refuseCmd (routed m) stAnaTransition (openCmd m.id s) :=
  (if_neg (by rw [Bool.not_eq_true]; exact hl)).trans (if_pos h)

variable (hstill : (m.tcp && m.id.qid != 0 && movingGroup (groupOfCmd (routed m) s) (openCmd m.id s)) = false)
include hstill

theorem routeCmd_of_served
    (h : ((routed m).loc || owns (groupOfCmd (routed m) s) (openCmd m.id s) || tcpAdmin (routed m)) = true) :
    routeCmd m s = takeOwn (routed m) (groupOfCmd (routed m) s) (openCmd m.id s) :=
  ((if_neg (by rw [Bool.not_eq_true]; exact hl)).trans (if_neg (by rw [Bool.not_eq_true]; exact hstill))).trans (if_pos h)

/-- A command of the partner's groups: refused on NVMe/TCP (R51), else taken into the shadow ring (R77). -/
theorem routeCmd_of_not_served
    (h : ((routed m).loc || owns (groupOfCmd (routed m) s) (openCmd m.id s) || tcpAdmin (routed m)) = false) :
    routeCmd m s = if m.tcp then refuseCmd (routed m) stAnaInaccessible (openCmd m.id s) else takeShadow (routed m) (openCmd m.id s) :=
  ((if_neg (by rw [Bool.not_eq_true]; exact hl)).trans (if_neg (by rw [Bool.not_eq_true]; exact hstill))).trans
    (if_neg (by rw [Bool.not_eq_true]; exact h))

end

end

/-! ### The owner's tasks (R66, R76) -/

section
variable {m : HbMsg} {g : Nat} {s : State} (hacc : accepted m = true)
  (hcommit : ¬ (m.id.qid = 0 ∧ m.sqe.opc = 0x10 ∧ 3 < m.sqe.cdw10 / 8 % 8))
include hacc hcommit

theorem takeOwn_of_over_grant (hover : (overGrant m s || s.mir.overSeen.contains m.id) = true) :
    takeOwn m g s = enqueueTask (hostTask m g true false none s)
      { s with mir := { s.mir with overSeen := s.mir.overSeen.filter (· != m.id) } } := by
  unfold takeOwn
  simp only [if_neg hcommit, hacc, hover, Bool.not_true, Bool.false_eq_true, if_false, if_true]

variable (hover : (overGrant m s || s.mir.overSeen.contains m.id) = false)
include hover

theorem takeOwn_of_no_data (hn : dataLen m = 0) : takeOwn m g s = enqueueTask (hostTask m g false false none s) s := by
  unfold takeOwn
  simp only [if_neg hcommit, hacc, hover, hn, Bool.not_true, Bool.false_eq_true, if_false, true_or, if_true]

/-- A command of the Rearn binding whose data finds a buffer of set S. -/
theorem takeOwn_of_landed {h : Nat} {t : State} (h0 : 0 < dataLen m) (hmax : dataLen m ≤ 0x200000) (htcp : m.tcp = false)
    (hland : landData 0 m s = (some h, t)) :
    let u := if isWriteSqe m.id.qid m.sqe then countLanded m.id.cntlid (dataLen m) t else t
    takeOwn m g s = enqueueTask (hostTask m g false false (some h) u) u := by
  have hn : ¬ (dataLen m = 0 ∨ 0x200000 < dataLen m) := by omega
  unfold takeOwn
  simp only [if_neg hcommit, hacc, hover, hn, htcp, hland, Bool.not_true, Bool.not_false, Bool.false_and, Bool.or_true, Bool.and_true,
    Bool.false_eq_true, if_false]

end

/-! ### Landing tokens (R79, R86) -/

/-- The slot whose command waits for its data. -/
def slotWaiting (id : CmdId) (s : State) : Option Nat := lowest 512 (fun i => slotBusy s i && waitsFor id (slotOf s i).task)

/-- How the token of data that landed or failed ends. -/
def landEnd (ok : Bool) : JobEnd := { status := if ok then 0 else jBufFault }

section
variable {cntlid qid cmdseq : Nat} {ok : Bool} {s : State}

/-- On the Rearn binding nothing more is counted as landed. -/
theorem opLandingToken_of_slot {i : Nat} {m : HbMsg}
    (hi : slotWaiting { cntlid := cntlid, qid := qid, cmdseq := cmdseq } s = some i) (hm : (slotOf s i).task.cmd = some m) (htcp : m.tcp = false) :
    opLandingToken cntlid qid cmdseq ok s =
      tokComplete i (bits ((slotOf s i).task.t.getD 12 0) 21 18) (bits ((slotOf s i).task.t.getD 12 0) 17 0) (landEnd ok)
        (setSlot i { slotOf s i with task := landTask { cntlid := cntlid, qid := qid, cmdseq := cmdseq } ok (slotOf s i).task } s) := by
  have hbytes : tcpBytes qid (slotOf s i).task = 0 := by simp [tcpBytes, hm, htcp]
  unfold slotWaiting at hi
  unfold opLandingToken
  simp only [hi, hbytes, if_true]
  rfl

variable (hi : slotWaiting { cntlid := cntlid, qid := qid, cmdseq := cmdseq } s = none)
  (hq : (s.task.q.getD 1 []).find? (waitsFor { cntlid := cntlid, qid := qid, cmdseq := cmdseq }) = none)
include hi hq

/-- The data of a command that ended before (R86). -/
theorem opLandingToken_of_ended {y : CmdId × Nat × Nat}
    (hy : s.host.lateLand.find? (·.1 == { cntlid := cntlid, qid := qid, cmdseq := cmdseq }) = some y) :
    opLandingToken cntlid qid cmdseq ok s = endLate y ok s := by
  unfold slotWaiting at hi
  unfold opLandingToken
  simp only [hi, hq, hy]

variable {r : RingCmd} (hy : s.host.lateLand.find? (·.1 == { cntlid := cntlid, qid := qid, cmdseq := cmdseq }) = none)
  (hr : ringOf { cntlid := cntlid, qid := qid, cmdseq := cmdseq } s = some r) (hl : r.m.landed = false)
include hy hr hl

/-- The data of a command in the shadow ring is in, or has failed. -/
theorem opLandingToken_of_ring :
    opLandingToken cntlid qid cmdseq ok s =
      if ok then shadowLanded { cntlid := cntlid, qid := qid, cmdseq := cmdseq }
        (putRing { r with m := landMsg { cntlid := cntlid, qid := qid, cmdseq := cmdseq } ok r.m, dataHeld := true } s)
      else dropAll r.handle.toList
        (putRing { r with m := landMsg { cntlid := cntlid, qid := qid, cmdseq := cmdseq } ok r.m, dataHeld := false, handle := none } s) := by
  unfold slotWaiting at hi
  unfold opLandingToken
  simp only [hi, hq, hy, hr, hl, Bool.false_eq_true, if_false]

end

/-- Settles O34: a message that comes in takes the first route whose condition holds, and a landing token is that of the first place where its
command stands. -/
theorem hostIntakeAndLanding : Obligations.HostIntakeAndLanding := by
  unfold Obligations.HostIntakeAndLanding
  refine ⟨?_, ?_⟩
  · intro m0 h s s1 m g o n comes serves still over_ plain
    have runs {t : State} (ht : opCmd m0 s = t) : exec (.cmd m0) s = .next (arSettle t) := next_congr (congrArg arSettle ht)
    have routes {t : State} (hc : comes) (ht : routeCmd m0 (noteSession m0 s) = t) : exec (.cmd m0) s = .next (arSettle t) := by
      obtain ⟨hb, htyp, hin, hen, hlive⟩ := hc
      exact runs ((opCmd_routes ⟨hb, htyp, hin, hen, hlive⟩).trans ht)
    refine ⟨?_, ?_, ?_, ?_, ?_, ?_, ?_, ?_, ?_⟩
    · exact fun hb => runs (opCmd_discards hb)
    · exact fun hb hin => runs (opCmd_of_intake_off hb hin)
    · exact fun hc hl => routes hc (routeCmd_of_local_rules_broken hl)
    · exact fun hc hl hmv => routes hc (routeCmd_of_moving hl (Bool.not_eq_false _ ▸ hmv))
    · rintro hc hl hs ⟨hstill, hacc, hcommit⟩ hover
      exact routes hc ((routeCmd_of_served hl hstill hs).trans (takeOwn_of_over_grant hacc hcommit hover))
    · rintro hc hl hs ⟨hstill, hacc, hcommit⟩ hover hn
      exact routes hc ((routeCmd_of_served hl hstill hs).trans (takeOwn_of_no_data hacc hcommit hover hn))
    · rintro hc hl hs ⟨hstill, hacc, hcommit⟩ hover h0 hmax htcp hland
      exact routes hc ((routeCmd_of_served hl hstill hs).trans (takeOwn_of_landed hacc hcommit hover h0 hmax htcp hland))
    · exact fun hc hl hstill hs htcp => routes hc ((routeCmd_of_not_served hl hstill hs).trans (if_pos htcp))
    · intro hc hl hs htcp
      have hrearn : m0.tcp = false := htcp
      have hstill : (m0.tcp && m0.id.qid != 0 && movingGroup g o) = false := by rw [hrearn]; rfl
      exact routes hc ((routeCmd_of_not_served hl hstill hs).trans (if_neg (ne_true_of_eq_false hrearn)))
  · intro cntlid qid cmdseq i ok m r y s id x inSlot tok ends
    have runs {t : State} (ht : opLandingToken cntlid qid cmdseq ok s = t) :
        exec (.landingToken cntlid qid cmdseq ok) s = .next (arSettle (retryR2t t)) := next_congr (congrArg (fun t => arSettle (retryR2t t)) ht)
    refine ⟨fun hi hm htcp => runs (opLandingToken_of_slot hi hm htcp), fun hi hq hy => runs (opLandingToken_of_ended hi hq hy), ?_⟩
    intro hi hq hy hr hl
    have hring := opLandingToken_of_ring (ok := ok) hi hq hy hr hl
    exact ⟨fun hok => runs (hring.trans (if_pos hok)), fun hok => runs (hring.trans (if_neg (ne_true_of_eq_false hok)))⟩

end Sys2Proof.Machine
end

section
/-! PROOFS. Controllers and connections begin and end (R41, R44, R53, R68). -/

namespace Sys2Proof.Machine

open Sys2Proof

/-! ### Controllers and queues end (R68) -/

section
variable {n : Nat} {s : State} (hc : (ctrlOf s n).live = true)
include hc

theorem opControllerReset_of_live :
    opControllerReset n s = resetCtrl n (setCtrl n { ctrlOf s n with cc := (ctrlOf s n).cc / 2 * 2 } s) := if_pos hc

theorem opShutdown_of_live : opShutdown n s = putCtrl n { ctrlOf s n with shst := 2 } s := if_pos hc

/-- A controller that still has its admin queue ends with the reset of its queues. -/
theorem opDisassociate_resets (hq : (ctrlQueues n (putCtrl n { ctrlOf s n with ending := true } s)).contains 0 = true) :
    opDisassociate n s = resetCtrl n (putCtrl n { ctrlOf s n with ending := true } s) :=
  (if_neg (ne_true_of_eq_false (congrArg not hc))).trans (if_pos hq)

/-- A controller without one ends at once. -/
theorem opDisassociate_ends (hq : (ctrlQueues n (putCtrl n { ctrlOf s n with ending := true } s)).contains 0 = false) :
    opDisassociate n s = putCtrl n { ctrlOf s n with live := false, ending := false } (putCtrl n { ctrlOf s n with ending := true } s) :=
  (if_neg (ne_true_of_eq_false (congrArg not hc))).trans (if_neg (ne_true_of_eq_false hq))

end

theorem opQueueConnectionClosed_resets {cntlid qid : Nat} {s : State} (hsq : (hqOf s (512 * cntlid + qid)).sq = true)
    (htcp : (hqOf s (512 * cntlid + qid)).tcp = true) (hq : qid ≠ 0) :
    opQueueConnectionClosed cntlid qid s = resetQueue cntlid qid none s := by
  unfold opQueueConnectionClosed
  simp only [hsq, htcp, hq, Bool.not_true, Bool.or_self, Bool.false_eq_true, if_false]

/-! ### Connect (R41, R53) -/

/-- Intake is on, and so is the binding that a Connect comes by: NVMe/TCP on a connection, else Rearn. -/
def TakesConnect (conn : Nat) (s : State) : Prop :=
  rbit F.HQ_CTL_INTAKE_EN s = true ∧ (if conn != 0 then rbit F.HQ_CTL_TCP_EN s else rbit F.HQ_CTL_REARN_EN s) = true

/-- The state with controller `n` and its admin queue made. -/
def controllerMade (n node depth conn : Nat) (s : State) : State :=
  let made := addRec' none (.queue n 0 depth true true true 0 conn) (setHq (512 * n) (freshQueue (hqOf s (512 * n)) depth (conn != 0) conn) s)
  putCtrl n { live := true, tcp := conn != 0, session := conn, node := if conn != 0 then 0 else node, attached := made.host.ns.map (·.1),
              rdy := !(conn != 0), cc := if conn != 0 then 0 else 1 } made

section
variable {cntlid qid sqsize conn n : Nat} {s : State} (hon : TakesConnect conn s)
include hon

theorem connectGuard_of_on :
    (!rbit F.HQ_CTL_INTAKE_EN s || !(if (conn != 0) = true then rbit F.HQ_CTL_TCP_EN s else rbit F.HQ_CTL_REARN_EN s)) = false := by
  obtain ⟨hin, hen⟩ := hon
  rw [hin, hen]
  rfl

/-- An endpoint whose negotiated message size is too small is refused (R41). -/
theorem opConnect_of_small_messages (hconn : conn = 0) (hown : owns 0 s = true) (hmax : (nodeOf cntlid s).maxMsg < 2101248) :
    opConnect cntlid 0 sqsize conn s = connectReply cntlid 0 false stConnectInvalid s := by
  have hmay : mayAssociate cntlid s = false := decide_eq_false (Nat.not_le_of_lt hmax)
  subst hconn
  unfold opConnect
  simp only [connectGuard_of_on hon, hown, hmay]
  rfl

theorem opConnect_makes_controller (hassoc : conn = 0 → owns 0 s = true ∧ 2101248 ≤ (nodeOf cntlid s).maxMsg)
    (hn : lowest 1024 (fun n => !(ctrlOf s n).live) = some n) (hd : sqsize + 1 ≤ 32) :
    let made := connectReply n 0 (conn != 0) { dw0 := n } (controllerMade n cntlid (sqsize + 1) conn s)
    opConnect cntlid 0 sqsize conn s = if (conn != 0) = true then made else sendCredit n 0 (raiseGrant n made) := by
  have hmine : (!(conn != 0) && !owns 0 s) = false := by
    by_cases h : conn = 0
    · simp [hassoc h]
    · simp [h]
  have hfits : (!(conn != 0) && !mayAssociate cntlid s) = false := by
    by_cases h : conn = 0
    · have hmay : mayAssociate cntlid s = true := decide_eq_true (hassoc h).2
      simp [hmay]
    · simp [h]
  unfold opConnect
  simp only [connectGuard_of_on hon, hmine, hfits, hn, if_neg (Nat.not_lt.mpr hd), if_true, Bool.false_eq_true, if_false]
  rfl

section
variable (hq : 0 < qid)
include hq

/-- An I/O queue's Connect makes the queue, unless one of its conditions fails. -/
theorem opConnect_io :
    opConnect cntlid qid sqsize conn s =
      if !(conn != 0) || !(ctrlOf s cntlid).live || !(ctrlOf s cntlid).tcp || decide (256 < qid) || (hqOf s (512 * cntlid + qid)).sq ||
          decide (1024 < sqsize + 1) || decide (sqsize + 1 < 2) || decide (maxQp s ≤ queuePairs s) then
        connectReply cntlid qid (conn != 0) stConnectInvalid s
      else connectReply cntlid qid (conn != 0) { dw0 := cntlid }
        (addRec' none (.queue cntlid qid (sqsize + 1) true true true 0 conn)
          (setHq (512 * cntlid + qid) (freshQueue (hqOf s (512 * cntlid + qid)) (sqsize + 1) (conn != 0) conn) s)) :=
  (if_neg (ne_true_of_eq_false (connectGuard_of_on hon))).trans (if_neg hq.ne')

theorem opConnect_makes_queue (hconn : conn ≠ 0) (hqid : qid ≤ 256) (hlive : (ctrlOf s cntlid).live = true) (htcp : (ctrlOf s cntlid).tcp = true)
    (hsq : (hqOf s (512 * cntlid + qid)).sq = false) (hmin : 2 ≤ sqsize + 1) (hmax : sqsize + 1 ≤ 1024) (hroom : queuePairs s < maxQp s) :
    opConnect cntlid qid sqsize conn s = connectReply cntlid qid true { dw0 := cntlid }
      (addRec' none (.queue cntlid qid (sqsize + 1) true true true 0 conn)
        (setHq (512 * cntlid + qid) (freshQueue (hqOf s (512 * cntlid + qid)) (sqsize + 1) true conn) s)) := by
  have htcpConn : (conn != 0) = true := bne_iff_ne.mpr hconn
  rw [opConnect_io hon hq, htcpConn, if_neg (by simp [hlive, htcp, hsq]; omega)]

/-- A queue deeper than 1,024, numbered above 256, or past MAX_QP fails. -/
theorem opConnect_of_limit (hconn : conn ≠ 0) (hlim : 1024 < sqsize + 1 ∨ 256 < qid ∨ maxQp s ≤ queuePairs s) :
    opConnect cntlid qid sqsize conn s = connectReply cntlid qid true stConnectInvalid s := by
  have htcpConn : (conn != 0) = true := bne_iff_ne.mpr hconn
  rw [opConnect_io hon hq, htcpConn, if_pos]
  simp only [Bool.or_eq_true, decide_eq_true_eq]
  tauto

end

end

/-- Settles O35: each command is its operation, and the hypotheses of a clause say which of its cases holds. -/
theorem controllersAndConnections : Obligations.ControllersAndConnections := by
  unfold Obligations.ControllersAndConnections
  intro cntlid qid sqsize conn n s c q depth on
  refine ⟨?_, ?_, ?_, ?_, ?_, ?_⟩
  · exact fun hc => ⟨next_congr (opControllerReset_of_live hc), next_congr (opShutdown_of_live hc),
      fun hq => next_congr (opDisassociate_resets hc hq), fun hq => next_congr (opDisassociate_ends hc hq)⟩
  · exact fun hsq htcp hq => next_congr (opQueueConnectionClosed_resets hsq htcp hq)
  · rintro hon hconn rfl hown hmax
    exact next_congr (opConnect_of_small_messages hon hconn hown hmax)
  · rintro hon hassoc rfl hn hd
    exact next_congr (opConnect_makes_controller hon hassoc hn hd)
  · exact fun hon hconn hq hqid hlive htcp hsq hmin hmax hroom =>
      next_congr (opConnect_makes_queue hon hq hconn hqid hlive htcp hsq hmin hmax hroom)
  · exact fun hon hconn hq hlim => next_congr (opConnect_of_limit hon hq hconn hlim)

end Sys2Proof.Machine
end

section
/-! PROOFS. Writes, reads and Stage of a host in a slot (R21, R57 to R60, R66, R67, R79, R88). -/

namespace Sys2Proof.Machine

open Sys2Proof

section
variable {i opc : Nat} {admin : Bool} {t : Task} {m : HbMsg} {s : State} (h : HostRuns i admin opc t m s)
include h

theorem HostRuns.cmd_eq : (slotOf s i).task.cmd = some m := (slotCmd_task h.1).1

theorem HostRuns.task_eq : t = (slotOf s i).task := by
  obtain ⟨-, -, -, -, ht⟩ := h
  exact ht

end

/-! ### Commands that do not run (R66, R79) -/

section
variable {i opc : Nat} {admin : Bool} {m : HbMsg} {s : State} (hm : slotCmd i admin opc s = some m) (hd : m.dlen = 64 ∨ m.landed = true)
include hd

/-- A command whose data is in, or that has none, does not wait. -/
theorem landed_of_no_wait : ¬ (m.dlen ≠ 64 ∧ m.landed = false) := by
  rintro ⟨hlen, hland⟩
  rcases hd with h | h
  · exact hlen h
  · rw [hland] at h
    cases h

include hm

/-- One beyond its grant is refused before its cancellation point. -/
theorem hostCmd_of_over_grant (f : Task → HbMsg → State → State) (hp : (slotOf s i).passed = false)
    (hover : taskOver (slotOf s i).task = true) : hostCmd i admin opc f s = failSlot i stCreditExceeded s := by
  unfold hostCmd
  simp only [hm, if_neg (landed_of_no_wait hd), hp, hover, Bool.not_false, Bool.true_or, Bool.and_self, if_true]

theorem hostCmd_of_transfer_error (f : Task → HbMsg → State → State) (hover : taskOver (slotOf s i).task = false)
    (href : (slotOf s i).task.refused = false) (hx : m.xferOk = false) : hostCmd i admin opc f s = failSlot i stXferErr s := by
  unfold hostCmd
  simp only [hm, if_neg (landed_of_no_wait hd), hover, href, hx, Bool.or_self, Bool.and_false, Bool.false_eq_true, if_false, if_true]

end

/-! ### Writes (R57, R58, R88) -/

/-- The TAKE record of a write, with its WSEQ. -/
def takeWrite (i : Nat) (m : HbMsg) (s : State) : Nat × State :=
  addRec i (slotOf s i).task.group (.take false true m.id (slotOf s i).task.wseq m.sqe) s

/-- A write on the Rearn binding at which nothing holds its cancellation point up, with the partner there. -/
structure PlainWrite (i : Nat) (m : HbMsg) (s : State) : Prop where
  notCancelled : cancelled i s = false
  notProtected : writeProtected m s = false
  noReceipt : awaitsReceipt m s = false
  noOverlap : overlapWaits i s = false
  rearn : m.tcp = false
  mirrored : solo (passSlot i (takeWrite i m s).2) = false

section
variable {i : Nat} {m : HbMsg} {s : State} (h : PlainWrite i m s) (hcmd : (slotOf s i).task.cmd = some m)
include h hcmd

/-- A change without data of its own: what the slot still holds is dropped, and the change is dirty. -/
theorem runNoData_takes (data : List Byte) :
    let u := passSlot i (takeWrite i m s).2
    let v := dropAll (taskHandle (slotOf u i).task).toList u
    runNoData i m data s = completeSlot i stOk (addDirty (dirtyFrom m.id (takeWrite i m s).1 m.sqe none data true v) v) := by
  obtain ⟨hc, hwp, har, hov, htcp, hsolo⟩ := h
  unfold takeWrite at hsolo ⊢
  unfold runNoData
  simp only [hwp, har, hov, atPoint_passes hcmd hc, htcp, hsolo, Bool.or_self, Bool.false_and, Bool.false_eq_true, if_false]

theorem runNoData_takes_of_no_buffer (data : List Byte) :
    let u := passSlot i (takeWrite i m s).2
    taskHandle (slotOf u i).task = none →
    runNoData i m data s = completeSlot i stOk (addDirty (dirtyFrom m.id (takeWrite i m s).1 m.sqe none data true u) u) := by
  intro u hnone
  rw [runNoData_takes h hcmd data, hnone]
  rfl

/-- A Write whose data lies in set D. -/
theorem runWrite_takes {d : Nat} (hmax : 4096 * sqeNlb m.sqe ≤ 0x200000) (hlen : dataLen m = 4096 * sqeNlb m.sqe)
    (hrange : rangeStatus m (sqeSlba m.sqe) (sqeNlb m.sqe) s = none)
    (hspace : (slotOf s i).task.replay = true ∨ noSpace (4096 * sqeNlb m.sqe) s = false)
    (hd : taskHandle (slotOf s i).task = some d) (hset : hSet d = 1) :
    let u := passSlot i (takeWrite i m s).2
    runWrite i (slotOf s i).task m s = completeSlot i stOk (addDirty (dirtyFrom m.id (takeWrite i m s).1 m.sqe (some d) [] true u) u) := by
  obtain ⟨hc, hwp, har, hov, htcp, hsolo⟩ := h
  have hfits : ¬ (0x200000 < 4096 * sqeNlb m.sqe ∨ dataLen m ≠ 4096 * sqeNlb m.sqe) := by omega
  have hroom : (!(slotOf s i).task.replay && noSpace (4096 * sqeNlb m.sqe) s) = false := by
    rcases hspace with h | h <;> simp [h]
  have hcopy : copyToD (slotOf s i).task s = (some d, s) := by
    unfold copyToD
    simp only [hd, hset, if_true]
  unfold takeWrite at hsolo ⊢
  unfold runWrite
  simp only [if_neg hfits, hrange, hwp, hroom, har, hov, hc, hcopy, atPoint_passes hcmd hc, htcp, hsolo, hd, Bool.or_self,
    Bool.false_eq_true, if_false, if_true]

end

theorem opWrite_of_runs {slot : SlotNo} {t : Task} {m : HbMsg} {s : State} (hr : HostRuns slot.val false 0x01 t m s) :
    opWrite slot s = runWrite slot.val t m s := hostCmd_runs hr _

theorem opWriteZeroes_of_runs {slot : SlotNo} {t : Task} {m : HbMsg} {s : State} (hr : HostRuns slot.val false 0x08 t m s)
    (hn : sqeNlb m.sqe ≤ 512) (hrange : rangeStatus m (sqeSlba m.sqe) (sqeNlb m.sqe) s = none) :
    opWriteZeroes slot s = runNoData slot.val m [] s := by
  rw [opWriteZeroes, hostCmd_runs hr]
  simp only [if_neg (Nat.not_lt.mpr hn), hrange]

theorem opDatasetManagement_of_runs {slot : SlotNo} {t : Task} {m : HbMsg} {s : State} (hr : HostRuns slot.val false 0x09 t m s)
    (hrange : (dsmRanges m.sqe (taskData t s)).findSome? (fun p => rangeStatus m (p.1 / 4096) (p.2 / 4096) s) = none)
    (hlen : 16 * (m.sqe.cdw10 % 256 + 1) ≤ (taskData t s).length) (had : m.sqe.cdw11.testBit 2 = true) :
    opDatasetManagement slot s = runNoData slot.val m (taskData t s) s := by
  rw [opDatasetManagement, hostCmd_runs hr]
  simp only [hrange, if_neg (Nat.not_lt.mpr hlen), had, if_true]

/-- A Flush of every namespace waits in its slot for the earlier writes of its queue (R67). -/
theorem opFlush_waits {slot : SlotNo} {t : Task} {m : HbMsg} {s : State} (hr : HostRuns slot.val false 0x00 t m s)
    (hp : (slotOf s slot.val).passed = false) (hc : cancelled slot.val s = false) (hns : m.sqe.nsid = 0xFFFFFFFF) :
    let u := passSlot slot.val (addRec slot.val t.group (.take false false m.id t.wseq m.sqe) s).2
    let f := waitSlot slot.val u
    opFlush slot s = settleQueues { f with host := { f.host with flushes := f.host.flushes ++ [(t, earlierWrites (idKey m.id) m.id.cmdseq u)] } } := by
  rw [opFlush, hostCmd_runs hr, hr.task_eq]
  simp only [hp, hns, atPoint_passes hr.cmd_eq hc, ne_eq, not_true_eq_false, false_and, Bool.false_eq_true, if_false]

/-! ### Reads (R21, R59) -/

theorem opRead_of_runs {slot : SlotNo} {t : Task} {m : HbMsg} {s : State} (hr : HostRuns slot.val false 0x02 t m s) :
    opRead slot s = runRead slot.val m s := hostCmd_runs hr _

/-- The LBAs of a Read. -/
def readLbas (m : HbMsg) : List Nat := (List.range (sqeNlb m.sqe)).map (sqeSlba m.sqe + ·)

/-- What each of them holds. -/
def readSrcs (m : HbMsg) (s : State) : List LbaSrc := (readLbas m).map (fun b => lbaSrc m.sqe.nsid (4096 * b) s)

/-- The shelves that a Read needs and that sleep. -/
def readSleepers (m : HbMsg) (s : State) : List Nat :=
  ((readLbas m).zip (readSrcs m s)).filterMap (fun p => sleeping m.sqe.nsid p.1 p.2 s)

/-- The state past the cancellation point of a Read. -/
def readTaken (i : Nat) (m : HbMsg) (s : State) : State :=
  passSlot i (addRec i (slotOf s i).task.group (.take true false m.id (slotOf s i).task.wseq m.sqe) s).2

section
variable {i : Nat} {m : HbMsg} {s : State} (hn : sqeNlb m.sqe ≤ 512) (hrange : rangeStatus m (sqeSlba m.sqe) (sqeNlb m.sqe) s = none)
  (hp : (slotOf s i).passed = false)
include hn hrange hp

/-- A Read that needs a sleeping shelf fails before its cancellation point. -/
theorem runRead_of_asleep (hs : readSleepers m s ≠ []) :
    runRead i m s = failSlot i (notReadyCqe m ((readSleepers m s).foldl (fun c n => max c (crdOf n s)) 0) s) (tickFree s) := by
  unfold readSleepers readSrcs readLbas at hs ⊢
  unfold runRead
  simp only [if_neg (Nat.not_lt.mpr hn), hrange, hp, and_true, if_pos hs]

/-- A Read all of whose sources are at hand goes on past its cancellation point. -/
theorem runRead_of_awake (hcmd : (slotOf s i).task.cmd = some m) (hc : cancelled i s = false) (hs : readSleepers m s = [])
    (hmiss : missing (recsOf (readSrcs m s)) (readTaken i m s) = []) : runRead i m s = finishRead i m (readSrcs m s) (readTaken i m s) := by
  unfold readTaken readSrcs readLbas at hmiss ⊢
  unfold readSleepers readSrcs readLbas at hs
  unfold runRead
  simp only [if_neg (Nat.not_lt.mpr hn), hrange, hp, hs, ne_eq, not_true_eq_false, false_and, Bool.false_eq_true, if_false,
    atPoint_passes hcmd hc, hmiss]

end

section
variable {i : Nat} {m : HbMsg} {srcs : List LbaSrc} {s : State}

/-- The bytes of each source, from the chunks that a read finds. -/
def readBytes (srcs : List LbaSrc) (s : State) : List (Option (List Byte)) :=
  srcs.map (fun x => lbaBytes (recChunks (recsOf srcs) s).1 x (recChunks (recsOf srcs) s).2)

theorem finishRead_sends (h : (readBytes srcs s).any (·.isNone) = false) :
    finishRead i m srcs s = completeSlot i stOk
      (sendData m ((readBytes srcs s).map (·.getD [])).flatten (memberSettle (clearFetched i (recChunks (recsOf srcs) s).2))) :=
  if_neg (ne_true_of_eq_false h)

theorem finishRead_of_lost (h : (readBytes srcs s).any (·.isNone) = true) :
    finishRead i m srcs s = completeSlot i stUnrecovered (memberSettle (clearFetched i (recChunks (recsOf srcs) s).2)) :=
  if_pos h

end

/-! ### Stage (R60) -/

/-- A Stage all of whose ranges are readable once its shelves are asked for completes at once. -/
theorem opStage_of_readable {slot : SlotNo} {t : Task} {m : HbMsg} {u s : State} (hr : AdminRuns slot.val 0xC1 t m u s)
    (h10 : m.sqe.cdw10 < 256) (h11 : m.sqe.cdw11 ≤ 1) (h12 : m.sqe.cdw12 = 0) (h13 : m.sqe.cdw13 = 0) (h14 : m.sqe.cdw14 = 0)
    (h15 : m.sqe.cdw15 = 0) (hclean : rangesClean (m.sqe.cdw10 % 256) (taskData t u) = true) (hns : (ioNs m u).isSome = true) :
    let ranges := stageRanges m.sqe.nsid (m.sqe.cdw10 % 256) (taskData t u)
    let shs := (ranges.flatMap (fun r => rangeShelves r u)).eraseDups
    let w := forEach shs stageShelf u
    ranges.findSome? (fun r => rangeStatus m r.2.1 r.2.2 u) = none → ranges.all (fun r => readable r w) = true →
    opStage slot s = doneSlot slot.val { dw0 := shs.length % 256 * 65536 } (prefetchAll 0x1000000 ranges w).2 := by
  intro ranges shs w hrange hread
  have hfields : ¬ (m.sqe.cdw10 / 256 ≠ 0 ∨ 1 < m.sqe.cdw11 ∨ m.sqe.cdw12 ≠ 0 ∨ m.sqe.cdw13 ≠ 0 ∨ m.sqe.cdw14 ≠ 0 ∨ m.sqe.cdw15 ≠ 0 ∨
      rangesClean (m.sqe.cdw10 % 256) (taskData t u) = false) := by
    rw [hclean]
    simp only [Bool.true_eq_false, or_false]
    omega
  have hnow : ranges.filter (fun r => readable r w) = ranges := List.filter_eq_self.mpr (List.all_eq_true.mp hread)
  have hleft : ranges.filter (fun r => !readable r w) = [] := by
    rw [List.filter_eq_nil_iff]
    intro r hr
    simp [List.all_eq_true.mp hread r hr]
  have hns' : (ioNs m u).isNone = false := by
    rw [← Option.not_isSome, hns]
    rfl
  have hgood : (ranges.findSome? (fun r => rangeStatus m r.2.1 r.2.2 u)).isSome = false := by
    rw [hrange]
    rfl
  rw [opStage, adminCmd_runs hr]
  simp only [if_neg hfields, hns', Bool.false_eq_true, if_false]
  rw [if_neg (ne_true_of_eq_false hgood), hnow, hleft]
  rfl

/-- Settles O36: each command runs its operation in its slot, and the hypotheses of a clause take it past its checks. -/
theorem hostWritesReadsAndStage : Obligations.HostWritesReadsAndStage := by
  unfold Obligations.HostWritesReadsAndStage
  refine ⟨?_, ?_⟩
  · intro slot t m d s i n taken plain
    have passes {opc : Nat} (hr : HostRuns i false opc t m s) (hp : plain) : PlainWrite i m s := by
      obtain rfl := hr.task_eq
      obtain ⟨hc, hwp, har, hov, htcp, hsolo⟩ := hp
      exact ⟨hc, hwp, har, hov, htcp, hsolo⟩
    refine ⟨?_, ?_, ?_, ?_, ?_⟩
    · intro hr hp _ hmax hlen hrange hspace hd hset
      have hw := passes hr hp
      obtain rfl := hr.task_eq
      exact next_congr (congrArg arSettle ((opWrite_of_runs hr).trans
        (runWrite_takes hw hr.cmd_eq hmax hlen hrange hspace hd hset)))
    · intro hr hp hn hrange hnone
      have hw := passes hr hp
      obtain rfl := hr.task_eq
      exact next_congr (congrArg arSettle ((opWriteZeroes_of_runs hr hn hrange).trans
        (runNoData_takes_of_no_buffer hw hr.cmd_eq [] hnone)))
    · intro hr hp hrange hlen had
      have hw := passes hr hp
      obtain rfl := hr.task_eq
      exact next_congr (congrArg arSettle ((opDatasetManagement_of_runs hr hrange hlen had).trans
        (runNoData_takes hw hr.cmd_eq _)))
    · exact fun hr hp hc hns => next_congr (opFlush_waits hr hp hc hns)
    · exact fun hm hd => ⟨fun hp hover => next_congr (congrArg arSettle (hostCmd_of_over_grant hm hd _ hp hover)),
        fun hover href hx => next_congr (congrArg arSettle (hostCmd_of_transfer_error hm hd _ hover href hx))⟩
  · intro slot t m u s i lbas srcs asleep v reads ranges shs w
    refine ⟨?_, ?_, ?_⟩
    · rintro ⟨hr, hn, hrange, hp⟩ hs hc hmiss
      obtain rfl := hr.task_eq
      have hrun := (opRead_of_runs hr).trans (runRead_of_awake hn hrange hp hr.cmd_eq hc hs hmiss)
      exact ⟨fun h => next_congr (congrArg settleLost (hrun.trans (finishRead_sends h))),
        fun h => next_congr (congrArg settleLost (hrun.trans (finishRead_of_lost h)))⟩
    · rintro ⟨hr, hn, hrange, hp⟩ hs
      exact next_congr (congrArg settleLost ((opRead_of_runs hr).trans (runRead_of_asleep hn hrange hp hs)))
    · exact fun hr h10 h11 h12 h13 h14 h15 hclean hns hrange hread =>
        next_congr (opStage_of_readable hr h10 h11 h12 h13 h14 h15 hclean hns hrange hread)

end Sys2Proof.Machine
end

section
/-! PROOFS. Admin, namespace, queue and property commands past their cancellation point (R53 to R56, R68, R322). -/

namespace Sys2Proof.Machine

open Sys2Proof

/-! ### Get Log Page and Identify (R55, R56) -/

section
variable {slot : SlotNo} {t : Task} {m : HbMsg} {u s : State}

/-- The data of an admin command sent, and the command completed. -/
def sendDone (i : Nat) (m : HbMsg) (l : List Byte) (s : State) : State := doneSlot i stOk (tickFree (sendData m l s))

/-- The bytes that a Get Log Page asks for. -/
def logLength (m : HbMsg) : Nat := 4 * (m.sqe.cdw11 % 65536 * 65536 + m.sqe.cdw10 / 65536 + 1)

/-- The part of a log page that it asks for, from its offset. -/
def logPart (m : HbMsg) (l : List Byte) : List Byte := padTo (logLength m) (l.drop (m.sqe.cdw13 * 2 ^ 32 + m.sqe.cdw12))

/-- The Changed Namespace List emptied. -/
def clearChangedNs (s : State) : State := { s with host := { s.host with changedNs := [] } }

section
variable (h : AdminRuns slot.val 0x02 t m u s)
include h

theorem opGetLogPage_of_unknown (hl : logPage m u = none) : opGetLogPage slot s = doneSlot slot.val stInvalidLog u := by
  rw [opGetLogPage, adminCmd_runs h]
  simp only [hl]

variable {l : List Byte} (hl : logPage m u = some l)
include hl

/-- A page is sent as far as MDTS allows; the Changed Namespace List is cleared once it is read without RAE. -/
theorem opGetLogPage_of_known :
    let v := tickFree (sendData m (logPart m l) u)
    opGetLogPage slot s = if 0x200000 < logLength m then doneSlot slot.val stInvalidField u
      else doneSlot slot.val stOk (if m.sqe.cdw10 % 256 = 4 ∧ m.sqe.cdw10.testBit 15 = false then clearChangedNs v else v) := by
  rw [opGetLogPage, adminCmd_runs h]
  simp only [hl]
  rfl

theorem opGetLogPage_too_long (hn : 0x200000 < logLength m) : opGetLogPage slot s = doneSlot slot.val stInvalidField u :=
  (opGetLogPage_of_known h hl).trans (if_pos hn)

theorem opGetLogPage_sends (hn : logLength m ≤ 0x200000) (hkeep : ¬ (m.sqe.cdw10 % 256 = 4 ∧ m.sqe.cdw10.testBit 15 = false)) :
    opGetLogPage slot s = sendDone slot.val m (logPart m l) u := by
  rw [opGetLogPage_of_known h hl, if_neg (Nat.not_lt.mpr hn), if_neg hkeep, sendDone]

theorem opGetLogPage_clears (hn : logLength m ≤ 0x200000) (hread : m.sqe.cdw10 % 256 = 4 ∧ m.sqe.cdw10.testBit 15 = false) :
    opGetLogPage slot s = doneSlot slot.val stOk (clearChangedNs (tickFree (sendData m (logPart m l) u))) := by
  rw [opGetLogPage_of_known h hl, if_neg (Nat.not_lt.mpr hn), if_pos hread]

end

section
variable (h : AdminRuns slot.val 0x06 t m u s)
include h

theorem opIdentify_namespace (hcns : m.sqe.cdw10 % 256 = 0) :
    (∀ ns, ioNs m u = some ns → opIdentify slot s = sendDone slot.val m (identNs ns u) u) ∧
    (ioNs m u = none → opIdentify slot s = doneSlot slot.val stInvalidNs u) := by
  rw [opIdentify, adminCmd_runs h]
  exact ⟨fun ns hns => by simp only [hcns, hns]; rfl, fun hns => by simp only [hcns, hns]⟩

theorem opIdentify_controller (hcns : m.sqe.cdw10 % 256 = 1) : opIdentify slot s = sendDone slot.val m (identCtrl m u) u := by
  rw [opIdentify, adminCmd_runs h]
  simp only [hcns]
  rfl

theorem opIdentify_attached (hcns : m.sqe.cdw10 % 256 = 2) :
    opIdentify slot s = sendDone slot.val m
      (idList 4 4096 m.sqe.nsid ((u.host.ns.map (·.1)).filter ((ctrlOf u m.id.cntlid).attached.contains ·))) u := by
  rw [opIdentify, adminCmd_runs h]
  simp only [hcns]
  rfl

end

/-! ### Features and events (R53, R54) -/

/-- A controller's new state recorded, and the command completed with `dw0`. -/
def setDone (i : Nat) (m : HbMsg) (c : Ctrl) (dw0 : Nat) (s : State) : State := doneSlot i { dw0 := dw0 } (putCtrl m.id.cntlid c s)

/-- Set Features by feature (Table 2.6). -/
theorem opSetFeatures_of_runs (h : AdminRuns slot.val 0x09 t m u s) :
    let c := ctrlOf u m.id.cntlid
    let v := m.sqe.cdw11
    (m.sqe.cdw10 % 256 = 0x07 → opSetFeatures slot s = setDone slot.val m { c with nqs := queuesGranted v } (queuesGranted v) u) ∧
    (m.sqe.cdw10 % 256 = 0x0B → opSetFeatures slot s = setDone slot.val m { c with aerCfg := v } 0 u) ∧
    (m.sqe.cdw10 % 256 = 0x0F → opSetFeatures slot s = setDone slot.val m { c with kato := v } 0 u) ∧
    (m.sqe.cdw10 % 256 = 0x16 → opSetFeatures slot s = setDone slot.val m { c with acre := (taskData t u).head? == some 1 } 0 u) := by
  rw [opSetFeatures, adminCmd_runs h]
  refine ⟨fun hf => ?_, fun hf => ?_, fun hf => ?_, fun hf => ?_⟩
  all_goals
    simp only [hf]
    rfl

/-- Get Features by feature. -/
theorem opGetFeatures_of_runs (h : AdminRuns slot.val 0x0A t m u s) :
    let c := ctrlOf u m.id.cntlid
    (m.sqe.cdw10 % 256 = 0x07 → opGetFeatures slot s = doneSlot slot.val { dw0 := c.nqs } u) ∧
    (m.sqe.cdw10 % 256 = 0x0B → opGetFeatures slot s = doneSlot slot.val { dw0 := c.aerCfg } u) ∧
    (m.sqe.cdw10 % 256 = 0x0F → opGetFeatures slot s = doneSlot slot.val { dw0 := c.kato } u) ∧
    (m.sqe.cdw10 % 256 = 0x16 → opGetFeatures slot s = doneSlot slot.val { dw0 := 0 } (sendData m (padTo 512 [if c.acre then 1 else 0]) u)) := by
  rw [opGetFeatures, adminCmd_runs h]
  refine ⟨fun hf => ?_, fun hf => ?_, fun hf => ?_, fun hf => ?_⟩
  all_goals
    simp only [hf]

/-- An Asynchronous Event Request is held, and past 8 of a controller it fails. -/
theorem opAsyncEventRequest_of_runs (h : AdminRuns slot.val 0x0C t m u s) :
    let c := ctrlOf u m.id.cntlid
    opAsyncEventRequest slot s = if 8 ≤ c.aers.length then doneSlot slot.val stAerLimit u
      else freeSlot slot.val (setCtrl m.id.cntlid { c with aers := c.aers ++ [m.id] } u) := by
  rw [opAsyncEventRequest, adminCmd_runs h]

/-! ### Namespaces (R54, R322) -/

/-- Stated for every step: the kernel compares the two sides without unfolding the step. -/
theorem forEach_singleton {α : Type} (a : α) (f : α → State → State) (s : State) : forEach [a] f s = f a s := rfl

section
variable (h : AdminRuns slot.val 0x0D t m u s) (hv : versionsDiffer u = false)
include h hv

theorem opNamespaceManagement_creates (hsel : m.sqe.cdw10 % 16 = 0) :
    (∀ ns, nsFrom (taskData t u) u = some ns →
      let id := ((lowest 0x10000 (fun k => (nsOf (k + 1) u).isNone)).getD 0) + 1
      opNamespaceManagement slot s = doneSlot slot.val { dw0 := id } (putNs id (some ns) u)) ∧
    (nsFrom (taskData t u) u = none → opNamespaceManagement slot s = doneSlot slot.val stInvalidField u) := by
  rw [opNamespaceManagement, adminCmd_runs h]
  exact ⟨fun ns hns => by simp only [hv, hsel, hns, Bool.false_eq_true, if_false],
    fun hns => by simp only [hv, hsel, hns, Bool.false_eq_true, if_false]⟩

/-- One namespace is deleted, where no snapshot stands that could be in use. -/
theorem opNamespaceManagement_deletes (hsel : m.sqe.cdw10 % 16 = 1) (hall : m.sqe.nsid ≠ 0xFFFFFFFF) {ns : Namespace}
    (hns : nsOf m.sqe.nsid u = some ns) (hsnaps : u.arr.snaps = []) :
    opNamespaceManagement slot s = doneSlot slot.val stOk (dropNs m.sqe.nsid u) := by
  have hids : (if m.sqe.nsid = 0xFFFFFFFF then u.host.ns.map (·.1) else [m.sqe.nsid]) = [m.sqe.nsid] := if_neg hall
  rw [opNamespaceManagement, adminCmd_runs h]
  simp only [hv, hsel, hids, hns, hsnaps, List.any_cons, List.any_nil, Option.isNone_some, Bool.or_self, Bool.false_eq_true, if_false]
  rw [forEach_singleton]

end

/-- A controller with a namespace attached (SEL 0) or detached. -/
def withAttached (sel nsid : Nat) (c : Ctrl) : Ctrl :=
  { c with attached := if sel = 0 then c.attached.filter (· != nsid) ++ [nsid] else c.attached.filter (· != nsid) }

theorem opNamespaceAttachment_of_runs (h : AdminRuns slot.val 0x15 t m u s) {ns : Namespace} (hns : nsOf m.sqe.nsid u = some ns)
    (hv : versionsDiffer u = false) (hsel : m.sqe.cdw10 % 16 ≤ 1) (hl : ctrlList (taskData t u) ≠ [])
    (hlive : (ctrlList (taskData t u)).any (fun n => !(ctrlOf u n).live) = false) :
    opNamespaceAttachment slot s = doneSlot slot.val stOk (nsChanged m.sqe.nsid
      (forEach (ctrlList (taskData t u)) (fun n s => putCtrl n (withAttached (m.sqe.cdw10 % 16) m.sqe.nsid (ctrlOf s n)) s) u)) := by
  have hempty : (ctrlList (taskData t u)).isEmpty = false := List.isEmpty_eq_false_iff.mpr hl
  rw [opNamespaceAttachment, adminCmd_runs h]
  simp only [hns, hv, hempty, hlive, decide_eq_false (Nat.not_lt.mpr hsel), Option.isNone_some, Bool.or_self, Bool.false_eq_true, if_false]
  rfl

/-! ### Queues (R53, R68) -/

theorem opCreateIoCq_of_runs (h : AdminRuns slot.val 0x05 t m u s) :
    let n := m.id.cntlid
    let qid := m.sqe.cdw10 % 65536
    let depth := m.sqe.cdw10 / 65536 + 1
    let q := hqOf u (512 * n + qid)
    opCreateIoCq slot s = if qid = 0 ∨ 256 < qid ∨ q.cq then doneSlot slot.val stInvalidQid u
      else if 1024 < depth ∨ depth < 2 then doneSlot slot.val stInvalidQsize u
      else doneSlot slot.val stOk (putQueue n qid { q with cq := true, depth := if q.sq then q.depth else depth } u) := by
  rw [opCreateIoCq, adminCmd_runs h]

theorem opCreateIoSq_of_runs (h : AdminRuns slot.val 0x01 t m u s) :
    let n := m.id.cntlid
    let qid := m.sqe.cdw10 % 65536
    let depth := m.sqe.cdw10 / 65536 + 1
    let cqid := m.sqe.cdw11 / 65536
    let q := hqOf u (512 * n + qid)
    opCreateIoSq slot s = if qid = 0 ∨ 256 < qid ∨ q.sq ∨ maxQp u ≤ queuePairs u then doneSlot slot.val stInvalidQid u
      else if 1024 < depth ∨ depth < 2 then doneSlot slot.val stInvalidQsize u
      else if !(hqOf u (512 * n + cqid)).cq then doneSlot slot.val stInvalidCq u
      else doneSlot slot.val stOk (sendCredit n qid (putQueue n qid { freshQueue q depth false 0 with cq := q.cq, cqid := cqid } u)) := by
  rw [opCreateIoSq, adminCmd_runs h]

theorem opCreateIoCq_makes (h : AdminRuns slot.val 0x05 t m u s) :
    let n := m.id.cntlid
    let qid := m.sqe.cdw10 % 65536
    let depth := m.sqe.cdw10 / 65536 + 1
    let q := hqOf u (512 * n + qid)
    0 < qid → qid ≤ 256 → q.cq = false → 2 ≤ depth → depth ≤ 1024 →
    opCreateIoCq slot s = doneSlot slot.val stOk (putQueue n qid { q with cq := true, depth := if q.sq then q.depth else depth } u) := by
  intro n qid depth q h0 hmax hcq hmin hdepth
  have hqid : ¬ (qid = 0 ∨ 256 < qid ∨ q.cq = true) := by
    rw [hcq]
    simp only [Bool.false_eq_true, or_false]
    omega
  exact (opCreateIoCq_of_runs h).trans ((if_neg hqid).trans (if_neg (by omega)))

theorem opCreateIoSq_makes (h : AdminRuns slot.val 0x01 t m u s) :
    let n := m.id.cntlid
    let qid := m.sqe.cdw10 % 65536
    let depth := m.sqe.cdw10 / 65536 + 1
    let cqid := m.sqe.cdw11 / 65536
    let q := hqOf u (512 * n + qid)
    0 < qid → qid ≤ 256 → q.sq = false → queuePairs u < maxQp u → 2 ≤ depth → depth ≤ 1024 → (hqOf u (512 * n + cqid)).cq = true →
    opCreateIoSq slot s = doneSlot slot.val stOk (sendCredit n qid (putQueue n qid { freshQueue q depth false 0 with cq := q.cq, cqid := cqid } u)) := by
  intro n qid depth cqid q h0 hmax hsq hroom hmin hdepth hcq
  have hqid : ¬ (qid = 0 ∨ 256 < qid ∨ q.sq = true ∨ maxQp u ≤ queuePairs u) := by
    rw [hsq]
    simp only [Bool.false_eq_true, false_or]
    omega
  exact (opCreateIoSq_of_runs h).trans
    ((if_neg hqid).trans ((if_neg (by omega)).trans (if_neg (ne_true_of_eq_false (congrArg not hcq)))))

theorem opDeleteIoCq_of_runs (h : AdminRuns slot.val 0x04 t m u s) :
    let n := m.id.cntlid
    let qid := m.sqe.cdw10 % 65536
    let q := hqOf u (512 * n + qid)
    0 < qid → q.cq = true → u.host.queues.any (fun p => p.1 / 512 == n && p.1 % 512 != 0 && p.2.sq && p.2.cqid == qid) = false →
    opDeleteIoCq slot s = doneSlot slot.val stOk (putQueue n qid { q with cq := false } u) := by
  intro n qid q h0 hcq hserves
  have hthere : (decide (qid = 0) || !q.cq) = false := by simp [h0.ne', hcq]
  exact (adminCmd_runs h _).trans ((if_neg (ne_true_of_eq_false hthere)).trans (if_neg (ne_true_of_eq_false hserves)))

theorem opDeleteIoSq_of_runs (h : AdminRuns slot.val 0x00 t m u s) :
    let qid := m.sqe.cdw10 % 65536
    let q := hqOf u (512 * m.id.cntlid + qid)
    0 < qid → q.sq = true → q.closing = false → opDeleteIoSq slot s = resetQueue m.id.cntlid qid (some t) (waitSlot slot.val u) := by
  intro qid q h0 hsq hcl
  have hopen : (decide (qid = 0) || !q.sq || q.closing) = false := by simp [h0.ne', hsq, hcl]
  exact (adminCmd_runs h _).trans (if_neg (ne_true_of_eq_false hopen))

/-! ### Properties (R54, R68) -/

section
variable (h : FabricsRuns slot.val 0x04 true t m u s)
include h

theorem opPropertyGet_of_known {v : Nat} (hv : property (ctrlOf u m.id.cntlid) m.sqe.cdw11 u = some v) :
    opPropertyGet slot s = doneSlot slot.val { dw0 := v % 2 ^ 32, dw1 := v / 2 ^ 32 } (tickFree u) := by
  rw [opPropertyGet, fabricsCmd_runs h]
  simp only [hv]

end

theorem property_cc (c : Ctrl) (s : State) : property c 0x14 s = some c.cc := rfl

theorem property_csts (c : Ctrl) (s : State) : property c 0x1C s = some ((if c.rdy then 1 else 0) + 4 * c.shst) := rfl

section
variable (h : FabricsRuns slot.val 0x00 true t m u s)
include h

theorem opPropertySet_nssr (ho : m.sqe.cdw11 = 0x20) : opPropertySet slot s = doneSlot slot.val stOk u := by
  rw [opPropertySet, fabricsCmd_runs h]
  simp only [ho]

/-- CC without a shutdown is stored, and the controller is reset where EN falls. -/
theorem opPropertySet_cc (ho : m.sqe.cdw11 = 0x14) (hshn : m.sqe.cdw12 / 16384 % 4 = 0) :
    let n := m.id.cntlid
    let c := ctrlOf u n
    let w := doneSlot slot.val stOk (putCtrl n { c with cc := m.sqe.cdw12, rdy := c.rdy || m.sqe.cdw12 % 2 == 1 } u)
    opPropertySet slot s = if c.cc % 2 = 1 ∧ m.sqe.cdw12 % 2 = 0 then opControllerReset n w else w := by
  rw [opPropertySet, fabricsCmd_runs h]
  simp only [ho, hshn, ne_eq, not_true_eq_false, if_false]

end

end

/-- Settles O37: each command past its cancellation point is its operation's body, and the hypotheses of a clause choose the branch. -/
theorem adminNamespaceAndQueueCommands : Obligations.AdminNamespaceAndQueueCommands := by
  unfold Obligations.AdminNamespaceAndQueueCommands
  refine ⟨?_, ?_⟩
  · intro slot t m l ns u s i c n o sends
    refine ⟨fun h => ?_, fun h => ?_, fun h => next_congr (adminCmd_runs h _), fun h => ?_, fun h => ?_, fun h => ?_,
      fun h => next_congr (adminCmd_runs h _)⟩
    · exact ⟨fun hl => next_congr (opGetLogPage_of_unknown h hl), fun hl hn => next_congr (opGetLogPage_too_long h hl hn),
        fun hl hn hkeep => next_congr (opGetLogPage_sends h hl hn hkeep),
        fun hl hn hpage hrae => next_congr (opGetLogPage_clears h hl hn ⟨hpage, hrae⟩)⟩
    · exact ⟨fun hcns hns => next_congr ((opIdentify_namespace h hcns).1 ns hns), fun hcns hns => next_congr ((opIdentify_namespace h hcns).2 hns),
        fun hcns => next_congr (opIdentify_controller h hcns), fun hcns => next_congr (opIdentify_attached h hcns)⟩
    · obtain ⟨hnqs, haer, hkato, hacre⟩ := opSetFeatures_of_runs h
      exact ⟨fun hf => next_congr (hnqs hf), fun hf => next_congr (haer hf), fun hf => next_congr (hkato hf), fun hf => next_congr (hacre hf)⟩
    · obtain ⟨hnqs, haer, hkato, hacre⟩ := opGetFeatures_of_runs h
      exact ⟨fun hf => next_congr (hnqs hf), fun hf => next_congr (haer hf), fun hf => next_congr (hkato hf), fun hf => next_congr (hacre hf)⟩
    · exact ⟨fun hroom => next_congr ((opAsyncEventRequest_of_runs h).trans (if_neg (Nat.not_le.mpr hroom))),
        fun hfull => next_congr ((opAsyncEventRequest_of_runs h).trans (if_pos hfull))⟩
  · intro slot t m ns u s i n qid depth q id l attach c
    refine ⟨fun h hv => ?_, fun h hns hv hsel hl hlive => ?_, fun h => ?_, fun h => ?_, fun h h0 hcq hserves => ?_, fun h h0 hsq hcl => ?_,
      fun h => next_congr (fabricsCmd_runs h _), fun h => ?_, fun h => ?_⟩
    · exact ⟨fun hsel hns => next_congr ((opNamespaceManagement_creates h hv hsel).1 ns hns),
        fun hsel hns => next_congr ((opNamespaceManagement_creates h hv hsel).2 hns),
        fun hsel hall hns hsnaps => next_congr (opNamespaceManagement_deletes h hv hsel hall hns hsnaps)⟩
    · exact next_congr (opNamespaceAttachment_of_runs h hns hv hsel hl hlive)
    · exact ⟨fun h0 hmax hcq hmin hdepth => next_congr (opCreateIoCq_makes h h0 hmax hcq hmin hdepth),
        fun hbad => next_congr ((opCreateIoCq_of_runs h).trans (if_pos hbad))⟩
    · exact ⟨fun h0 hmax hsq hroom hmin hdepth hcq => next_congr (opCreateIoSq_makes h h0 hmax hsq hroom hmin hdepth hcq),
        fun hbad => next_congr ((opCreateIoSq_of_runs h).trans (if_pos hbad))⟩
    · exact next_congr (opDeleteIoCq_of_runs h h0 hcq hserves)
    · exact next_congr (opDeleteIoSq_of_runs h h0 hsq hcl)
    · refine ⟨fun ho => ?_, fun ho => ?_⟩
      · exact next_congr (opPropertyGet_of_known h (ho ▸ property_cc c u))
      · exact next_congr (opPropertyGet_of_known h (ho ▸ property_csts c u))
    · refine ⟨fun ho => next_congr (opPropertySet_nssr h ho), fun ho hshn hkeep => ?_, fun ho hshn hen hoff => ?_⟩
      · exact next_congr ((opPropertySet_cc h ho hshn).trans (if_neg hkeep))
      · exact next_congr ((opPropertySet_cc h ho hshn).trans (if_pos ⟨hen, hoff⟩))

end Sys2Proof.Machine
end

section
/-! PROOFS. Firmware download, commit, activation and Attestation Report (R69, R449, R461, R462, R464). -/

namespace Sys2Proof.Machine

open Sys2Proof

section
variable {slot : SlotNo} {t : Task} {m : HbMsg} {sl : Nat} {u s : State}

/-! ### Download (R461) -/

/-- `l` staged as a good image so far. -/
def putStaged (l : List Byte) (s : State) : State :=
  { s with sec := { s.sec with badStage := false }, host := { s.host with staged := l } }

section
variable (h : AdminRuns slot.val 0x11 t m u s) (hlen : dataLen m = 4 * (m.sqe.cdw10 + 1))
include h hlen

/-- Data at offset 0 starts a new image. -/
theorem opDownload_starts (ho : 4 * m.sqe.cdw11 = 0) (hmax : 4 * (m.sqe.cdw10 + 1) ≤ stageMax) :
    opDownload slot s = doneSlot slot.val stOk (putStaged (padTo (4 * (m.sqe.cdw10 + 1)) m.data) u) := by
  have hgood : ¬ stageMax < 0 + 4 * (m.sqe.cdw10 + 1) := by omega
  rw [opDownload, adminCmd_runs h]
  simp only [hlen, ho, hgood, ne_eq, not_true_eq_false, false_and, decide_false, Bool.or_self, Bool.false_eq_true, if_false, if_true,
    List.nil_append]
  rfl

/-- Data at the end of what is staged goes on with the image. -/
theorem opDownload_goes_on (ho : 4 * m.sqe.cdw11 ≠ 0) (hbad : u.sec.badStage = false) (hnext : 4 * m.sqe.cdw11 = u.host.staged.length)
    (hmax : 4 * m.sqe.cdw11 + 4 * (m.sqe.cdw10 + 1) ≤ stageMax) :
    opDownload slot s = doneSlot slot.val stOk (putStaged (u.host.staged ++ padTo (4 * (m.sqe.cdw10 + 1)) m.data) u) := by
  have hgood : (decide (4 * m.sqe.cdw11 ≠ 0 ∧ (u.sec.badStage = true ∨ 4 * m.sqe.cdw11 ≠ u.host.staged.length)) ||
      decide (stageMax < 4 * m.sqe.cdw11 + 4 * (m.sqe.cdw10 + 1))) = false := by
    simp [hbad, hnext]
    omega
  rw [opDownload, adminCmd_runs h]
  simp only [hlen, if_neg ho, hgood, ne_eq, not_true_eq_false, Bool.false_eq_true, if_false]
  rfl

end

/-! ### Commit (R69, R461) -/

/-- A Commit of its own action, with the slot that FS names. -/
theorem commitCmd_runs {action : Nat} (h : AdminRuns slot.val 0x10 t m u s) (hs : fsSlot (m.sqe.cdw10 % 8) u = some sl)
    (ha : m.sqe.cdw10 / 8 % 8 = action) (h3 : action ≤ 3) (f : Task → Nat → State → State) : commitCmd slot.val action f s = f t sl u := by
  have hcmd : slotCmd slot.val true 0x10 s = some m := h.1.1
  unfold commitCmd
  simp only [hcmd, ha, ne_eq, not_true_eq_false, false_and, if_false]
  rw [adminCmd_runs h]
  simp only [if_neg (Nat.not_lt.mpr h3), hs]

/-- The staged image written into slot `sl`, as far as its header says it reaches. -/
def stagedWritten (sl : Nat) (u : State) : State :=
  writeSlot (stagedClass u) sl (u.host.staged.take (4096 + hdrField 24 4 u.host.staged)) u

section
variable {i : Nat} (hbad : u.sec.badStage = false) (hst : u.host.staged ≠ []) (hrun : sl ≠ runningSlotOf (stagedClass u) u)
include hbad hst hrun

/-- A whole image staged for a slot that does not run is written if it passes, and refused otherwise. -/
theorem commitStaged_of_staged (f : Nat → State → State) :
    commitStaged i sl f u = if checkImage (stagedClass u) u.host.staged u ≠ 0 then
        failSlot i stInvalidImage (refuseImage (stagedClass u) sl (checkImage (stagedClass u) u.host.staged u) u)
      else f (stagedClass u) (stagedWritten sl u) := by
  unfold commitStaged
  simp only [hbad, hst, if_neg hrun, Bool.false_eq_true, or_self, if_false]
  rfl

theorem commitStaged_writes (hcode : checkImage (stagedClass u) u.host.staged u = 0) (f : Nat → State → State) :
    commitStaged i sl f u = f (stagedClass u) (stagedWritten sl u) :=
  (commitStaged_of_staged hbad hst hrun f).trans (if_neg (not_not.mpr hcode))

theorem commitStaged_refuses (hcode : checkImage (stagedClass u) u.host.staged u ≠ 0) (f : Nat → State → State) :
    commitStaged i sl f u =
      failSlot i stInvalidImage (refuseImage (stagedClass u) sl (checkImage (stagedClass u) u.host.staged u) u) :=
  (commitStaged_of_staged hbad hst hrun f).trans (if_pos hcode)

end

/-- The image in a slot passes its checks. -/
theorem commitSlot_of_passed {i : Nat} (hbad : u.sec.badStage = false)
    (hcode : checkImage (stagedClass u) (wholeImage (stagedClass u) sl u) u = 0) (f : Nat → State → State) :
    commitSlot i sl f u = f (stagedClass u) u := by
  unfold commitSlot
  simp only [hbad, hcode, Bool.false_eq_true, ne_eq, not_true_eq_false, or_self, if_false]

theorem commitTrial_sets {i cls : Nat} (hcfg : ¬ (cls = 2 ∧ cfgMayActivate (slotHeader 2 sl u) u = false)) :
    commitTrial i sl cls u = doneSlot i stOk (setTrial cls sl u) := if_neg hcfg

section
variable (h : AdminRuns slot.val 0x10 t m u s) (hs : fsSlot (m.sqe.cdw10 % 8) u = some sl) (hbad : u.sec.badStage = false)
include h hs hbad

section
variable (hst : u.host.staged ≠ []) (hrun : sl ≠ runningSlotOf (stagedClass u) u)
include hst hrun

theorem opCommit000_writes (ha : m.sqe.cdw10 / 8 % 8 = 0) (hcode : checkImage (stagedClass u) u.host.staged u = 0) :
    opCommit000 slot s = doneSlot slot.val stOk (stagedWritten sl u) :=
  (commitCmd_runs h hs ha (by omega) _).trans (commitStaged_writes hbad hst hrun hcode _)

theorem opCommit000_refuses (ha : m.sqe.cdw10 / 8 % 8 = 0) (hcode : checkImage (stagedClass u) u.host.staged u ≠ 0) :
    opCommit000 slot s =
      failSlot slot.val stInvalidImage (refuseImage (stagedClass u) sl (checkImage (stagedClass u) u.host.staged u) u) :=
  (commitCmd_runs h hs ha (by omega) _).trans (commitStaged_refuses hbad hst hrun hcode _)

theorem opCommit001_makes_trial (ha : m.sqe.cdw10 / 8 % 8 = 1) (hcode : checkImage (stagedClass u) u.host.staged u = 0)
    (hcfg : ¬ (stagedClass u = 2 ∧ cfgMayActivate (slotHeader 2 sl (stagedWritten sl u)) (stagedWritten sl u) = false)) :
    opCommit001 slot s = doneSlot slot.val stOk (setTrial (stagedClass u) sl (stagedWritten sl u)) :=
  ((commitCmd_runs h hs ha (by omega) _).trans (commitStaged_writes hbad hst hrun hcode _)).trans (commitTrial_sets hcfg)

end

variable (hcode : checkImage (stagedClass u) (wholeImage (stagedClass u) sl u) u = 0)
include hcode

theorem opCommit010_makes_trial (ha : m.sqe.cdw10 / 8 % 8 = 2)
    (hcfg : ¬ (stagedClass u = 2 ∧ cfgMayActivate (slotHeader 2 sl u) u = false)) :
    opCommit010 slot s = doneSlot slot.val stOk (setTrial (stagedClass u) sl u) :=
  ((commitCmd_runs h hs ha (by omega) _).trans (commitSlot_of_passed hbad hcode _)).trans (commitTrial_sets hcfg)

variable (ha : m.sqe.cdw10 / 8 % 8 = 3) (hpartner : partnerHere u = true) (hfirm : u.mir.partnerFirm = false)
include ha hpartner hfirm

/-- With the partner there and not activating, the slot's image is loaded or activated by its class. -/
theorem opCommit011_of_partner :
    opCommit011 slot s = if stagedClass u = 3 then doneSlot slot.val stOk (loadPolicy sl u)
      else if stagedClass u = 2 ∧ cfgMayActivate (slotHeader 2 sl u) u = false then failSlot slot.val stActivationProhibited u
      else beginActivation (stagedClass u) sl t slot.val u := by
  have hready : (!partnerHere u || u.mir.partnerFirm) = false := by rw [hpartner, hfirm]; rfl
  exact (commitCmd_runs h hs ha (by omega) _).trans ((if_neg (ne_true_of_eq_false hready)).trans (commitSlot_of_passed hbad hcode _))

theorem opCommit011_loads_policy (hcls : stagedClass u = 3) : opCommit011 slot s = doneSlot slot.val stOk (loadPolicy sl u) :=
  (opCommit011_of_partner h hs hbad hcode ha hpartner hfirm).trans (if_pos hcls)

theorem opCommit011_activates (hcls : stagedClass u ≠ 3) (hcfg : ¬ (stagedClass u = 2 ∧ cfgMayActivate (slotHeader 2 sl u) u = false)) :
    opCommit011 slot s = beginActivation (stagedClass u) sl t slot.val u :=
  (opCommit011_of_partner h hs hbad hcode ha hpartner hfirm).trans ((if_neg hcls).trans (if_neg hcfg))

end

/-! ### Attestation Report (R449) -/

theorem opAttestationReport_keeps {l : List Byte} {v : State} (h : AdminRuns slot.val 0xC5 t m u s) (h10 : m.sqe.cdw10 ≤ 4)
    (h11 : m.sqe.cdw11 = 0) (h12 : m.sqe.cdw12 = 0) (h13 : m.sqe.cdw13 = 0) (h14 : m.sqe.cdw14 = 0) (h15 : m.sqe.cdw15 = 0)
    (hlen : dataLen m = 64) (hzero : (m.data.drop 32).any (· != 0) = false)
    (hitem : reportItem m.sqe.cdw10 (m.data.take 32) u = (some l, v)) :
    opAttestationReport slot s =
      doneSlot slot.val { dw0 := l.length } { v with host := { v.host with attest := kput v.host.attest m.id.cntlid l } } := by
  have hfields : ¬ (4 < m.sqe.cdw10 ∨ m.sqe.cdw11 ≠ 0 ∨ m.sqe.cdw12 ≠ 0 ∨ m.sqe.cdw13 ≠ 0 ∨ m.sqe.cdw14 ≠ 0 ∨ m.sqe.cdw15 ≠ 0 ∨
      dataLen m ≠ 64 ∨ (m.data.drop 32).any (· != 0) = true) := by
    rw [hzero]
    simp only [Bool.false_eq_true, or_false]
    omega
  rw [opAttestationReport, adminCmd_runs h]
  simp only [if_neg hfields, hitem]

end

/-- Settles O38: a command past its cancellation point is its operation's body, and the hypotheses of a clause choose the branch. -/
theorem firmwareCommands : Obligations.FirmwareCommands := by
  unfold Obligations.FirmwareCommands
  intro slot t m sl l u v s i n o act cls code stagedOk put commits
  refine ⟨?_, ?_, ?_, ?_, ?_, ?_⟩
  · exact fun h hlen ho hmax => next_congr (opDownload_starts h hlen ho hmax)
  · exact fun h hlen ho hbad hnext hmax => next_congr (opDownload_goes_on h hlen ho hbad hnext hmax)
  · rintro ⟨h, hs⟩ ⟨hbad, hst, hrun⟩ hcode
    exact ⟨fun ha => next_congr (opCommit000_writes h hs hbad hst hrun ha hcode),
      fun ha hcfg => next_congr (opCommit001_makes_trial h hs hbad hst hrun ha hcode hcfg)⟩
  · rintro ⟨h, hs⟩ ⟨hbad, hst, hrun⟩ hcode ha
    exact next_congr (opCommit000_refuses h hs hbad hst hrun ha hcode)
  · rintro ⟨h, hs⟩ hbad hcode
    exact ⟨fun ha hcfg => next_congr (opCommit010_makes_trial h hs hbad hcode ha hcfg),
      fun ha hcls hpartner hfirm => next_congr (opCommit011_loads_policy h hs hbad hcode ha hpartner hfirm hcls),
      fun ha hcls hpartner hfirm hcfg => next_congr (opCommit011_activates h hs hbad hcode ha hpartner hfirm hcls hcfg)⟩
  · exact fun h h10 h11 h12 h13 h14 h15 hlen hzero hitem => next_congr (opAttestationReport_keeps h h10 h11 h12 h13 h14 h15 hlen hzero hitem)

end Sys2Proof.Machine
end

section
/-! PROOFS. The directory's bindings, Rearn's timers and windows, and the Ethernet ports (R32 to R36, R366 to R368, R372, R373, R377, R380, R385,
R387, R388). -/

namespace Sys2Proof.Machine

open Sys2Proof

/-! ### HELLO and HELLO_REPLY (R366 to R368) -/

/-- The node's number is bound to another identity. -/
def claimsBoundNumber (p : RrnPkt) (h : HelloBody) (s : State) : Prop :=
  (nodeOf p.src s).bound = true ∧ (nodeOf p.src s).identity ≠ h.identity

/-- What this part sends in answer to a HELLO that it took. -/
def answerHello (p : RrnPkt) (s : State) : State := settleOps (sendHelloBody p.src p.msgId true (ownHello false false s) s)

section
variable {p : RrnPkt} {h : HelloBody} {s : State}

theorem opHello_of_disabled (hen : rbit F.RRN_CTL_EN s = false) : opHello p h s = s := by
  unfold opHello
  rw [hen]
  rfl

theorem opHelloReply_of_disabled (hen : rbit F.RRN_CTL_EN s = false) : opHelloReply p h s = s := by
  unfold opHelloReply
  rw [hen]
  rfl

variable (hen : rbit F.RRN_CTL_EN s = true) (hcrc : p.crcOk = true)
include hen hcrc

/-- A HELLO or HELLO_REPLY comes to its checks only while Rearn runs, with a good CRC. -/
theorem helloChecks_reached {α : Type} (x y z : α) :
    (if !rbit F.RRN_CTL_EN s then x else if !p.crcOk then y else z) = z := by
  rw [hen, hcrc]
  rfl

theorem opHello_of_bad (hb : helloBad { p with op := 0x0C } h s = true) : opHello p h s = nakPkt { p with op := 0x0C } 8 s :=
  (helloChecks_reached hen hcrc _ _ _).trans (if_pos hb)

section
variable (hb : helloBad { p with op := 0x0C } h s = false) (hs : p.src ≠ ownChip s)
include hb hs

/-- A good HELLO of another node is refused for its number, or changes the binding and is answered. -/
theorem opHello_of_good :
    opHello p h s = if (nodeOf p.src s).bound = true ∧ (nodeOf p.src s).identity ≠ h.identity then
        sendHelloBody p.src p.msgId true (ownHello false true (nakPkt { p with op := 0x0C } 9 (noteConflict s)))
          (nakPkt { p with op := 0x0C } 9 (noteConflict s))
      else answerHello p (if h.withdraw then setNode p.src { nodeOf p.src s with bound := false, ver := 0 } s
        else setNode p.src (negotiate h p.addr (nodeOf p.src s) s) s) :=
  ((helloChecks_reached hen hcrc _ _ _).trans (if_neg (ne_true_of_eq_false hb))).trans (if_neg hs)

theorem opHello_of_conflict (hc : claimsBoundNumber p h s) :
    opHello p h s = sendHelloBody p.src p.msgId true (ownHello false true (nakPkt { p with op := 0x0C } 9 (noteConflict s)))
      (nakPkt { p with op := 0x0C } 9 (noteConflict s)) :=
  (opHello_of_good hen hcrc hb hs).trans (if_pos hc)

theorem opHello_binds (hc : ¬ claimsBoundNumber p h s) (hw : h.withdraw = false) :
    opHello p h s = answerHello p (setNode p.src (negotiate h p.addr (nodeOf p.src s) s) s) :=
  (opHello_of_good hen hcrc hb hs).trans ((if_neg hc).trans (congrArg _ (if_neg (ne_true_of_eq_false hw))))

theorem opHello_withdraws (hc : ¬ claimsBoundNumber p h s) (hw : h.withdraw = true) :
    opHello p h s = answerHello p (setNode p.src { nodeOf p.src s with bound := false, ver := 0 } s) :=
  (opHello_of_good hen hcrc hb hs).trans ((if_neg hc).trans (congrArg _ (if_pos hw)))

end

variable (hb : helloBad { p with op := 0x0D } h s = false)
include hb

/-- A good HELLO_REPLY tells of a conflict, or settles the exchange that it belongs to. -/
theorem opHelloReply_of_good :
    opHelloReply p h s = if h.conflict then noteConflict s
      else if (nodeOf p.src s).sends = 0 ∨ (nodeOf p.src s).helloId ≠ p.msgId then s
      else if (nodeOf p.src s).bound = true ∧ (nodeOf p.src s).identity ≠ h.identity then nakPkt { p with op := 0x0D } 8 s
      else settleOps (setNode p.src { negotiate h p.addr (nodeOf p.src s) s with sends := 0 } s) :=
  (helloChecks_reached hen hcrc _ _ _).trans (if_neg (ne_true_of_eq_false hb))

theorem opHelloReply_of_conflict (hcf : h.conflict = true) : opHelloReply p h s = noteConflict s :=
  (opHelloReply_of_good hen hcrc hb).trans (if_pos hcf)

/-- The reply to a HELLO of an exchange that this part began. -/
theorem opHelloReply_binds (hcf : h.conflict = false) (hsent : (nodeOf p.src s).sends ≠ 0) (hid : (nodeOf p.src s).helloId = p.msgId)
    (hc : ¬ claimsBoundNumber p h s) :
    opHelloReply p h s = settleOps (setNode p.src { negotiate h p.addr (nodeOf p.src s) s with sends := 0 } s) :=
  (opHelloReply_of_good hen hcrc hb).trans
    ((if_neg (ne_true_of_eq_false hcf)).trans ((if_neg (by simp [hsent, hid])).trans (if_neg hc)))

end

/-! ### Retries, lapses and the timers of operations (R366, R367, R387, R388) -/

section
variable {node n : Nat} {o : ROp} {s : State}

theorem opHelloRetry_sends (h0 : (nodeOf node s).sends ≠ 0) (h3 : (nodeOf node s).sends < 3) : opHelloRetry node s = sendHello node s := by
  simp [opHelloRetry, h0, h3]

theorem opHelloRetry_gives_up (h0 : (nodeOf node s).sends ≠ 0) (h3 : 3 ≤ (nodeOf node s).sends) :
    opHelloRetry node s = endWaiting node 0x4A s := by
  simp [opHelloRetry, h0, h3]

/-- The operation that a timer's number names: by its own MSG_ID, or by that of the CREDIT_REQ it waits for. -/
def timerOp (n : Nat) (s : State) : Option ROp := s.rrn.ops.find? (fun o => o.msgId == n || (o.phase == .lease && o.asked == n))

theorem opRto_resends (hop : timerOp n s = some o) (hp : o.phase = .sent) : opRto n s = resend false { o with waits := o.waits + 1 } s := by
  unfold timerOp at hop
  unfold opRto
  simp only [hop, hp]

theorem opTimeout_ends (hop : timerOp n s = some o) : opTimeout n s = endOp o (0x40 + o.transient.getD 0x0A) s := by
  unfold timerOp at hop
  unfold opTimeout
  simp only [hop]

theorem expireLease_frees {l : LeaseIn} (hl : kfind s.rrn.leases (n % 4096) = some l) (hn : l.num = n) :
    expireLease n s = syncLeases (onRrn (fun r => { r with leases := kdel r.leases (n % 4096) }) s) := by
  unfold expireLease
  simp only [hl, hn, if_true]

/-- A context abandoned: its receipt entry is no longer reserved and its caddy is dropped. -/
theorem opCtxIdle_drops {src : Nat} {c : RCtx} (hc : s.rrn.ctxs.find? (fun c => c.first.src == src && c.first.msgId == n) = some c) :
    opCtxIdle src n s = dropAll c.handle.toList
      (setReceipts ((dropCtx src n s).rrn.receipts.filter (fun r => !(isReceipt src n r && !r.live))) (dropCtx src n s)) := by
  unfold opCtxIdle
  simp only [hc]

end

/-! ### Ethernet ports (R32 to R36) -/

/-- The partner's abilities that a port shows that negotiates. -/
def notePartner (q : Nat) (abil : BitVec 32) (s : State) : State :=
  if rbit F.NET_PORT_CFG_AN_EN s q then rset F.NET_AN_RESULT_PARTNER_ABIL abil.toNat s q else s

/-- A port's STATUS at speed `v`: its width, speed and FEC. -/
def notePortSpeed (q v : Nat) (s : State) : State :=
  rset F.NET_PORT_STATUS_FEC (if v = 0 then 0 else if v = 1 then 1 else 2)
    (rset F.NET_PORT_STATUS_SPEED v (rset F.NET_PORT_STATUS_WIDTH (speedLanes v) s q) q) q

section
variable {port : Fin 16} {abil : BitVec 32} {rs : Bool} {v : Nat} {s : State}

theorem opNetLinkChange_up_stays (h : netMayUp port.val s = false ∨ rbit F.NET_PORT_STATUS_LINK_UP s port.val = true) :
    opNetLinkChange port true abil rs s = s := by
  rcases h with h | h <;> simp [opNetLinkChange, h]

theorem opNetLinkChange_down (hl : rbit F.NET_PORT_STATUS_LINK_UP s port.val = true) :
    opNetLinkChange port false abil rs s = noteLink port.val (netDown port.val s) := by
  simp [opNetLinkChange, hl]

variable (hmay : netMayUp port.val s = true) (hl : rbit F.NET_PORT_STATUS_LINK_UP s port.val = false)
include hmay hl

theorem opNetLinkChange_comes_up (hv : settledSpeed port.val abil rs s = some v) :
    opNetLinkChange port true abil rs s = noteLink port.val (rflag F.NET_PORT_STATUS_LINK_UP true (rflag F.NET_PORT_STATUS_PCS_LOCK true
      (rflag F.NET_PORT_STATUS_AN_DONE (rbit F.NET_PORT_CFG_AN_EN s port.val) (notePortSpeed port.val v (notePartner port.val abil s))
        port.val) port.val) port.val) := by
  unfold opNetLinkChange
  simp only [hmay, hl, hv, Bool.not_true, Bool.or_self, Bool.false_eq_true, if_false]
  rfl

theorem opNetLinkChange_of_no_speed (hv : settledSpeed port.val abil rs s = none) :
    opNetLinkChange port true abil rs s = notePartner port.val abil s := by
  unfold opNetLinkChange
  simp only [hmay, hl, hv, Bool.not_true, Bool.or_self, Bool.false_eq_true, if_false]
  rfl

end

theorem opAnRestart_restarts {port : Fin 16} {s : State} (hen : rbit F.NET_PORT_CFG_PORT_EN s port.val = true)
    (han : rbit F.NET_PORT_CFG_AN_EN s port.val = true) (hl : rbit F.NET_PORT_STATUS_LINK_UP s port.val = false) :
    opAnRestart port s = rflag F.NET_PORT_STATUS_AN_DONE false (rinc F.NET_AN_RESULT_AN_RESTARTS 1 s port.val) port.val := by
  simp [opAnRestart, hen, han, hl]

/-- Of a dropped frame nothing is passed on, and what one carries that is passed comes as a command of its own (R36). -/
theorem opFrameDrop_eq (port : Fin 16) (len : Nat) (tag : Option Nat) (s : State) : opFrameDrop port len tag s = s := ite_self s

/-- The configuration that a WIN_ARM gives (R372): a new BASE, LEN and KEY where they are not 0. -/
theorem opWinArm_of_good {r : WinReq} {s : State} (hb : r.base = 0 ∨ baseOk r.base s = true) :
    opWinArm r s = armWindow r.window.val (setWin r.window.val { winOf r.window.val s with
      base := if r.base = 0 then (winOf r.window.val s).base else r.base,
      len := if r.len = 0 then (winOf r.window.val s).len else r.len % 2 ^ 32,
      key := if r.key = 0 then (winOf r.window.val s).key else r.key % 2 ^ 32 } s) := by
  have hgood : (decide (r.base = 0) || baseOk r.base s) = true := by simpa using hb
  unfold opWinArm
  simp only [hgood, if_true]

/-- Settles O55: each row is its operation, and the hypotheses of a clause say which of its cases holds. -/
theorem directoryTimersWindowsAndPorts : Obligations.DirectoryTimersWindowsAndPorts := by
  unfold Obligations.DirectoryTimersWindowsAndPorts
  intro p h r port up rs abil node n src len v tag o c l s hi re on x clash bound gone answers by_ w set q an n1 n2 lu ctx
  refine ⟨?_, ?_, ?_, ?_, ?_, rfl, ?_, ?_, ?_, ?_, ?_, rfl, ?_, ?_, rfl, ?_, ?_, ?_, ?_, ?_, ?_, rfl, ?_⟩
  · exact fun hen hcrc hb => next_congr (opHello_of_bad hen hcrc hb)
  · exact fun hen hcrc hb hs => ⟨fun hc hw => next_congr (opHello_binds hen hcrc hb hs hc hw),
      fun hc hw => next_congr (opHello_withdraws hen hcrc hb hs hc hw), fun hc => next_congr (opHello_of_conflict hen hcrc hb hs hc)⟩
  · exact fun hen hcrc hb => ⟨fun hcf => next_congr (opHelloReply_of_conflict hen hcrc hb hcf),
      fun hcf hsent hid hc => next_congr (opHelloReply_binds hen hcrc hb hcf hsent hid hc)⟩
  · exact fun hen => ⟨next_congr (opHello_of_disabled hen), next_congr (opHelloReply_of_disabled hen)⟩
  · exact fun h0 => ⟨fun h3 => next_congr (opHelloRetry_sends h0 h3), fun h3 => next_congr (opHelloRetry_gives_up h0 h3)⟩
  · exact fun hb => next_congr (if_pos hb)
  · exact fun hb => next_congr (if_neg (by simp [hb]))
  · exact fun hop hp => next_congr (opRto_resends hop hp)
  · exact fun hop => next_congr (opTimeout_ends hop)
  · exact fun hl hn => next_congr (congrArg settleOps (expireLease_frees hl hn))
  · exact fun hc => next_congr (opCtxIdle_drops hc)
  · exact fun hb => next_congr (opWinArm_of_good hb)
  · rintro rfl hmay hl hv
    exact next_congr (opNetLinkChange_comes_up hmay hl hv)
  · rintro rfl hmay hl hv
    exact next_congr (opNetLinkChange_of_no_speed hmay hl hv)
  · rintro rfl hl
    exact next_congr (opNetLinkChange_up_stays (.inr hl))
  · rintro rfl hmay
    exact next_congr (opNetLinkChange_up_stays (.inl hmay))
  · rintro rfl hl
    exact next_congr (opNetLinkChange_down hl)
  · exact fun hen han hl => next_congr (opAnRestart_restarts hen han hl)
  · exact next_congr (opFrameDrop_eq port len tag s)

end Sys2Proof.Machine
end

section
/-! PROOFS. A step runs the command at the front of the queue, and every command answers a next state. -/

namespace Sys2Proof.Machine

open Sys2Proof

theorem step_of_front {i : Instr} {rest : List Instr} {s : State} (h : s.pending = i :: rest) : step s = exec i { s with pending := rest } := by
  simp only [step, h]

theorem step_of_empty {s : State} (h : s.pending = []) : step s = .next (idleTick s) := by
  simp only [step, h]

/-- No command faults or is refused: each arm of `exec` is the next state of its own definition. -/
theorem exec_next (i : Instr) (s : State) : ∃ t, exec i s = .next t := by
  cases i <;> exact ⟨_, rfl⟩

theorem stepSafe (s : State) : StepSafe s := by
  cases h : s.pending with
  | nil => exact ⟨_, step_of_empty h⟩
  | cons i rest =>
    obtain ⟨t, ht⟩ := exec_next i { s with pending := rest }
    exact ⟨t, (step_of_front h).trans ht⟩

/-- Settles O16: a step is read off the queue, and no command stops the block. -/
theorem stepRunsTheFrontCommand : Obligations.StepRunsTheFrontCommand := by
  unfold Obligations.StepRunsTheFrontCommand
  exact ⟨fun _ _ _ h => step_of_front h, fun _ h => step_of_empty h, stepSafe⟩

end Sys2Proof.Machine
end

section
/-! PROOFS. The recorder's timed steps: records close, are committed and leave, and the recorder becomes READY (R402 to R410). -/

namespace Sys2Proof.Machine

open Sys2Proof

/-! ### The open record and its commit (R403, R405, R409) -/

section
variable {e : EvEntry} {rest : List EvEntry} {q : Nat} {s : State} (hf : s.evr.fifo = e :: rest) (hq : e.seq = some q)

include hf hq in
theorem opRecordClose_closes :
    opRecordClose s = rflag F.EVR_STATUS_OPEN false { s with evr := { s.evr with fifo := { e with closed := true } :: rest } } := by
  simp only [opRecordClose, hf, hq, Option.isSome_some, if_true]

include hq in
/-- A record goes to its flash slot in the birth log and in the ring alike. -/
theorem commitRecord_flash : (commitRecord e s).evr.flash = kput s.evr.flash (flashSlot q) e := by
  simp only [commitRecord, hq]
  split <;> split <;> rfl

/-- The head record committed and gone, the next entry open. -/
def headLeft (e : EvEntry) (rest : List EvEntry) (s : State) : State :=
  let u := commitRecord e s
  syncFifo (openHead { u with evr := { u.evr with fifo := rest } })

/-- What the commit of record `q` leaves: past the last birth record its lock is reported (R404). -/
def headProgrammed (q : Nat) (e : EvEntry) (rest : List EvEntry) (s : State) : State :=
  if q = 16383 then record Ev.BIRTH_LOCKED srcAON 0 [] (headLeft e rest s) else headLeft e rest s

include hf hq in
/-- With no wear limit newly reached the commit reports nothing more. -/
theorem opRecordProgrammed_commits (hc : e.closed = true) (he : s.evr.erasing ≠ some (flashSlot q / 1024))
    (hw : wearLimited s = true ∨ wearLimited (headProgrammed q e rest s) = false) :
    opRecordProgrammed s = headProgrammed q e rest s := by
  have hready : ¬ (e.closed = false ∨ (16384 ≤ q ∧ s.evr.erasing = some (flashSlot q / 1024))) := by simp [hc, he]
  have hnoted : (!wearLimited s && wearLimited (headProgrammed q e rest s)) = false := by
    rcases hw with hw | hw <;> simp [hw]
  unfold headProgrammed headLeft at *
  simp only [opRecordProgrammed, hf, hq, if_neg hready, hnoted, Bool.false_and, Bool.false_eq_true, if_false]

end

/-! ### Erases, marks and drops (R402, R405, R410) -/

/-- The sector ahead of the head erased. -/
def sectorErased (h : Nat) (s : State) : State :=
  rflag F.EVR_STATUS_ERASE_BUSY false { s with evr := { s.evr with erasing := none, flash := s.evr.flash.filter (fun p => decide (p.1 / 1024 ≠ h)) } }

theorem opEraseDone_ends {h : Nat} {s : State} (he : s.evr.erasing = some h) :
    opEraseDone s = rset F.EVR_TAIL_SEQ_SEQ
      (max (rget F.EVR_TAIL_SEQ_SEQ (sectorErased h s)) ((s.evr.next - 1 - 16384) / 1024 * 1024 + 16384 + 2048 - 1032192)) (sectorErased h s) := by
  simp only [opEraseDone, he]
  rfl

theorem opOptimeMark_of_ready {s : State} (h : rbit F.EVR_STATUS_READY s = true) : opOptimeMark s = record Ev.OPTIME_MARK srcAON 0 [] s := if_pos h

/-- The payload of EVT_LOST: the pending drops by severity, and the tick of the first (R410). -/
def lostPayload (s : State) : List Byte :=
  ((List.range 4).map (fun n => leBytes 4 (rget F.EVR_LOST_PENDING s n))).flatten ++ leBytes 8 s.evr.dropTick

theorem opEvtLost_carries {s : State} (hp : ∃ n, n < 4 ∧ rget F.EVR_LOST_PENDING s n ≠ 0) (hroom : s.evr.fifo.length < 224) :
    opEvtLost s = forEach (List.range 4) (fun n s => rset F.EVR_LOST_PENDING 0 s n)
      (enterFifo (entryOf { code := Ev.EVT_LOST, sev := 1, payload := lostPayload s } s) s) := by
  obtain ⟨n, hn, hne⟩ := hp
  have hsome : ((List.range 4).map (fun n => rget F.EVR_LOST_PENDING s n)).all (· == 0) = false :=
    List.all_eq_false.mpr ⟨_, List.mem_map.mpr ⟨n, List.mem_range.mpr hn, rfl⟩, by simpa using hne⟩
  simp only [opEvtLost, hsome, decide_eq_false (Nat.not_le.mpr hroom), Bool.or_self, Bool.false_eq_true, if_false, List.map_map]
  rfl

/-! ### READY (R402) -/

/-- A state in which field `f` reads as in `t` keeps that through the write of a field that lies after it. -/
theorem rset_keeps_before {f g : Field} {v : Nat} {t u : State} (hu : ksorted u.regs = true ∧ rget f u = rget f t) (hlt : f.key 0 < g.key 0) :
    ksorted (rset g v u).regs = true ∧ rget f (rset g v u) = rget f t :=
  ⟨ksorted_rset hu.1, (rget_rset_other hu.1 hlt.ne).trans hu.2⟩

/-- The clocks' counts as the newest records give them. -/
def countsLoaded (s : State) : State :=
  rset F.CLK_POWER_CYCLES_COUNT (min (((newestBy (fun e => e.code == Ev.BOOT) s).map (fun e => ofLe (e.payload.take 4) + 1)).getD 1) 0xFFFFFF)
    (rset F.CLK_OPTIME_OPSEC (((newestBy (fun _ => true) s).map (·.opsec)).getD 0) s)

/-- The SEQ that the next record takes. -/
def nextSeq (s : State) : Nat := ((newestBy (fun _ => true) s).map (fun e => e.seq.getD 0 + 1)).getD 0

/-- The recorder before its BOOT record: counts loaded, head, tail and birth log found. -/
def headFound (s : State) : State :=
  let next := nextSeq s
  let u := { countsLoaded s with evr := { s.evr with next := next } }
  let placed := rset F.EVR_TAIL_SEQ_SEQ (if next ≤ 16384 then 16384 else max 16384 ((next - 1 - 16384) / 1024 * 1024 + 16384 + 2048 - 1032192))
    (rset F.EVR_HEAD_SEQ_SEQ (next - 1) u)
  rflag F.EVR_BIRTH_COUNT_LOCKED s.evr.locked (rflag F.EVR_STATUS_BIRTH_LOCKED s.evr.locked (rset F.EVR_BIRTH_COUNT_COUNT (min next 16384) placed))

section
variable {s : State}

theorem opEvrReady_becomes_ready (h : rbit F.EVR_STATUS_READY s = false) :
    opEvrReady s = openHead (rflag F.EVR_STATUS_READY true (recordBoot (headFound s))) := by
  unfold opEvrReady
  rw [h]
  rfl

theorem headFound_evr : (headFound s).evr = { s.evr with next := nextSeq s } := rfl

variable (h : ksorted s.regs = true)
include h

/-- A field that lies before the recorder's is as the records' counts left it. -/
theorem rget_headFound {f : Field} (hk : f.key 0 < F.EVR_STATUS_BIRTH_LOCKED.key 0) : rget f (headFound s) = rget f (countsLoaded s) := by
  have hkeeps : ksorted (headFound s).regs = true ∧ rget f (headFound s) = rget f (countsLoaded s) := by
    refine rset_keeps_before (rset_keeps_before (rset_keeps_before (rset_keeps_before (rset_keeps_before
      ⟨ksorted_rset (ksorted_rset h), rfl⟩ ?_) ?_) ?_) ?_) ?_
    all_goals exact hk.trans_le (by decide)
  exact hkeeps.2

theorem headFound_optime : rget F.CLK_OPTIME_OPSEC (headFound s) = (((newestBy (fun _ => true) s).map (·.opsec)).getD 0) % 2 ^ 40 := by
  rw [rget_headFound h (by decide), countsLoaded, rget_rset_other (ksorted_rset h) (by decide), rget_rset_same h]
  rfl

theorem headFound_powerCycles : rget F.CLK_POWER_CYCLES_COUNT (headFound s) =
    min (((newestBy (fun e => e.code == Ev.BOOT) s).map (fun e => ofLe (e.payload.take 4) + 1)).getD 1) 0xFFFFFF := by
  rw [rget_headFound h (by decide), countsLoaded, rget_rset_same (ksorted_rset h)]
  exact Nat.mod_eq_of_lt ((Nat.min_le_right _ _).trans_lt (by decide))

end

end Sys2Proof.Machine
end

section
/-! PROOFS. The dispatcher's timed steps: placement, watchdog, drain, and the timers of held work (R60 to R62, R80 to R83, R89, R90, R138). -/

namespace Sys2Proof.Machine

open Sys2Proof

/-! ### Placement (R80 to R83) -/

theorem takeTask_head (t : Task) (l : List Task) : takeTask t (t :: l) = l := if_pos rfl

/-- A task of the silicon that meets a free slot at once. -/
theorem placeFrom_of_free {qi i : Nat} {t : Task} {s : State} (hcmd : t.cmd = none) (hsince : t.since = none) (hi : chooseSlot s t.group = some i) :
    placeFrom qi t s = selectNext (i / 8) (loadSlot i t (ungateIsland (2 + i / 64) (setQ qi (takeTask t (s.task.q.getD qi [])) s))) := by
  have hlands : lands t = false := by simp only [lands, hcmd]
  unfold placeFrom
  simp only [hi, hlands, hcmd, hsince, Bool.false_and, Bool.false_eq_true, if_false]

theorem countCaps_of_no_cap {s : State} (h1 : capHit s 1 = false) (h3 : capHit s 3 = false) : countCaps s = s := by
  simp [countCaps, forEach, h1, h3]

section
variable {s : State} {t : Task} {l : List Task} (hen : rbit F.TSK_CTL_DISPATCH_EN s = true)
include hen

theorem opDispatchPlace_of_q0 (hq0 : s.task.q.getD 0 [] = t :: l) : opDispatchPlace s = placeFrom 0 t s := by
  simp only [opDispatchPlace, hen, hq0, Bool.not_true, Bool.false_eq_true, if_false]

variable {q credit : Nat} (hq0 : s.task.q.getD 0 [] = []) (hdrain : rbit F.TSK_CTL_DRAIN s = false) (h1 : capHit s 1 = false)
  (h3 : capHit s 3 = false) (hpick : pickQueue s 4 s.task.turn s.task.credit = some (q, credit))
  (hroom : (chooseSlot s t.group).isSome = true)
include hq0 hdrain h1 h3 hpick hroom

/-- Q1 has the turn: the host queue whose visit it is gives its first command. -/
theorem opDispatchPlace_of_host {v : Nat × Nat} {n : Nat} (hq : q = 1) (hhost : hostPick s = some (t, v, n)) :
    opDispatchPlace s = placeFrom 1 t { s with task := { s.task with turn := q, credit := credit, visit := v, visited := n } } := by
  have hslot := ne_true_of_eq_false (Option.isNone_eq_false_iff.mpr hroom)
  subst hq
  simp only [opDispatchPlace, hen, hq0, hdrain, countCaps_of_no_cap h1 h3, hpick, hhost, if_neg hslot, Bool.not_true, Bool.false_eq_true, if_false,
    if_true]

/-- Q2 or Q3 has the turn: its first task. -/
theorem opDispatchPlace_of_turn (hq : q ≠ 1) (htask : s.task.q.getD q [] = t :: l) :
    opDispatchPlace s = placeFrom q t { s with task := { s.task with turn := q, credit := credit } } := by
  have hslot := ne_true_of_eq_false (Option.isNone_eq_false_iff.mpr hroom)
  simp only [opDispatchPlace, hen, hq0, hdrain, countCaps_of_no_cap h1 h3, hpick, htask, if_neg hq, if_neg hslot, Bool.not_true, Bool.false_eq_true,
    if_false]

end

/-! ### Watchdog and drain (R89, R90) -/

theorem opTaskWatchdog_first {slot : SlotNo} {retry : Nat → State → State} {s : State} (hbusy : (slotOf s slot.val).st ≠ .free)
    (hlimit : rget F.TSK_WATCHDOG_LIMIT_MS s ≠ 0) (hfired : (slotOf s slot.val).fired = false) :
    let x := slotOf s slot.val
    let f := watchdogFires slot.val s
    opTaskWatchdog slot retry s = if x.task.typ = 1 then if x.passed then retry slot.val f else completeSlot slot.val stInterrupted (giveUpBuffer x.task f)
      else enqueueTask (asLocalPost x.task f) (freeSlot slot.val f) := by
  simp [opTaskWatchdog, hbusy, hlimit, hfired]

theorem opDrainTimeout_hands_over {s : State} (h : rbit F.TSK_CTL_DRAIN s = true) :
    opDrainTimeout s = forEach (List.range 512) (fun i s => if slotBusy s i then abandonSlot i s else s)
      (if slotCmds s = [] then s else sendPartner (.replay (slotCmds s)) s) := by
  simp only [opDrainTimeout, h, List.isEmpty_iff, Bool.not_true, Bool.false_eq_true, if_false]

/-! ### Set D and Stage (R62, R138) -/

/-- The buffers of set D that a reference keeps. -/
def keptBufs (s : State) : List Nat :=
  (s.bpm.bufs.filter (fun p => p.1 / 2 ^ 28 / 8 == 1 && p.2.cnt != 0)).map (fun p => mkHandle 1 (p.1 / 2 ^ 28 % 8) (p.1 % 2 ^ 28))

theorem opDRebuildDone_releases {s : State} (h : rbit F.BPM_CTL_D_REBUILDING s = true) :
    opDRebuildDone s = forEach ((keptBufs s).filter (fun h => !(s.arr.dirty.filterMap (·.handle)).contains h)) freeBuf
      (rflag F.BPM_CTL_D_REBUILDING false s) := by
  unfold opDRebuildDone
  rw [h]
  rfl

theorem opStageTimeout_completes {id : CmdId} {w : StageReq} {t : Task} {s : State}
    (hw : s.host.stageWait.find? (fun q => q.id == id && q.task.isSome) = some w) (ht : w.task = some t) :
    opStageTimeout id s = completeTask t stStageTimeout
      { s with host := { s.host with stageWait := s.host.stageWait.map (fun x => if x = w then { x with task := none } else x) } } := by
  simp only [opStageTimeout, hw, ht]

/-- Settles O33: each row is its operation, and the hypotheses of a clause say which of its cases holds. -/
theorem recorderAndDispatcherSteps : Obligations.RecorderAndDispatcherSteps := by
  unfold Obligations.RecorderAndDispatcherSteps
  refine ⟨?_, ?_⟩
  · intro e rest q h k s
    refine ⟨fun hf hq => next_congr (opRecordClose_closes hf hq), fun hf hq hc he => ?_, fun he => next_congr (opEraseDone_ends he),
      fun hr => next_congr (opOptimeMark_of_ready hr), fun hp hroom => next_congr (opEvtLost_carries hp hroom), fun hr => ?_, rfl⟩
    · have hcommit := opRecordProgrammed_commits hf hq hc he
      refine ⟨?_, fun hne hw => ?_, fun heq hw => ?_⟩
      · rw [commitRecord_flash hq, kfind_kput_same]
      · rw [headProgrammed, if_neg hne] at hcommit
        exact next_congr (hcommit hw)
      · rw [headProgrammed, if_pos heq] at hcommit
        exact next_congr (hcommit hw)
    · exact ⟨headFound s, next_congr (opEvrReady_becomes_ready hr), headFound_evr, fun hs => ⟨headFound_optime hs, headFound_powerCycles hs⟩⟩
  · intro slot i q tk tasks v n credit id w shelf isl s x
    refine ⟨fun hen hq0 hcmd hsince hi => ?_, fun hen hq0 hdrain h1 h3 hpick => ?_, fun hbusy hlimit hfired => ?_,
      fun hd => next_congr (opDrainTimeout_hands_over hd), fun hd => next_congr (congrArg arSettle (opDRebuildDone_releases hd)), rfl, rfl,
      fun hw ht => next_congr (opStageTimeout_completes hw ht), rfl, rfl⟩
    · have hplaced := placeFrom_of_free (qi := 0) hcmd hsince hi
      rw [hq0, takeTask_head] at hplaced
      exact next_congr ((opDispatchPlace_of_q0 hen hq0).trans hplaced)
    · exact ⟨fun hq hhost hroom => next_congr (opDispatchPlace_of_host hen hq0 hdrain h1 h3 hpick hroom hq hhost),
        fun hq htask hroom => next_congr (opDispatchPlace_of_turn hen hq0 hdrain h1 h3 hpick hroom hq htask)⟩
    · have hfires := opTaskWatchdog_first (retry := retrySlot) hbusy hlimit hfired
      refine ⟨fun htyp hp => next_congr (congrArg settleLost ?_), fun htyp hp => next_congr (congrArg settleLost ?_),
        fun htyp => next_congr (congrArg settleLost ?_)⟩
      · exact hfires.trans ((if_pos htyp).trans (if_neg (ne_true_of_eq_false hp)))
      · exact hfires.trans ((if_pos htyp).trans (if_pos hp))
      · exact hfires.trans (if_neg htyp)

end Sys2Proof.Machine
end

section
/-! PROOFS. The encoding of Dyris words (Tables 4.7 to 4.13): decoding undoes encoding, and encoding undoes decoding. -/

namespace Sys2Proof

/-! ### The fields of a word, put together and taken apart -/

theorem fieldOf_lt (w : BitVec 32) (hi lo : Nat) : fieldOf w hi lo < 2 ^ (hi + 1 - lo) := Nat.mod_lt _ (Nat.two_pow_pos _)

theorem val_regField (w : BitVec 32) (lo : Nat) : (regField w lo).val = fieldOf w (lo + 4) lo := by
  have h := fieldOf_lt w (lo + 4) lo
  rw [show lo + 4 + 1 - lo = 5 by omega] at h
  exact Nat.mod_eq_of_lt h

theorem regField_eq {w : BitVec 32} {lo : Nat} {r : RegF} (h : fieldOf w (lo + 4) lo = r.val) : regField w lo = r :=
  Fin.ext ((val_regField w lo).trans h)

section
variable {op fn : Nat} (d a b : RegF)

theorem fields_wordA (hop : op < 64) (hfn : fn < 2048) :
    fieldOf (wordA op d a b fn) 31 26 = op ∧ regField (wordA op d a b fn) 21 = d ∧ regField (wordA op d a b fn) 16 = a ∧
    regField (wordA op d a b fn) 11 = b ∧ fieldOf (wordA op d a b fn) 10 0 = fn := by
  have hd := d.isLt
  have ha := a.isLt
  have hb := b.isLt
  refine ⟨?_, regField_eq ?_, regField_eq ?_, regField_eq ?_, ?_⟩ <;> simp [fieldOf, wordA] <;> omega

theorem fields_wordI (i : BitVec 16) (hop : op < 64) :
    fieldOf (wordI op d a i.toNat) 31 26 = op ∧ regField (wordI op d a i.toNat) 21 = d ∧ regField (wordI op d a i.toNat) 16 = a ∧
    BitVec.ofNat 16 (fieldOf (wordI op d a i.toNat) 15 0) = i := by
  have hd := d.isLt
  have ha := a.isLt
  have hi := i.isLt
  refine ⟨?_, regField_eq ?_, regField_eq ?_, BitVec.eq_of_toNat_eq ?_⟩ <;> simp [fieldOf, wordI] <;> omega

theorem fields_wordJ (i : BitVec 26) (hop : op < 64) :
    fieldOf (wordJ op i.toNat) 31 26 = op ∧ BitVec.ofNat 26 (fieldOf (wordJ op i.toNat) 25 0) = i := by
  have hi := i.isLt
  refine ⟨?_, BitVec.eq_of_toNat_eq ?_⟩ <;> simp [fieldOf, wordJ] <;> omega

end

section
variable {w : BitVec 32} {op fn : Nat} (hop : fieldOf w 31 26 = op)
include hop

theorem wordA_fields (hfn : fieldOf w 10 0 = fn) : wordA op (regField w 21) (regField w 16) (regField w 11) fn = w := by
  have hw := w.isLt
  subst hop hfn
  apply BitVec.eq_of_toNat_eq
  simp only [wordA, val_regField, fieldOf, BitVec.toNat_ofNat]
  omega

theorem wordI_fields : wordI op (regField w 21) (regField w 16) (BitVec.ofNat 16 (fieldOf w 15 0)).toNat = w := by
  have hw := w.isLt
  subst hop
  apply BitVec.eq_of_toNat_eq
  simp only [wordI, val_regField, fieldOf, BitVec.toNat_ofNat]
  omega

theorem wordJ_fields : wordJ op (BitVec.ofNat 26 (fieldOf w 25 0)).toNat = w := by
  have hw := w.isLt
  subst hop
  apply BitVec.eq_of_toNat_eq
  simp only [wordJ, fieldOf, BitVec.toNat_ofNat]
  omega

end

/-! ### The codes of each table: every operation is found by its own code -/

theorem AluOp.find_code (o : AluOp) : AluOp.every.find? (fun x => x.code == o.code) = some o := by cases o <;> rfl
theorem SysOp.find_code (o : SysOp) : SysOp.every.find? (fun x => x.code == o.code) = some o := by cases o <;> rfl
theorem AmoOp.find_code (o : AmoOp) : AmoOp.every.find? (fun x => x.code == o.code) = some o := by cases o <;> rfl
theorem ImmOp.find_code (o : ImmOp) : ImmOp.every.find? (fun x => x.code == o.code) = some o := by cases o <;> rfl
theorem MemOp.find_code (o : MemOp) : MemOp.every.find? (fun x => x.code == o.code) = some o := by cases o <;> rfl
theorem BrOp.find_code (o : BrOp) : BrOp.every.find? (fun x => x.code == o.code) = some o := by cases o <;> rfl

theorem AluOp.code_lt (o : AluOp) : o.code < 2048 := by cases o <;> decide
theorem SysOp.code_lt (o : SysOp) : o.code < 2048 := by cases o <;> decide
theorem AmoOp.code_lt (o : AmoOp) : o.code < 16 := by cases o <;> decide

/-- An operation with the opcode `n` of its own: `decodeDyris` reaches the tables of the immediate, memory and branch operations. -/
def tabled (n : Nat) : Prop := n < 64 ∧ n ≠ 0x00 ∧ n ≠ 0x01 ∧ n ≠ 0x02 ∧ n ≠ 0x24 ∧ ¬ (n = 0x30 ∨ n = 0x31)

theorem ImmOp.tabled_code (o : ImmOp) : tabled o.code := by cases o <;> unfold tabled <;> decide
theorem MemOp.tabled_code (o : MemOp) : tabled o.code ∧ ImmOp.every.find? (fun x => x.code == o.code) = none := by
  cases o <;> unfold tabled <;> decide
theorem BrOp.tabled_code (o : BrOp) :
    tabled o.code ∧ ImmOp.every.find? (fun x => x.code == o.code) = none ∧ MemOp.every.find? (fun x => x.code == o.code) = none := by
  cases o <;> unfold tabled <;> decide

/-- The fn of an atomic (Table 4.13), taken apart as the decoder does. -/
theorem amo_fn (r : BitVec 4) (ord : BitVec 2) (w : Bool) {n : Nat} (hn : n < 16) :
    let fn := r.toNat * 128 + ord.toNat * 32 + (if w then 16 else 0) + n
    fn < 2048 ∧ fn % 16 = n ∧ BitVec.ofNat 4 (fn / 128) = r ∧ BitVec.ofNat 2 (fn / 32) = ord ∧ (fn / 16 % 2 == 1) = w := by
  intro fn
  have hr := r.isLt
  have ho := ord.isLt
  have hw : (if w then 16 else 0) = 16 * w.toNat := by cases w <;> rfl
  have hb := w.toNat_lt
  have hfn : fn = r.toNat * 128 + ord.toNat * 32 + 16 * w.toNat + n := by rw [← hw]
  refine ⟨by omega, by omega, BitVec.eq_of_toNat_eq ?_, BitVec.eq_of_toNat_eq ?_, ?_⟩
  · rw [BitVec.toNat_ofNat]
    omega
  · rw [BitVec.toNat_ofNat]
    omega
  · rw [show fn / 16 % 2 = w.toNat by omega]
    cases w <;> rfl

/-- The fn of an atomic, put together from what the decoder takes out of it. -/
theorem amo_fn_of_fields {fn n : Nat} (h : fn < 2048) (hn : n = fn % 16) :
    (BitVec.ofNat 4 (fn / 128)).toNat * 128 + (BitVec.ofNat 2 (fn / 32)).toNat * 32 + (if (fn / 16 % 2 == 1) = true then 16 else 0) + n = fn := by
  rw [BitVec.toNat_ofNat, BitVec.toNat_ofNat]
  simp only [beq_iff_eq]
  split <;> omega

/-! ### The round trip -/

section
variable {w : BitVec 32} (h : tabled (fieldOf w 31 26))
include h

theorem decode_imm {o : ImmOp} (ho : ImmOp.every.find? (fun o => o.code == fieldOf w 31 26) = some o) :
    decodeDyris w = some (.imm o (regField w 21) (regField w 16) (BitVec.ofNat 16 (fieldOf w 15 0))) := by
  obtain ⟨-, h0, h1, h2, h24, h30⟩ := h
  simp only [decodeDyris, if_neg h0, if_neg h1, if_neg h2, if_neg h24, if_neg h30, ho]

theorem decode_mem {o : MemOp} (himm : ImmOp.every.find? (fun o => o.code == fieldOf w 31 26) = none)
    (ho : MemOp.every.find? (fun o => o.code == fieldOf w 31 26) = some o) :
    decodeDyris w = some (.mem o (regField w 21) (regField w 16) (BitVec.ofNat 16 (fieldOf w 15 0))) := by
  obtain ⟨-, h0, h1, h2, h24, h30⟩ := h
  simp only [decodeDyris, if_neg h0, if_neg h1, if_neg h2, if_neg h24, if_neg h30, himm, ho]

theorem decode_br {o : BrOp} (himm : ImmOp.every.find? (fun o => o.code == fieldOf w 31 26) = none)
    (hmem : MemOp.every.find? (fun o => o.code == fieldOf w 31 26) = none)
    (ho : BrOp.every.find? (fun o => o.code == fieldOf w 31 26) = some o) :
    decodeDyris w = some (.br o (regField w 21) (regField w 16) (BitVec.ofNat 16 (fieldOf w 15 0))) := by
  obtain ⟨-, h0, h1, h2, h24, h30⟩ := h
  simp only [decodeDyris, if_neg h0, if_neg h1, if_neg h2, if_neg h24, if_neg h30, himm, hmem, ho, Option.map_some]

end

theorem decode_encode (i : DInstr) : decodeDyris (encodeDyris i) = some i := by
  cases i with
  | alu o d a b =>
    obtain ⟨hop, hd, ha, hb, hfn⟩ := fields_wordA d a b (op := 0x00) (by decide) o.code_lt
    simp only [decodeDyris, encodeDyris, hop, hd, ha, hb, hfn, o.find_code]
    rfl
  | sys o d a b =>
    obtain ⟨hop, hd, ha, hb, hfn⟩ := fields_wordA d a b (op := 0x01) (by decide) o.code_lt
    simp only [decodeDyris, encodeDyris, hop, hd, ha, hb, hfn, o.find_code]
    rfl
  | amo o r ord w d a b =>
    obtain ⟨hlt, hcode, hr, hord, hw⟩ := amo_fn r ord w o.code_lt
    obtain ⟨hop, hd, ha, hb, hfn⟩ := fields_wordA d a b (op := 0x02) (by decide) hlt
    simp only [decodeDyris, encodeDyris, hop, hd, ha, hb, hfn, hcode, hr, hord, hw, o.find_code]
    rfl
  | imm o d a i =>
    have ht := o.tabled_code
    obtain ⟨hop, hd, ha, hi⟩ := fields_wordI d a i ht.1
    rw [encodeDyris, decode_imm (by rwa [hop]) (by rw [hop, o.find_code]), hd, ha, hi]
  | mem o d a i =>
    obtain ⟨ht, himm⟩ := o.tabled_code
    obtain ⟨hop, hd, ha, hi⟩ := fields_wordI d a i ht.1
    rw [encodeDyris, decode_mem (by rwa [hop]) (by rwa [hop]) (by rw [hop, o.find_code]), hd, ha, hi]
  | br o a b i =>
    obtain ⟨ht, himm, hmem⟩ := o.tabled_code
    obtain ⟨hop, hd, ha, hi⟩ := fields_wordI a b i ht.1
    rw [encodeDyris, decode_br (by rwa [hop]) (by rwa [hop]) (by rwa [hop]) (by rw [hop, o.find_code]), hd, ha, hi]
  | jalr d a i =>
    obtain ⟨hop, hd, ha, hi⟩ := fields_wordI d a i (op := 0x24) (by decide)
    simp only [decodeDyris, encodeDyris, hop, hd, ha, hi]
    rfl
  | jump l i =>
    have hlt : (if l then 0x31 else 0x30) < 64 := by cases l <;> decide
    obtain ⟨hop, hi⟩ := fields_wordJ i hlt
    simp only [decodeDyris, encodeDyris, hop, hi]
    cases l <;> rfl

/-- The operation that a table's search finds has the code searched for. -/
theorem find_map_some {α β : Type} {l : List α} {code : α → Nat} {n : Nat} {f : α → β} {i : β}
    (h : (l.find? (fun o => code o == n)).map f = some i) : ∃ o, code o = n ∧ f o = i := by
  obtain ⟨o, ho, hi⟩ := Option.map_eq_some_iff.mp h
  exact ⟨o, by simpa using List.find?_some ho, hi⟩

theorem encode_of_decode {w : BitVec 32} {i : DInstr} (h : decodeDyris w = some i) : encodeDyris i = w := by
  unfold decodeDyris at h
  dsimp only at h
  split at h
  case isTrue hop =>
    obtain ⟨o, hc, rfl⟩ := find_map_some h
    exact wordA_fields hop hc.symm
  case isFalse =>
  split at h
  case isTrue hop =>
    obtain ⟨o, hc, rfl⟩ := find_map_some h
    exact wordA_fields hop hc.symm
  case isFalse =>
  split at h
  case isTrue hop =>
    obtain ⟨o, hc, rfl⟩ := find_map_some h
    exact wordA_fields hop (amo_fn_of_fields (fieldOf_lt w 10 0) hc).symm
  case isFalse =>
  split at h
  case isTrue hop =>
    obtain rfl := Option.some.inj h
    exact wordI_fields hop
  case isFalse =>
  split at h
  case isTrue hop =>
    obtain rfl := Option.some.inj h
    have hlink : fieldOf w 31 26 = if (fieldOf w 31 26 == 0x31) = true then 0x31 else 0x30 := by
      rcases hop with hop | hop <;> rw [hop] <;> rfl
    exact wordJ_fields hlink
  case isFalse =>
  split at h
  next o ho =>
    have hc : o.code = fieldOf w 31 26 := by simpa using List.find?_some ho
    obtain rfl := Option.some.inj h
    exact wordI_fields hc.symm
  next =>
  split at h
  next o ho =>
    have hc : o.code = fieldOf w 31 26 := by simpa using List.find?_some ho
    obtain rfl := Option.some.inj h
    exact wordI_fields hc.symm
  next =>
    obtain ⟨o, hc, rfl⟩ := find_map_some h
    exact wordI_fields hc.symm

/-- Settles O14: a word's fields are taken apart by the decoder and put together by the encoder, and no table lists a code twice. -/
theorem dyrisEncodingRoundTrip : Obligations.DyrisEncodingRoundTrip := by
  unfold Obligations.DyrisEncodingRoundTrip
  exact ⟨decode_encode, fun _ _ => encode_of_decode⟩

/-- Settles O15: each word is evaluated. -/
theorem dyrisWordsFromTheTables : Obligations.DyrisWordsFromTheTables := by
  unfold Obligations.DyrisWordsFromTheTables
  decide

end Sys2Proof
end

section
/-! PROOFS. What the operations of the machine keep: memory in its canonical form, the banks at legal levels, good parity (R99, R103). -/

namespace Sys2Proof.Machine

open Sys2Proof

/-! ### The relation between a state and one that operations lead to -/

/-- Every register's parity matches it (R99). -/
def GoodParity (s : State) : Prop := ∀ x, (bankOf s x).badParity = 0

/-- `t` has canonical memory, legal levels and good parity where `s` has them. -/
structure Keeps (s t : State) : Prop where
  mem : Memory.wf s.mem = true → Memory.wf t.mem = true
  levels : LegalLevels s → LegalLevels t
  parity : GoodParity s → GoodParity t

section
variable {s t u : State}

theorem Keeps.refl (s : State) : Keeps s s := ⟨id, id, id⟩

theorem Keeps.trans (h : Keeps s t) (k : Keeps t u) : Keeps s u := ⟨k.mem ∘ h.mem, k.levels ∘ h.levels, k.parity ∘ h.parity⟩

/-- An operation that touches neither memory nor a bank keeps all three. -/
theorem Keeps.of_eq (h : Keeps s t) (hm : u.mem = t.mem) (hb : u.cpu.banks = t.cpu.banks) : Keeps s u := by
  have hbank (x : Nat) : bankOf u x = bankOf t x := by rw [bankOf, bankOf, hb]
  exact h.trans ⟨fun h => hm ▸ h, fun h x => hbank x ▸ h x, fun h x => hbank x ▸ h x⟩

theorem Keeps.ite {p : Prop} [Decidable p] (h : Keeps s t) (k : Keeps s u) : Keeps s (if p then t else u) := by
  split
  · exact h
  · exact k

theorem Keeps.forEach {α : Type} {l : List α} {f : α → State → State} (h : Keeps s t) (hf : ∀ a {v}, Keeps s v → Keeps s (f a v)) :
    Keeps s (forEach l f t) := by
  induction l generalizing t with
  | nil => exact h
  | cons a l ih => exact ih (hf a h)

/-- A bank replaced by one at legal levels and with good parity. -/
theorem Keeps.setBank {x : Nat} {b : Bank} (h : Keeps s t) (hl : LegalLevels t → b.priv ≤ 2 ∧ b.ppriv ≤ 2)
    (hp : GoodParity t → b.badParity = 0) : Keeps s (setBank x b t) := by
  have hbank {p : Bank → Prop} (hb : p b) (ht : ∀ y, p (bankOf t y)) (y : Nat) : p (bankOf (Machine.setBank x b t) y) := by
    by_cases hy : y = x
    · rwa [hy, bankOf_setBank]
    · rw [bankOf_setBank_other _ _ _ _ hy]
      exact ht y
  exact h.trans ⟨id, fun h => hbank (p := fun b => b.priv ≤ 2 ∧ b.ppriv ≤ 2) (hl h) h,
    fun h => hbank (p := fun b => b.badParity = 0) (hp h) h⟩

/-- A context's bank replaced by itself with its PC and interrupt enables changed, at a legal level. -/
theorem Keeps.editBank {x : Nat} {b : Bank} (h : Keeps s t) (hl : b.priv ≤ 2 ∨ b.priv = (bankOf t x).priv ∨ b.priv = (bankOf t x).ppriv)
    (hpp : b.ppriv = (bankOf t x).ppriv ∨ b.ppriv = (bankOf t x).priv) (hp : b.badParity = (bankOf t x).badParity) :
    Keeps s (Machine.setBank x b t) := by
  refine h.setBank (fun h => ?_) (fun h => hp.trans (h x))
  have := h x
  omega

theorem Keeps.memWrite {k : Nat} {l : List Byte} (h : Keeps s t) : Keeps s (memWrite k l t) := h.trans ⟨memWrite_wf k l t, id, id⟩

end

/-! ### Updates that touch neither memory nor a bank -/

section
variable {s t : State} (h : Keeps s t)
include h

theorem Keeps.rset {f : Field} {v i : Nat} : Keeps s (rset f v t i) := h.of_eq rfl rfl
theorem Keeps.rinc {f : Field} {n i : Nat} : Keeps s (rinc f n t i) := h.of_eq rfl rfl
theorem Keeps.rflag {f : Field} {b : Bool} {i : Nat} : Keeps s (rflag f b t i) := h.of_eq rfl rfl
theorem Keeps.rputBit {f : Field} {b : Nat} {v : Bool} {i : Nat} : Keeps s (rputBit f b v t i) := h.of_eq rfl rfl
theorem Keeps.emit {o : Output} : Keeps s (emit o t) := h.of_eq rfl rfl
theorem Keeps.tickFree : Keeps s (tickFree t) := h.of_eq rfl rfl
theorem Keeps.setCore {c : CoreId} {k : Core} : Keeps s (setCore c k t) := h.of_eq rfl rfl
theorem Keeps.setTok {x e : Nat} {k : TokEntry} : Keeps s (setTok x e k t) := h.of_eq rfl rfl
theorem Keeps.setSlot {i : Nat} {x : Slot} : Keeps s (setSlot i x t) := h.of_eq rfl rfl
theorem Keeps.setQ {i : Nat} {l : List Task} : Keeps s (setQ i l t) := h.of_eq rfl rfl
theorem Keeps.setHq {k : Nat} {q : HQueue} : Keeps s (setHq k q t) := h.of_eq rfl rfl
theorem Keeps.setCtrl {n : Nat} {c : Ctrl} : Keeps s (setCtrl n c t) := h.of_eq rfl rfl
theorem Keeps.setBuf {n : Nat} {b : Buf} : Keeps s (setBuf n b t) := h.of_eq rfl rfl
theorem Keeps.setEngQueue {e u : Nat} {l : List Chain} : Keeps s (setEngQueue e u l t) := h.of_eq rfl rfl
theorem Keeps.withMismatch {l : List Nat} : Keeps s { t with cpu := { t.cpu with mismatch := l } } := h.of_eq rfl rfl
theorem Keeps.withTask {x : TaskSt} : Keeps s { t with task := x } := h.of_eq rfl rfl
theorem Keeps.withFence {x : Fence} : Keeps s { t with fence := x } := h.of_eq rfl rfl
theorem Keeps.withHost {x : HostSt} : Keeps s { t with host := x } := h.of_eq rfl rfl
theorem Keeps.withMir {x : Mir} : Keeps s { t with mir := x } := h.of_eq rfl rfl
theorem Keeps.withArr {x : Arr} : Keeps s { t with arr := x } := h.of_eq rfl rfl
theorem Keeps.withEng {x : Eng} : Keeps s { t with eng := x } := h.of_eq rfl rfl
theorem Keeps.withFlt {x : Flt} : Keeps s { t with flt := x } := h.of_eq rfl rfl
theorem Keeps.withBpm {x : Bpm} : Keeps s { t with bpm := x } := h.of_eq rfl rfl
theorem Keeps.record {a b n : Nat} {p : List Byte} : Keeps s (record a b n p t) := h.of_eq (record_mem ..) (congrArg _ (record_cpu ..))
theorem Keeps.recordFw {a b n : Nat} {p : List Byte} : Keeps s (recordFw a b n p t) :=
  h.of_eq (recordFw_mem ..) (congrArg _ (recordFw_cpu ..))

end

/-! ### Registers, levels and exceptions -/

@[simp] theorem gput_priv (r : Rn) (v : Word) (b : Bank) : (gput r v b).priv = b.priv := by
  unfold gput
  split <;> rfl

@[simp] theorem gput_ppriv (r : Rn) (v : Word) (b : Bank) : (gput r v b).ppriv = b.ppriv := by
  unfold gput
  split <;> rfl

/-- A register write leaves good parity good (R99). -/
theorem gput_badParity {r : Rn} {v : Word} {b : Bank} (h : b.badParity = 0) : (gput r v b).badParity = 0 := by
  unfold gput
  split
  · exact h
  · simp [h]

section
variable {c : CoreId} {s t : State} (h : Keeps s t)
include h

theorem Keeps.wr {r : Rn} {v : Word} : Keeps s (wr c r v t) :=
  h.setBank (fun hl => by simpa using hl (ctxOf t c)) (fun hp => gput_badParity (hp _))

theorem Keeps.setPc {v : Word} : Keeps s (setPc c v t) := h.editBank (.inr (.inl rfl)) (.inl rfl) rfl

theorem Keeps.enterS {e : Exc} {epc target : Word} {fromH : Bool} : Keeps s (enterS c e epc target fromH t) := by
  unfold Machine.enterS
  refine .ite ?_ (.rset ?_) <;> exact .editBank (.setCore h) (.inl (Nat.zero_le 2)) (.inr rfl) rfl

theorem Keeps.leaveH {e : Exc} {fpc : Word} : Keeps s (leaveH c e fpc t) := by
  unfold Machine.leaveH
  refine .ite ?_ (.withTask ?_) <;> exact .editBank (.setCore h) (.inl (Nat.le_succ 1)) (.inl rfl) rfl

theorem Keeps.takeException {e : Exc} : Keeps s (takeException c e t) := by
  unfold Machine.takeException
  exact .ite (.ite (.rinc (.leaveH h)) (.leaveH h)) (.enterS h)

theorem Keeps.takeIrq {l : Nat} : Keeps s (takeIrq c l t) := .enterS h

theorem Keeps.returnS : Keeps s (returnS c t) := h.editBank (.inr (.inr rfl)) (.inl rfl) rfl

theorem Keeps.hookErr {src hook : Nat} {overrun : Bool} : Keeps s (hookErr src hook overrun t) := by
  unfold Machine.hookErr
  exact .ite (.recordFw (.rputBit (.withTask (.withTask (.recordFw h))))) (.withTask (.recordFw h))

theorem Keeps.raise {e : Exc} : Keeps s (raise c e t) := by
  unfold Machine.raise
  exact .ite (.hookErr (.takeException h)) (.takeException h)

theorem Keeps.countInstr {n : Nat} : Keeps s (countInstr c n t) := .setCore h

theorem Keeps.retire {n : Nat} : Keeps s (retire c n t) := by
  unfold Machine.retire
  exact .ite (.ite (.raise (.setCore (.countInstr h))) (.setCore (.countInstr h))) (.countInstr h)

theorem Keeps.lockstep : Keeps s (lockstep c t).2 := by
  unfold Machine.lockstep
  dsimp only
  split
  · exact h
  split
  · exact .record (.withMismatch h)
  · exact .withFence (.setCore (.record (.record (.withMismatch h))))

end

/-! ### The frame of an instruction -/

/-- The state that an instruction's body leaves. -/
def IRes.state : IRes → State
  | .done s | .jump s _ | .stay s | .exc _ s | .off _ s | .left s => s

/-- No register fails its parity check where the parity is good. -/
theorem badReg_of_good {b : Bank} (h : b.badParity = 0) (l : List Rn) : badReg b l = none := by
  simp [badReg, h]

/-- The registers that an instruction of core `c` reads pass their parity check once the pair has been compared. -/
def GoodReads (c : CoreId) (reads : List Rn) (s : State) : Prop :=
  badReg (bankOf (lockstep c s).2 (ctxOf (lockstep c s).2 c)) reads = none

theorem GoodParity.reads {c : CoreId} {reads : List Rn} {s : State} (h : GoodParity s) : GoodReads c reads s :=
  badReg_of_good ((Keeps.lockstep (.refl s)).parity h _) reads

theorem Fetches.reads {c : CoreId} {reads : List Rn} {s : State} (h : Fetches c reads s) : GoodReads c reads s := by
  unfold GoodReads
  rw [lockstep_quiet c s h.2.1]
  exact h.2.2.1

/-- An instruction whose body keeps the invariant keeps it, whatever exception it meets, when its registers pass their parity check. -/
theorem runInstr_keeps {c : CoreId} {n : Nat} {reads : List Rn} {ill : Bool} {levels : List Nat} {body : State → IRes} {s : State}
    (hr : GoodReads c reads s) (hbody : ∀ t, Keeps s t → Keeps s (body t).state) : Keeps s (runInstr c n reads ill levels body s) := by
  unfold runInstr
  split
  · exact .refl s
  have hl : Keeps s (lockstep c s).2 := .lockstep (.refl s)
  unfold GoodReads at hr
  generalize lockstep c s = r at hl hr
  obtain ⟨halted, u⟩ := r
  dsimp only at hl hr ⊢
  split
  · exact hl
  rw [hr]
  dsimp only
  split
  · exact .raise (.setCore hl)
  split
  · exact .raise hl
  split
  · exact .raise hl
  have hb := hbody u hl
  generalize body u = q at hb
  cases q with
  | done v => exact .retire (.setPc hb)
  | jump v p => exact .retire (.setPc hb)
  | stay v => exact hb
  | exc e v => exact .raise hb
  | off e v => exact .raise (.countInstr hb)
  | left v => exact .countInstr hb

end Sys2Proof.Machine
end

section
/-! PROOFS. The silicon's and the Array Runtime's operations that Dyris instructions reach keep memory canonical, levels legal and parity good. -/

namespace Sys2Proof.Machine

open Sys2Proof

/-- Of an answer with a state, that state. -/
theorem Keeps.of_snd {α : Type} {s v : State} {p : α × State} {a : α} (h : Keeps s p.2) (he : p = (a, v)) : Keeps s v := by
  subst he
  exact h

theorem Keeps.ite_snd {α : Type} {s : State} {p : Prop} [Decidable p] {a b : α × State} (ha : Keeps s a.2) (hb : Keeps s b.2) :
    Keeps s (if p then a else b).2 := by
  split
  · exact ha
  · exact hb

section
variable {s t : State} (h : Keeps s t)
include h

/-! ### DRAM errors and reads of memory (R415, R417, R484) -/

theorem Keeps.memUe {a ch : Nat} : Keeps s (memUe a ch t) := by
  unfold Machine.memUe
  exact .ite (.record h) (.rset (.rset (.rflag (.record h))))

theorem Keeps.rowEntry {ch row : Nat} : Keeps s (rowEntry ch row t).2 := by
  unfold Machine.rowEntry
  dsimp only
  split
  · exact .withFlt h
  split
  · exact .withFlt h
  · exact .withFlt (.rinc (.withFlt h))

theorem Keeps.fltError {k i : Nat} : Keeps s (fltError k i t).2 := by
  unfold Machine.fltError
  exact .ite_snd (.rinc (.rputBit (.withFlt (.ite h (.rset h))))) (.withFlt (.ite h (.rset h)))

theorem Keeps.retireRow {ch row : Nat} : Keeps s (retireRow ch row t) := by
  unfold Machine.retireRow
  dsimp only
  exact .ite (.record (.ite (.ite (.rputBit (.rinc (.withFlt h))) (.rinc (.withFlt h))) h)) (.record h)

theorem Keeps.memCe {ch row : Nat} {patrol : Bool} : Keeps s (memCe ch row patrol t) := by
  unfold Machine.memCe
  dsimp only
  refine .ite (.record ?_) (.ite (.retireRow (.fltError (.rowEntry (.record ?_)))) (.fltError (.rowEntry (.record ?_))))
  all_goals exact .ite (.rinc (.rinc h)) (.rinc h)

theorem Keeps.touchLines {l n : Nat} : Keeps s (touchLines l n t).2 := by
  induction n generalizing l t with
  | zero => exact h
  | succ n ih =>
    unfold Machine.touchLines
    split
    next bad u hu =>
    have hu : Keeps s u := by
      refine .of_snd ?_ hu
      split
      · exact .memUe h
      · exact .memCe h
      · exact h
    exact ih hu

theorem Keeps.readMem {k n : Nat} : Keeps s (readMem k n t).2 := by
  unfold Machine.readMem
  split
  · exact .touchLines h
  · exact h

theorem Keeps.loadBytes {c : CoreId} {a : Word} {n : Nat} : Keeps s (loadBytes c a n t).2 := by
  unfold Machine.loadBytes
  split
  · exact h
  · exact .readMem h

/-! ### Islands (R425, R427) -/

theorem Keeps.withPwr {x : Pwr} : Keeps s { t with pwr := x } := h.of_eq rfl rfl

theorem Keeps.ungateIsland {i : Nat} : Keeps s (ungateIsland i t) := by
  unfold Machine.ungateIsland
  exact .withPwr (.rputBit (.ite h (.rputBit h)))

theorem Keeps.ungate {a : Nat} : Keeps s (ungate a t) := h.of_eq (ungate_mem a t) (congrArg _ (ungate_cpu a t))

/-! ### The buffer pool (R141 to R149) -/

theorem Keeps.bpmFailAs {form : Bool} {src code g : Nat} : Keeps s (bpmFailAs form src code g t) := by
  unfold Machine.bpmFailAs
  dsimp only
  refine .record (.rinc ?_)
  split
  case h_6 => exact .ite h (.rset (.rflag (.rset (.rset h))))
  all_goals exact .rflag (.ite h (.rset (.rflag (.rset (.rset h)))))

theorem Keeps.bpmFail {src code g : Nat} : Keeps s (bpmFail src code g t) := .bpmFailAs h

theorem Keeps.setFree {d c n : Nat} : Keeps s (setFree d c n t) := by
  unfold Machine.setFree
  exact .ite (.rset (.rset h)) (.rset h)

theorem Keeps.popFree {d c : Nat} : Keeps s (popFree d c t).2 := by
  unfold Machine.popFree
  dsimp only
  split <;> exact .withBpm h

theorem Keeps.takeFrom {r : Req} {d n c : Nat} : Keeps s (takeFrom r d n c t).2 := by
  induction n generalizing c t with
  | zero => exact h
  | succ n ih =>
    unfold Machine.takeFrom
    split
    · exact .setBuf (.setFree (.popFree h))
    · exact ih (.rinc (.ite (.rinc h) h))

theorem Keeps.bpmAlloc {r : Req} {d c : Nat} : Keeps s (bpmAlloc r d c t).2 := by
  unfold Machine.bpmAlloc
  split
  · exact h
  · exact .takeFrom h

theorem Keeps.dropRef {b : Nat} : Keeps s (dropRef b t) := by
  unfold Machine.dropRef
  exact .ite (.setFree (.withBpm (.setBuf h))) (.setBuf h)

theorem Keeps.dropAll {l : List Nat} : Keeps s (dropAll l t) := .forEach h fun _ _ hv => .ite hv (.dropRef hv)

/-! ### Slots and tokens (R85, R86, R115, R125) -/

theorem Keeps.selectNext {c : Nat} : Keeps s (selectNext c t) := by
  unfold Machine.selectNext
  dsimp only
  split
  next hc =>
    split
    · exact h
    split
    · exact h
    split
    · exact .setSlot (.editBank (b := { bankOf t _ with pc := _, priv := 1 }) (.setCore h) (.inl (Nat.le_succ 1)) (.inl rfl) rfl)
    · refine .setSlot (.setBank (.setCore h) (fun hl => ?_) (fun hp => ?_))
      · split
        · simpa using hl _
        · exact hl _
      · split
        · exact gput_badParity (hp _)
        · exact hp _
  next => exact h

theorem Keeps.leaveSlot {c : Nat} : Keeps s (leaveSlot c t) := by
  unfold Machine.leaveSlot
  split
  · exact .selectNext (.setCore h)
  · exact h

theorem Keeps.giveUpBuffer {k : Task} : Keeps s (giveUpBuffer k t) := by
  unfold Machine.giveUpBuffer
  split
  · exact .ite (.dropAll h) (.withHost h)
  · exact .dropAll h
  · exact h

theorem Keeps.dropWaits {i : Nat} : Keeps s (dropWaits i t) := by
  unfold Machine.dropWaits
  split
  · exact h
  · exact h.of_eq rfl rfl

theorem Keeps.freeSlot {i : Nat} : Keeps s (freeSlot i t) := by
  unfold Machine.freeSlot
  dsimp only
  refine .ite (.leaveSlot (.setSlot ?_)) (.setSlot ?_) <;>
    exact .forEach (.dropWaits h) fun _ _ hv => .ite (.setTok hv) hv

theorem Keeps.tokComplete {x e n : Nat} {j : JobEnd} : Keeps s (tokComplete x e n j t) := by
  unfold Machine.tokComplete
  dsimp only
  split
  · exact h
  split
  · exact .setTok (.ite (.setQ h) h)
  split
  · exact .ite (.selectNext (.setSlot (.setTok (.ite (.setQ h) h)))) (.setTok (.ite (.setQ h) h))
  · exact .setTok (.ite (.setQ h) h)

/-! ### The mirror's open epoch (R325 to R331, R346, R351) -/

theorem Keeps.egress {o : Output} : Keeps s (egress o t) := by
  unfold Machine.egress
  exact .ite (.ite h (.withFence h)) (.emit h)

theorem Keeps.settleBarriers : Keeps s (settleBarriers t) := by
  unfold Machine.settleBarriers
  exact .forEach (.withMir h) fun _ _ hv => .tokComplete hv

theorem Keeps.confirmRec {r : ERecord} : Keeps s (confirmRec r t) := by
  unfold Machine.confirmRec
  split
  · exact .egress (.withArr h)
  · exact h

theorem Keeps.abandonSlot {i : Nat} : Keeps s (abandonSlot i t) := .freeSlot (.giveUpBuffer h)

theorem Keeps.handoverClose {gs : List Nat} {toB : Bool} : Keeps s (handoverClose gs toB t) := by
  unfold Machine.handoverClose
  exact .forEach (.setQ (.forEach (.withArr (.forEach h fun _ _ hv => .rputBit hv)) fun _ _ hv => .ite (.abandonSlot hv) hv))
    fun _ _ hv => .giveUpBuffer hv

theorem Keeps.closeRec {r : ERecord} : Keeps s (closeRec r t) := by
  unfold Machine.closeRec
  split
  · exact .handoverClose h
  · exact h

theorem Keeps.longPeriod : Keeps s (longPeriod t) := by
  unfold Machine.longPeriod
  exact .ite (.rset h) h

end

section
variable {s t : State} (h : Keeps s t)
include h

/-- The open epoch ends and the next opens, or no further one does. -/
theorem Keeps.closeEpoch : Keeps s (closeEpoch t) := by
  unfold Machine.closeEpoch
  dsimp only
  refine .ite h (.ite (.rflag h) (.ite h (.ite (.settleBarriers (.forEach (.withMir ?_) fun _ _ hv => .confirmRec hv)) (.rset (.withMir ?_)))))
  all_goals
    refine .ite (.forEach (.rflag ?_) fun _ _ hv => .closeRec hv) (.emit (.forEach (.rflag ?_) fun _ _ hv => .closeRec hv))
  all_goals exact .ite (.record (.withMir (.withMir h))) (.longPeriod (.rset (.withMir h)))

theorem Keeps.addRec {slot : Nat} {g : Option Nat} {r : ERec} : Keeps s (addRec slot g r t).2 := by
  unfold Machine.addRec
  dsimp only
  refine .ite (.closeEpoch (.withMir ?_)) (.withMir ?_)
  all_goals
    split
    · exact .withMir (.ite (.closeEpoch h) h)
    · exact .ite (.closeEpoch h) h

/-! ### Completions of host commands, and what they let go on (R43, R45, R67, R68, R87) -/

theorem Keeps.noteError {m : HbMsg} {cqe : Cqe} : Keeps s (noteError m cqe t) := by
  unfold Machine.noteError
  exact .ite h (.withHost h)

theorem Keeps.closeCmd {id : CmdId} : Keeps s (closeCmd id t) := by
  unfold Machine.closeCmd
  exact .ite (.egress (.setHq h)) (.setHq h)

theorem Keeps.postCpl {slot : Nat} {k : Task} {cqe : Cqe} {mirror : Bool} : Keeps s (postCpl slot k cqe mirror t) := by
  unfold Machine.postCpl
  split
  · exact h
  · exact .ite (.egress (.closeCmd (.noteError h))) (.addRec (.closeCmd (.setHq (.noteError h))))

theorem Keeps.endTask {k : Task} {cqe : Cqe} : Keeps s (endTask k cqe t) := by
  unfold Machine.endTask
  split
  · exact .freeSlot (.postCpl h)
  · exact .postCpl h

theorem Keeps.endReset {r : Nat × Nat × Option Task} : Keeps s (endReset r t) := by
  unfold Machine.endReset
  dsimp only
  split
  · exact .endTask (.setHq h)
  · exact .ite (.setCtrl (.setHq h)) (.setHq h)

theorem Keeps.settleQueues : Keeps s (settleQueues t) := by
  unfold Machine.settleQueues
  dsimp only
  refine .forEach (.forEach (.forEach (.withHost h) fun _ _ hv => .endTask hv) fun _ _ hv => ?_) fun _ _ hv => ?_
  all_goals exact .ite (.endReset (.withHost hv)) hv

/-! ### Chains and jobs (R121 to R126, R148, R207, R543) -/

theorem Keeps.countJob {e st : Nat} : Keeps s (countJob e st t) := by
  unfold Machine.countJob
  split
  · exact .ite (.rinc h) (.ite (.rinc h) h)
  · exact .ite (.rinc h) (.ite (.rinc h) h)
  · exact .ite (.rinc h) (.ite (.rinc h) (.ite (.rinc h) (.ite (.rinc h) h)))
  · exact .ite (.rinc h) (.ite (.rinc h) (.ite (.rinc h) (.ite (.rinc h) h)))
  · exact .ite (.rinc h) (.ite (.rinc h) (.ite (.rinc h) h))
  · exact h

theorem Keeps.clearOut {d : Desc} : Keeps s (clearOut d t) := by
  unfold Machine.clearOut
  split
  · exact h
  split
  · exact .setBuf h
  · exact h

theorem Keeps.endChain {c : Chain} {d : Desc} {r : JobRes} : Keeps s (endChain c d r t) := by
  unfold Machine.endChain
  dsimp only
  refine .ite (.withEng (.countJob (.dropAll ?_))) (.tokComplete (.countJob (.dropAll ?_)))
  all_goals exact .ite h (.clearOut h)

theorem Keeps.outBuf {d : Desc} : Keeps s (outBuf d t).2 := by
  unfold Machine.outBuf
  split
  · split
    · exact h
    split
    next hb => exact .of_snd (.bpmAlloc h) hb
    next hb => exact .of_snd (.bpmAlloc h) hb
  · dsimp only
    split
    · exact .bpmFail h
    · exact h

theorem Keeps.noUnit {c : Chain} {d : Desc} : Keeps s (noUnit c d t).2 := by
  unfold Machine.noUnit
  split
  · exact h
  dsimp only
  split
  · exact .bpmFail h
  split
  next hb => exact .of_snd (.outBuf h) hb
  next hb => exact .of_snd (.outBuf h) hb

theorem Keeps.endNoUnit {c : Chain} {d : Desc} : Keeps s (endNoUnit c d t) := .endChain (.dropAll (.noUnit h))

theorem Keeps.postChain {c : Chain} : Keeps s (postChain c t) := by
  unfold Machine.postChain
  split
  · exact h
  dsimp only
  split
  · exact .endNoUnit (.record h)
  split
  · exact .endNoUnit h
  · exact .setEngQueue (.ite (.ungateIsland h) h)

theorem Keeps.readChain {c : CoreId} {n x : Nat} : Keeps s (readChain c n x t).2 := by
  induction n generalizing x t with
  | zero => exact h
  | succ n ih =>
    unfold Machine.readChain
    split
    · exact h
    split
    next hb => exact .of_snd (.readMem h) hb
    next hb =>
      have hv := Keeps.of_snd (.readMem h) hb
      dsimp only
      split
      · split
        next hc => exact .of_snd (ih hv) hc
        next hc => exact .of_snd (ih hv) hc
      · exact hv

end

end Sys2Proof.Machine
end

section
/-! PROOFS. Every Dyris instruction that reaches neither control space nor another unit's messages keeps memory canonical, levels legal and
parity good (R99, R103), and so does a step that runs one. -/

namespace Sys2Proof.Machine

open Sys2Proof

/-! ### What the bodies of the instructions keep -/

section
variable {c : CoreId} {s t : State} (h : Keeps s t)
include h

theorem Keeps.loadNormal {o : MemOp} {d : Rn} {a : Word} : Keeps s (loadNormal o c d a t).state := by
  unfold Machine.loadNormal
  split
  · exact h
  split
  · exact .wr (.record h)
  split
  next hl => exact .wr (.of_snd (.loadBytes (.ungate h)) hl)
  next hl => exact .of_snd (.loadBytes (.ungate h)) hl

theorem Keeps.storeNormal {o : MemOp} {d : Rn} {a : Word} : Keeps s (storeNormal o c d a t).state := by
  unfold Machine.storeNormal
  split
  · exact h
  split
  · exact .record h
  · exact .memWrite (.ungate h)

/-- STATUS takes no PPRIV of 3, and the other special registers stand in no bank (Table 4.2). -/
theorem Keeps.srWrite {n : Nat} {v : Word} : Keeps s (srWrite c n v t) := by
  unfold Machine.srWrite
  dsimp only
  split
  case h_1 =>
    refine .setBank h (fun hl => ⟨(hl _).1, ?_⟩) (fun hp => hp _)
    have hb : bits v.toNat 5 4 < 4 := Nat.mod_lt _ (by decide)
    dsimp only
    split
    · exact (hl _).2
    · omega
  case h_7 => exact .ite (.setCore h) h
  case h_14 => exact .ite (.setCore h) h
  all_goals exact .setCore h

theorem Keeps.setHookState {st : SlotState} : Keeps s (setHookState c st t) := by
  unfold Machine.setHookState
  split
  · exact .setSlot h
  · exact h

end

/-! ### The instructions -/

section
variable {c : CoreId} {d a b : Rn} {s : State}

theorem runAlu_keeps {o : AluOp} (hr : GoodReads c (if aluUnary o then [a] else [a, b]) s) : Keeps s (runAlu o c d a b s) :=
  runInstr_keeps hr fun _ h => .wr h

theorem runMts_keeps (hr : GoodReads c [a] s) : Keeps s (runMts c d a b s) := runInstr_keeps hr fun _ h => .srWrite h

theorem runHcall_keeps (hr : GoodReads c [a] s) : Keeps s (runHcall c d a b s) := by
  refine runInstr_keeps hr fun t h => ?_
  dsimp only
  refine .setHookState ?_
  exact .editBank (.setCore h) (.inl (Nat.le_refl 2)) (.inl rfl) rfl

theorem runHret_keeps (hr : GoodReads c [] s) : Keeps s (runHret c d a b s) := by
  refine runInstr_keeps hr fun t h => ?_
  dsimp only
  refine .setHookState ?_
  exact .editBank h (.inl (Nat.le_succ 1)) (.inl rfl) rfl

end

section
variable {c : CoreId} {d a b : Rn} {s : State} (hp : GoodParity s)
include hp

theorem runImm_keeps {o : ImmOp} {i : BitVec 16} : Keeps s (runImm o c d a i s) := runInstr_keeps hp.reads fun _ h => .wr h

theorem runBr_keeps {o : BrOp} {i : BitVec 16} : Keeps s (runBr o c a b i s) := .ite (runInstr_keeps hp.reads fun _ h => h) (runInstr_keeps hp.reads fun _ h => h)

theorem runJalr_keeps {i : BitVec 16} : Keeps s (runJalr c d a i s) := runInstr_keeps hp.reads fun _ h => .wr h

theorem runJump_keeps {link : Bool} {i : BitVec 26} : Keeps s (runJump link c i s) := runInstr_keeps hp.reads fun _ h => .ite (.wr h) h

theorem runMem_keeps {o : MemOp} {i : BitVec 16} : Keeps s (runMem o c d a i s) :=
  .ite (runInstr_keeps hp.reads fun _ h => .storeNormal h) (runInstr_keeps hp.reads fun _ h => .loadNormal h)

theorem runAmo_keeps {o : AmoOp} {rsv : BitVec 4} {ord : BitVec 2} {w : Bool} : Keeps s (runAmo o c rsv ord w d a b s) := by
  unfold runAmo
  refine runInstr_keeps hp.reads fun t h => ?_
  dsimp only
  split
  · exact h
  split
  · exact .wr (.record h)
  split
  next hl => exact .of_snd (.loadBytes (.ungate h)) hl
  next hl => exact .wr (.memWrite (.of_snd (.loadBytes (.ungate h)) hl))

theorem runSync_keeps : Keeps s (runSync c d a b s) := runInstr_keeps hp.reads fun _ h => h

theorem runSyncI_keeps : Keeps s (runSyncI c d a b s) := runInstr_keeps hp.reads fun _ h => h

theorem runMfs_keeps : Keeps s (runMfs c d a b s) := runInstr_keeps hp.reads fun _ h => .wr (.ite (.tickFree h) h)

theorem runTget_keeps : Keeps s (runTget c d a b s) := runInstr_keeps hp.reads fun _ h => .wr h

theorem runTdone_keeps : Keeps s (runTdone c d a b s) := runInstr_keeps hp.reads fun _ h => .settleQueues (.freeSlot (.ite (.postCpl h) h))

theorem runWtok_keeps : Keeps s (runWtok c d a b s) := by
  refine runInstr_keeps hp.reads fun t h => ?_
  dsimp only
  split
  · exact h
  split
  · exact .wr (.setTok h)
  split
  · exact .leaveSlot (.setSlot h)
  · exact h

theorem runJob_keeps : Keeps s (runJob c d a b s) := by
  refine runInstr_keeps hp.reads fun t h => ?_
  dsimp only
  split
  next hc => exact .of_snd (.readChain h) hc
  next u hc =>
    have hu := Keeps.of_snd (.readChain h) hc
    split
    · exact hu
    · exact hu
    split
    · exact hu
    · exact .ite (.postChain (.wr (.setTok hu))) (.endChain (.wr (.setTok hu)))

theorem runBget_keeps : Keeps s (runBget c d a b s) := by
  refine runInstr_keeps hp.reads fun t h => ?_
  dsimp only
  split
  · exact .bpmFailAs h
  split
  next hb => exact .wr (.of_snd (.bpmAlloc h) hb)
  next hb => exact .wr (.of_snd (.bpmAlloc h) hb)

theorem runBref_keeps : Keeps s (runBref c d a b s) := by
  refine runInstr_keeps hp.reads fun t h => ?_
  dsimp only
  split
  · exact h
  split
  · exact .bpmFail h
  · exact .wr (.setBuf h)

theorem runBdrop_keeps : Keeps s (runBdrop c d a b s) := by
  refine runInstr_keeps hp.reads fun t h => ?_
  dsimp only
  split
  · exact h
  split
  · exact .bpmFail h
  · exact .wr (.dropRef h)

theorem runEret_keeps : Keeps s (runEret c d a b s) := by
  refine runInstr_keeps hp.reads fun t h => ?_
  dsimp only
  split
  · exact .selectNext (.setCore (.returnS h))
  · exact .returnS h

theorem runSvc_keeps : Keeps s (runSvc c d a b s) := runInstr_keeps hp.reads fun _ h => h

theorem runBrk_keeps : Keeps s (runBrk c d a b s) := runInstr_keeps hp.reads fun _ h => h

end

/-! ### A step -/

/-- An instruction keeps the invariant wherever the parity is good. -/
def ExecKeeps (i : Instr) : Prop := ∀ s t, GoodParity s → exec i s = .next t → Keeps s t

/-- A command whose meaning is the next state of `f` keeps what `f` keeps. -/
theorem ExecKeeps.of_run {i : Instr} {f : State → State} (he : ∀ s, exec i s = .next (f s)) (hf : ∀ {s}, GoodParity s → Keeps s (f s)) :
    ExecKeeps i := fun s _ hp ht => Host.Outcome.next.inj ((he s).symm.trans ht) ▸ hf hp

section
variable (c : CoreId) (d a b : Rn)

/-- Table 4.8. -/
theorem alu_execKeeps : ∀ i ∈ ([.add c d a b, .sub c d a b, .and c d a b, .or c d a b, .xor c d a b, .sll c d a b, .srl c d a b,
    .sra c d a b, .slt c d a b, .sltu c d a b, .mul c d a b, .mulhu c d a b, .div c d a b, .divu c d a b, .rem c d a b, .remu c d a b, .min c d a b,
    .max c d a b, .minu c d a b, .maxu c d a b, .clz c d a b, .ctz c d a b, .popc c d a b, .bswap c d a b, .rotr c d a b,
    .andn c d a b] : List Instr), ExecKeeps i := by
  simp only [List.forall_mem_cons, List.not_mem_nil, false_implies, implies_true, and_true]
  and_intros <;> exact .of_run (fun _ => rfl) (fun hp => runAlu_keeps hp.reads)

/-- Table 4.9. -/
theorem imm_execKeeps (v : BitVec 16) : ∀ i ∈ ([.addi c d a v, .andi c d a v, .ori c d a v, .xori c d a v, .clti c d a v, .cltiu c d a v,
    .slli c d a v, .srli c d a v, .srai c d a v, .lmi c d a v, .lhi c d a v, .lxi c d a v] : List Instr), ExecKeeps i := by
  simp only [List.forall_mem_cons, List.not_mem_nil, false_implies, implies_true, and_true]
  and_intros <;> exact .of_run (fun _ => rfl) (fun hp => runImm_keeps hp)

/-- Table 4.10, but for LD and SD. -/
theorem mem_execKeeps (v : BitVec 16) : ∀ i ∈ ([.lb c d a v, .lbu c d a v, .lh c d a v, .lhu c d a v, .lw c d a v, .lwu c d a v, .sb c d a v,
    .sh c d a v, .sw c d a v] : List Instr), ExecKeeps i := by
  simp only [List.forall_mem_cons, List.not_mem_nil, false_implies, implies_true, and_true]
  and_intros <;> exact .of_run (fun _ => rfl) (fun hp => runMem_keeps hp)

/-- Table 4.11. -/
theorem branch_execKeeps (v : BitVec 16) (far : BitVec 26) : ∀ i ∈ ([.beq c d a v, .bne c d a v, .blt c d a v, .bge c d a v, .bltu c d a v,
    .bgeu c d a v, .jalr c d a v, .j c far, .jal c far] : List Instr), ExecKeeps i := by
  simp only [List.forall_mem_cons, List.not_mem_nil, false_implies, implies_true, and_true]
  refine ⟨?_, ?_, ?_, ?_, ?_, ?_, .of_run (fun _ => rfl) (fun hp => runJalr_keeps hp), .of_run (fun _ => rfl) (fun hp => runJump_keeps hp),
    .of_run (fun _ => rfl) (fun hp => runJump_keeps hp)⟩
  all_goals exact .of_run (fun _ => rfl) (fun hp => runBr_keeps hp)

/-- Table 4.12, but for SEND and WAITP. -/
theorem sys_execKeeps : ∀ i ∈ ([.sync c d a b, .syncW c d a b, .syncR c d a b, .syncI c d a b, .mfs c d a b, .mts c d a b, .tget c d a b,
    .tdone c d a b, .wtok c d a b, .job c d a b, .bget c d a b, .bref c d a b, .bdrop c d a b, .hcall c d a b, .hret c d a b, .eret c d a b,
    .svc c d a b, .brk c d a b] : List Instr), ExecKeeps i := by
  simp only [List.forall_mem_cons, List.not_mem_nil, false_implies, implies_true, and_true]
  exact ⟨.of_run (fun _ => rfl) (fun hp => runSync_keeps hp), .of_run (fun _ => rfl) (fun hp => runSync_keeps hp),
    .of_run (fun _ => rfl) (fun hp => runSync_keeps hp), .of_run (fun _ => rfl) (fun hp => runSyncI_keeps hp),
    .of_run (fun _ => rfl) (fun hp => runMfs_keeps hp), .of_run (fun _ => rfl) (fun hp => runMts_keeps hp.reads),
    .of_run (fun _ => rfl) (fun hp => runTget_keeps hp), .of_run (fun _ => rfl) (fun hp => runTdone_keeps hp),
    .of_run (fun _ => rfl) (fun hp => runWtok_keeps hp), .of_run (fun _ => rfl) (fun hp => runJob_keeps hp),
    .of_run (fun _ => rfl) (fun hp => runBget_keeps hp), .of_run (fun _ => rfl) (fun hp => runBref_keeps hp),
    .of_run (fun _ => rfl) (fun hp => runBdrop_keeps hp), .of_run (fun _ => rfl) (fun hp => runHcall_keeps hp.reads),
    .of_run (fun _ => rfl) (fun hp => runHret_keeps hp.reads), .of_run (fun _ => rfl) (fun hp => runEret_keeps hp),
    .of_run (fun _ => rfl) (fun hp => runSvc_keeps hp), .of_run (fun _ => rfl) (fun hp => runBrk_keeps hp)⟩

/-- Table 4.13. -/
theorem amo_execKeeps (rsv : BitVec 4) (ord : BitVec 2) (w : Bool) : ∀ i ∈ ([.amoSwap c rsv ord w d a b, .amoAdd c rsv ord w d a b,
    .amoAnd c rsv ord w d a b, .amoOr c rsv ord w d a b, .amoXor c rsv ord w d a b, .amoMin c rsv ord w d a b, .amoMax c rsv ord w d a b,
    .amoMinu c rsv ord w d a b, .amoMaxu c rsv ord w d a b, .amoCas c rsv ord w d a b] : List Instr), ExecKeeps i := by
  simp only [List.forall_mem_cons, List.not_mem_nil, false_implies, implies_true, and_true]
  and_intros <;> exact .of_run (fun _ => rfl) (fun hp => runAmo_keeps hp)

end

/-- Settles O57: no body of an instruction, no exception it may meet and nothing it sets going breaks the invariant, and with good parity no
instruction finds a bad register. -/
theorem dyrisStepsKeepTheInvariant : Obligations.DyrisStepsKeepTheInvariant := by
  unfold Obligations.DyrisStepsKeepTheInvariant
  intro i rest c d a b v far rsv ord w s t hi hpend hmem hlev hpar hstep
  have hkeeps : ExecKeeps i := by
    have hall := List.forall_mem_append.mpr ⟨alu_execKeeps c d a b, List.forall_mem_append.mpr ⟨imm_execKeeps c d a v,
      List.forall_mem_append.mpr ⟨mem_execKeeps c d a v, List.forall_mem_append.mpr ⟨branch_execKeeps c d a v far,
      List.forall_mem_append.mpr ⟨sys_execKeeps c d a b, amo_execKeeps c d a b rsv ord w⟩⟩⟩⟩⟩
    exact hall i hi
  rw [step_of_front hpend] at hstep
  obtain ⟨hm, hl, hp⟩ := hkeeps { s with pending := rest } t hpar hstep
  exact ⟨hm hmem, hl hlev, hp hpar⟩

/-! ### Legal levels (Table 4.2) -/

theorem legalLevels_reset : LegalLevels .reset := by
  intro x
  rw [bankOf_reset]
  exact ⟨Nat.zero_le _, Nat.zero_le _⟩

/-- Settles O17: each of these is one of the operations that keep every bank at a legal level. -/
theorem levelsStayLegal : Obligations.LevelsStayLegal := by
  unfold Obligations.LevelsStayLegal
  refine ⟨legalLevels_reset, fun s hs c e l v n d a t => ?_⟩
  have h := Keeps.refl s
  refine ⟨h.takeException.levels hs, h.takeIrq.levels hs, h.returnS.levels hs, h.srWrite.levels hs, fun hf _ => ⟨?_, ?_, ?_, ?_⟩⟩
  · rintro ⟨⟩ -
    exact (runHcall_keeps hf.reads).levels hs
  · rintro ⟨⟩ -
    exact (runHret_keeps (hf.subset (by simp)).reads).levels hs
  · rintro ⟨⟩
    exact (runMts_keeps hf.reads).levels hs
  · rintro ⟨⟩
    exact (runAlu_keeps (o := .add) (hf.subset (m := [a, a]) (by simp)).reads).levels hs

end Sys2Proof.Machine
end

section
/-! PROOFS. The results of the register and immediate ALU instructions (Tables 4.8 and 4.9). -/

namespace Sys2Proof.Machine

open Sys2Proof

/-! ### The frame of an ALU instruction -/

/-- A register ALU instruction that runs writes its operation's result to gd. -/
theorem runAlu_writes {o : AluOp} {c : CoreId} {d a b : Rn} {s : State} (h : Fetches c (if aluUnary o then [a] else [a, b]) s)
    (hb : (aluUnary o && b.val != 0) = false) :
    runAlu o c d a b s = writesReg c (aluCycles o) d (aluOp o (rd s c a) (rd s c b)) s := by
  unfold runAlu
  rw [hb]
  exact runInstr_own h (lvAll_contains h)

/-- A binary register ALU instruction that runs has the result its operation has. -/
theorem runAlu_binary {o : AluOp} {c : CoreId} {d a b : Rn} {v : Word} {s : State} (h : Fetches c [a, b] s) (ho : aluUnary o = false)
    (hv : aluOp o (rd s c a) (rd s c b) = v) : runAlu o c d a b s = writesReg c (aluCycles o) d v s := by
  rw [← hv]
  exact runAlu_writes (by rwa [ho]) (by rw [ho]; rfl)

/-- A unary register ALU instruction with b = 0 runs. -/
theorem runAlu_unary {o : AluOp} {c : CoreId} {d a b : Rn} {s : State} (h : Fetches c [a] s) (ho : aluUnary o = true) (hb : b = 0) :
    runAlu o c d a b s = writesReg c (aluCycles o) d (aluOp o (rd s c a) (rd s c b)) s := by
  subst hb
  exact runAlu_writes (by rwa [ho]) (by rw [ho]; rfl)

/-- A unary register ALU instruction with b ≠ 0 is ILLEGAL. -/
theorem runAlu_illegal {o : AluOp} {c : CoreId} {d a b : Rn} {s : State} (h : Fetches c [a] s) (ho : aluUnary o = true) (hb : b ≠ 0) :
    runAlu o c d a b s = raise c { cause := 0x01 } s := by
  have hill : (aluUnary o && b.val != 0) = true := by
    rw [ho, Bool.true_and, bne_iff_ne]
    exact fun h0 => hb (Fin.ext h0)
  unfold runAlu
  rw [hill]
  exact runInstr_illegal (by rwa [ho])

/-- An immediate ALU instruction that runs writes the result its operation has. -/
theorem runImm_writes {o : ImmOp} {c : CoreId} {d a : Rn} {i : BitVec 16} {v : Word} {s : State} (h : Fetches c [a] s)
    (hi : (immShift o && decide (64 ≤ i.toNat)) = false) (hv : immOp o (rd s c a) i = v) :
    runImm o c d a i s = writesReg c 1 d v s := by
  unfold runImm
  rw [hi, ← hv]
  exact runInstr_own h (lvAll_contains h)

/-- A shift whose immediate exceeds 63 is ILLEGAL. -/
theorem runImm_illegal {o : ImmOp} {c : CoreId} {d a : Rn} {i : BitVec 16} {s : State} (h : Fetches c [a] s) (ho : immShift o = true)
    (hi : 64 ≤ i.toNat) : runImm o c d a i s = raise c { cause := 0x01 } s := by
  unfold runImm
  rw [ho, decide_eq_true hi]
  exact runInstr_illegal h

/-! ### Comparisons, division and the byte-select immediates -/

theorem slt_iff (x y : Word) : x.slt y = true ↔ x.toInt < y.toInt := by simp only [BitVec.slt, decide_eq_true_eq]

theorem ult_iff (x y : Word) : x.ult y = true ↔ x.toNat < y.toNat := by simp only [BitVec.ult, decide_eq_true_eq]

theorem slt_ite {α : Type} (a b : Word) (x y : α) : (if a.slt b then x else y) = if a.toInt < b.toInt then x else y := by
  simp only [slt_iff]

theorem ult_ite {α : Type} (a b : Word) (x y : α) : (if a.ult b then x else y) = if a.toNat < b.toNat then x else y := by
  simp only [ult_iff]

/-- Signed division, its overflow included (R113). -/
theorem aluOp_div (a b : Word) : aluOp .div a b =
    if b = 0 then BitVec.allOnes 64 else if a = BitVec.intMin 64 ∧ b = BitVec.allOnes 64 then a
    else BitVec.ofInt 64 (a.toInt.tdiv b.toInt) := by
  refine ite_congr rfl (fun _ => rfl) (fun _ => ?_)
  split
  next ho => obtain ⟨rfl, rfl⟩ := ho; decide
  next ho =>
    rw [← BitVec.toInt_sdiv_of_ne_or_ne a b (by rw [BitVec.neg_one_eq_allOnes]; tauto), BitVec.ofInt_toInt]

/-- Signed remainder, its overflow included (R113). -/
theorem aluOp_rem (a b : Word) : aluOp .rem a b =
    if b = 0 then a else if a = BitVec.intMin 64 ∧ b = BitVec.allOnes 64 then 0
    else BitVec.ofInt 64 (a.toInt.tmod b.toInt) := by
  refine ite_congr rfl (fun _ => rfl) (fun _ => ?_)
  split
  next ho => obtain ⟨rfl, rfl⟩ := ho; decide
  next => rw [← BitVec.toInt_srem, BitVec.ofInt_toInt]

theorem aluOp_divu (a b : Word) : aluOp .divu a b = if b = 0 then BitVec.allOnes 64 else BitVec.ofNat 64 (a.toNat / b.toNat) := by
  rw [← BitVec.toNat_udiv, BitVec.ofNat_toNat, BitVec.setWidth_eq]
  rfl

theorem aluOp_remu (a b : Word) : aluOp .remu a b = if b = 0 then a else BitVec.ofNat 64 (a.toNat % b.toNat) := by
  rw [← BitVec.toNat_umod, BitVec.ofNat_toNat, BitVec.setWidth_eq]
  rfl

theorem immOp_clti (a : Word) (i : BitVec 16) : immOp .clti a i = if a.toInt < i.toInt then 1 else 0 := by
  have hi : (immS i).toInt = i.toInt := BitVec.toInt_signExtend_of_le (by decide)
  rw [← hi]
  exact slt_ite _ _ _ _

theorem immOp_cltiu (a : Word) (i : BitVec 16) : immOp .cltiu a i = if a.toNat < i.toNat then 1 else 0 := by
  have hi : (immZ i).toNat = i.toNat := BitVec.toNat_setWidth_of_le (by decide)
  rw [← hi]
  exact ult_ite _ _ _ _

/-- An immediate placed above the low `n` bits of a word. -/
theorem append_low_eq_ofNat {k n : Nat} (hkn : k + 16 + n = 64) (a : Word) (i : BitVec 16) :
    (0#k ++ i ++ a.extractLsb' 0 n).toNat = (BitVec.ofNat 64 (a.toNat % 2 ^ n + i.toNat * 2 ^ n)).toNat := by
  have hlt : a.toNat % 2 ^ n < 2 ^ n := Nat.mod_lt _ (Nat.two_pow_pos n)
  have hi : i.toNat * 2 ^ n + 2 ^ n ≤ 2 ^ (16 + n) := by
    rw [Nat.pow_add, ← Nat.succ_mul]; exact Nat.mul_le_mul_right _ i.isLt
  have hk : 2 ^ (16 + n) ≤ 2 ^ 64 := Nat.pow_le_pow_right (by decide) (by omega)
  have hsum : a.toNat % 2 ^ n + i.toNat * 2 ^ n < 2 ^ 64 := by omega
  rw [BitVec.toNat_ofNat, Nat.mod_eq_of_lt hsum, BitVec.toNat_append, BitVec.toNat_append, BitVec.toNat_zero, Nat.zero_shiftLeft, Nat.zero_or,
    BitVec.extractLsb'_toNat, Nat.shiftRight_zero, ← Nat.shiftLeft_add_eq_or_of_lt hlt, Nat.shiftLeft_eq, Nat.add_comm]

theorem immOp_lmi (a : Word) (i : BitVec 16) : immOp .lmi a i = BitVec.ofNat 64 (a.toNat % 2 ^ 16 + i.toNat * 2 ^ 16) :=
  BitVec.eq_of_toNat_eq (append_low_eq_ofNat (k := 32) rfl a i)

theorem immOp_lhi (a : Word) (i : BitVec 16) : immOp .lhi a i = BitVec.ofNat 64 (a.toNat % 2 ^ 32 + i.toNat * 2 ^ 32) :=
  BitVec.eq_of_toNat_eq (append_low_eq_ofNat (k := 16) rfl a i)

theorem immOp_lxi (a : Word) (i : BitVec 16) : immOp .lxi a i = BitVec.ofNat 64 (a.toNat % 2 ^ 48 + i.toNat * 2 ^ 48) := by
  have h := append_low_eq_ofNat (k := 0) (n := 48) rfl a i
  rw [BitVec.toNat_append, BitVec.toNat_append, BitVec.toNat_zero, Nat.zero_shiftLeft, Nat.zero_or] at h
  exact BitVec.eq_of_toNat_eq ((BitVec.toNat_append ..).trans h)

/-! ### Counting and reversing (Table 4.8) -/

theorem log2_word_lt {x : Word} (hx : x ≠ 0) : Nat.log2 x.toNat < 64 :=
  (Nat.log2_lt (fun h => hx (BitVec.eq_of_toNat_eq h))).mpr x.isLt

theorem toNat_clz64 {x : Word} (hx : x ≠ 0) : (clz64 x).toNat = 63 - Nat.log2 x.toNat := by
  unfold clz64
  rw [if_neg hx, BitVec.toNat_ofNat]
  omega

/-- Below the index ctzFrom answers, no bit from `i` up is set; the answer is a set bit, or every bit was tried. -/
theorem ctzFrom_spec (x : Word) (n i : Nat) :
    i ≤ ctzFrom x n i ∧ ctzFrom x n i ≤ i + n ∧ (∀ j, i ≤ j → j < ctzFrom x n i → x.toNat.testBit j = false) ∧
    (ctzFrom x n i < i + n → x.toNat.testBit (ctzFrom x n i) = true) := by
  induction n generalizing i with
  | zero => exact ⟨Nat.le_refl _, Nat.le_refl _, fun j h h' => absurd h' (Nat.not_lt.mpr h), fun h => absurd h (Nat.lt_irrefl _)⟩
  | succ n ih =>
    unfold ctzFrom
    split
    next hbit => exact ⟨Nat.le_refl _, by omega, fun j h h' => absurd h' (Nat.not_lt.mpr h), fun _ => hbit⟩
    next hbit =>
      obtain ⟨hlo, hhi, hclear, hset⟩ := ih (i + 1)
      refine ⟨by omega, by omega, fun j h h' => ?_, fun h => hset (by omega)⟩
      rcases Nat.eq_or_lt_of_le h with rfl | h
      · exact Bool.eq_false_of_not_eq_true hbit
      · exact hclear j h h'

theorem toNat_ctz64 (x : Word) : (ctz64 x).toNat = ctzFrom x 64 0 := by
  have h := (ctzFrom_spec x 64 0).2.1
  exact Nat.mod_eq_of_lt (by omega)

/-- A word that is not 0 has a set bit, so the search for the lowest one ends below 64. -/
theorem ctzFrom_lt {x : Word} (hx : x ≠ 0) : ctzFrom x 64 0 < 64 := by
  obtain ⟨-, hle, hclear, -⟩ := ctzFrom_spec x 64 0
  refine Nat.lt_of_le_of_ne (by omega) (fun h => hx ?_)
  refine BitVec.eq_of_getLsbD_eq (fun j hj => ?_)
  exact (hclear j (Nat.zero_le j) (by omega)).trans BitVec.getLsbD_zero.symm

theorem popFrom_eq_count (x : Word) (n : Nat) : popFrom x n = ((List.range n).filter (fun i => x.toNat.testBit i)).length := by
  induction n with
  | zero => rfl
  | succ n ih =>
    rw [popFrom, ih, List.range_succ, List.filter_append, List.length_append]
    cases h : x.toNat.testBit n <;> simp [h]

theorem toNat_popc64 (x : Word) : (popc64 x).toNat = ((List.range 64).filter (fun i => x.toNat.testBit i)).length := by
  have h := List.length_filter_le (fun i => x.toNat.testBit i) (List.range 64)
  rw [List.length_range] at h
  unfold popc64
  rw [BitVec.toNat_ofNat, popFrom_eq_count]
  exact Nat.mod_eq_of_lt (by omega)

/-- Bit `j` of the reversed word is the bit at the same place of the mirrored byte. -/
theorem getLsbD_bswap64 (x : Word) {j : Nat} (hj : j < 64) : (bswap64 x).getLsbD j = x.getLsbD (8 * (7 - j / 8) + j % 8) := by
  unfold bswap64
  simp only [BitVec.getLsbD_append, BitVec.getLsbD_extractLsb']
  interval_cases j <;> rfl

theorem byte_bswap64 (x : Word) {i : Nat} (hi : i < 8) : (bswap64 x).extractLsb' (8 * i) 8 = x.extractLsb' (8 * (7 - i)) 8 := by
  refine BitVec.eq_of_getLsbD_eq (fun j hj => ?_)
  rw [BitVec.getLsbD_extractLsb', BitVec.getLsbD_extractLsb', getLsbD_bswap64 x (by omega),
    show (8 * i + j) / 8 = i by omega, show (8 * i + j) % 8 = j by omega]

theorem bswap64_bswap64 (x : Word) : bswap64 (bswap64 x) = x := by
  refine BitVec.eq_of_getLsbD_eq (fun j hj => ?_)
  rw [getLsbD_bswap64 _ hj, getLsbD_bswap64 x (by omega)]
  congr 1
  omega

theorem clz64_spec {x : Word} (hx : x ≠ 0) : (clz64 x).toNat < 64 ∧ x.toNat.testBit (63 - (clz64 x).toNat) = true ∧
    (∀ i, 63 - (clz64 x).toNat < i → x.toNat.testBit i = false) := by
  have hlog := log2_word_lt hx
  have hx0 : x.toNat ≠ 0 := fun h => hx (BitVec.eq_of_toNat_eq h)
  rw [toNat_clz64 hx, show 63 - (63 - x.toNat.log2) = x.toNat.log2 by omega]
  refine ⟨by omega, Nat.testBit_log2 hx0, fun i hi => Nat.testBit_lt_two_pow ?_⟩
  exact (Nat.log2_lt hx0).mp hi

theorem ctz64_spec {x : Word} (hx : x ≠ 0) : (ctz64 x).toNat < 64 ∧ x.toNat.testBit (ctz64 x).toNat = true ∧
    (∀ i, i < (ctz64 x).toNat → x.toNat.testBit i = false) := by
  obtain ⟨-, -, hclear, hset⟩ := ctzFrom_spec x 64 0
  have hlt := ctzFrom_lt hx
  rw [toNat_ctz64]
  exact ⟨hlt, hset (by omega), fun i => hclear i (Nat.zero_le i)⟩

/-- The answer of a command that goes on to the state `s`, at the type of `exec`. -/
def nextState (s : State) : Host.Outcome State Fault Refusal := .next s

/-- Settles O1: the frame of an ALU instruction, with each operation's result in the terms of Tables 4.8 and 4.9. -/
theorem aluResults : Obligations.AluResults := by
  unfold Obligations.AluResults
  refine ⟨fun c d a b s => ⟨fun h => ?_, fun h hb => ?_, fun h hb => ?_⟩, fun x => ⟨?_, fun hx => ?_, toNat_popc64 x,
    fun i => byte_bswap64 x, bswap64_bswap64 x⟩, fun c d a i s h => ?_⟩
  · have run {o : AluOp} (ho : aluUnary o = false) {v : Word} (hv : aluOp o (rd s c a) (rd s c b) = v) :
        nextState (runAlu o c d a b s) = nextState (writesReg c (aluCycles o) d v s) := congrArg _ (runAlu_binary h ho hv)
    exact ⟨run (o := .add) rfl rfl, run (o := .sub) rfl rfl, run (o := .and) rfl rfl, run (o := .or) rfl rfl, run (o := .xor) rfl rfl,
      run (o := .sll) rfl rfl, run (o := .srl) rfl rfl, run (o := .sra) rfl rfl, run (o := .slt) rfl (slt_ite _ _ _ _),
      run (o := .sltu) rfl (ult_ite _ _ _ _), run (o := .mul) rfl rfl, run (o := .mulhu) rfl rfl, run (o := .div) rfl (aluOp_div _ _),
      run (o := .divu) rfl (aluOp_divu _ _), run (o := .rem) rfl (aluOp_rem _ _), run (o := .remu) rfl (aluOp_remu _ _),
      run (o := .min) rfl (slt_ite _ _ _ _), run (o := .max) rfl (slt_ite _ _ _ _), run (o := .minu) rfl (ult_ite _ _ _ _),
      run (o := .maxu) rfl (ult_ite _ _ _ _), run (o := .rotr) rfl rfl, run (o := .andn) rfl rfl⟩
  · have run {o : AluOp} (ho : aluUnary o = true) := congrArg nextState (runAlu_unary (d := d) h ho hb)
    exact ⟨run (o := .clz) rfl, run (o := .ctz) rfl, run (o := .popc) rfl, run (o := .bswap) rfl⟩
  · have ill {o : AluOp} (ho : aluUnary o = true) := congrArg nextState (runAlu_illegal (d := d) h ho hb)
    exact ⟨ill (o := .clz) rfl, ill (o := .ctz) rfl, ill (o := .popc) rfl, ill (o := .bswap) rfl⟩
  · rintro rfl
    decide
  · obtain ⟨hclt, hcbit, hcabove⟩ := clz64_spec hx
    exact ⟨hclt, hcbit, hcabove, ctz64_spec hx⟩
  · have run {o : ImmOp} (ho : (immShift o && decide (64 ≤ i.toNat)) = false) {v : Word} (hv : immOp o (rd s c a) i = v) :
        nextState (runImm o c d a i s) = nextState (writesReg c 1 d v s) := congrArg _ (runImm_writes h ho hv)
    have ill {o : ImmOp} (ho : immShift o = true) (hi : 64 ≤ i.toNat) := congrArg nextState (runImm_illegal (d := d) h ho hi)
    refine ⟨run (o := .addi) rfl rfl, run (o := .andi) rfl rfl, run (o := .ori) rfl rfl, run (o := .xori) rfl rfl,
      run (o := .clti) rfl (immOp_clti _ _), run (o := .cltiu) rfl (immOp_cltiu _ _), fun hi => ?_,
      fun hi => ⟨ill (o := .slli) rfl hi, ill (o := .srli) rfl hi, ill (o := .srai) rfl hi⟩,
      run (o := .lmi) rfl (immOp_lmi _ _), run (o := .lhi) rfl (immOp_lhi _ _), run (o := .lxi) rfl (immOp_lxi _ _)⟩
    have hsh : i.toNat % 64 = i.toNat := Nat.mod_eq_of_lt hi
    have hno : decide (64 ≤ i.toNat) = false := decide_eq_false (by omega)
    exact ⟨run (o := .slli) (by rw [hno]; rfl) (congrArg ((rd s c a) <<< ·) hsh), run (o := .srli) (by rw [hno]; rfl) (congrArg ((rd s c a) >>> ·) hsh),
      run (o := .srai) (by rw [hno]; rfl) (congrArg (rd s c a).sshiftRight hsh)⟩

end Sys2Proof.Machine
end

section
/-! PROOFS. Branches and jumps (Table 4.11), the exceptions of loads and stores (R105, R107, R108), atomics (Table 4.13), barriers and special
registers (R100, R120, R129). -/

namespace Sys2Proof.Machine

open Sys2Proof

/-- An instruction that runs in S and U only, at one of them. -/
theorem lvSU_contains {c : CoreId} {reads : List Rn} {s : State} (h : Fetches c reads s) (hp : privOf s c ≠ 2) :
    lvSU.contains (privOf s c) = true := by
  obtain ⟨-, -, -, -, hle⟩ := h
  match hpriv : privOf s c with
  | 0 => rfl
  | 1 => rfl
  | n + 2 => omega

/-- H is not among the levels S and U. -/
theorem lvSU_contains_hook {c : CoreId} {s : State} (hp : privOf s c = 2) : lvSU.contains (privOf s c) = false := by
  rw [hp]
  rfl

/-! ### Branches and jumps -/

/-- A branch whose condition `P` is: taken in 2 cycles, not taken in 1. -/
theorem runBr_jumps {o : BrOp} {c : CoreId} {a b : Rn} {off : BitVec 16} {s : State} {P : Prop} [Decidable P] (h : Fetches c [a, b] s)
    (hP : brTaken o (rd s c a) (rd s c b) = true ↔ P) :
    runBr o c a b off s = if P then jumpsTo c 2 (pcOf s c + 4 * off.signExtend 64) s else jumpsTo c 1 (pcOf s c + 4) s := by
  unfold runBr
  refine ite_congr (propext hP) (fun _ => ?_) (fun _ => ?_)
  · exact runInstr_own h (lvAll_contains h)
  · exact runInstr_own h (lvAll_contains h)

theorem not_slt_iff (x y : Word) : (!x.slt y) = true ↔ y.toInt ≤ x.toInt := by
  rw [Bool.not_eq_true', ← Bool.not_eq_true, slt_iff, Int.not_lt]

theorem not_ult_iff (x y : Word) : (!x.ult y) = true ↔ y.toNat ≤ x.toNat := by
  rw [Bool.not_eq_true', ← Bool.not_eq_true, ult_iff, Nat.not_lt]

theorem runJalr_jumps {c : CoreId} {d a : Rn} {i : BitVec 16} {s : State} (h : Fetches c [a] s) :
    runJalr c d a i s = jumpsTo c 2 (rd s c a + i.signExtend 64) (wr c d (pcOf s c + 4) s) :=
  runInstr_own h (lvAll_contains h)

theorem runJump_jumps {link : Bool} {c : CoreId} {off : BitVec 26} {s : State} (h : Fetches c [] s) :
    runJump link c off s =
      jumpsTo c 2 (pcOf s c + 4 * off.signExtend 64) (if link then wr c 31 (pcOf s c + 4) s else s) :=
  runInstr_own h (lvAll_contains h)

/-- Settles O2: each condition is its comparison, and each jump is its body's answer. -/
theorem branchAndJumpTargets : Obligations.BranchAndJumpTargets := by
  unfold Obligations.BranchAndJumpTargets
  intro c d a b off o26 s br
  refine ⟨fun h => ?_, fun h => congrArg _ (runJalr_jumps h), fun h => ?_⟩
  · exact ⟨congrArg _ (runBr_jumps (o := .beq) h beq_iff_eq), congrArg _ (runBr_jumps (o := .bne) h bne_iff_ne),
      congrArg _ (runBr_jumps (o := .blt) h (slt_iff _ _)), congrArg _ (runBr_jumps (o := .bge) h (not_slt_iff _ _)),
      congrArg _ (runBr_jumps (o := .bltu) h (ult_iff _ _)), congrArg _ (runBr_jumps (o := .bgeu) h (not_ult_iff _ _))⟩
  · exact ⟨congrArg _ (runJump_jumps (link := false) h), congrArg _ (runJump_jumps (link := true) h)⟩

/-! ### Loads and stores that meet an exception or a powered-off island -/

section
variable {o : MemOp} {c : CoreId} {d a : Rn} {i : BitVec 16} {e : Exc} {s : State}

theorem runMem_loadFault (hm : memStore o = false) (h : Fetches c [a] s) (hf : dataFault c (effAddr s c a i) (memSize o) false s = some e) :
    runMem o c d a i s = raise c e s := by
  unfold runMem
  rw [hm, if_neg Bool.false_ne_true, runInstr_own h (lvAll_contains h)]
  unfold loadNormal
  rw [hf]

theorem runMem_storeFault (hm : memStore o = true) (h : Fetches c [a, d] s)
    (hf : dataFault c (effAddr s c a i) (memSize o) true s = some e) : runMem o c d a i s = raise c e s := by
  unfold runMem
  rw [hm, if_pos rfl, runInstr_own h (lvAll_contains h)]
  unfold storeNormal
  rw [hf]

variable {n : Nat}

theorem runMem_loadOff (hm : memStore o = false) (h : Fetches c [a] s) (hf : dataFault c (effAddr s c a i) (memSize o) false s = none)
    (ho : accessOff (effAddr s c a i).toNat s = some n) :
    runMem o c d a i s = raise c { cause := 0x06, sub := n, addr := effAddr s c a i, done := true }
      (countInstr c 2 (wr c d (BitVec.allOnes 64) (recordAccessOff n (effAddr s c a i).toNat s))) := by
  unfold runMem
  rw [hm, if_neg Bool.false_ne_true, runInstr_own h (lvAll_contains h)]
  unfold loadNormal
  rw [hf, ho]

theorem runMem_storeOff (hm : memStore o = true) (h : Fetches c [a, d] s) (hf : dataFault c (effAddr s c a i) (memSize o) true s = none)
    (ho : accessOff (effAddr s c a i).toNat s = some n) :
    runMem o c d a i s = raise c { cause := 0x06, sub := n, addr := effAddr s c a i, done := true }
      (countInstr c 1 (recordAccessOff n (effAddr s c a i).toNat s)) := by
  unfold runMem
  rw [hm, if_pos rfl, runInstr_own h (lvAll_contains h)]
  unfold storeNormal
  rw [hf, ho]

end

/-- Settles O4: what each width of load and store does when its access meets an exception, and what LW and SW do on an island that is off. -/
theorem memoryAccessExceptions : Obligations.MemoryAccessExceptions := by
  unfold Obligations.MemoryAccessExceptions
  intro c d a i e s x
  refine ⟨fun h => ⟨fun hf => ?_, fun hf => ?_, fun hf => ?_⟩, fun h => ⟨fun hf => ?_, fun hf => ?_, fun hf => ?_⟩,
    fun n h hf ho => congrArg _ (runMem_loadOff (o := .lw) rfl h hf ho), fun n h hf ho => congrArg _ (runMem_storeOff (o := .sw) rfl h hf ho)⟩
  · exact ⟨congrArg _ (runMem_loadFault (o := .lb) rfl h hf), congrArg _ (runMem_loadFault (o := .lbu) rfl h hf)⟩
  · exact ⟨congrArg _ (runMem_loadFault (o := .lh) rfl h hf), congrArg _ (runMem_loadFault (o := .lhu) rfl h hf)⟩
  · exact ⟨congrArg _ (runMem_loadFault (o := .lw) rfl h hf), congrArg _ (runMem_loadFault (o := .lwu) rfl h hf)⟩
  · exact congrArg _ (runMem_storeFault (o := .sb) rfl h hf)
  · exact congrArg _ (runMem_storeFault (o := .sh) rfl h hf)
  · exact congrArg _ (runMem_storeFault (o := .sw) rfl h hf)

/-! ### Atomics -/

/-- The number an atomic writes back, before it is cut to `n` bits, from the old value, gb and what gd held (Table 4.13). -/
def amoNat (o : AmoOp) (n old gb gd : Nat) : Nat :=
  match o with
  | .swap => gb
  | .add => old + gb
  | .and => old &&& gb
  | .or => old ||| gb
  | .xor => old ^^^ gb
  | .min => if (BitVec.ofNat n old).toInt < (BitVec.ofNat n gb).toInt then old else gb
  | .max => if (BitVec.ofNat n old).toInt < (BitVec.ofNat n gb).toInt then gb else old
  | .minu => if old < gb % 2 ^ n then old else gb
  | .maxu => if old < gb % 2 ^ n then gb else old
  | .cas => if old = gd % 2 ^ n then gb else old

/-- The operation on `n`-bit values is the operation on numbers, cut to `n` bits. -/
theorem toNat_amoOp {o : AmoOp} {n old gb gd : Nat} (hold : old < 2 ^ n) :
    (amoOp o (BitVec.ofNat n old) (BitVec.ofNat n gb) (BitVec.ofNat n gd)).toNat = amoNat o n old gb gd % 2 ^ n := by
  have hmod := Nat.mod_eq_of_lt hold
  cases o with
  | swap => rfl
  | add => exact (BitVec.toNat_add _ _).trans (Nat.add_mod old gb _).symm
  | and => exact (Nat.and_mod_two_pow ..).symm
  | or => exact (Nat.or_mod_two_pow ..).symm
  | xor => exact (Nat.xor_mod_two_pow ..).symm
  | min => simp only [amoOp, amoNat, BitVec.slt, decide_eq_true_eq]; split <;> rfl
  | max => simp only [amoOp, amoNat, BitVec.slt, decide_eq_true_eq]; split <;> rfl
  | minu => simp only [amoOp, amoNat, BitVec.ult, decide_eq_true_eq, BitVec.toNat_ofNat, hmod]; split <;> rfl
  | maxu => simp only [amoOp, amoNat, BitVec.ult, decide_eq_true_eq, BitVec.toNat_ofNat, hmod]; split <;> rfl
  | cas =>
    have heq : BitVec.ofNat n old = BitVec.ofNat n gd ↔ old = gd % 2 ^ n := by
      rw [← BitVec.toNat_inj, BitVec.toNat_ofNat, BitVec.toNat_ofNat, hmod]
    simp only [amoOp, amoNat, heq]
    split <;> rfl

theorem amoResult_word {o : AmoOp} {old : Nat} (b d : Word) (hold : old < 2 ^ 64) :
    amoResult o false old b d = (amoNat o 64 old b.toNat d.toNat % 2 ^ 64, BitVec.ofNat 64 old) := by
  rw [← toNat_amoOp hold, BitVec.ofNat_toNat, BitVec.ofNat_toNat, BitVec.setWidth_eq, BitVec.setWidth_eq]
  rfl

theorem amoResult_half {o : AmoOp} {old : Nat} (b d : Word) (hold : old < 2 ^ 32) :
    amoResult o true old b d = (amoNat o 32 old b.toNat d.toNat % 2 ^ 32, (BitVec.ofNat 32 old).signExtend 64) := by
  rw [← toNat_amoOp hold, BitVec.ofNat_toNat, BitVec.ofNat_toNat]
  rfl

section
variable {o : AmoOp} {c : CoreId} {ord : BitVec 2} {w : Bool} {d a b : Rn} {s u : State} {old : Nat}

/-- An atomic whose access meets no exception: its results written back. -/
theorem runAmo_done (h : Fetches c (if o = .cas then [a, b, d] else [a, b]) s) (hp : privOf s c ≠ 2)
    (hf : dataFault c (rd s c a) (if w then 4 else 8) true s = none) (ho : accessOff (rd s c a).toNat s = none)
    (hl : loadBytes c (rd s c a) (if w then 4 else 8) (ungate (rd s c a).toNat s) = (some old, u)) :
    runAmo o c 0 ord w d a b s = retire c 3 (setPc c (pcOf s c + 4) (wr c d (amoResult o w old (rd u c b) (rd u c d)).2
      (memWrite (physKey c (rd s c a).toNat) (leBytes (if w then 4 else 8) (amoResult o w old (rd u c b) (rd u c d)).1) u))) := by
  unfold runAmo
  rw [show ((0 : BitVec 4).toNat != 0) = false from rfl, runInstr_own h (lvSU_contains h hp)]
  simp only [hf, ho, hl]

theorem runAmo_illegal {rsv : BitVec 4} (h : Fetches c (if o = .cas then [a, b, d] else [a, b]) s) (hr : rsv ≠ 0) :
    runAmo o c rsv ord w d a b s = raise c { cause := 0x01 } s := by
  have hne : (rsv.toNat != 0) = true := bne_iff_ne.mpr (fun h0 => hr (BitVec.eq_of_toNat_eq h0))
  unfold runAmo
  rw [hne]
  exact runInstr_illegal h

theorem runAmo_priv (h : Fetches c (if o = .cas then [a, b, d] else [a, b]) s) (hp : privOf s c = 2) :
    runAmo o c 0 ord w d a b s = raise c { cause := 0x02 } s := by
  unfold runAmo
  exact runInstr_priv h (lvSU_contains_hook hp)

/-- The registers an atomic reads are among ga, gb and gd. -/
theorem amoReads_of_all (o : AmoOp) (h : Fetches c [a, b, d] s) : Fetches c (if o = .cas then [a, b, d] else [a, b]) s := by
  split
  · exact h
  · exact h.subset (by simp)

end

/-- Settles O5: the numbers each operation writes back, for words and for doublewords, and the two exceptions. -/
theorem atomicResults : Obligations.AtomicResults := by
  unfold Obligations.AtomicResults
  intro c ord w d a b s u old x n runs q ret sg done gb gd
  have run {o : AmoOp} (h : Fetches c (if o = .cas then [a, b, d] else [a, b]) s) (hr : runs) (hold : old < q) :
      nextState (runAmo o c 0 ord w d a b s) = nextState (done (amoNat o (if w then 32 else 64) old gb gd)) := by
    obtain ⟨hf, ho, hl, hp⟩ := hr
    rw [runAmo_done h hp hf ho hl]
    cases w
    · rw [amoResult_word _ _ hold]; rfl
    · rw [amoResult_half _ _ hold]; rfl
  refine ⟨fun h hr hold => ?_, fun h hr hold => ?_, fun rsv h => ?_⟩
  · cases w
    · exact ⟨run (o := .swap) h hr hold, run (o := .add) h hr hold, run (o := .and) h hr hold, run (o := .or) h hr hold, run (o := .xor) h hr hold,
        run (o := .min) h hr hold, run (o := .max) h hr hold, run (o := .minu) h hr hold, run (o := .maxu) h hr hold⟩
    · exact ⟨run (o := .swap) h hr hold, run (o := .add) h hr hold, run (o := .and) h hr hold, run (o := .or) h hr hold, run (o := .xor) h hr hold,
        run (o := .min) h hr hold, run (o := .max) h hr hold, run (o := .minu) h hr hold, run (o := .maxu) h hr hold⟩
  · cases w
    · exact run (o := .cas) h hr hold
    · exact run (o := .cas) h hr hold
  · have ill (o : AmoOp) (hr : rsv ≠ 0) : nextState (runAmo o c rsv ord w d a b s) = nextState (raise c { cause := 0x01 } s) :=
      congrArg _ (runAmo_illegal (amoReads_of_all o h) hr)
    have priv (o : AmoOp) (hr : rsv = 0) (hp : privOf s c = 2) : nextState (runAmo o c rsv ord w d a b s) = nextState (raise c { cause := 0x02 } s) := by
      rw [hr, runAmo_priv (amoReads_of_all o h) hp]
    simp only [List.forall_mem_cons, List.not_mem_nil, false_implies, implies_true, and_true]
    exact ⟨⟨ill .swap, priv .swap⟩, ⟨ill .add, priv .add⟩, ⟨ill .and, priv .and⟩, ⟨ill .or, priv .or⟩, ⟨ill .xor, priv .xor⟩,
      ⟨ill .min, priv .min⟩, ⟨ill .max, priv .max⟩, ⟨ill .minu, priv .minu⟩, ⟨ill .maxu, priv .maxu⟩, ⟨ill .cas, priv .cas⟩⟩

/-! ### Barriers and special registers -/

section
variable {c : CoreId} {d a : Rn} {s : State}

theorem runSync_moves (h : Fetches c [] s) : runSync c 0 0 0 s = jumpsTo c 1 (pcOf s c + 4) s := runInstr_own h (lvAll_contains h)

theorem runSyncI_moves (h : Fetches c [] s) (hp : privOf s c ≠ 2) : runSyncI c 0 0 0 s = jumpsTo c 33 (pcOf s c + 4) s :=
  runInstr_own h (lvSU_contains h hp)

variable {l : List Nat}

theorem runMfs_reads (h : Fetches c [] s) (hl : srReadLevels a.val = some l) (hp : privOf s c ∈ l) :
    runMfs c d a 0 s = retire c 2 (setPc c (pcOf s c + 4)
      (wr c d (srRead c a.val s) (if a.val = 13 ∨ a.val = 22 then tickFree s else s))) := by
  unfold runMfs
  rw [hl]
  exact runInstr_own h (List.contains_iff_mem.mpr hp)

theorem runMfs_priv (h : Fetches c [] s) (hl : srReadLevels a.val = some l) (hp : privOf s c ∉ l) :
    runMfs c d a 0 s = raise c { cause := 0x02 } s := by
  unfold runMfs
  rw [hl]
  exact runInstr_priv h (Bool.eq_false_of_not_eq_true (fun hc => hp (List.contains_iff_mem.mp hc)))

/-- No level reads special registers 28 to 31 (Table 4.1). -/
theorem srReadLevels_eq_none {n : Nat} (hn : 28 ≤ n) : srReadLevels n = none := by
  unfold srReadLevels
  rw [if_neg (by omega), if_neg (by omega), if_neg (by omega), if_neg (by omega), if_neg (by omega), if_neg (by omega), if_neg (by omega)]

theorem runMfs_illegal (h : Fetches c [] s) (ha : 28 ≤ a.val) : runMfs c d a 0 s = raise c { cause := 0x01 } s := by
  unfold runMfs
  rw [srReadLevels_eq_none ha]
  exact runInstr_illegal h

theorem runMts_writes (h : Fetches c [a] s) (hl : srWriteLevels d.val = some l) (hp : privOf s c ∈ l) :
    runMts c d a 0 s = retire c 2 (setPc c (pcOf s c + 4) (srWrite c d.val (rd s c a) s)) := by
  unfold runMts
  rw [hl]
  exact runInstr_own h (List.contains_iff_mem.mpr hp)

theorem runTget_reads {i : Nat} (h : Fetches c [] s) (hi : runningSlot s c = some i) (ha : a.val < 16) :
    runTget c d a 0 s = writesReg c 1 d (taskReg s i a.val) s := by
  have hill : ((0 : Rn).val != 0 || decide (16 ≤ a.val) || (runningSlot s c).isNone) = false := by
    rw [hi, decide_eq_false (Nat.not_le.mpr ha)]
    rfl
  unfold runTget
  rw [hill, runInstr_own h (lvAll_contains h), hi]
  rfl

end

/-- Settles O6: the barriers, MFS, MTS and TGET, each by its body's answer, and MFS's two exceptions. -/
theorem barriersAndSpecialRegisters : Obligations.BarriersAndSpecialRegisters := by
  unfold Obligations.BarriersAndSpecialRegisters
  intro c d a s
  refine ⟨fun h => ⟨congrArg _ (runSync_moves h), congrArg _ (runSync_moves h), congrArg _ (runSync_moves h),
      fun hp => congrArg _ (runSyncI_moves h hp), fun l hl hp h13 h22 => ?_, fun l hl hp hfree => ?_,
      fun i hi ha => congrArg _ (runTget_reads h hi ha)⟩,
    fun h l hl hp => congrArg _ (runMts_writes h hl hp), fun h l hl hp => congrArg _ (runMfs_priv h hl hp),
    fun h ha => congrArg _ (runMfs_illegal h ha)⟩
  · have hm := runMfs_reads (d := d) h hl hp
    rw [if_neg (not_or.mpr ⟨h13, h22⟩)] at hm
    exact congrArg _ hm
  · have hm := runMfs_reads (d := d) h hl hp
    rw [if_pos hfree] at hm
    exact congrArg _ hm

end Sys2Proof.Machine
end

section
/-! PROOFS. The task, token and job instructions (R115, R117, R121 to R124), the buffer instructions (R116) and the level changes (Table 4.3). -/

namespace Sys2Proof.Machine

open Sys2Proof

/-- An operand field that holds 0 makes nothing ILLEGAL. -/
theorem field_zero : ((0 : Rn).val != 0) = false := rfl

/-! ### TDONE, WTOK and JOB -/

section
variable {c : CoreId} {d a b : Rn} {s u : State}

theorem runTdone_ends {i : Nat} (h : Fetches c [a, b] s) (hp : privOf s c ≠ 2) (hi : runningSlot s c = some i)
    (hb : bits (rd s c b).toNat 31 1 = 0) :
    runTdone c 0 a b s = countInstr c 12 (settleQueues (freeSlot i
      (if (slotOf s i).task.typ = 1 then
        postCpl i (slotOf s i).task (cqeOf (rd s c a) (rd s c b)) ((rd s c b).toNat.testBit 0) s
       else s))) := by
  have hill : ((0 : Rn).val != 0 || (runningSlot s c).isNone || bits (rd s c b).toNat 31 1 != 0) = false := by
    rw [hi, hb]
    rfl
  unfold runTdone
  rw [hill, runInstr_own h (lvSU_contains h hp), hi]
  rfl

theorem runTdone_illegal (h : Fetches c [a, b] s) (hb : bits (rd s c b).toNat 31 1 ≠ 0) :
    runTdone c 0 a b s = raise c { cause := 0x01 } s := by
  have hill : ((0 : Rn).val != 0 || (runningSlot s c).isNone || bits (rd s c b).toNat 31 1 != 0) = true := by
    rw [bne_iff_ne.mpr hb, Bool.or_true]
  unfold runTdone
  rw [hill]
  exact runInstr_illegal h

/-- The word in ga names a token of the running context that is held. -/
def NamesHeldToken (s : State) (c : CoreId) (g : Nat) : Prop :=
  g < 2 ^ 32 ∧ bits g 31 22 = ctxOf s c ∧ bits g 17 0 ≠ 0 ∧ (tokOf s (ctxOf s c) (bits g 21 18)).held = true ∧
    (tokOf s (ctxOf s c) (bits g 21 18)).serial = bits g 17 0

/-- WTOK's check refuses exactly the words that name no held token. -/
theorem not_namesHeldToken_iff (s : State) (c : CoreId) (g : Nat) :
    (2 ^ 32 ≤ g ∨ bits g 31 22 ≠ ctxOf s c ∨ bits g 17 0 = 0 ∨ (tokOf s (ctxOf s c) (bits g 21 18)).held = false ∨
      (tokOf s (ctxOf s c) (bits g 21 18)).serial ≠ bits g 17 0) ↔ ¬ NamesHeldToken s c g := by
  unfold NamesHeldToken
  simp only [not_and_or, Nat.not_lt, ne_eq, not_not, Bool.not_eq_true]

theorem runWtok_done {st : Nat} (h : Fetches c [a] s) (hp : privOf s c ≠ 2) (hn : NamesHeldToken s c (rd s c a).toNat)
    (hst : (tokOf s (ctxOf s c) (bits (rd s c a).toNat 21 18)).status = some st) :
    runWtok c d a 0 s = retire c 2 (setPc c (pcOf s c + 4) (wr c d (BitVec.ofNat 64 st)
      (setTok (ctxOf s c) (bits (rd s c a).toNat 21 18)
        { tokOf s (ctxOf s c) (bits (rd s c a).toNat 21 18) with held := false, status := none } s))) := by
  unfold runWtok
  rw [field_zero, runInstr_own h (lvSU_contains h hp)]
  simp only [not_namesHeldToken_iff, hn, not_true, if_false, hst]

theorem runWtok_waits {i : Nat} (h : Fetches c [a] s) (hp : privOf s c ≠ 2) (hn : NamesHeldToken s c (rd s c a).toNat)
    (hst : (tokOf s (ctxOf s c) (bits (rd s c a).toNat 21 18)).status = none) (hi : runningSlot s c = some i) :
    runWtok c d a 0 s = countInstr c 2 (leaveSlot c.val
      (setSlot i { slotOf s i with st := .waiting, wait := some (bits (rd s c a).toNat 21 18, d.val) } s)) := by
  unfold runWtok
  rw [field_zero, runInstr_own h (lvSU_contains h hp)]
  simp only [not_namesHeldToken_iff, hn, not_true, if_false, hst, hi]

theorem runWtok_refused (h : Fetches c [a] s) (hp : privOf s c ≠ 2) (hn : ¬ NamesHeldToken s c (rd s c a).toNat) :
    runWtok c d a 0 s = raise c { cause := 0x09, sub := 0, addr := rd s c a } s := by
  unfold runWtok
  rw [field_zero, runInstr_own h (lvSU_contains h hp)]
  simp only [not_namesHeldToken_iff, hn, not_false_eq_true, if_true]

variable {ds : List Desc}

theorem jobCycles_of_readChain {x : Nat} (hr : readChain c 8 x s = (.ok ds, u)) : jobCycles c x s = 10 + 4 * (ds.length - 1) := by
  unfold jobCycles
  rw [hr]

/-- The chain that JOB makes of the descriptors `ds` it read, for entry `e` with serial `n`. -/
def jobChain (x e n : Nat) (ds : List Desc) : Chain :=
  { ctx := x, entry := e, serial := n, descs := ds, notify := (ds.headD {}).flag fNotify, tag := (ds.headD {}).tag }

/-- The checks of R122 on a chain that was read. -/
def jobOk (c : CoreId) (ds : List Desc) (s : State) : Bool := chainOk ds && ds.all (placeOk c · s)

theorem runJob_takes {e n : Nat} (h : Fetches c [a] s) (hp : privOf s c ≠ 2) (hr : readChain c 8 (rd s c a).toNat s = (.ok ds, u))
    (ht : tokChoice u (ctxOf u c) = .ok e n) (hq : (jobOk c ds u && engineFull (ds.headD {}) u) = false) :
    runJob c d a 0 s = retire c (10 + 4 * (ds.length - 1)) (setPc c (pcOf s c + 4)
      (if jobOk c ds u = true then
        postChain (jobChain (ctxOf u c) e n ds) (wr c d (BitVec.ofNat 64 (mkToken (ctxOf u c) e n)) (tokPost (ctxOf u c) e n (d.val == 0) u))
       else endChain (jobChain (ctxOf u c) e n ds) (ds.headD {}) { status := jBadDesc }
        (wr c d (BitVec.ofNat 64 (mkToken (ctxOf u c) e n)) (tokPost (ctxOf u c) e n (d.val == 0) u)))) := by
  unfold jobOk at *
  unfold runJob
  rw [field_zero, runInstr_own h (lvSU_contains h hp), jobCycles_of_readChain hr]
  simp only [hr, ht, hq, Bool.false_eq_true, if_false]
  rfl

theorem runJob_stalls {e n : Nat} (h : Fetches c [a] s) (hp : privOf s c ≠ 2) (hr : readChain c 8 (rd s c a).toNat s = (.ok ds, u))
    (ht : tokChoice u (ctxOf u c) = .ok e n) (hok : jobOk c ds u = true) (hq : engineFull (ds.headD {}) u = true) : runJob c d a 0 s = u := by
  unfold jobOk at hok
  unfold runJob
  rw [field_zero, runInstr_own h (lvSU_contains h hp)]
  simp only [hr, ht, hok, hq, Bool.and_self, if_true]

theorem runJob_full (h : Fetches c [a] s) (hp : privOf s c ≠ 2) (hr : readChain c 8 (rd s c a).toNat s = (.ok ds, u))
    (ht : tokChoice u (ctxOf u c) = .full) : runJob c d a 0 s = raise c { cause := 0x09, sub := 1 } u := by
  unfold runJob
  rw [field_zero, runInstr_own h (lvSU_contains h hp)]
  simp only [hr, ht]

end

/-- Settles O7: TDONE, WTOK on each kind of token, and JOB on each outcome of its checks. -/
theorem taskTokenAndJobInstructions : Obligations.TaskTokenAndJobInstructions := by
  unfold Obligations.TaskTokenAndJobInstructions
  refine ⟨fun c d a b i s hp => ⟨fun h hi hb => congrArg _ (runTdone_ends h hp hi hb), fun h _ hb => congrArg _ (runTdone_illegal h hb), fun h => ?_⟩,
    fun c d a ds s u h hp hr => ⟨fun e n ht hq => congrArg _ (runJob_takes h hp hr ht hq), fun e n ht hok hq => congrArg _ (runJob_stalls h hp hr ht hok hq),
      fun ht => congrArg _ (runJob_full h hp hr ht)⟩⟩
  exact ⟨fun st hn hst => congrArg _ (runWtok_done h hp hn hst), fun hn hst hi => congrArg _ (runWtok_waits h hp hn hst hi),
    fun hn => congrArg _ (runWtok_refused h hp hn)⟩

/-! ### BGET, BREF and BDROP -/

section
variable {c : CoreId} {d a : Rn} {s u : State}

/-- A buffer request that names a set and a caddy. -/
theorem runBget_alloc {r : Option Nat} (h : Fetches c [a] s) (hp : privOf s c ≠ 2) (hset : (rd s c a).toNat < 16)
    (hcaddy : (rd s c a).toNat % 8 < 5) (hal : bpmAlloc .core ((rd s c a).toNat / 8) ((rd s c a).toNat % 8) s = (r, u)) :
    runBget c d a 0 s = retire c 24 (setPc c (pcOf s c + 4) (wr c d (r.elim (BitVec.allOnes 64) (BitVec.ofNat 64)) u)) := by
  have hok : ¬ (16 ≤ (rd s c a).toNat ∨ 5 ≤ (rd s c a).toNat % 8) := by omega
  unfold runBget
  rw [field_zero, runInstr_own h (lvSU_contains h hp)]
  simp only [hok, if_false, hal]
  cases r <;> rfl

theorem runBget_refused (h : Fetches c [a] s) (hp : privOf s c ≠ 2) (hbad : 16 ≤ (rd s c a).toNat ∨ 5 ≤ (rd s c a).toNat % 8) :
    runBget c d a 0 s = raise c { cause := 0x0A, sub := 2, addr := rd s c a } (bpmFailAs false c.val 2 (rd s c a).toNat s) := by
  unfold runBget
  rw [field_zero, runInstr_own h (lvSU_contains h hp)]
  simp only [hbad, if_true]

section
variable {x : Nat} (h : Fetches c [a] s) (hp : privOf s c ≠ 2) (hw : waitsRebuild (rd s c a).toNat s = false)
include h hp hw

theorem runBref_raises (hc : checkHandle .bref (rd s c a).toNat 0 s = .ok x) :
    runBref c d a 0 s = retire c 24 (setPc c (pcOf s c + 4)
      (wr c d (BitVec.ofNat 64 ((bufOf x s).cnt + 1)) (setBuf x { bufOf x s with cnt := (bufOf x s).cnt + 1 } s))) := by
  unfold runBref
  rw [field_zero, runInstr_own h (lvSU_contains h hp)]
  simp only [hw, Bool.false_eq_true, if_false, hc]

theorem runBdrop_lowers (hc : checkHandle .bdrop (rd s c a).toNat 0 s = .ok x) :
    runBdrop c d a 0 s = retire c 24 (setPc c (pcOf s c + 4) (wr c d (BitVec.ofNat 64 ((bufOf x s).cnt - 1)) (dropRef x s))) := by
  unfold runBdrop
  rw [field_zero, runInstr_own h (lvSU_contains h hp)]
  simp only [hw, Bool.false_eq_true, if_false, hc]

theorem runBref_refused (hc : checkHandle .bref (rd s c a).toNat 0 s = .error x) :
    runBref c d a 0 s = raise c { cause := 0x0A, sub := x, addr := rd s c a } (bpmFail c.val x (rd s c a).toNat s) := by
  unfold runBref
  rw [field_zero, runInstr_own h (lvSU_contains h hp)]
  simp only [hw, Bool.false_eq_true, if_false, hc]
  rfl

theorem runBdrop_refused (hc : checkHandle .bdrop (rd s c a).toNat 0 s = .error x) :
    runBdrop c d a 0 s = raise c { cause := 0x0A, sub := x, addr := rd s c a } (bpmFail c.val x (rd s c a).toNat s) := by
  unfold runBdrop
  rw [field_zero, runInstr_own h (lvSU_contains h hp)]
  simp only [hw, Bool.false_eq_true, if_false, hc]
  rfl

end

end

/-- Settles O8: each buffer instruction on a request or a handle that passes its checks, and on one that does not. -/
theorem bufferInstructions : Obligations.BufferInstructions := by
  unfold Obligations.BufferInstructions
  intro c d a s h hp g fails
  refine ⟨fun hset hcaddy => ⟨fun x u hal => congrArg _ (runBget_alloc h hp hset hcaddy hal),
      fun u hal => congrArg _ (runBget_alloc h hp hset hcaddy hal)⟩,
    fun hbad => congrArg _ (runBget_refused h hp hbad), fun hw => ?_⟩
  exact ⟨fun x hc => congrArg _ (runBref_raises h hp hw hc), fun x hc => congrArg _ (runBdrop_lowers h hp hw hc),
    fun code hc => congrArg _ (runBref_refused h hp hw hc), fun code hc => congrArg _ (runBdrop_refused h hp hw hc)⟩

/-! ### Level changes -/

section
variable {c : CoreId} {d a : Rn} {l : Nat} {s : State}

/-- The level as an instruction's frame checks it. -/
theorem single_contains {p : Nat} (hp : privOf s c = p) : [p].contains (privOf s c) = true := by
  rw [hp]
  exact List.contains_iff_mem.mpr List.mem_cons_self

theorem single_not_contains {p : Nat} (hp : privOf s c ≠ p) : [p].contains (privOf s c) = false :=
  Bool.eq_false_of_not_eq_true (fun hc => hp (List.mem_singleton.mp (List.contains_iff_mem.mp hc)))

theorem runHcall_enters (h : Fetches c [a] s) (hp : privOf s c = 1) :
    runHcall c 0 a 0 s = jumpsTo c 4 (rd s c a) (setHookState c .hook (setBank (ctxOf s c) { bankOf s (ctxOf s c) with priv := 2 }
      (setCore c { coreOf s c with hepc := pcOf s c + 4, hbudget := hookBudget s + 4, hook := Config.hookAt (rd s c a).toNat % 4 } s))) := by
  unfold runHcall
  rw [show ((0 : Rn).val + (0 : Rn).val != 0) = false from rfl, runInstr_own h (single_contains hp)]
  simp only [bankOf_setCore]
  rw [ctxOf_setCore (by rfl)]
  rfl

theorem runHret_returns (h : Fetches c [] s) (hp : privOf s c = 2) :
    runHret c 0 0 0 s =
      jumpsTo c 4 (coreOf s c).hepc (setHookState c .running (setBank (ctxOf s c) { bankOf s (ctxOf s c) with priv := 1 } s)) :=
  runInstr_own h (single_contains hp)

theorem pcOf_returnS (c : CoreId) (s : State) : pcOf (returnS c s) c = (coreOf s c).epc := by
  simp only [pcOf, returnS, ctxOf_setBank, bankOf_setBank]

theorem runEret_returns (h : Fetches c [] s) (hp : privOf s c = 0) (hs : (coreOf s c).start = false) :
    runEret c 0 0 0 s = jumpsTo c 4 (coreOf s c).epc (returnS c s) := by
  have hstart : (coreOf (returnS c s) c).start = false := hs
  unfold runEret
  rw [show ((0 : Rn).val + (0 : Rn).val + (0 : Rn).val != 0) = false from rfl, runInstr_own h (single_contains hp)]
  simp only [hstart, Bool.false_and, Bool.false_eq_true, if_false, pcOf_returnS]
  rfl

/-- Outside H an instruction's exception is only taken: no hook is cut off. -/
theorem raise_of_not_hook {e : Exc} (hp : privOf s c ≠ 2) : raise c e s = takeException c e s :=
  if_neg (fun h => hp h.1)

theorem runSvc_takes (h : Fetches c [] s) (hp : privOf s c = 1) :
    runSvc c d a 0 s = takeException c { cause := 0x0C, sub := (d.val * 32 + a.val) % 256, addr := BitVec.ofNat 64 (d.val * 32 + a.val) } s := by
  rw [← raise_of_not_hook (by omega)]
  exact runInstr_own h (single_contains hp)

theorem runBrk_takes (h : Fetches c [] s) (hp : privOf s c ≠ 2) :
    runBrk c d a 0 s = takeException c { cause := 0x0D, sub := (d.val * 32 + a.val) % 256, addr := BitVec.ofNat 64 (d.val * 32 + a.val) } s := by
  rw [← raise_of_not_hook hp]
  exact runInstr_own h (lvSU_contains h hp)

theorem opIrq_takes {l : Fin 16} (hpair : isPair c = true) (hrun : coreRunning s c = true) (hp : privOf s c = 0) (hie : (bankOf s (ctxOf s c)).ie = true)
    (hline : (pendingLines s).testBit l.val = true) (hmask : (coreOf s c).imask.toNat.testBit l.val = true) : opIrq c l s = takeIrq c l.val s := by
  unfold opIrq
  rw [hpair, hrun, hp, hie, hline, hmask]
  rfl

theorem opBudget_ends (hx : executes s c = true) (hp : privOf s c = 2) :
    opBudget c s = raise c { cause := 0x08 } (setCore c { coreOf s c with hbudget := 0 } s) := by
  unfold opBudget
  rw [hx, hp]
  rfl

end

/-- Settles O9: each level change at its own level, and PRIV at the others. -/
theorem levelChangingInstructions : Obligations.LevelChangingInstructions := by
  unfold Obligations.LevelChangingInstructions
  intro c d a l s x imm
  refine ⟨fun h hp => congrArg _ (runHcall_enters h hp), fun h hp => congrArg _ (runHret_returns h hp),
    fun h hp hs => congrArg _ (runEret_returns h hp hs), fun h hp => congrArg _ (runSvc_takes h hp), fun h hp => congrArg _ (runBrk_takes h hp),
    fun h1 h2 h3 h4 h5 h6 => congrArg _ (opIrq_takes h1 h2 h3 h4 h5 h6), fun hx hp => congrArg _ (opBudget_ends hx hp),
    fun h hp => congrArg _ (runInstr_priv h (single_not_contains hp)), fun h => ⟨fun hp => ?_, fun hp => ?_, fun hp => ?_, fun hp => ?_⟩⟩
  · exact congrArg _ (runInstr_priv h (single_not_contains hp))
  · exact congrArg _ (runInstr_priv h (single_not_contains hp))
  · exact congrArg _ (runInstr_priv h (single_not_contains hp))
  · exact congrArg _ (runInstr_priv h (lvSU_contains_hook hp))

end Sys2Proof.Machine
end

section
/-! PROOFS. What taking an exception and returning from it save and leave (R103, Table 4.3), and the frame of the ALU instructions (Tables 4.8 and 4.9). -/

namespace Sys2Proof.Machine

open Sys2Proof

/-! ### A state whose cores are another's with one context entered anew -/

section
variable {c : CoreId} {k : Core} {b : Bank} {s t : State} (hcpu : t.cpu = (setBank (ctxOf s c) b (setCore c k s)).cpu)
include hcpu

theorem coreOf_of_cpu : coreOf t c = k := by
  rw [coreOf, hcpu]
  exact coreOf_setCore c k s

theorem bankOf_of_cpu : bankOf t (ctxOf s c) = b := by
  rw [bankOf, hcpu]
  exact bankOf_setBank _ _ _

theorem bankOf_of_cpu_other {y : Nat} (hy : y ≠ ctxOf s c) : bankOf t y = bankOf s y := by
  rw [bankOf, hcpu]
  exact bankOf_setBank_other _ _ _ _ hy

variable (hk : k.cur = (coreOf s c).cur)
include hk

theorem ctxOf_of_cpu : ctxOf t c = ctxOf s c := by
  rw [ctxOf, ctxOf, coreOf_of_cpu hcpu, hk]

theorem rd_of_cpu (hg : b.g = (bankOf s (ctxOf s c)).g) (r : Rn) : rd t c r = rd s c r := by
  rw [rd, rd, ctxOf_of_cpu hcpu hk, bankOf_of_cpu hcpu, greg, greg, hg]

end

/-! ### Taking an exception -/

section
variable {c : CoreId} {e : Exc} {epc target : Word} {fromH : Bool} {s : State}

theorem enterS_cpu : (enterS c e epc target fromH s).cpu = (setBank (ctxOf s c)
    { bankOf s (ctxOf s c) with pc := target, priv := 0, ppriv := privOf s c, pie := (bankOf s (ctxOf s c)).ie, ie := false }
    (setCore c { coreOf s c with epc := epc, ecause := causeWord e fromH, eaddr := e.addr } s)).cpu := by
  unfold enterS
  dsimp only
  split <;> rfl

theorem leaveH_cpu : (leaveH c e epc s).cpu = (setBank (ctxOf s c) { bankOf s (ctxOf s c) with pc := (coreOf s c).hxvec, priv := 1 }
    (setCore c { coreOf s c with hfpc := epc, hcause := causeWord e true, haddr := e.addr } s)).cpu := by
  unfold leaveH
  dsimp only
  split <;> rfl

theorem takeException_enters (h : privOf s c ≠ 2 ∨ e.cause = 0x0B) :
    takeException c e s = enterS c e (pcOf s c) (coreOf s c).evec (decide (privOf s c = 2)) s :=
  if_neg (fun hb => h.elim (fun hp => hp hb.1) hb.2)

theorem takeException_leaves (hp : privOf s c = 2) (he : e.cause ≠ 0x0B) :
    (takeException c e s).cpu = (leaveH c e (pcOf s c) s).cpu := by
  unfold takeException
  rw [if_pos ⟨hp, he⟩]
  dsimp only
  split <;> rfl

theorem enterS_mem : (enterS c e epc target fromH s).mem = s.mem := by
  unfold enterS
  dsimp only
  split <;> rfl

theorem leaveH_mem : (leaveH c e epc s).mem = s.mem := by
  unfold leaveH
  dsimp only
  split <;> rfl

theorem takeException_mem : (takeException c e s).mem = s.mem := by
  unfold takeException
  dsimp only
  split
  · split <;> exact leaveH_mem
  · exact enterS_mem

/-- What an exception leaves of the cores: the core with its running slot, and the bank with its registers. -/
theorem takeException_cpu (c : CoreId) (e : Exc) (s : State) : ∃ (k : Core) (b : Bank), k.cur = (coreOf s c).cur ∧ b.g = (bankOf s (ctxOf s c)).g ∧
    (takeException c e s).cpu = (setBank (ctxOf s c) b (setCore c k s)).cpu := by
  by_cases h : privOf s c = 2 ∧ e.cause ≠ 0x0B
  · exact ⟨_, _, by rfl, by rfl, (takeException_leaves h.1 h.2).trans leaveH_cpu⟩
  · rw [takeException_enters (by tauto)]
    exact ⟨_, _, by rfl, by rfl, enterS_cpu⟩

end

/-- The level and the interrupt enable that a return restores. -/
theorem bankOf_returnS (c : CoreId) (s : State) : bankOf (returnS c s) (ctxOf s c) =
    { bankOf s (ctxOf s c) with pc := (coreOf s c).epc, priv := (bankOf s (ctxOf s c)).ppriv, ie := (bankOf s (ctxOf s c)).pie } :=
  bankOf_setBank _ _ _

/-- Settles O10: the core and the bank that each way of taking an exception leaves. -/
theorem exceptionEntryAndReturn : Obligations.ExceptionEntryAndReturn := by
  unfold Obligations.ExceptionEntryAndReturn
  intro c e s t x
  obtain ⟨k, b, hk, hg, hcpu⟩ := takeException_cpu c e s
  have hctx : ctxOf t c = x := ctxOf_of_cpu hcpu hk
  have hpc : pcOf t c = (bankOf t x).pc := by rw [pcOf, hctx]
  refine ⟨fun hp => ?_, fun hp he => ?_, fun hp he => ?_, rd_of_cpu hcpu hk hg, fun y hy => bankOf_of_cpu_other hcpu hy, fun n => ?_⟩
  · have ht : t.cpu = _ := (congrArg State.cpu (takeException_enters (e := e) (Or.inl hp))).trans enterS_cpu
    have hcore := coreOf_of_cpu ht
    have hbank := bankOf_of_cpu ht
    have hret := bankOf_returnS c t
    rw [hctx, hbank, hcore] at hret
    have hctxu : ctxOf (returnS c t) c = x := hctx
    have hpcu : pcOf (returnS c t) c = (bankOf (returnS c t) x).pc := by rw [pcOf, hctxu]
    have hprivu : privOf (returnS c t) c = (bankOf (returnS c t) x).priv := by rw [privOf, hctxu]
    rw [hpc]
    dsimp only
    rw [hpcu, hprivu, hcore, hbank, hret, decide_eq_false hp]
    exact ⟨rfl, rfl, rfl, rfl, rfl, rfl, rfl, rfl, rfl, rfl, rfl⟩
  · have ht : t.cpu = _ := (takeException_leaves hp he).trans leaveH_cpu
    rw [hpc, coreOf_of_cpu ht, bankOf_of_cpu ht]
    exact ⟨rfl, rfl, rfl, rfl, rfl, rfl⟩
  · have ht : t.cpu = _ := (congrArg State.cpu (takeException_enters (s := s) (c := c) (Or.inr he))).trans enterS_cpu
    rw [hpc, coreOf_of_cpu ht, bankOf_of_cpu ht]
    exact ⟨rfl, rfl, hp, rfl⟩
  · rw [memByte, memByte, takeException_mem]

/-! ### The frame of the ALU instructions -/

theorem listSet_getD_other {V : Type} (l : List V) (i j : Nat) (x y : V) (h : j ≠ i) : (listSet l i x).getD j y = l.getD j y := by
  induction l generalizing i j with
  | nil => rfl
  | cons z l ih =>
    cases i with
    | zero =>
      cases j with
      | zero => exact absurd rfl h
      | succ j => rfl
    | succ i =>
      cases j with
      | zero => rfl
      | succ j => simpa [listSet] using ih i j (by omega)

theorem greg_gput_other {b : Bank} {r d : Rn} (v : Word) (hr : r ≠ d) : greg (gput d v b) r = greg b r := by
  have hne : r.val ≠ d.val := fun h => hr (Fin.ext h)
  unfold gput greg
  split
  next => rfl
  next hd =>
    split
    next => rfl
    next hr0 => exact listSet_getD_other _ _ _ _ _ (by omega)

/-- A core with an instruction of `n` cycles counted and `m` cycles of hook budget left. -/
def countedCore (k : Core) (n m : Nat) : Core :=
  { k with first := false, cycle := k.cycle + BitVec.ofNat 64 n, instret := k.instret + 1, hbudget := m }

/-- An instruction that does not end the hook budget is only counted. -/
theorem retire_counts {c : CoreId} {n : Nat} {s : State} (h : privOf s c = 2 → n < (coreOf s c).hbudget) :
    ∃ m, retire c n s = setCore c (countedCore (coreOf s c) n m) s := by
  have hp : privOf (countInstr c n s) c = privOf s c := by
    simp only [privOf, countInstr, bankOf_setCore]
    rw [ctxOf_setCore (by rfl)]
  unfold retire
  simp only [hp]
  by_cases h2 : privOf s c = 2
  · rw [if_pos h2, if_neg (by simpa [countInstr] using h h2)]
    simp only [countInstr, setCore_setCore, coreOf_setCore]
    exact ⟨_, rfl⟩
  · rw [if_neg h2]
    exact ⟨_, rfl⟩

/-- The instruction puts some value in gd and moves on in at most 4 cycles. -/
def WritesGd (c : CoreId) (d : Rn) (s : State) (i : Instr) : Prop :=
  ∃ (n : Nat) (v : Word), n ≤ 4 ∧ exec i s = .next (writesReg c n d v s)

section
variable {c : CoreId} {d a b : Rn} {s : State}

theorem WritesGd.of_alu {i : Instr} (o : AluOp) (hi : exec i s = nextState (runAlu o c d a b s)) (hn : aluCycles o ≤ 4)
    (h : Fetches c (if aluUnary o then [a] else [a, b]) s) (hb : (aluUnary o && b.val != 0) = false) : WritesGd c d s i :=
  ⟨_, _, hn, hi.trans (congrArg _ (runAlu_writes h hb))⟩

theorem WritesGd.of_imm {v : BitVec 16} {i : Instr} (o : ImmOp) (hi : exec i s = nextState (runImm o c d a v s)) (h : Fetches c [a] s)
    (hv : (immShift o && decide (64 ≤ v.toNat)) = false) : WritesGd c d s i :=
  ⟨_, _, by decide, hi.trans (congrArg _ (runImm_writes h hv rfl))⟩

theorem alu_writesGd (h : Fetches c [a, b] s) : ∀ i ∈ ([.add c d a b, .sub c d a b, .and c d a b, .or c d a b, .xor c d a b, .sll c d a b,
    .srl c d a b, .sra c d a b, .slt c d a b, .sltu c d a b, .mul c d a b, .mulhu c d a b, .div c d a b, .divu c d a b, .rem c d a b,
    .remu c d a b, .min c d a b, .max c d a b, .minu c d a b, .maxu c d a b, .rotr c d a b, .andn c d a b] : List Instr), WritesGd c d s i := by
  simp only [List.forall_mem_cons, List.not_mem_nil, false_implies, implies_true, and_true]
  exact ⟨.of_alu .add rfl (by decide) h rfl, .of_alu .sub rfl (by decide) h rfl, .of_alu .and rfl (by decide) h rfl,
    .of_alu .or rfl (by decide) h rfl, .of_alu .xor rfl (by decide) h rfl, .of_alu .sll rfl (by decide) h rfl, .of_alu .srl rfl (by decide) h rfl,
    .of_alu .sra rfl (by decide) h rfl, .of_alu .slt rfl (by decide) h rfl, .of_alu .sltu rfl (by decide) h rfl, .of_alu .mul rfl (by decide) h rfl,
    .of_alu .mulhu rfl (by decide) h rfl, .of_alu .div rfl (by decide) h rfl, .of_alu .divu rfl (by decide) h rfl, .of_alu .rem rfl (by decide) h rfl,
    .of_alu .remu rfl (by decide) h rfl, .of_alu .min rfl (by decide) h rfl, .of_alu .max rfl (by decide) h rfl, .of_alu .minu rfl (by decide) h rfl,
    .of_alu .maxu rfl (by decide) h rfl, .of_alu .rotr rfl (by decide) h rfl, .of_alu .andn rfl (by decide) h rfl⟩

theorem unary_writesGd (h : Fetches c [a] s) : ∀ i ∈ ([.clz c d a 0, .ctz c d a 0, .popc c d a 0, .bswap c d a 0] : List Instr), WritesGd c d s i := by
  simp only [List.forall_mem_cons, List.not_mem_nil, false_implies, implies_true, and_true]
  exact ⟨.of_alu .clz rfl (by decide) h rfl, .of_alu .ctz rfl (by decide) h rfl, .of_alu .popc rfl (by decide) h rfl,
    .of_alu .bswap rfl (by decide) h rfl⟩

variable (v : BitVec 16)

theorem imm_writesGd (h : Fetches c [a] s) : ∀ i ∈ ([.addi c d a v, .andi c d a v, .ori c d a v, .xori c d a v, .clti c d a v, .cltiu c d a v,
    .lmi c d a v, .lhi c d a v, .lxi c d a v] : List Instr), WritesGd c d s i := by
  simp only [List.forall_mem_cons, List.not_mem_nil, false_implies, implies_true, and_true]
  exact ⟨.of_imm .addi rfl h rfl, .of_imm .andi rfl h rfl, .of_imm .ori rfl h rfl, .of_imm .xori rfl h rfl, .of_imm .clti rfl h rfl,
    .of_imm .cltiu rfl h rfl, .of_imm .lmi rfl h rfl, .of_imm .lhi rfl h rfl, .of_imm .lxi rfl h rfl⟩

theorem shift_writesGd (h : Fetches c [a] s) (hv : v.toNat < 64) : ∀ i ∈ ([.slli c d a v, .srli c d a v, .srai c d a v] : List Instr), WritesGd c d s i := by
  have hin : decide (64 ≤ v.toNat) = false := decide_eq_false (by omega)
  simp only [List.forall_mem_cons, List.not_mem_nil, false_implies, implies_true, and_true]
  exact ⟨.of_imm .slli rfl h (by rw [hin]; rfl), .of_imm .srli rfl h (by rw [hin]; rfl), .of_imm .srai rfl h (by rw [hin]; rfl)⟩

end

section
variable (c : CoreId) (d : Rn) (v w : Word) (s : State)

/-- Writing gd and then the PC is one write of the running bank. -/
theorem setPc_wr : setPc c w (wr c d v s) = setBank (ctxOf s c) { gput d v (bankOf s (ctxOf s c)) with pc := w } s := by
  simp only [setPc, wr, ctxOf_setBank, bankOf_setBank]
  simp only [setBank, kput_kput]

end

/-- The state after gd took `v`, the PC moved on and `n` cycles were counted, with `m` cycles of hook budget left. -/
def writesCounted (c : CoreId) (d : Rn) (v : Word) (n m : Nat) (s : State) : State :=
  setCore c (countedCore (coreOf s c) n m) (setBank (ctxOf s c) { gput d v (bankOf s (ctxOf s c)) with pc := pcOf s c + 4 } s)

theorem writesReg_counts {c : CoreId} {d : Rn} {v : Word} {n : Nat} {s : State} (h : privOf s c = 2 → n < (coreOf s c).hbudget) :
    ∃ m, writesReg c n d v s = writesCounted c d v n m s := by
  have hpriv : privOf (setPc c (pcOf s c + 4) (wr c d v s)) c = privOf s c := by
    rw [setPc_wr, privOf, ctxOf_setBank, bankOf_setBank, gput_priv]
    rfl
  obtain ⟨m, hm⟩ := retire_counts (n := n) (s := setPc c (pcOf s c + 4) (wr c d v s)) (c := c) (fun hp => h (hpriv ▸ hp))
  refine ⟨m, hm.trans ?_⟩
  rw [setPc_wr]
  rfl

section
variable (c : CoreId) (d : Rn) (v : Word) (n m : Nat) (s : State)

theorem bankOf_writesCounted :
    bankOf (writesCounted c d v n m s) (ctxOf s c) = { gput d v (bankOf s (ctxOf s c)) with pc := pcOf s c + 4 } := bankOf_setBank _ _ _

theorem ctxOf_writesCounted : ctxOf (writesCounted c d v n m s) c = ctxOf s c := ctxOf_setCore rfl

/-- A write of a register leaves the bank's levels and interrupt enables. -/
theorem gput_levels (b : Bank) : (gput d v b).priv = b.priv ∧ (gput d v b).ppriv = b.ppriv ∧ (gput d v b).pie = b.pie ∧ (gput d v b).ie = b.ie := by
  unfold gput
  split <;> exact ⟨rfl, rfl, rfl, rfl⟩

end

/-- Settles O11: what completes is one write of gd and the PC, counted on its core. -/
theorem aluFrame : Obligations.AluFrame := by
  unfold Obligations.AluFrame
  intro c d a b v i s t h hbud hi ht
  have ha : Fetches c [a] s := h.subset (by simp)
  obtain ⟨n, w, hn, hw⟩ : WritesGd c d s i := by
    rcases hi with hi | ⟨rfl, hi⟩ | ⟨hv, hi⟩
    · exact (List.forall_mem_append.mpr ⟨alu_writesGd h, imm_writesGd v ha⟩) i hi
    · exact unary_writesGd ha i hi
    · exact shift_writesGd v ha hv i hi
  obtain ⟨m, hm⟩ := writesReg_counts (d := d) (v := w) (fun hp => Nat.lt_of_le_of_lt hn (hbud hp))
  rw [hm, ht] at hw
  cases hw
  refine ⟨fun r hr => ?_, rfl, rfl, fun y hy => bankOf_setBank_other _ _ _ _ hy, ?_, ⟨n, m, coreOf_setCore _ _ _⟩, fun c' hc' => ?_, rfl⟩
  · rw [rd, ctxOf_writesCounted, bankOf_writesCounted]
    exact greg_gput_other w hr
  · dsimp only
    rw [bankOf_writesCounted]
    exact gput_levels d w _
  · exact kget_kput_other _ _ _ _ _ (fun hv => hc' (Fin.ext hv))

end Sys2Proof.Machine
end

section
/-! PROOFS. The core, recorder, fault-counter and window registers (R132, R373, R411, R412, R417), the checks of a register write (R104, R105, R536 to
R538), SEND and WAITP (R118, R127). -/

namespace Sys2Proof.Machine

open Sys2Proof

/-! ### A write of a register that no gated island serves -/

theorem servedBy_eq_none {a : Nat} (h : blockOf a < 10 ∨ 13 < blockOf a) : servedBy a true = none := by
  unfold servedBy
  rw [Bool.not_true, Bool.false_and, if_neg Bool.false_ne_true]
  split
  next hb => omega
  next hb => omega
  next hb => omega
  next hb => omega
  next => rfl

theorem regCmd_always_on {who : CoreId} {a : Nat} {v : Word} {failing : List Nat} {s : State} (h : Accepts who a v s)
    (hb : blockOf a < 10 ∨ 13 < blockOf a) : regCmd who a v failing s = writeReg stepOnce who a v failing s := by
  rw [regCmd_accepts h, ctlUngate_of_servedBy_none (servedBy_eq_none hb)]

/-! ### DPC_CORE_CTL (R132) -/

/-- The word that a core command writes: the bits of `m` set in `v`. -/
theorem wbit_or {v : Word} {m k : Nat} (hk : k < 64) : wbit (BitVec.ofNat 64 (v.toNat ||| m)) k = (v.toNat.testBit k || m.testBit k) := by
  rw [wbit, BitVec.toNat_ofNat, Nat.testBit_mod_two_pow, decide_eq_true hk, Bool.true_and, Nat.testBit_or]

/-- A bit of `m` is set in the word that a core command writes. -/
theorem wbit_or_set {v : Word} {m k : Nat} (hk : k < 64) (hm : m.testBit k = true) : wbit (BitVec.ofNat 64 (v.toNat ||| m)) k = true := by
  rw [wbit_or hk, hm, Bool.or_true]

/-- The address of DPC_CORE_CTL_n. -/
def coreCtlAddr (n : Fin 64) : Nat := 0x200013000100 + 8 * n.val

theorem coreCmd_writes {who : CoreId} {n : Fin 64} {v : Word} {m : Nat} {s : State}
    (h : Accepts who (coreCtlAddr n) (BitVec.ofNat 64 (v.toNat ||| m)) s) :
    coreCmd who n v m s = writeCore stepOnce (coreCtlAddr n) (BitVec.ofNat 64 (v.toNat ||| m)) s := by
  have hn := n.isLt
  have hb : blockOf (coreCtlAddr n) = 19 := by unfold blockOf coreCtlAddr; omega
  have ho : 0x100 ≤ offsetOf (coreCtlAddr n) ∧ offsetOf (coreCtlAddr n) < 0x300 := by unfold offsetOf coreCtlAddr; omega
  exact (regCmd_always_on h (by omega)).trans ((writeReg_dpc hb).trans (if_pos ho))

theorem coreCtlAddr_index (n : Fin 64) : (offsetOf (coreCtlAddr n) - 0x100) / 8 = n.val := by
  have hn := n.isLt
  unfold offsetOf coreCtlAddr
  omega

section
variable {stepper : Nat → State → State} {a : Nat} {n : Fin 64} {v : Word} {s : State}

section
variable (hi : (offsetOf a - 0x100) / 8 = n.val)
include hi

/-- A rising EN of a core that is not retired releases it at START in S. -/
theorem writeCore_releases (hen : wbit v 0 = true) (hretire : wbit v 3 = false) (hstep : wbit v 2 = false)
    (hwas : rbit F.DPC_CORE_CTL_EN s n.val = false) (hhalt : rbit F.DPC_CORE_CTL_HALT s n.val = false)
    (hret : rtest F.DPC_CORE_RETIRED_CORES n.val (storeWord a v s) = false) :
    writeCore stepper a v s = setBank (8 * n.val) { pc := BitVec.ofNat 64 (bits v.toNat 57 16 * 64), priv := 0 }
      { storeWord a v s with
        cpu := { (storeWord a v s).cpu with
          cores := kput (storeWord a v s).cpu.cores n.val { start := true, first := true } } } := by
  unfold writeCore
  simp only [hi, hen, hretire, hstep, hwas, hhalt, hret, Bool.false_and, Bool.false_eq_true, if_false, Bool.not_false, Bool.and_self, if_true]

/-- A core that was released, and does not leave its halt, is only stored and stepped. -/
theorem writeCore_stores (hretire : wbit v 3 = false) (hwas : rbit F.DPC_CORE_CTL_EN s n.val = true) (hhalt : wbit v 1 = true) :
    writeCore stepper a v s =
      if wbit v 2 then stepper n.val (storeWord a v s) else storeWord a v s := by
  unfold writeCore
  simp only [hi, hretire, hwas, hhalt, Bool.false_and, Bool.false_eq_true, if_false, Bool.not_true, Bool.and_false, Bool.and_true]

/-- RETIRE of a core that runs: it is retired as the fault counters do, unless it is already. -/
theorem writeCore_retires (hretire : wbit v 3 = true) (hstep : wbit v 2 = false) (hwas : rbit F.DPC_CORE_CTL_EN s n.val = true)
    (hhalt : rbit F.DPC_CORE_CTL_HALT s n.val = false) :
    writeCore stepper a v s =
      if rtest F.DPC_CORE_RETIRED_CORES n.val (storeWord a v s) then storeWord a v s
      else record Ev.CORE_RETIRED (coreSource (Fin.ofNat 66 n.val)) n.val [] (retireCore n.val (storeWord a v s)) := by
  unfold writeCore
  simp only [hi, hretire, hstep, hwas, hhalt, n.isLt, decide_true, Bool.true_and, Bool.false_and, Bool.false_eq_true, if_false,
    Bool.not_true, Bool.and_false]
  cases rtest F.DPC_CORE_RETIRED_CORES n.val (storeWord a v s) <;>
    simp only [Bool.not_true, Bool.not_false, Bool.false_eq_true, if_false, if_true]

end

theorem stepOnce_runs {c : CoreId} (hc : c.val = n.val) (hx : executes (selectNext n.val (rflag F.DPC_CORE_CTL_HALT false s n.val)) c = true) :
    stepOnce n.val s = rflag F.DPC_CORE_CTL_HALT true
      (runDyris (stepCore 63) (decodeDyris (fetchWord c (selectNext n.val (rflag F.DPC_CORE_CTL_HALT false s n.val)))) c
        (selectNext n.val (rflag F.DPC_CORE_CTL_HALT false s n.val))) n.val := by
  obtain rfl : c = ⟨n.val, Nat.lt_of_lt_of_le n.isLt (by decide)⟩ := Fin.ext hc
  unfold stepOnce
  rw [stepCore.eq_def]
  simp only [n.isLt, dif_pos, hx, if_true]

end

/-! ### The recorder, fault-counter and window registers -/

section
variable {who : CoreId} {v : Word} {s : State}

theorem evrWinSel_selects (h : Accepts who 0x200003000018 v s) : regCmd who 0x200003000018 v [] s = opEvrWinSel v s :=
  (regCmd_always_on h (by decide)).trans (writeReg_evr (by decide))

theorem evrWinData_reads {d : Rn} (hx : executes s who = true) (hf : ctlFault who 0x200003000020 false 0 s = none) :
    readCmd who 0x200003000020 d s = wr who d (readWinData s).1 (readWinData s).2 := by
  unfold readCmd
  rw [hx, hf]
  rfl

theorem evrInject_injects {a : Nat} {b : List Byte} {s1 : State} (hlt : a < 2 ^ 48) (h : Accepts who 0x200003000028 (BitVec.ofNat 64 a) s)
    (ha : a % 32 = 0) (hp : dataPlace who a true s = true) (hr : readMem (physKey who a) 32 s = (some b, s1)) :
    regCmd who 0x200003000028 (BitVec.ofNat 64 a) [] s = injectBlock who b s1 := by
  have hx : bits (BitVec.ofNat 64 a).toNat 47 0 = a := by
    rw [BitVec.toNat_ofNat]
    unfold bits
    omega
  have hok : ¬ (a % 32 ≠ 0 ∨ dataPlace who a true s = false) := by rw [ha, hp]; decide
  have hw : writeEvr who 0x200003000028 (BitVec.ofNat 64 a) s = injectBlock who b s1 := by
    unfold writeEvr
    rw [show offsetOf 0x200003000028 = 0x28 from by decide]
    simp only [hx, hok, if_false, hr]
  exact (regCmd_always_on h (by decide)).trans ((writeReg_evr (by decide)).trans hw)

theorem fltCtrCfgWrite_writes {k : Fin 7} (h : Accepts who (0x200012000100 + 8 * k.val) v s) :
    regCmd who (0x200012000100 + 8 * k.val) v [] s = opFltCtrCfgWrite k v s := by
  have hk := k.isLt
  have hb : blockOf (0x200012000100 + 8 * k.val) = 18 := by unfold blockOf; omega
  have ho : 0x100 ≤ offsetOf (0x200012000100 + 8 * k.val) ∧ offsetOf (0x200012000100 + 8 * k.val) < 0x180 := by unfold offsetOf; omega
  have hi : Fin.ofNat 7 ((offsetOf (0x200012000100 + 8 * k.val) - 0x100) / 8) = k := by
    apply Fin.ext
    rw [Fin.val_ofNat]
    unfold offsetOf
    omega
  rw [regCmd_always_on h (by omega)]
  unfold writeReg
  rw [hb]
  simp only [ho, and_self, if_true, hi]
  rfl

theorem winCfg_writes (h : Accepts who 0x200008000018 v s) (hw : rget F.RRN_WIN_SEL_WORD s = 2) : winCmd who v s = writeWinCfg v s := by
  unfold winCmd
  rw [if_pos hw, regCmd_always_on h (by decide)]
  rfl

theorem writeWinCfg_arms (hw : rget F.RRN_WIN_SEL_WORD s = 2) : writeWinCfg 2 s = armWindow (rget F.RRN_WIN_SEL_WINDOW s) s := by
  unfold writeWinCfg
  rw [hw]
  rfl

theorem writeWinCfg_disarms (hw : rget F.RRN_WIN_SEL_WORD s = 2) : writeWinCfg 1 s = disarmWindow (rget F.RRN_WIN_SEL_WINDOW s) s := by
  unfold writeWinCfg
  rw [hw]
  rfl

end

/-- Settles O26: each command reaches its register's write, and that write does what its rule says. -/
theorem coreRecorderAndWindowCommands : Obligations.CoreRecorderAndWindowCommands := by
  unfold Obligations.CoreRecorderAndWindowCommands
  refine ⟨fun who n v s => ⟨?_, ?_, ?_, ?_⟩, fun who d v k addr b s s1 => ⟨?_, ?_, ?_, ?_, ?_, ?_⟩⟩
  · intro h hstep hretire hen hhalt hret
    exact congrArg _ ((coreCmd_writes h).trans (writeCore_releases (coreCtlAddr_index n) (wbit_or_set (by decide) (by decide)) hretire hstep hen hhalt hret))
  · intro h hstep hretire hen
    exact congrArg _ ((coreCmd_writes h).trans ((writeCore_stores (coreCtlAddr_index n) hretire hen (wbit_or_set (by decide) (by decide))).trans
      (if_neg (ne_true_of_eq_false hstep))))
  · intro h hretire hen x hx
    exact congrArg _ ((coreCmd_writes h).trans ((writeCore_stores (coreCtlAddr_index n) hretire hen (wbit_or_set (by decide) (by decide))).trans
      ((if_pos (wbit_or_set (by decide) (by decide))).trans (stepOnce_runs rfl hx))))
  · intro h hstep hen hhalt
    have hc : (Fin.ofNat 66 n.val : CoreId) = ⟨n.val, by omega⟩ := Fin.ext (Nat.mod_eq_of_lt (by omega))
    have hw := (coreCmd_writes h).trans
      (writeCore_retires (coreCtlAddr_index n) (wbit_or_set (by decide) (by decide)) hstep hen hhalt)
    rw [hc] at hw
    exact ⟨fun hret => congrArg _ (hw.trans (if_neg (ne_true_of_eq_false hret))), fun hret => congrArg _ (hw.trans (if_pos hret))⟩
  · intro h r u
    have hw : opEvrWinSel v s = { u with evr := { u.evr with snap := match r.2 with
        | some e => wordsOf 8 (recordBytes e (r.1 == 1))
        | none => List.replicate 8 0 } } := rfl
    refine ⟨fun e he => ?_, fun hn => ?_⟩
    · rw [he] at hw
      exact congrArg _ ((evrWinSel_selects h).trans hw)
    · rw [hn] at hw
      exact congrArg _ ((evrWinSel_selects h).trans hw)
  · exact fun hx hf => congrArg _ (evrWinData_reads hx hf)
  · exact fun h ha hp hr => congrArg _ (evrInject_injects (Nat.mod_lt _ (by decide)) h ha hp hr)
  · exact fun h => congrArg _ (fltCtrCfgWrite_writes h)
  · exact fun h hw => congrArg _ ((winCfg_writes h hw).trans (writeWinCfg_arms hw))
  · exact fun h hw => congrArg _ ((winCfg_writes h hw).trans (writeWinCfg_disarms hw))

/-! ### The checks of a register write -/

section
variable {who : CoreId} {a : Nat} {v : Word} {s : State}

theorem ctlFault_hook (hp : privOf s who = 2) :
    ctlFault who a true v s = some { cause := 0x07, sub := 1, addr := BitVec.ofNat 64 a } := if_pos hp

/-- A writer that R104 and R537 stop. -/
def WriterStopped (who : CoreId) (a : Nat) (v : Word) (s : State) : Prop := (privOf s who ≠ 0 ∧ uMayWrite a = false) ∨ writerOk who a v s = false

/-- Outside H a write meets PRIV when its writer is stopped, else BUS_ERR when no register stands at its address. -/
theorem ctlFault_write (hp : privOf s who ≠ 2) : ctlFault who a true v s =
    if (privOf s who != 0 && !uMayWrite a) || !writerOk who a v s then some { cause := 0x02, addr := BitVec.ofNat 64 a }
    else if a % 8 ≠ 0 ∨ regDefined a = false then some { cause := 0x05, addr := BitVec.ofNat 64 a } else none := by
  unfold ctlFault
  dsimp only
  rw [if_neg hp, Bool.true_and, Bool.true_and, Bool.not_true, Bool.false_and, Bool.false_and, Bool.or_false]

theorem writerStopped_iff : ((privOf s who != 0 && !uMayWrite a) || !writerOk who a v s) = true ↔ WriterStopped who a v s := by
  unfold WriterStopped
  rw [Bool.or_eq_true, Bool.and_eq_true, bne_iff_ne, Bool.not_eq_true', Bool.not_eq_true']

theorem ctlFault_priv (hp : privOf s who ≠ 2) (hw : WriterStopped who a v s) :
    ctlFault who a true v s = some { cause := 0x02, addr := BitVec.ofNat 64 a } := by
  rw [ctlFault_write hp, if_pos (writerStopped_iff.mpr hw)]

theorem ctlFault_undefined (hp : privOf s who ≠ 2) (hw : ¬ WriterStopped who a v s) (ha : a % 8 ≠ 0 ∨ regDefined a = false) :
    ctlFault who a true v s = some { cause := 0x05, addr := BitVec.ofNat 64 a } := by
  rw [ctlFault_write hp, if_neg (mt writerStopped_iff.mp hw), if_pos ha]

theorem ctlFault_none (hp : privOf s who ≠ 2) (hw : ¬ WriterStopped who a v s) (ha : a % 8 = 0) (hd : regDefined a = true) :
    ctlFault who a true v s = none := by
  rw [ctlFault_write hp, if_neg (mt writerStopped_iff.mp hw), if_neg (by rw [ha, hd]; decide)]

theorem ctlOff_of_servedBy {i : Nat} (hs : servedBy a true = some i) (ho : islandOff i s = true) : ctlOff a true s = some i := by
  rw [ctlOff, hs]
  exact if_pos ho

/-- A core that executes nothing writes nothing. -/
theorem regCmd_stopped {failing : List Nat} (hx : executes s who = false) : regCmd who a v failing s = s := by
  rw [regCmd_eq, hx]
  rfl

theorem opRegisterWrite_inside (hlo : 0x200000000000 ≤ a) (hhi : a < 0x200014000000) : opRegisterWrite who a v s = regCmd who a v [] s :=
  if_pos ⟨hlo, hhi⟩

end

/-- Settles O27: the checks in their order, each with the exception it raises. -/
theorem registerWriteChecks : Obligations.RegisterWriteChecks := by
  unfold Obligations.RegisterWriteChecks
  intro who a v s hlo hhi addr bad
  have hin : opRegisterWrite who a v s = regCmd who a v [] s := opRegisterWrite_inside hlo hhi
  have run {t : State} (ht : regCmd who a v [] s = t) : nextState (opRegisterWrite who a v s) = nextState t := congrArg _ (hin.trans ht)
  refine ⟨fun hx => run (regCmd_stopped hx), fun hx => ⟨fun hp => ?_, fun hp hw => ?_, fun hp hw ha => ?_, fun hp hw ha hd => ⟨fun i hi ho => ?_, fun ho => ?_⟩⟩⟩
  · exact run (regCmd_faults hx (ctlFault_hook hp))
  · exact run (regCmd_faults hx (ctlFault_priv hp hw))
  · exact run (regCmd_faults hx (ctlFault_undefined hp hw ha))
  · exact run (regCmd_off hx (ctlFault_none hp hw ha hd) (ctlOff_of_servedBy hi ho))
  · exact run (regCmd_clear hx (ctlFault_none hp hw ha hd) ho)

/-! ### SEND and WAITP -/

theorem runSend_starts {c : CoreId} {d a : Rn} {l : List Byte} {e n : Nat} {s s1 : State} (h : Fetches c [a] s) (hp : privOf s c ≤ 1)
    (hd : descPlace c (rd s c a).toNat s = true) (hr : readMem (physKey c (rd s c a).toNat) 64 s = (some l, s1))
    (ht : tokChoice s1 (ctxOf s1 c) = .ok e n) :
    runSend c d a 0 s = retire c 16 (setPc c (pcOf s c + 4)
      (startReq (isPair c)
        { msgId := (nextMsg (wr c d (BitVec.ofNat 64 (mkToken (ctxOf s1 c) e n)) (tokPost (ctxOf s1 c) e n (d.val == 0) s1))).1,
          req := parseReq l, ctx := ctxOf s1 c, entry := e, serial := n, addr := (rd s c a).toNat }
        (nextMsg (wr c d (BitVec.ofNat 64 (mkToken (ctxOf s1 c) e n)) (tokPost (ctxOf s1 c) e n (d.val == 0) s1))).2)) := by
  unfold runSend
  rw [field_zero, runInstr_own h (lvSU_contains h (by omega))]
  simp only [hd, hr, ht, Bool.not_true, Bool.false_eq_true, if_false]

/-- WAITP of pair 0 in S presents the request and waits. -/
theorem runWaitp_presents {d : Rn} {s : State} (h : Fetches 64 [] s) (hp : privOf s 64 = 0) :
    runWaitp 64 d 0 0 s = presentRequest { s with pwr := { s.pwr with waitp := some d.val } } := by
  unfold runWaitp
  rw [hp]
  exact runInstr_own h (single_contains hp)

theorem presentRequest_now {s : State} (ht : rget F.PWR_MODE_STATE s = 1) : presentRequest s =
    returnWaitp 0 (if rget F.PWR_STATUS_STATE s = 1 then rset F.PWR_STATUS_STATE 1 s else stateChanged (rset F.PWR_STATUS_STATE 1 s)) := by
  unfold presentRequest
  rw [ht]
  rfl

theorem presentRequest_refused {s : State} (ht : 2 ≤ rget F.PWR_MODE_STATE s)
    (hf : refusers (rget F.PWR_MODE_STATE s) { s with pwr := { s.pwr with before := rget F.PWR_STATUS_STATE s } } ≠ 0) :
    presentRequest s = refusePower (rget F.PWR_MODE_STATE s)
      (refusers (rget F.PWR_MODE_STATE s) { s with pwr := { s.pwr with before := rget F.PWR_STATUS_STATE s } })
      { s with pwr := { s.pwr with before := rget F.PWR_STATUS_STATE s } } :=
  (if_neg (Nat.not_lt.mpr ht)).trans (if_pos hf)

/-- Settles O31: SEND's body past its checks, and the two ways out of a power request. -/
theorem sendAndWaitp : Obligations.SendAndWaitp := by
  unfold Obligations.SendAndWaitp
  intro c d a l e n s s1 k x w
  exact ⟨fun h hp hd hr ht => congrArg _ (runSend_starts h hp hd hr ht),
    fun h hp hs => congrArg _ ((runWaitp_presents h hp).trans (presentRequest_now (s := w) hs)),
    fun h hp hs hf => congrArg _ ((runWaitp_presents h hp).trans (presentRequest_refused (s := w) hs hf))⟩

end Sys2Proof.Machine
end

section
/-! PROOFS. The jobs of the MOVE units (R150) and of PAR (R234 to R237). -/

namespace Sys2Proof.Machine

open Sys2Proof

/-! ### Where two byte lists first differ -/

theorem firstDiff_same_head (b : Byte) (l m : List Byte) : firstDiff (b :: l) (b :: m) = firstDiff l m + 1 := if_pos rfl

theorem firstDiff_other_head {a b : Byte} (l m : List Byte) (h : a ≠ b) : firstDiff (a :: l) (b :: m) = 0 := if_neg h

/-- The case in which one of the lists has ended. -/
theorem firstDiff_ended {l m : List Byte} (h : ∀ a l' b m', l = a :: l' → m = b :: m' → False) : firstDiff l m = 0 := firstDiff.eq_2 l m h

theorem firstDiff_comm (l m : List Byte) : firstDiff l m = firstDiff m l := by
  induction l, m using firstDiff.induct with
  | case1 l b m ih => rw [firstDiff_same_head, firstDiff_same_head, ih]
  | case2 a l b m hab => rw [firstDiff_other_head l m hab, firstDiff_other_head m l (Ne.symm hab)]
  | case3 l m hn => rw [firstDiff_ended hn, firstDiff_ended fun b m' a l' hm hl => hn a l' b m' hl hm]

theorem firstDiff_le_left (l m : List Byte) : firstDiff l m ≤ l.length := by
  induction l, m using firstDiff.induct with
  | case1 l b m ih => rw [firstDiff_same_head]; exact Nat.succ_le_succ ih
  | case2 a l b m hab => rw [firstDiff_other_head l m hab]; exact Nat.zero_le _
  | case3 l m hn => rw [firstDiff_ended hn]; exact Nat.zero_le _

theorem firstDiff_le_right (l m : List Byte) : firstDiff l m ≤ m.length := firstDiff_comm l m ▸ firstDiff_le_left m l

theorem getElem?_of_lt_firstDiff {l m : List Byte} {i : Nat} (h : i < firstDiff l m) : l[i]? = m[i]? := by
  induction l, m using firstDiff.induct generalizing i with
  | case1 l b m ih =>
    rw [firstDiff_same_head] at h
    cases i with
    | zero => rfl
    | succ i => exact ih (Nat.lt_of_succ_lt_succ h)
  | case2 a l b m hab => rw [firstDiff_other_head l m hab] at h; exact absurd h (Nat.not_lt_zero i)
  | case3 l m hn => rw [firstDiff_ended hn] at h; exact absurd h (Nat.not_lt_zero i)

theorem getElem?_firstDiff_ne {l m : List Byte} (hl : firstDiff l m < l.length) (hm : firstDiff l m < m.length) :
    l[firstDiff l m]? ≠ m[firstDiff l m]? := by
  induction l, m using firstDiff.induct with
  | case1 l b m ih =>
    rw [firstDiff_same_head] at hl hm ⊢
    exact ih (Nat.lt_of_succ_lt_succ hl) (Nat.lt_of_succ_lt_succ hm)
  | case2 a l b m hab => rw [firstDiff_other_head l m hab]; exact fun h => hab (Option.some.inj h)
  | case3 l m hn =>
    rcases l with _ | ⟨a, l⟩
    · exact absurd hl (Nat.not_lt_zero _)
    rcases m with _ | ⟨b, m⟩
    · exact absurd hm (Nat.not_lt_zero _)
    exact (hn a l b m rfl rfl).elim

/-! ### What each job answers when its fields are in range and its buffers are found -/

section

variable {c : Chain} {d : Desc} {s t u : State} {data other : List Byte} {oh oo cap : Nat} {al : Bool} {x : ParCtx}

theorem moveCopy_writes (ha : d.aux = 0) (hp : d.param = 0) (hb : FindsBuffers c d s data oh oo cap al u) (hc : data.length ≤ cap) :
    moveCopy c d s =
      ({ outBytes := data.length, outHandle := some (oo * 2 ^ 32 + oh), alloc := if al then some oh else none }, writeBuf oh oo data u) := by
  unfold moveCopy
  rw [if_neg (by simp [ha, hp])]
  exact runInOut_writes hb rfl hc

theorem moveFill_writes (ha : d.aux = 0) (hi : d.inn = 0) (hp : d.param < 256) (ho : outBuf d s = (some (oh, oo, cap, al), u)) :
    moveFill c d s = ({ outBytes := cap, outHandle := some (oo * 2 ^ 32 + oh), alloc := if al then some oh else none },
      writeBuf oh oo (List.replicate cap (BitVec.ofNat 8 d.param)) u) := by
  unfold moveFill
  rw [if_neg (by simp [ha, hi, hp]), ho]

theorem moveCompare_answers (hp : d.param = 0) (ha : d.aux < 2 ^ 32)
    (hr : readBuf d (inputOf c d s).1 (inputOf c d s).2.1 (inputOf c d s).2.2 s = (some data, t))
    (hq : readBuf d d.aux 0 (inputOf c d s).2.2 t = (some other, u)) : moveCompare c d s = ({ outBytes := firstDiff data other }, u) := by
  unfold moveCompare
  rw [if_neg (by omega)]
  simp only [hr, hq]

theorem parOpen_takes (hm : onlyBits d.param 0x1F3F003F = true) (ha : d.aux = 0) (hk : 4 ≤ bits d.param 21 16) (hk' : bits d.param 21 16 ≤ 32)
    (hn : 1 ≤ bits d.param 28 24) (hn' : bits d.param 28 24 ≤ 16) (hf : kfind s.par (pCtx d) = none) :
    parOpen c d s = ({}, setPar (kput s.par (pCtx d)
      { k := bits d.param 21 16, len := 4096 * bits d.param 28 24, p := zeroStrip (4096 * bits d.param 28 24), q := zeroStrip (4096 * bits d.param 28 24) }) s) := by
  unfold parOpen
  exact if_neg (by simp [hm, ha, hf]; omega)

theorem parAdd_feeds (hf : kfind s.par (pCtx d) = some x) (hm : onlyBits d.param 0x1F3F = true) (ha : d.aux = 0) (hi : pIdx d < x.k)
    (hr : readBuf d (inputOf c d s).1 (inputOf c d s).2.1 (inputOf c d s).2.2 s = (some data, t)) :
    parAdd c d s = ({}, parFeed (pCtx d) (pIdx d) data t) := by
  unfold parAdd
  rw [hf]
  dsimp only
  rw [if_neg (by simp [hm, ha, hi]), hr]

theorem parEmit_writes {h : Nat} (hm : onlyBits d.param 0x3F = true) (ha : d.aux < 2 ^ 32) (ho : outBuf d s = (some (oh, oo, cap, al), u))
    (hf : kfind u.par (pCtx d) = some x) (hq : checkHandle .engine d.aux x.len u = .ok h) (hc : x.len ≤ cap) (hx : parFull x = true) :
    parEmit c d s = ({ outBytes := x.len, outHandle := some (oo * 2 ^ 32 + oh), alloc := if al then some oh else none },
      setPar (kdel u.par (pCtx d)) (writeBuf h 0 x.q (writeBuf oh oo x.p u))) := by
  unfold parEmit
  rw [if_neg (by simp [hm]; omega), ho]
  simp only [hf, hq]
  rw [if_neg (Nat.not_lt.mpr hc), if_neg (by simp [hx])]

theorem parCheck_compares (hm : onlyBits d.param 0x3F = true) (ha : d.aux < 2 ^ 32) (hf : kfind s.par (pCtx d) = some x)
    (hp : readBuf d (inputOf c d s).1 (inputOf c d s).2.1 x.len s = (some data, t)) (hq : readBuf d d.aux 0 x.len t = (some other, u))
    (hu : kfind u.par (pCtx d) = some x) :
    parCheck c d s = (if min (firstDiff data x.p) (firstDiff other x.q) < x.len then
      { status := 0x02, outBytes := min (firstDiff data x.p) (firstDiff other x.q) } else {}, setPar (kdel u.par (pCtx d)) u) := by
  unfold parCheck
  rw [if_neg (by simp [hm]; omega)]
  simp only [hf, hp, hq, hu]
  split <;> rfl

theorem parFree_frees (hm : onlyBits d.param 0x3F = true) (ha : d.aux = 0) : parFree c d s = ({}, setPar (kdel s.par (pCtx d)) s) := by
  unfold parFree
  exact if_neg (by simp [hm, ha])

/-! ### A job whose answer is known, run on its unit -/

variable {e n : Nat} {p : Desc → Bool} {f : Chain → Desc → State → JobRes × State} {rest : List Chain} {r : JobRes}

theorem runUnit_answers (h : HasJob e n p c rest d s) (hf : f c d (takeJob e n rest d s) = (r, t)) : runUnit e n p f s = jobEnds c d n r t := by
  rw [runUnit_job h, hf]

/-- On PAR, where no known-answer test is due (R428), the job's end is followed by what the Array Runtime does with it. -/
theorem parityJob_answers (hk : s.pwr.katDue = []) (h : HasJob 7 0 p c rest d s) (hf : f c d (takeJob 7 0 rest d s) = (r, t)) :
    nextState (arSettle (runUnit 7 0 p f (runDue s))) = nextState (arSettle (jobEnds c d 0 r t)) := by
  rw [runDue_none hk, runUnit_answers h hf]

end

/-- Settles O18: each command runs its job's function at the head of the queue, and the hypotheses of a clause take that function past its checks. -/
theorem moveAndParityJobs : Obligations.MoveAndParityJobs := by
  unfold Obligations.MoveAndParityJobs
  refine ⟨fun u c rest d data other oh oo cap al s s1 s2 => ⟨?copy, ?fill, ?compare⟩,
    fun c rest d x l p q oh oo cap h al r s s1 s2 hk => ⟨?pqOpen, ?pqAdd, ?pqEmit, ?pqCheck, ?pqFree, ?recon⟩⟩
  case copy => exact fun hj ha hp hb hc => congrArg nextState (runUnit_answers hj (moveCopy_writes ha hp hb hc))
  case fill =>
    intro hj ha hi hp ho
    have run : opFill u s = _ := runUnit_answers hj (moveFill_writes ha hi hp ho)
    show nextState (opFill u s) = _
    rw [run, jobWrites, List.length_replicate]
    rfl
  case compare =>
    exact fun hj hp ha hr hq => ⟨firstDiff data other, congrArg nextState (runUnit_answers hj (moveCompare_answers hp ha hr hq)),
      firstDiff_le_left data other, firstDiff_le_right data other, fun _ => getElem?_of_lt_firstDiff, getElem?_firstDiff_ne⟩
  case pqOpen => exact fun hj hm ha hk4 hk32 hn1 hn16 hf => parityJob_answers hk hj (parOpen_takes hm ha hk4 hk32 hn1 hn16 hf)
  case pqAdd => exact fun hj hf hm ha hi hr => parityJob_answers hk hj (parAdd_feeds hf hm ha hi hr)
  case pqEmit => exact fun hj hm ha ho hf hq hc hx => parityJob_answers hk hj (parEmit_writes hm ha ho hf hq hc hx)
  case pqCheck => exact fun hj hm ha hf hp hq hu => parityJob_answers hk hj (parCheck_compares hm ha hf hp hq hu)
  case pqFree => exact fun hj hm ha => parityJob_answers hk hj (parFree_frees hm ha)
  case recon => exact fun hj hr _ => parityJob_answers hk hj hr

end Sys2Proof.Machine
end

section
/-! PROOFS. The gear table, raw frames, the jobs of ING and CMP, the known-answer tests and the jobs of EPOCH (R159 to R167, R192 to R204, R225, R271,
R332). -/

namespace Sys2Proof.Machine

open Sys2Proof

/-- Equal states answer alike after the Array Runtime has settled. -/
theorem next_arSettle_congr {s t : State} (h : s = t) : nextState (arSettle s) = nextState (arSettle t) := congrArg (fun x => nextState (arSettle x)) h

/-! ### The gear table (R159) -/

theorem gear_getD {i : Nat} (hi : i < 256) : gear.getD i 0 = BitVec.ofNat 64 (ofLe ((sha3 [0x47, BitVec.ofNat 8 i]).take 8)) := by
  rw [gear, Array.getD_eq_getD_getElem?, List.getElem?_toArray, List.getElem?_map, List.getElem?_range hi, Option.map_some, Option.getD_some]

/-- Settles O59: each entry is what the table's definition puts there, and the version is the field's reset value. -/
theorem gearTable : Obligations.GearTable := by
  unfold Obligations.GearTable
  exact ⟨fun i => gear_getD i.isLt, rget_reset F.ING_CHUNK_CFG_GEAR_VER 0⟩

/-! ### Raw frames open to their content (R197, R198, R204) -/

/-- The number that the bytes at the front spell. -/
theorem ofLe_take_leBytes_append {n x : Nat} (hx : x < 256 ^ n) (l : List Byte) : ofLe ((leBytes n x ++ l).take n) = x := by
  rw [List.take_left' (leBytes_length n x), ofLe_leBytes, Nat.mod_eq_of_lt hx]

/-- The header of a frame states the content's length and is as long as `frameHead` makes it. -/
theorem frameSize_frameHead {n : Nat} (hn : n ≤ 262144) (r : List Byte) : frameSize (frameHead n ++ r) = some (n, (frameHead n).length) := by
  unfold frameHead
  split
  · simp [frameSize, leBytes, ofLe]
    omega
  · split
    · simp [frameSize, leBytes, ofLe]
      omega
    · simp [frameSize, leBytes, ofLe]
      omega

/-- A raw block at the front is taken as it is: the last ends the frame. -/
theorem decodeBlocks_rawBlock {b : List Byte} (hb : b.length ≤ 131072) (last : Bool) (m : Nat) (z : ZDec) (acc r : List Byte) :
    decodeBlocks (m + 1) z acc (leBytes 3 ((if last then 1 else 0) + 8 * b.length) ++ b ++ r) =
      if last then some (acc ++ b, r) else decodeBlocks m z (acc ++ b) r := by
  generalize hh : (if last then 1 else 0) + 8 * b.length = h
  have hbit : (if last then 1 else 0) < 2 := by split <;> omega
  have hhead : ofLe ((leBytes 3 h ++ (b ++ r)).take 3) = h := ofLe_take_leBytes_append (by omega) _
  have hsize : h / 8 = b.length := by omega
  have htype : h / 2 % 4 = 0 := by omega
  have hlast : h % 2 = 1 ↔ last = true := by cases last <;> simp at hh ⊢ <;> omega
  have hbody : (leBytes 3 h ++ (b ++ r)).drop 3 = b ++ r := List.drop_left' (leBytes_length 3 h)
  have hrest : (leBytes 3 h ++ (b ++ r)).drop (3 + b.length) = r := by rw [← List.drop_drop, hbody, List.drop_left]
  have hfits : ¬ ((leBytes 3 h ++ (b ++ r)).length < 3 + b.length ∨ 131072 < b.length) := by simp [hb]
  rw [List.append_assoc, decodeBlocks]
  simp only [hhead, hsize, htype, hlast, hbody, hrest, hfits, List.take_left, if_false, zero_ne_one]

/-- The blocks of a content, from any block on, decode to it. -/
theorem decodeBlocks_rawBlocks (n : Nat) {m : Nat} {l : List Byte} (hl : l.length < 131072 * n) (hm : n ≤ m) (z : ZDec) (acc r : List Byte) :
    decodeBlocks m z acc (rawBlocks n l ++ r) = some (acc ++ l, r) := by
  induction n generalizing m l acc with
  | zero => omega
  | succ n ih =>
    obtain ⟨m, rfl⟩ : ∃ k, m = k + 1 := ⟨m - 1, by omega⟩
    rw [rawBlocks, List.append_assoc, decodeBlocks_rawBlock (List.length_take_le ..)]
    cases hlast : (l.drop 131072).isEmpty with
    | true =>
      rw [if_pos rfl, if_pos rfl, List.nil_append, List.take_of_length_le (by simpa using hlast)]
    | false =>
      have hlong : 131072 < l.length := by simpa using hlast
      rw [if_neg Bool.false_ne_true, if_neg Bool.false_ne_true, ih (by rw [List.length_drop]; omega) (Nat.le_of_succ_le_succ hm), List.append_assoc,
        List.take_append_drop]

theorem decodeFrame_rawFrame {l : List Byte} (hl : l.length ≤ 262144) : decodeFrame (rawFrame l) = some l := by
  have hframe : rawFrame l = frameHead l.length ++ (rawBlocks (l.length / 131072 + 1) l ++ contentSum l) := List.append_assoc ..
  have hlong : l.length / 131072 + 1 ≤ (frameHead l.length ++ (rawBlocks (l.length / 131072 + 1) l ++ contentSum l)).length + 1 := by
    simp [contentSum]
    omega
  rw [hframe, decodeFrame, frameSize_frameHead hl]
  dsimp only
  rw [List.drop_left, decodeBlocks_rawBlocks _ (by omega) hlong, if_neg (Nat.not_lt.mpr hl)]
  exact if_pos ⟨rfl, rfl⟩

/-- Whatever the compressor makes, the frame of a level opens to the input (R199). -/
theorem decodeFrame_compressAt {level : Nat} {l : List Byte} (hl : l.length ≤ 262144) : decodeFrame (compressAt level l) = some l := by
  unfold compressAt
  dsimp only
  split
  · exact decodeFrame_rawFrame hl
  · next h => exact not_not.mp (not_or.mp h).2

theorem decodeFrame_of_emitted {level minSave cap : Nat} {fallback : Bool} {l z : List Byte} (hl : l.length ≤ 262144)
    (h : emittedFrame level minSave cap fallback l = some z) : decodeFrame z = some l := by
  unfold emittedFrame at h
  dsimp only at h
  split at h <;> split at h <;> cases h
  · exact decodeFrame_rawFrame hl
  · exact decodeFrame_compressAt hl

/-! ### What each job answers when its fields are in range and its buffers are found -/

/-- A job that wrote `l` at offset `oo` of buffer `oh`. -/
def wrote (oh oo : Nat) (al : Bool) (l : List Byte) : JobRes :=
  { outBytes := l.length, outHandle := some (oo * 2 ^ 32 + oh), alloc := if al then some oh else none }

section
variable {c : Chain} {d : Desc} {s t u v : State} {data out e salt : List Byte} {oh oo cap : Nat} {al : Bool}

theorem chunkCut_writes (ha : d.aux = 0) (hp : d.param < 2)
    (hr : readBuf d (inputOf c d s).1 (inputOf c d s).2.1 (inputOf c d s).2.2 s = (some data, t)) (hn : (inputOf c d s).2.2 ≤ 0x200000)
    (ho : cutOut d (inputOf c d s).2.2 t = (some (oh, oo, cap, al), u))
    (hl : chunkList ((inputOf c d s).2.1 * 2 ^ 32 + (inputOf c d s).1) (inputOf c d s).2.2 (cuts data u) = out) (hc : out.length ≤ cap) :
    chunkCut c d s = (wrote oh oo al out, writeBuf oh oo out u) := by
  unfold chunkCut
  simp only [hr, ho, hl]
  rw [if_neg (by omega), if_neg (Nat.not_lt.mpr hn), if_neg (Nat.not_lt.mpr hc)]
  rfl

theorem sha3Hash_writes (ha : d.aux < 4096) (hp : d.param = 0) (hb : FindsBuffers c d s data oh oo cap al u) (hs : saltOf d.aux u = some salt)
    (hc : (digestBytes (fpOf salt data)).length ≤ cap) :
    sha3Hash c d s = (wrote oh oo al (digestBytes (fpOf salt data)), writeBuf oh oo (digestBytes (fpOf salt data)) u) := by
  have hbits : bits d.aux 15 12 = 0 := by simp [bits]; omega
  unfold sha3Hash
  rw [if_neg (by simp [sha3Bad, hbits, hp]; omega)]
  exact runInOut_writes hb (by rw [Nat.mod_eq_of_lt ha, hs]) hc

theorem sha3Check_compares (ha : bits d.aux 15 12 = 0) (hat : d.aux / 65536 % 32 = 0) (hp : d.param = 0)
    (hr : readBuf d (inputOf c d s).1 (inputOf c d s).2.1 (inputOf c d s).2.2 s = (some data, t)) (hs : saltOf (d.aux % 4096) t = some salt)
    (he : readMem (physKey (ctxCore c.ctx) (d.aux / 65536)) 32 t = (some e, u)) :
    sha3Check c d s = ({ status := if digestBytes (fpOf salt data) = e then 0x00 else 0x02 }, u) := by
  unfold sha3Check
  rw [if_neg (by simp [sha3Bad, ha, hat, hp])]
  simp only [hr, hs, he]
  rfl

theorem runCodec_writes {f : List Byte → Nat → State → CodecRes × State} (hb : FindsBuffers c d s data oh oo cap al u)
    (hf : f data cap u = ({ out := out }, v)) : runCodec c d f s = (wrote oh oo al out, writeBuf oh oo out v) := by
  obtain ⟨t, hr, ho⟩ := hb
  unfold runCodec
  simp only [hr, ho, hf]
  exact if_neg (not_not.mpr rfl)

theorem compJob_writes {n : Nat} (ha : d.aux = 0) (hlevel : d.param % 16 ≤ 9)
    (hp : d.param = d.param % 16 + (if d.param.testBit 8 then 256 else 0) + bits d.param 31 16 * 65536) (hb : FindsBuffers c d s data oh oo cap al u)
    (h1 : 1 ≤ data.length) (hmax : data.length ≤ 262144)
    (hz : emittedFrame (d.param % 16) (bits d.param 31 16) cap (d.param.testBit 8) data = some out) :
    compJob n false c d s = (wrote oh oo al out, writeBuf oh oo out u) := by
  unfold compJob
  dsimp only
  rw [if_neg (by omega)]
  refine runCodec_writes hb ?_
  rw [if_neg (by omega)]
  simp only [hz, decodeFrame_of_emitted hmax hz]
  exact if_neg (by simp)

theorem decompJob_writes {n m : Nat} (ha : d.aux = 0) (hp : d.param = 0 ∨ (d.param = out.length ∧ d.param < 2 ^ 32))
    (hb : FindsBuffers c d s data oh oo cap al u) (hsize : frameSize data = some (n, m)) (hn : n ≤ 262144) (hcap : n ≤ cap)
    (hout : decodeFrame data = some out) : decompJob c d s = (wrote oh oo al out, writeBuf oh oo out u) := by
  unfold decompJob
  rw [if_neg (by omega)]
  refine runCodec_writes hb ?_
  simp only [hsize, hout]
  rw [if_neg (Nat.not_lt.mpr hn), if_neg (Nat.not_lt.mpr hcap), if_neg (by omega)]

end

/-- On a unit of ING or CMP, with no known-answer test due (R428), the job's end is followed by what the Array Runtime does with it. -/
theorem engineJob_answers {e n : Nat} {p : Desc → Bool} {f : Chain → Desc → State → JobRes × State} {c : Chain} {rest : List Chain} {d : Desc}
    {r : JobRes} {s t : State} (hk : s.pwr.katDue = []) (h : HasJob e n p c rest d s) (hf : f c d (takeJob e n rest d s) = (r, t)) :
    nextState (arSettle (runUnit e n p f (runDue s))) = nextState (arSettle (jobEnds c d n r t)) := by
  rw [runDue_none hk, runUnit_answers h hf]

/-- Settles O19: each command runs its job's function at the head of the queue, and a clause's hypotheses take that function past its checks. -/
theorem dataReductionJobs : Obligations.DataReductionJobs := by
  unfold Obligations.DataReductionJobs
  refine ⟨fun u4 u c rest d data salt e out oh oo cap al r s s1 s2 hk => ⟨?cut, ?hash, ?check, ?fpList⟩,
    fun u c rest d data out oh oo cap al n m s s2 hk => ⟨?compress, ?decompress⟩, ?rawFrames⟩
  case cut => exact fun hj ha hp hr hn ho hl hc => engineJob_answers hk hj (chunkCut_writes ha hp hr hn ho hl hc)
  case hash => exact fun hj ha hp hb hs hc => engineJob_answers hk hj (sha3Hash_writes ha hp hb hs hc)
  case check => exact fun hj ha hat hp hr hs he => engineJob_answers hk hj (sha3Check_compares ha hat hp hr hs he)
  case fpList => exact fun hj hr _ => engineJob_answers hk hj hr
  case compress => exact fun hj ha hlevel hp hb h1 hmax hz => engineJob_answers hk hj (compJob_writes ha hlevel hp hb h1 hmax hz)
  case decompress => exact fun hj ha hp hb hsize hn hcap hout => engineJob_answers hk hj (decompJob_writes ha hp hb hsize hn hcap hout)
  case rawFrames => exact fun l _ hl => decodeFrame_rawFrame hl

/-! ### Known-answer tests (R192, R225, R271) -/

section
variable {e u : Nat} {pass fail : State → State} {s : State}

/-- What a failed known-answer test does to a unit: `fail` counts it, KAT_FAIL is recorded, and the unit retires. -/
def katFailed (e u : Nat) (fail : State → State) (s : State) : State :=
  retireUnit e u (record Ev.KAT_FAIL (engIsland e) (unitInst e u) []
    (fail { s with mir := { s.mir with healthTest := rget F.CLK_TICK_TICK s + 1 }, flt := { s.flt with katFails := s.flt.katFails + 1 } }))

/-- A unit in service on an island that is on is tested at once. -/
theorem katRun_of_serving {failed : Bool} (h : unitRetired e u s = false ∧ islandOff (engIsland e) s = false) :
    katRun e u failed pass fail s = if failed then katFailed e u fail s else pass s := by
  obtain ⟨hr, hi⟩ := h
  unfold katRun
  rw [hr, hi]
  rfl

theorem katFails_self (l : List Byte) : katFails (some l) l = false := bne_self_eq_false l

theorem katFails_other {l x : List Byte} (h : l ≠ x) : katFails (some l) x = true := bne_iff_ne.mpr h

theorem opIngKat_tests {n : Fin 12} (out : Option (List Byte)) (hen : rbit F.ING_KAT_CTL_KAT_EN s = true)
    (h : unitRetired (ingUnit n.val).1 (ingUnit n.val).2 s = false ∧ islandOff (engIsland (ingUnit n.val).1) s = false) :
    opIngKat n out s = if katFails out (ingKatExpect n.val) then
      katFailed (ingUnit n.val).1 (ingUnit n.val).2 (rinc F.ING_ERR_CNT_KAT_FAIL 1) s else rinc F.ING_KAT_CTL_KAT_PASSES 1 s :=
  (if_pos hen).trans (katRun_of_serving h)

theorem opCmpKat_tests {n : Fin 16} (out : Option (List Byte)) (hen : rbit F.CMP_VERIFY_CFG_KAT_EN s = true)
    (h : unitRetired (cmpUnit n.val).1 (cmpUnit n.val).2 s = false ∧ islandOff (engIsland (cmpUnit n.val).1) s = false) :
    opCmpKat n out s = if katFails out (cmpKatExpect n.val) then
      katFailed (cmpUnit n.val).1 (cmpUnit n.val).2 (rinc F.CMP_ERR_CNT_KAT_FAIL 1) s else rinc F.CMP_VERIFY_CFG_KAT_PASSES 1 s :=
  (if_pos hen).trans (katRun_of_serving h)

theorem opCipKat_tests {n : Fin 64} (failed : Bool) (hen : rbit F.CIP_CTL_KAT_EN s = true)
    (h : unitRetired 6 n.val s = false ∧ islandOff (engIsland 6) s = false) :
    opCipKat n failed s = if failed then katFailed 6 n.val (rinc F.CIP_MISMATCH_CNT_KAT_FAIL 1) s else s :=
  (if_pos hen).trans (katRun_of_serving h)

theorem opParKat_tests (failed : Bool) (hen : rbit F.PAR_CTL_KAT_EN s = true)
    (h : unitRetired 7 0 s = false ∧ islandOff (engIsland 7) s = false) :
    opParKat failed s = if failed then katFailed 7 0 (rinc F.PAR_ERR_CNT_KAT_FAIL 1) s else s :=
  (if_pos hen).trans (katRun_of_serving h)

end

/-! ### The jobs of the EPOCH engine (R332) -/

section
variable {c : Chain} {rest : List Chain} {d : Desc} {b : List Byte} {s t : State}

/-- The group that a record's header names. -/
def recGroup (b : List Byte) : Option Nat := if (hdrField 9 1 b).testBit 0 then some (hdrField 8 1 b) else none

theorem recordJob_places {a n : Nat} (hda : d.aux % 2 ^ 48 = a) (hdn : d.param % 2 ^ 32 = n) (ha : a % 16 = 0) (h16 : 16 ≤ n) (h4096 : n ≤ 4096)
    (hn : n % 16 = 0) (hfirst : dataPlace (ctxCore c.ctx) a false s = true) (hlast : dataPlace (ctxCore c.ctx) (a + n - 1) false s = true)
    (hr : readMem (physKey (ctxCore c.ctx) a) n s = (some b, t)) (hlen : hdrField 4 4 b = n) (htyp : hdrField 0 1 b ≠ 0x02)
    (hplain : isWriteTake (parseRec b) = false) (hfwd : d.param.testBit 32 = false) :
    recordJob c d s = ({}, (addRec c.ctx (recGroup b) (parseRec b) t).2) := by
  unfold recordJob
  simp only [hda, hdn]
  rw [if_neg (by omega), if_neg (by simp [hfirst, hlast])]
  simp only [hr]
  rw [if_neg (by simp [hlen, htyp])]
  simp only [hplain, hfwd, Bool.false_eq_true, if_false]
  rfl

theorem opRecordJob_runs {r : JobRes} (hf : epochFull s = false) (hj : HasJob 8 0 (·.op == 0) c rest d s)
    (hr : recordJob c d (takeJob 8 0 rest d s) = (r, t)) : opRecordJob s = jobEnds c d 0 r t := by
  unfold opRecordJob
  rw [hf]
  exact (if_neg Bool.false_ne_true).trans (runUnit_answers hj hr)

theorem opBarrier_ends (hj : HasJob 8 0 (·.op == 1) c rest d s) (hc : slotUnconfirmed c.ctx (rget F.PNL_EPOCH_SEQ_NUMBER s) s = false) :
    opBarrier s = jobEnds c d 0 {} (setEngQueue 8 0 rest s) := by
  obtain ⟨hon, hq, hd, hop⟩ := hj
  obtain ⟨l, hl⟩ := List.head?_eq_some_iff.mp hd
  unfold opBarrier
  simp only [hon, hq, hl, hc, beq_iff_eq.mp hop, Bool.false_eq_true, ne_eq, not_true_eq_false, if_false]
  rfl

end

/-- Settles O24: a test's outcome decides what it does to a unit in service, and the two EPOCH jobs past their checks. -/
theorem knownAnswerTestsAndEpochJobs : Obligations.KnownAnswerTestsAndEpochJobs := by
  unfold Obligations.KnownAnswerTestsAndEpochJobs
  intro u12 u16 u64 c rest d b l s s1
  refine ⟨fun hen h => ?ing, fun hen h => ?cmp, fun hen h => ?cip, fun hen h => ?par, ?record, ?barrier⟩
  case ing =>
    have test := fun out => opIngKat_tests out hen h
    exact ⟨next_arSettle_congr (test none), next_arSettle_congr ((test _).trans (if_neg (by rw [katFails_self]; exact Bool.false_ne_true))),
      fun hl => next_arSettle_congr ((test _).trans (if_pos (katFails_other hl)))⟩
  case cmp =>
    have test := fun out => opCmpKat_tests out hen h
    exact ⟨next_arSettle_congr (test none), next_arSettle_congr ((test _).trans (if_neg (by rw [katFails_self]; exact Bool.false_ne_true))),
      fun hl => next_arSettle_congr ((test _).trans (if_pos (katFails_other hl)))⟩
  case cip => exact ⟨next_arSettle_congr (opCipKat_tests false hen h), next_arSettle_congr (opCipKat_tests true hen h)⟩
  case par => exact ⟨next_arSettle_congr (opParKat_tests false hen h), next_arSettle_congr (opParKat_tests true hen h)⟩
  case record =>
    exact fun hj hf ha h16 h4096 hn hfirst hlast hr hlen htyp hplain hfwd =>
      congrArg nextState (opRecordJob_runs hf hj (recordJob_places rfl rfl ha h16 h4096 hn hfirst hlast hr hlen htyp hplain hfwd))
  case barrier => exact fun hj hc => congrArg nextState (opBarrier_ends hj hc)

end Sys2Proof.Machine
end

section
/-! PROOFS. Confirming fingerprints, the directory, and chunks shared between arrays (R176 to R191). -/

namespace Sys2Proof.Machine

open Sys2Proof

/-! ### CONFIRM at the server of its slice (R176, R180, R182) -/

section
variable {q : ConfirmReq} {ns : Namespace} {scope : Scope} {s t : State}

/-- CONFIRM and CONFIRM_RETRY do the same, and the answers whose epochs are confirmed follow. -/
theorem exec_confirm (h : opConfirm q s = t) :
    exec (.confirm q) s = nextState (arSettle (settleReplies t)) ∧ exec (.confirmRetry q) s = nextState (arSettle (settleReplies t)) :=
  ⟨congrArg (fun x => nextState (arSettle (settleReplies x))) h, congrArg (fun x => nextState (arSettle (settleReplies x))) h⟩

theorem opConfirm_serves (hn : nsOf q.nsid s = some ns) (hr : q.reply = none) (hs : serves (sliceOf q.fp) s = true) (hsc : scopeOf ns s ≠ .none) :
    opConfirm q s = serveConfirm q (scopeOf ns s) s := by
  unfold opConfirm
  simp only [hn, hr, hs, if_neg hsc, if_true]

theorem opConfirm_asks (hn : nsOf q.nsid s = some ns) (hr : q.reply = none) (hs : serves (sliceOf q.fp) s = false) (hsc : scopeOf ns s ≠ .none)
    (ha : (askedBy q s).isSome = true) : opConfirm q s = egress (.askSlice q) s := by
  unfold opConfirm
  simp only [hn, hr, hs, ha, if_neg hsc, Bool.false_eq_true, if_true, if_false]

theorem opConfirm_answered {hit : Bool} (hn : nsOf q.nsid s = some ns) (hr : q.reply = some hit) :
    opConfirm q s = if hit then answerHit q s else answerNew q s := by
  unfold opConfirm
  simp only [hn, hr]

theorem serveConfirm_of_absent (h : strainerHas s.arr.strainer q.fp = false) : serveConfirm q scope s = confirmNew q scope s := by
  unfold serveConfirm
  simp only [h, Bool.not_false, if_true]

theorem serveConfirm_of_missing (h : strainerHas s.arr.strainer q.fp = true) (he : findEntry q.fp q.kd (readPage q s) = none) :
    serveConfirm q scope s = confirmNew q scope (readPage q s) := by
  unfold serveConfirm
  simp only [h, he, Bool.not_true, Bool.false_eq_true, if_false]

theorem serveConfirm_of_found {e : IndexEntry} (h : strainerHas s.arr.strainer q.fp = true) (he : findEntry q.fp q.kd (readPage q s) = some e) :
    serveConfirm q scope s = if e.holds = 0xFFFF then readPage q s
      else replyLater q true (transact none [.entryPut { e with holds := e.holds + 1 }] (readPage q s)) := by
  unfold serveConfirm
  simp only [h, he, Bool.not_true, Bool.false_eq_true, if_false]

theorem confirmNew_array : confirmNew q .array s = replyLater q false (createEntry q.fp q.kd q.chunkLen false s) := rfl

theorem confirmNew_domain : confirmNew q .domain s = startDomain q (createEntry q.fp q.kd q.chunkLen true s) := by
  unfold confirmNew
  simp only [if_true, decide_true]

theorem startDomain_probes (hh : homeOf q.fp s ≠ s.arr.arrayNum) :
    startDomain q s = sendDedup (homeOf q.fp s) 1 { kd := q.kd, fp := q.fp } (setDom q (some (.probe 1)) s) := by
  unfold startDomain
  simp only [if_neg hh]

end

/-! ### DIR_PROBE and DIR_DROP at the home array (R179, R185, R187) -/

section
variable {typ : Nat} {f : State → State} {m : DedupMsg} {e : IndexEntry} {fp : Digest} {kd x y : Nat} {claim : Option Nat} {s t : State}

theorem atServer_here (h : serves (sliceOf m.fp) s = true) : atServer typ f m s = f s := if_pos h

theorem atServer_elsewhere (h : ¬ serves (sliceOf m.fp) s = true) : atServer typ f m s = egress (.passSlice typ m) s := if_neg h

theorem consultDir_of_none (h : dirEntry fp kd s = none) : consultDir fp kd y claim s = (1, y, makeDir fp kd y s) := by
  unfold consultDir
  simp only [h]

theorem consultDir_of_dir (h : dirEntry fp kd s = some e) (hk : e.kind = .dir x) :
    consultDir fp kd y claim s =
      if x = y then (1, y, s) else if claim = some x then (1, y, transact none [.entryPut { e with kind := .dir y }] s) else (0, x, s) := by
  unfold consultDir
  simp only [h, hk]

theorem opDirProbe_refused (h : serves (sliceOf m.fp) s = true) (hh : homeOf m.fp s ≠ s.arr.arrayNum) :
    opDirProbe m s = sendDedup m.from_ 2 { result := 3, kd := m.kd, fp := m.fp } s :=
  (atServer_here h).trans (if_pos hh)

theorem opDirProbe_consults (h : serves (sliceOf m.fp) s = true) (hh : homeOf m.fp s = s.arr.arrayNum)
    {r : Nat} (hc : consultDir m.fp m.kd m.from_ (if m.claim then some (m.loc % 32) else none) s = (r, x, t)) :
    opDirProbe m s = sendDedup m.from_ 2 { result := r, kd := m.kd, fp := m.fp, loc := if r = 0 then x else 0 } t := by
  rw [opDirProbe, atServer_here h, if_neg (not_not.mpr hh)]
  simp only [hc]

theorem opDirDrop_of_dir (h : serves (sliceOf m.fp) s = true) (he : dirEntry m.fp m.kd s = some e) :
    opDirDrop m s = if e.kind = .dir m.from_ then transact none [.entryDel e] (strainerDelete e.fp e.strSel s) else s := by
  rw [opDirDrop, atServer_here h]
  simp only [he]

end

/-! ### DIR_REPLY and its time-out (R186, R187) -/

section
variable {m : DedupMsg} {w : DomWork} {fp : Digest} {kd x k : Nat} {s : State}

/-- With no lost chunk of that name a DIR_REPLY answers a chunk's probe. -/
theorem dirReplyAll_of_not_lost (h : lostOf m.fp m.kd s = none) : dirReplyAll m s = opDirReply m s := by
  unfold dirReplyAll
  simp only [h, Option.filter_none]

theorem opDirReply_of_waiting (hw : domOf m.fp m.kd s = some w) (hp : w.phase = .probe k ∨ w.phase = .claim x k) :
    opDirReply m s = if m.result = 4 then setDom w.req (some (busyPhase w.phase)) s else onDirAnswer w.req m.result (m.loc % 32) s := by
  unfold opDirReply
  rcases hp with hp | hp <;> simp only [hw, hp]

/-- An answer other than BUSY to a chunk's probe. -/
theorem dirReplyAll_answers (hl : lostOf m.fp m.kd s = none) (hw : domOf m.fp m.kd s = some w) (hp : w.phase = .probe k ∨ w.phase = .claim x k)
    (hr : m.result ≠ 4) : dirReplyAll m s = onDirAnswer w.req m.result (m.loc % 32) s :=
  (dirReplyAll_of_not_lost hl).trans ((opDirReply_of_waiting hw hp).trans (if_neg hr))

theorem onDirAnswer_none (q : ConfirmReq) (y : Nat) : onDirAnswer q 1 y s = storeHere q s := if_neg (by omega)

theorem onDirAnswer_ok (q : ConfirmReq) {y : Nat} (hy : y ≠ s.arr.arrayNum) : onDirAnswer q 0 y s = startImport q y s := if_pos ⟨rfl, hy⟩

theorem opDirProbeTimeout_of_probe (hw : domOf fp kd s = some w) (hp : w.phase = .probe k) :
    opDirProbeTimeout fp kd s = if k < 3 then sendDedup (homeOf fp s) 1 { kd := kd, fp := fp } (setDom w.req (some (.probe (k + 1))) s)
      else storeHere w.req s := by
  unfold opDirProbeTimeout
  simp only [hw, hp]

theorem opDirProbeTimeout_of_claim (hw : domOf fp kd s = some w) (hp : w.phase = .claim x k) :
    opDirProbeTimeout fp kd s =
      if k < 3 then sendDedup (homeOf fp s) 1 { kd := kd, fp := fp, claim := true, loc := x } (setDom w.req (some (.claim x (k + 1))) s)
      else storeHere w.req s := by
  unfold opDirProbeTimeout
  simp only [hw, hp]

end

/-- Settles O43: the branch of each command that its clause's hypotheses take. -/
theorem confirmAndDirectory : Obligations.ConfirmAndDirectory := by
  unfold Obligations.ConfirmAndDirectory
  intro q m ns e w x n k hit fp kd s
  refine ⟨?arrayNew, ?domainNew, ?found, ?asks, ?answered, ?probeNone, ?probeDir, ?probeRefused, ?passed, ?replyNone, ?replyOk, ?replyBusy,
    ?probeAgain, ?claimAgain, ?probeGivesUp, ?drop⟩
  case arrayNew =>
    rintro ⟨hn, hr, hs⟩ hsc
    have served : opConfirm q s = serveConfirm q .array s := hsc ▸ opConfirm_serves hn hr hs (by rw [hsc]; decide)
    exact ⟨fun ha => exec_confirm (served.trans ((serveConfirm_of_absent ha).trans confirmNew_array)),
      fun ⟨hst, he⟩ => exec_confirm (served.trans ((serveConfirm_of_missing hst he).trans confirmNew_array))⟩
  case domainNew =>
    rintro ⟨hn, hr, hs⟩ hsc ha hh
    have served : opConfirm q s = serveConfirm q .domain s := hsc ▸ opConfirm_serves hn hr hs (by rw [hsc]; decide)
    exact exec_confirm (served.trans ((serveConfirm_of_absent ha).trans (confirmNew_domain.trans (startDomain_probes hh))))
  case found =>
    rintro ⟨hn, hr, hs⟩ hsc ⟨hst, he⟩
    have served := (opConfirm_serves hn hr hs hsc).trans (serveConfirm_of_found hst he)
    exact ⟨fun hlt => exec_confirm (served.trans (if_neg hlt.ne)), fun hmax => exec_confirm (served.trans (if_pos hmax))⟩
  case asks => exact fun hn hr hsc hs ha => exec_confirm (opConfirm_asks hn hr hs hsc ha)
  case answered => exact fun hn hr => exec_confirm (opConfirm_answered hn hr)
  case probeNone => exact fun h hh hd => congrArg nextState (opDirProbe_consults h hh (consultDir_of_none hd))
  case probeDir =>
    intro h hh hd hk
    have consult := fun claim => consultDir_of_dir (y := m.from_) (claim := claim) hd hk
    exact ⟨fun hx => congrArg nextState (opDirProbe_consults h hh ((consult _).trans (if_pos hx))),
      fun hx hcl hl => congrArg nextState (opDirProbe_consults h hh ((consult _).trans ((if_neg hx).trans (if_pos (by rw [if_pos hcl, hl]))))),
      fun hx hcl => congrArg nextState (opDirProbe_consults h hh ((consult _).trans ((if_neg hx).trans (if_neg (by simp [hcl])))))⟩
  case probeRefused => exact fun h hh => congrArg nextState (opDirProbe_refused h hh)
  case passed => exact fun h => ⟨congrArg nextState (atServer_elsewhere h), congrArg nextState (atServer_elsewhere h)⟩
  case replyNone =>
    exact fun hl ⟨hw, hp⟩ hr => next_arSettle_congr ((dirReplyAll_answers hl hw hp (by omega)).trans (hr ▸ onDirAnswer_none w.req _))
  case replyOk =>
    exact fun hl ⟨hw, hp⟩ hr hx => next_arSettle_congr ((dirReplyAll_answers hl hw hp (by omega)).trans (hr ▸ onDirAnswer_ok w.req hx))
  case replyBusy =>
    exact fun hl ⟨hw, hp⟩ hr => next_arSettle_congr ((dirReplyAll_of_not_lost hl).trans ((opDirReply_of_waiting hw hp).trans (if_pos hr)))
  case probeAgain => exact fun hw hp hk => next_arSettle_congr ((opDirProbeTimeout_of_probe hw hp).trans (if_pos hk))
  case claimAgain => exact fun hw hp hk => next_arSettle_congr ((opDirProbeTimeout_of_claim hw hp).trans (if_pos hk))
  case probeGivesUp =>
    rintro hw (hp | hp) hk
    · exact next_arSettle_congr ((opDirProbeTimeout_of_probe hw hp).trans (if_neg (Nat.not_lt.mpr hk)))
    · exact next_arSettle_congr ((opDirProbeTimeout_of_claim hw hp).trans (if_neg (Nat.not_lt.mpr hk)))
  case drop =>
    exact fun h hd => ⟨fun hk => congrArg nextState ((opDirDrop_of_dir h hd).trans (if_pos hk)),
      fun hk hne => congrArg nextState ((opDirDrop_of_dir h hd).trans (if_neg (by rw [hk]; exact fun he => hne (EntryKind.dir.inj he))))⟩

end Sys2Proof.Machine
end

section
/-! PROOFS. IMPORT, RELEASE, FETCH and EVICT between arrays (R187 to R191). -/

namespace Sys2Proof.Machine

open Sys2Proof

/-! ### IMPORT and RELEASE at the exporter (R186 to R188) -/

section
variable {m : DedupMsg} {e r : IndexEntry} {u : Nat} {s v : State}

/-- IMPORT_REPLY of the exporter, with RESULT, CHUNK_LEN and FRAME_LEN. -/
def importAnswer (m : DedupMsg) (result chunkLen frameLen : Nat) (s : State) : State :=
  sendDedup m.from_ 5 { result := result, kd := m.kd, serial := m.serial, fp := m.fp, loc := s.arr.arrayNum, chunkLen := chunkLen, frameLen := frameLen } s

/-- RELEASE_REPLY of the exporter. -/
def releaseAnswer (m : DedupMsg) (s : State) : State :=
  sendDedup m.from_ 7 { result := 0, kd := m.kd, serial := m.serial, fp := m.fp, loc := s.arr.arrayNum } s

theorem opImport_of_held_serial (h : serves (sliceOf m.fp) s = true) (hr : extRef m s = some r) (he : exportable m s = some e) :
    opImport m s = importAnswer m 0 e.chunkLen e.frameLen s := by
  rw [opImport, atServer_here h]
  simp only [hr, he, importAnswer]

theorem opImport_of_new_serial (h : serves (sliceOf m.fp) s = true) (hr : extRef m s = none) (he : exportable m s = some e) (hu : newUid s = (u, v)) :
    opImport m s = importAnswer m 0 e.chunkLen e.frameLen (transact none [.entryPut (addRefs 1 e),
      .entryPut { uid := u, fp := m.fp, kd := m.kd, kind := .extRef m.from_, state := .live, serial := m.serial }] v) := by
  rw [opImport, atServer_here h]
  simp only [hr, he, hu, importAnswer]

theorem opImport_refused (h : serves (sliceOf m.fp) s = true) (hr : extRef m s = none) (he : exportable m s = none) :
    opImport m s = importAnswer m (importRefusal m s) 0 0 s := by
  rw [opImport, atServer_here h]
  simp only [hr, he, importAnswer]

theorem opRelease_of_unknown (h : serves (sliceOf m.fp) s = true) (hr : extRef m s = none) : opRelease m s = releaseAnswer m s := by
  rw [opRelease, atServer_here h]
  simp only [hr, releaseAnswer]

theorem opRelease_of_held (h : serves (sliceOf m.fp) s = true) (hr : extRef m s = some r) (he : referenced m s = some e) :
    opRelease m s = releaseAnswer m (transact none [.entryDel r, .entryPut (deadIfFree { e with refs := e.refs - 1 })] s) := by
  rw [opRelease, atServer_here h]
  simp only [hr, he, releaseAnswer]

end

/-! ### The importer's side (R187, R189) -/

section
variable {m : DedupMsg} {w : DomWork} {e : IndexEntry} {x k n : Nat} {s t : State}

theorem opImportReply_makes_live (hw : domOf m.fp m.kd s = some w) (hp : w.phase = .importing m.serial x k) (hr : m.result = 0)
    (he : importEntry m.serial s = some e) :
    opImportReply m s = replyLater w.req true
      (transact none [.entryPut { e with state := .live, chunkLen := m.chunkLen, frameLen := m.frameLen }] (setDom w.req none s)) := by
  have entry : importEntry m.serial (setDom w.req none s) = some e := he
  unfold opImportReply
  simp only [hw, hp, hr, entry, ne_eq, not_true_eq_false, if_true, if_false, OfNat.zero_ne_ofNat]

theorem opImportReply_claims (hw : domOf m.fp m.kd s = some w) (hp : w.phase = .importing m.serial x k) (hr : m.result = 2)
    (ht : entryKind w.req (.chunk {}) 0 s = t) (hh : homeOf m.fp t ≠ t.arr.arrayNum) :
    opImportReply m s = sendDedup (homeOf m.fp t) 1 { kd := m.kd, fp := m.fp, claim := true, loc := x } (setDom w.req (some (.claim x 1)) t) := by
  unfold opImportReply
  simp only [hw, hp, hr, ht, hh, ne_eq, not_true_eq_false, if_true, if_false, OfNat.ofNat_ne_zero, Nat.reduceEqDiff]

theorem opImportReply_busy (hw : domOf m.fp m.kd s = some w) (hp : w.phase = .importing m.serial x k) (hr : m.result = 4) :
    opImportReply m s = setDom w.req (some (busyPhase w.phase)) s := by
  unfold opImportReply
  simp only [hw, hp, hr, ne_eq, not_true_eq_false, if_true, if_false]

theorem opImportReply_refused (hw : domOf m.fp m.kd s = some w) (hp : w.phase = .importing m.serial x k) (hr : m.result = 3) :
    opImportReply m s = storeHere w.req s := by
  unfold opImportReply
  simp only [hw, hp, hr, ne_eq, not_true_eq_false, if_false, OfNat.ofNat_ne_zero, Nat.reduceEqDiff]

theorem opImportTimeout_of_work (hw : importWork m.serial s = some w) (hp : w.phase = .importing m.serial x k) :
    opImportTimeout m.serial s =
      if k < 3 then sendDedup x 4 { kd := w.req.kd, serial := m.serial, fp := w.req.fp, loc := x, chunkLen := w.req.chunkLen }
        (setDom w.req (some (.importing m.serial x (k + 1))) s)
      else storeHere w.req (sendDedup x 6 { kd := w.req.kd, serial := m.serial, fp := w.req.fp, loc := x }
        (onArr (fun a => { a with releases := a.releases ++ [{ serial := m.serial, fp := w.req.fp, kd := w.req.kd, exporter := x }] }) s)) := by
  unfold opImportTimeout
  simp only [hw, hp]

/-- The releases without the one that was answered. -/
def releaseDropped (m : DedupMsg) (s : State) : State := onArr (fun a => { a with releases := a.releases.filter (·.serial != m.serial) }) s

theorem opReleaseReply_of_entry (hr : m.result = 0) (he : importEntry m.serial (releaseDropped m s) = some e) :
    opReleaseReply m s = if e.state = .dead then removeImport m.serial (releaseDropped m s) else releaseDropped m s := by
  have entry := he
  unfold releaseDropped at entry
  unfold opReleaseReply releaseDropped
  simp only [hr, entry, ne_eq, not_true_eq_false, if_false]

theorem opReleaseReply_of_no_entry (hr : m.result = 0) (he : importEntry m.serial (releaseDropped m s) = none) :
    opReleaseReply m s = releaseDropped m s := by
  have entry := he
  unfold releaseDropped at entry
  unfold opReleaseReply releaseDropped
  simp only [hr, entry, ne_eq, not_true_eq_false, if_false]

/-! ### RELEASE sent again (R190) -/

/-- A release's wait doubled up to 1 h, and RELEASE sent again. -/
def releaseResent (n : Nat) (rel : RelWork) (s : State) : State :=
  sendDedup rel.exporter 6 { kd := rel.kd, serial := n, fp := rel.fp, loc := rel.exporter }
    (onArr (fun a => { a with releases := a.releases.map (fun x => if x.serial = n then { x with wait := min 3600 (2 * x.wait) } else x) }) s)

/-- IMPORT_RELEASE_DEFERRED recorded for an exporter, with its time. -/
def deferralRecorded (exporter : Nat) (s : State) : State :=
  recordFw Ev.IMPORT_RELEASE_DEFERRED srcSUP exporter [] (onArr (fun a => { a with deferredAt := kput a.deferredAt exporter (opsec s) }) s)

variable {rel : RelWork} (hrel : s.arr.releases.find? (·.serial == n) = some rel)
include hrel

/-- Within a day of the last IMPORT_RELEASE_DEFERRED of the exporter nothing is recorded. -/
theorem opReleaseResend_within_day (hx : kfind (releaseResent n rel s).arr.deferredAt rel.exporter = some x)
    (hlt : opsec (releaseResent n rel s) < x + 86400) : opReleaseResend n s = releaseResent n rel s := by
  unfold releaseResent at hx hlt ⊢
  unfold opReleaseResend
  simp only [hrel, hx, hlt, if_true]

theorem opReleaseResend_after_day
    (hy : ∀ y, kfind (releaseResent n rel s).arr.deferredAt rel.exporter = some y → y + 86400 ≤ opsec (releaseResent n rel s)) :
    opReleaseResend n s = deferralRecorded rel.exporter (releaseResent n rel s) := by
  cases hk : kfind (releaseResent n rel s).arr.deferredAt rel.exporter with
  | none =>
    unfold releaseResent at hk ⊢
    unfold opReleaseResend deferralRecorded
    simp only [hrel, hk]
  | some y =>
    have hlate := Nat.not_lt.mpr (hy y hk)
    unfold releaseResent at hk hlate ⊢
    unfold opReleaseResend deferralRecorded
    simp only [hrel, hk, if_neg hlate]

end

/-! ### FETCH at the exporter and EVICT at the importer (R190, R191) -/

section
variable {m : DedupMsg} {e : IndexEntry} {l : Loc} {f : List Byte} {s v : State}

/-- The exporter's answer to FETCH, with RESULT, CRD and the frame. -/
def fetchAnswer (m : DedupMsg) (result crd : Nat) (f : List Byte) (s : State) : State :=
  sendDedup m.from_ 8 { result := result, kd := m.kd, crd := crd, serial := m.serial, fp := m.fp, loc := s.arr.arrayNum, frameLen := f.length, frame := f } s

/-- With no lost chunk of that name and no read that waits, a FETCH is another array's question. -/
theorem fetchAll_of_asked (hl : lostOf m.fp m.kd s = none) (hw : s.arr.fetches = []) : fetchAll m s = fetchExport m s := by
  have asked : opFetch m s = fetchExport m s := by
    unfold opFetch
    simp only [hw, List.filter_nil, List.isEmpty_nil, if_true]
  unfold fetchAll
  simp only [hl, hw, asked, Option.filter_none, List.filter_nil, List.map_nil, forEach, List.foldl_nil, ite_self]

theorem fetchExport_of_none (h : heldChunk m s = none) : fetchExport m s = fetchAnswer m 2 0 [] s := by
  unfold fetchExport
  simp only [h, fetchAnswer]

variable (h : heldChunk m s = some e) (hk : e.kind = .chunk l) (hlost : e.lost = false) (hlive : e.state = .live)
include h hk hlost hlive

theorem fetchExport_of_awake (ha : shelfAwake l.shelf s = true) (hf : frameAt l e.frameLen s = some f) : fetchExport m s = fetchAnswer m 0 0 f s := by
  unfold fetchExport
  simp only [h, hk, hlost, hlive, ha, hf, fetchAnswer, Bool.not_true, Bool.and_false, Bool.false_and, Bool.false_eq_true, if_false, reduceCtorEq]

/-- The frame of a chunk whose shelf is OFF cannot be read; a wake is asked for. -/
theorem fetchExport_of_off (hst : steepOf l.stripe s = none) (hoff : shelfState l.shelf s = 0) :
    fetchExport m s = fetchAnswer m 5 sleepCrd [] (requestWake l.shelf .stage s) := by
  have asleep : ((steepOf l.stripe s).isNone && !shelfAwake l.shelf s && shelfSt l.shelf s != .draining) = true := by
    simp [hst, shelfAwake, shelfSt, hoff]
  unfold fetchExport
  simp only [h, hk, hlost, hlive, asleep, fetchAnswer, Bool.false_eq_true, if_false, if_true, reduceCtorEq]

end

theorem opEvict_stores {m : DedupMsg} {e : IndexEntry} {l : Loc} {s t v : State} (he : importedFrom m s = some e) (hf : m.frame ≠ [])
    (hp : placeSealed 0 0 0 s.arr.width none none m.frame m.fp m.kd true s = (some l, v))
    (ht : transact none [.entryPut { e with kind := .chunk l, frameLen := m.frame.length, serial := 0 }] v = t) :
    opEvict m s = sendDedup m.from_ 9 { result := 0, kd := m.kd, serial := e.serial, fp := m.fp, loc := t.arr.arrayNum } t := by
  have nonempty : m.frame.isEmpty = false := List.isEmpty_eq_false_iff.mpr hf
  unfold opEvict
  simp only [he, nonempty, hp, ht, Bool.false_eq_true, if_false]

/-- Settles O44: the branch of each command that its clause's hypotheses take. -/
theorem importReleaseAndFetch : Obligations.ImportReleaseAndFetch := by
  unfold Obligations.ImportReleaseAndFetch
  intro m e r w l rel x n k u f t v s
  refine ⟨?heldSerial, ?newSerial, ?refused, ?passed, ?replyLive, ?replyGone, ?replyBusy, ?replyRefused, ?sentAgain, ?abandoned, ?releaseUnknown,
    ?releaseHeld, ?releasedEntry, ?releasedNone, ?resend, ?fetchAwake, ?fetchOff, ?fetchGone, ?evict⟩
  case heldSerial => exact fun h hr he => congrArg nextState (opImport_of_held_serial h hr he)
  case newSerial => exact fun h hr he hu => congrArg nextState (opImport_of_new_serial h hr he hu)
  case refused => exact fun h hr he => congrArg nextState (opImport_refused h hr he)
  case passed => exact fun h => ⟨congrArg nextState (atServer_elsewhere h), congrArg nextState (atServer_elsewhere h)⟩
  case replyLive => exact fun ⟨hw, hp⟩ hr he => next_arSettle_congr (opImportReply_makes_live hw hp hr he)
  case replyGone => exact fun ⟨hw, hp⟩ hr ht hh => next_arSettle_congr (opImportReply_claims hw hp hr ht hh)
  case replyBusy => exact fun ⟨hw, hp⟩ hr => next_arSettle_congr (opImportReply_busy hw hp hr)
  case replyRefused => exact fun ⟨hw, hp⟩ hr => next_arSettle_congr (opImportReply_refused hw hp hr)
  case sentAgain => exact fun ⟨hw, hp⟩ hk => next_arSettle_congr ((opImportTimeout_of_work hw hp).trans (if_pos hk))
  case abandoned =>
    exact fun ⟨hw, hp⟩ hk => next_arSettle_congr ((opImportTimeout_of_work hw hp).trans (if_neg (Nat.not_lt.mpr hk)))
  case releaseUnknown => exact fun h hr => congrArg nextState (opRelease_of_unknown h hr)
  case releaseHeld => exact fun h hr he => congrArg nextState (opRelease_of_held h hr he)
  case releasedEntry =>
    exact fun hr he => ⟨fun hd => congrArg nextState ((opReleaseReply_of_entry hr he).trans (if_pos hd)),
      fun hd => congrArg nextState ((opReleaseReply_of_entry hr he).trans (if_neg hd))⟩
  case releasedNone => exact fun hr he => congrArg nextState (opReleaseReply_of_no_entry hr he)
  case resend =>
    exact fun hrel => ⟨fun hx hlt => congrArg nextState (opReleaseResend_within_day hrel hx hlt),
      fun hy => congrArg nextState (opReleaseResend_after_day hrel hy)⟩
  case fetchAwake =>
    exact fun ⟨hl, hw⟩ h hk hlost hlive ha hf =>
      congrArg (fun y => nextState (settleRep y)) ((fetchAll_of_asked hl hw).trans (fetchExport_of_awake h hk hlost hlive ha hf))
  case fetchOff =>
    exact fun ⟨hl, hw⟩ h hk hlost hlive hst hoff =>
      congrArg (fun y => nextState (settleRep y)) ((fetchAll_of_asked hl hw).trans (fetchExport_of_off h hk hlost hlive hst hoff))
  case fetchGone => exact fun ⟨hl, hw⟩ h => congrArg (fun y => nextState (settleRep y)) ((fetchAll_of_asked hl hw).trans (fetchExport_of_none h))
  case evict => exact fun ⟨he, hf, hp⟩ => next_arSettle_congr (opEvict_stores he hf hp rfl)

end Sys2Proof.Machine
end

section
/-! PROOFS. Resets, clocks, DRAM training and power failure (R175, R475 to R493). -/

namespace Sys2Proof.Machine

open Sys2Proof

/-! ### Clocks (R477, R478) -/

section
variable {n : Fin 16} {ok : Bool} {k : Nat} {s : State}

theorem opRefclkReturn_resets (h : s.chip.refLost = true) : opRefclkReturn s = warmReset F.CHIP_RESET_CAUSE_REFCLK_LOST s := if_pos h

/-- The lock of a PLL lost: its island's clock stops, and no try has been made. -/
def pllUnlocked (n : Nat) (s : State) : State :=
  let t := rset F.CLK_ISLAND_FREQ_MHZ 0 (rputBit F.CLK_PLL_STATUS_LOCKED n false s) n
  { t with chip := { t.chip with plls := kput t.chip.plls n 0 } }

theorem opPllLost_of_locked (h : kfind s.chip.plls n.val = none) : opPllLost n s = pllUnlocked n.val s := by
  unfold opPllLost
  rw [h]
  exact if_neg Bool.false_ne_true

/-- A PLL that locked again: its island's clock runs at the frequency of its level. -/
def pllRelocked (n : Nat) (s : State) : State :=
  let t := { s with chip := { s.chip with plls := kdel s.chip.plls n } }
  rset F.CLK_ISLAND_FREQ_MHZ (rget F.PWR_DVFS_MHZ s n) (rinc F.CLK_ISLAND_FREQ_RELOCKS 1 (rputBit F.CLK_PLL_STATUS_LOCKED n true t) n) n

/-- `k + 1` tries made without a lock. -/
def pllTried (n k : Nat) (s : State) : State := { s with chip := { s.chip with plls := kput s.chip.plls n (k + 1) } }

theorem opPllRetry_of_unlocked (h : kfind s.chip.plls n.val = some k) (hk : k < 3) :
    opPllRetry n ok s = if ok then pllRelocked n.val s
      else if k + 1 = 3 then islandFailed n.val (rputBit F.CLK_PLL_STATUS_LOCK_FAIL n.val true (pllTried n.val k s)) else pllTried n.val k s := by
  unfold opPllRetry
  rw [h]
  exact if_neg (Nat.not_le.mpr hk)

end

/-! ### DRAM and the strainer (R175, R482 to R484) -/

section
variable {s : State}

/-- DRAM in use after training, on the channels trained that MEM_CFG enables, and the boot goes on. -/
def dramTrained (trained failed : BitVec 8) (speed gib : Nat) (s : State) : State :=
  let use := trained.toNat &&& s.chip.memCh &&& (0xFF - failed.toNat)
  let top := if s.chip.memSpeed = 0 ∨ 4 < s.chip.memSpeed then 4 else s.chip.memSpeed
  let t1 := rset F.MEM_TRAIN_STATUS_CH_TRAINED use (rset F.MEM_TRAIN_STATUS_CH_FAILED (failed.toNat &&& s.chip.memCh) s)
  let t2 := rset F.MEM_TRAIN_STATUS_SPEED (min speed top) (rset F.MEM_TRAIN_STATUS_CAPACITY_GIB gib t1)
  let few : Bool := decide (((List.range 8).filter (fun c => use.testBit c)).length < 4)
  bootChain (rflag F.MEM_TRAIN_STATUS_READY true { t2 with chip := { t2.chip with lowMem := few || decide (gib < 512) } })

theorem opTrained_of_not_ready {trained failed : BitVec 8} {speed gib : Nat} (h : rbit F.MEM_TRAIN_STATUS_READY s = false) :
    opTrained trained failed speed gib s = dramTrained trained failed speed gib s := by
  unfold opTrained
  rw [h]
  exact if_neg Bool.false_ne_true

theorem opInitDone_of_ready (h : rbit F.MEM_TRAIN_STATUS_READY s = true) : opInitDone s = rflag F.MEM_TRAIN_STATUS_INIT_DONE true s := if_pos h

theorem opInitDone_of_not_ready (h : rbit F.MEM_TRAIN_STATUS_READY s = false) : opInitDone s = s := if_neg (by simp [h])

theorem opPatrol_counts {addr row : Nat} {ch : Fin 8} {uncorr : Bool} (hen : rbit F.MEM_PATROL_CFG_EN s = true)
    (hready : rbit F.MEM_TRAIN_STATUS_READY s = true) :
    opPatrol addr ch row uncorr s = if uncorr then memUe addr ch.val s else memCe ch.val row true s := by
  unfold opPatrol
  rw [hen, hready]
  exact if_neg Bool.false_ne_true

theorem opStrainerDone_of_rebuilding (h : s.arr.strainer.rebuilding = true) : opStrainerDone s = buildStrainer s.arr.strainer.b s := if_pos h

theorem opStrainerDone_of_built (h : s.arr.strainer.rebuilding = false) : opStrainerDone s = s := if_neg (by simp [h])

end

/-! ### Power failure, the destage and its end (R487 to R489) -/

section
variable {pf : Bool} {s : State}

/-- Intake stops, with IRQ line 1 raised, loss detection disarmed and the partner told. -/
def intakeStopped (s : State) : State :=
  sendPartner .powerFail (rflag F.HQ_CTL_INTAKE_EN false (disarm (raiseIrq 1 { s with pwr := { s.pwr with intakeWas := rbit F.HQ_CTL_INTAKE_EN s } })))

/-- The partner takes every group unless its own power fails too, and the links go down. -/
def groupsYielded (pf : Bool) (s : State) : State := linksDown (if pf then closeEpoch s else if partnerHere s then closeEpoch (handAll s) else s)

/-- ING, CMP and PAR are forced off. -/
def enginesForcedOff (s : State) : State :=
  forEach [11, 12, 14] (fun i s => setElec i (rputBit F.PWR_STATUS_PG i true (rputBit F.PWR_ISLAND_GATE_FORCE_OFF i true s))) s

/-- The DPC islands go to L3, and the open record is closed and committed. -/
def islandsSlowed (s : State) : State := opRecordProgrammed (opRecordClose (forEach [1, 2, 3, 4, 5, 6, 7, 8] (fun n s => writeLevel n 3 s) s))

/-- PWR_FAILn is recorded once it has gone low; outside P2 and P3 the steps of Table 16.6 follow, and the destage starts. -/
theorem opPowerFail_of_high {f0 f1 f2 f3 f4 : State} (h : s.chip.pfLow = false)
    (hrecord : record Ev.POWER_FAIL srcAON 0 [] { s with chip := { s.chip with pfLow := true } } = f0) (hintake : intakeStopped f0 = f1)
    (hgroups : groupsYielded pf f1 = f2) (hengines : enginesForcedOff f2 = f3) (hislands : islandsSlowed f3 = f4) :
    opPowerFail pf s = if 2 ≤ rget F.PWR_STATUS_STATE f0 then f0 else { f4 with chip := { f4.chip with destaging := true, vault := none } } := by
  unfold intakeStopped at hintake
  unfold groupsYielded at hgroups
  unfold enginesForcedOff at hengines
  unfold islandsSlowed at hislands
  unfold opPowerFail
  rw [if_neg (by simp [h]), hrecord]
  dsimp only at hintake hgroups hengines hislands ⊢
  rw [hintake, hgroups, hengines, hislands]

/-- The image is written last, and the destage's end recorded. -/
def destageRecorded (s : State) : State :=
  record (if s.chip.vaultFitted then Ev.VAULT_DESTAGE_DONE else Ev.VAULT_DESTAGE_FAIL) srcPCI 16 []
    (drainFifo { s with chip := { s.chip with destaging := false, vault := if s.chip.vaultFitted then some (vaultImage s) else none } })

/-- Step 2 of the entry of P2, with PWR_RESTORE as the only wake source. -/
def destageStep2 (s : State) : State := pwrStep2 { s with pwr := { s.pwr with before := rget F.PWR_STATUS_STATE s, restoreOnly := true } }

/-- After the destage the part enters P2, and wakes at once when PWR_FAILn has risen meanwhile. -/
theorem opDestageDone_of_destaging {v0 v1 v2 : State} (h : s.chip.destaging = true) (hrecord : destageRecorded s = v0) (hstep2 : destageStep2 v0 = v1)
    (hretain : enterRetain { v1 with pwr := { v1.pwr with intakeWas := v0.pwr.intakeWas } } = v2) :
    opDestageDone s = if v2.chip.pfLow then v2 else pwrRestored v2 := by
  unfold destageRecorded at hrecord
  unfold destageStep2 at hstep2
  unfold opDestageDone
  rw [if_neg (by simp [h])]
  dsimp only at hrecord hstep2 hretain ⊢
  rw [hrecord, hstep2, hretain]

/-- PWR_FAILn rises, and loss detection is disarmed; in P2 the part may wake. -/
theorem opPwrRestore_of_low {t : State} (h : s.chip.pfLow = true) (ht : disarm { s with chip := { s.chip with pfLow := false } } = t) :
    opPwrRestore s = if rget F.PWR_STATUS_STATE t ≠ 2 then t
      else if t.pwr.restoreOnly then pwrRestored t
      else if rbit F.PWR_WAKE_EN_PWR_RESTORE t then wakeSource 6 0 t else t := by
  unfold opPwrRestore
  rw [if_neg (by simp [h]), ht]

end

/-- Settles O53: what each command does in each state that its clauses name. -/
theorem resetsClocksAndPowerFailure : Obligations.ResetsClocksAndPowerFailure := by
  unfold Obligations.ResetsClocksAndPowerFailure
  intro p rail n ok uncorr pf tr fl speed gib addr row k ch s resets board dram warm noClock unlocked relocked tries use t1 chans top t2 f0 f1 f2 f3 f4 v0 v1 v2
    risen saved
  refine ⟨rfl, rfl, rfl, rfl, rfl, rfl, ?refclkReturn, ?pllLost, ?relocked, ?tried, ?failed, ?trained, ?initDone, ?notInit, ?powerFail,
    ?powerFailInP2, ?destaged, ?restoreInP2, ?restore, ?patrol, ?rebuilt, ?notRebuilding, rfl⟩
  case refclkReturn => exact fun h => congrArg nextState (opRefclkReturn_resets h)
  case pllLost => exact fun h => congrArg nextState (opPllLost_of_locked h)
  case relocked => exact fun h hk hok => congrArg nextState ((opPllRetry_of_unlocked h hk).trans (if_pos hok))
  case tried =>
    intro h hk hok
    exact congrArg nextState ((opPllRetry_of_unlocked h (by omega)).trans ((if_neg (by simp [hok])).trans (if_neg (by omega))))
  case failed =>
    rintro h rfl hok
    exact congrArg nextState ((opPllRetry_of_unlocked h (by omega)).trans ((if_neg (by simp [hok])).trans (if_pos rfl)))
  case trained => exact fun h => congrArg nextState (opTrained_of_not_ready h)
  case initDone => exact fun h => congrArg nextState (opInitDone_of_ready h)
  case notInit => exact fun h => congrArg nextState (opInitDone_of_not_ready h)
  case powerFail =>
    intro h hlt
    have taken := (opPowerFail_of_high (pf := pf) (f0 := f0) (f1 := f1) (f2 := f2) (f3 := f3) (f4 := f4) h rfl rfl rfl rfl rfl).trans
      (if_neg (Nat.not_le.mpr hlt))
    exact congrArg nextState taken
  case powerFailInP2 =>
    intro h hle
    have taken := (opPowerFail_of_high (pf := pf) (f0 := f0) (f1 := f1) (f2 := f2) (f3 := f3) (f4 := f4) h rfl rfl rfl rfl rfl).trans (if_pos hle)
    exact congrArg nextState taken
  case destaged =>
    intro h
    have done : opDestageDone s = if v2.chip.pfLow then v2 else pwrRestored v2 := opDestageDone_of_destaging (v0 := v0) (v1 := v1) h rfl rfl rfl
    exact ⟨fun hlow => congrArg nextState (done.trans (if_pos hlow)), fun hhigh => congrArg nextState (done.trans (if_neg (by simp [hhigh])))⟩
  case restoreInP2 =>
    intro h hp2
    have restored : opPwrRestore s = _ := (opPwrRestore_of_low (t := risen) h rfl).trans (if_neg (not_not.mpr hp2))
    exact ⟨fun honly => congrArg nextState (restored.trans (if_pos honly)),
      fun hall hen => congrArg nextState (restored.trans ((if_neg (by simp [hall])).trans (if_pos hen)))⟩
  case restore => exact fun h hp2 => congrArg nextState ((opPwrRestore_of_low (t := risen) h rfl).trans (if_pos hp2))
  case patrol =>
    exact fun hen hready => ⟨fun hu => congrArg nextState ((opPatrol_counts hen hready).trans (if_pos hu)),
      fun hu => congrArg nextState ((opPatrol_counts hen hready).trans (if_neg (by simp [hu])))⟩
  case rebuilt => exact fun h => congrArg nextState (opStrainerDone_of_rebuilding h)
  case notRebuilding => exact fun h => congrArg nextState (opStrainerDone_of_built h)

end Sys2Proof.Machine
end

section
/-! PROOFS. AES blocks, round keys and GCM tags have their lengths, and GCM decryption undoes GCM encryption (R211, R212). -/

namespace Sys2Proof.Machine

open Sys2Proof

/-! ### Bytes XORed -/

theorem xorBytes_length (a b : List Byte) : (xorBytes a b).length = min a.length b.length := List.length_zipWith

theorem xorBytes_length_eq {n : Nat} {a b : List Byte} (ha : a.length = n) (hb : b.length = n) : (xorBytes a b).length = n := by
  rw [xorBytes_length, ha, hb, Nat.min_self]

/-- Bytes added twice cancel. -/
theorem xorBytes_cancel {a k : List Byte} (h : a.length ≤ k.length) : xorBytes (xorBytes a k) k = a := by
  apply List.ext_getElem
  · rw [xorBytes_length, xorBytes_length]
    omega
  · intro i h1 h2
    simp only [xorBytes, List.getElem_zipWith, BitVec.xor_assoc, BitVec.xor_self, BitVec.xor_zero]

/-- Bytes are XORed part by part, the first part as long as the other list's. -/
theorem xorBytes_append_right (l k m : List Byte) : xorBytes l (k ++ m) = xorBytes (l.take k.length) k ++ xorBytes (l.drop k.length) m := by
  rw [← List.take_append_drop k.length (xorBytes l (k ++ m)), xorBytes, List.take_zipWith, List.drop_zipWith, List.take_left' rfl, List.drop_left' rfl]
  rfl

/-! ### Round keys and blocks of AES (R211) -/

/-- A word of the key schedule has 4 bytes when the words that it is made of have. -/
theorem keyWord_length {w : List (List Byte)} {i : Nat} (hw : ∀ x ∈ w, x.length = 4) (h8 : 8 ≤ i) (hi : i ≤ w.length) : (keyWord w i).length = 4 := by
  have word : ∀ j, j < w.length → (w.getD j []).length = 4 := fun j hj => by
    rw [List.getD_eq_getElem _ _ hj]
    exact hw _ (List.getElem_mem hj)
  have before := word (i - 1) (by omega)
  refine xorBytes_length_eq (word (i - 8) (by omega)) ?_
  split
  · exact xorBytes_length_eq (by rw [List.length_map, List.length_append, List.length_drop, List.length_take, before]; rfl) rfl
  · split
    · rw [List.length_map, before]
    · exact before

/-- `n` steps of the key schedule make `n` words of 4 bytes. -/
theorem scheduleSteps_words {w0 : List (List Byte)} (h0 : w0.length = 8) (hw : ∀ x ∈ w0, x.length = 4) (n : Nat) :
    let w := (List.range n).foldl (fun w k => w ++ [keyWord w (k + 8)]) w0
    w.length = n + 8 ∧ ∀ x ∈ w, x.length = 4 := by
  induction n with
  | zero => exact ⟨h0.trans (Nat.zero_add 8).symm, hw⟩
  | succ n ih =>
    obtain ⟨hlen, hall⟩ := ih
    rw [List.range_succ, List.foldl_append]
    refine ⟨by simp [hlen], fun x hx => ?_⟩
    rcases List.mem_append.mp hx with hx | hx
    · exact hall x hx
    · rw [List.mem_singleton.mp hx]
      exact keyWord_length hall (by omega) (by omega)

theorem keySchedule_words (key : List Byte) : (keySchedule key).length = 60 ∧ ∀ x ∈ keySchedule key, x.length = 4 := by
  have first : ∀ x ∈ (List.range 8).map (fun i => padTo 4 ((key.drop (4 * i)).take 4)), x.length = 4 := fun x hx => by
    obtain ⟨i, -, rfl⟩ := List.mem_map.mp hx
    exact padTo_length 4 _
  unfold keySchedule
  exact scheduleSteps_words (by rw [List.length_map, List.length_range]) first 52

theorem roundKey_length (key : List Byte) {r : Nat} (hr : r < 15) : ((roundKeys key).getD r []).length = 16 := by
  obtain ⟨hlen, hall⟩ := keySchedule_words key
  have round : (roundKeys key).getD r [] = ((List.range 4).map (fun j => (keySchedule key).getD (4 * r + j) [])).flatten := by
    rw [List.getD_eq_getElem _ _ (by simpa [roundKeys] using hr)]
    simp [roundKeys]
  have words : ∀ n ∈ ((List.range 4).map (fun j => (keySchedule key).getD (4 * r + j) [])).map List.length, n = 4 := by
    intro n hn
    obtain ⟨x, hx, rfl⟩ := List.mem_map.mp hn
    obtain ⟨j, hj, rfl⟩ := List.mem_map.mp hx
    have hj := List.mem_range.mp hj
    rw [List.getD_eq_getElem _ _ (by omega)]
    exact hall _ (List.getElem_mem _)
  rw [round, List.length_flatten, List.sum_eq_card_nsmul _ 4 words, List.length_map, List.length_map, List.length_range]
  rfl

@[simp] theorem shiftRows_length (inv : Bool) (b : List Byte) : (shiftRows inv b).length = 16 := by simp [shiftRows]

/-- Under a key's round keys any block encrypts to 16 bytes. -/
@[simp] theorem aesEncBlock_length (key b : List Byte) : (aesEncBlock (roundKeys key) b).length = 16 :=
  xorBytes_length_eq (shiftRows_length ..) (roundKey_length key (by omega))

/-! ### GCM decryption undoes GCM encryption (R212, SP 800-38D) -/

theorem blocksOf_length {n : Nat} {l : List Byte} (h : l.length ≤ 16 * n) : (blocksOf n l).length = (l.length + 15) / 16 := by
  induction n generalizing l with
  | zero => rw [List.length_eq_zero_iff.mp (Nat.le_zero.mp h)]; rfl
  | succ n ih =>
    rw [blocksOf]
    split
    · next he => rw [List.isEmpty_iff.mp he]; rfl
    · next he =>
      have hpos : l.length ≠ 0 := fun h0 => he (List.isEmpty_iff.mpr (List.length_eq_zero_iff.mp h0))
      rw [List.length_cons, ih (by rw [List.length_drop]; omega), List.length_drop]
      omega

theorem blocks16_length (l : List Byte) : (blocks16 l).length = (l.length + 15) / 16 := blocksOf_length (by omega)

/-- Blocks XORed one by one with blocks of 16 bytes are the whole XORed with those blocks in a row. -/
theorem xorBytes_blocksOf {e : Nat → List Byte} (he : ∀ i, (e i).length = 16) {n : Nat} {l : List Byte} (h : l.length ≤ 16 * n) :
    ((List.range (blocksOf n l).length).map (fun i => xorBytes ((blocksOf n l).getD i []) (e i))).flatten =
      xorBytes l ((List.range (blocksOf n l).length).flatMap e) := by
  induction n generalizing l e with
  | zero => rw [List.length_eq_zero_iff.mp (Nat.le_zero.mp h)]; rfl
  | succ n ih =>
    rw [blocksOf]
    split
    · next hl => rw [List.isEmpty_iff.mp hl]; rfl
    · have rest := ih (e := fun i => e (i + 1)) (fun i => he (i + 1)) (l := l.drop 16) (by rw [List.length_drop]; omega)
      rw [List.length_cons, List.range_succ_eq_map, List.map_cons, List.flatten_cons, List.flatMap_cons, List.map_map, List.flatMap_map,
        xorBytes_append_right, he 0]
      exact congrArg _ rest

/-- GCM's key stream for `n` bytes. -/
def gcmPad (ks : List (List Byte)) (iv : List Byte) (n : Nat) : List Byte :=
  (List.range ((n + 15) / 16)).flatMap (fun i => aesEncBlock ks (gcmInc iv i))

theorem length_le_gcmPad (key iv : List Byte) (n : Nat) : n ≤ (gcmPad (roundKeys key) iv n).length := by
  rw [gcmPad, length_flatMap_const fun _ => aesEncBlock_length key _, List.length_range]
  omega

theorem gcmStream_eq_xorBytes (key iv l : List Byte) : gcmStream (roundKeys key) iv l = xorBytes l (gcmPad (roundKeys key) iv l.length) := by
  rw [gcmPad, ← blocks16_length]
  exact xorBytes_blocksOf (fun _ => aesEncBlock_length key _) (by omega)

@[simp] theorem gcmStream_length (key iv l : List Byte) : (gcmStream (roundKeys key) iv l).length = l.length := by
  rw [gcmStream_eq_xorBytes, xorBytes_length, Nat.min_eq_left (length_le_gcmPad ..)]

theorem gcmStream_gcmStream (key iv l : List Byte) : gcmStream (roundKeys key) iv (gcmStream (roundKeys key) iv l) = l := by
  rw [gcmStream_eq_xorBytes key iv (gcmStream _ _ _), gcmStream_length, gcmStream_eq_xorBytes, xorBytes_cancel (length_le_gcmPad ..)]

theorem gcmEnc_ct_length (key iv aad z : List Byte) : (gcmEnc key iv aad z).1.length = z.length := gcmStream_length ..

theorem gcmTag_length (key iv aad ct : List Byte) : (gcmTag (roundKeys key) iv aad ct).length = 16 := by
  unfold gcmTag
  exact xorBytes_length_eq (by rw [beBytes, List.length_reverse, leBytes_length]) (aesEncBlock_length ..)

theorem gcmEnc_tag_length (key iv aad z : List Byte) : (gcmEnc key iv aad z).2.length = 16 := by
  simp only [gcmEnc, gcmTag_length]

theorem gcmDec_gcmEnc (key iv aad z : List Byte) : gcmDec key iv aad (gcmEnc key iv aad z).1 (gcmEnc key iv aad z).2 = some z := by
  unfold gcmDec gcmEnc
  simp only [if_true, gcmStream_gcmStream]

end Sys2Proof.Machine
end

section
/-! PROOFS. Sealed frames open to the bytes sealed, and the jobs of the cipher lanes (R209 to R217). -/

namespace Sys2Proof.Machine

open Sys2Proof

/-! ### Sealed frames (R212, R215, R216) -/

@[simp] theorem nonceOf_length (ctr : Nat) (s : State) : (nonceOf ctr s).length = 12 := by simp [nonceOf]

theorem wordAt_cons_succ (b : Byte) (l : List Byte) (o n : Nat) : wordAt (b :: l) (o + 1) n = wordAt l o n := rfl

section
variable (k : KeySlot) {iv : List Byte} (n : Nat) (z : List Byte)

theorem sealHeader_length (hiv : iv.length = 12) (zlen : Nat) : (sealHeader k iv n zlen).length = 32 := by simp [sealHeader, hiv]

/-- The nonce stands at byte 8 of the header (Table 7.1). -/
theorem sealHeader_nonce (hiv : iv.length = 12) (zlen : Nat) : ((sealHeader k iv n zlen).drop 8).take 12 = iv := by
  have split : sealHeader k iv n zlen = ([0xF7, 1] ++ leBytes 2 (k.kd % 4096) ++ leBytes 2 k.gen ++ leBytes 2 0) ++
      (iv ++ (leBytes 4 n ++ leBytes 4 zlen ++ leBytes 4 0)) := by simp only [sealHeader, List.append_assoc]
  rw [split, List.drop_left' (by simp), List.take_left' hiv]

/-- The fields of the header that an open looks at (Table 7.1). -/
theorem sealHeader_fields (hiv : iv.length = 12) (zlen : Nat) :
    let h := sealHeader k iv n zlen
    wordAt h 0 1 = 0xF7 ∧ wordAt h 1 1 = 1 ∧ wordAt h 2 2 = k.kd % 4096 ∧ wordAt h 4 2 = k.gen % 65536 ∧ wordAt h 6 2 = 0 ∧
    wordAt h 24 4 = zlen % 2 ^ 32 ∧ wordAt h 28 4 = 0 := by
  simp only [sealHeader, List.append_assoc]
  refine ⟨rfl, rfl, ?_, ?_, ?_, ?_, ?_⟩
  all_goals simp [wordAt_cons_succ, wordAt_append_right, wordAt_leBytes_append, wordAt_leBytes, hiv]
  omega

/-- The frame that a slot's key makes of the bytes `z` of a chunk of length `n` under a nonce. -/
def sealedFrame (iv : List Byte) : List Byte :=
  let e := gcmEnc (k.mat.take 32) iv (sealHeader k iv n z.length) z
  sealHeader k iv n z.length ++ e.1 ++ e.2

theorem sealedFrame_length (hiv : iv.length = 12) : (sealedFrame k n z iv).length = z.length + 48 := by
  simp only [sealedFrame, List.length_append, sealHeader_length k n hiv, gcmEnc_ct_length, gcmEnc_tag_length]
  omega

/-- The header, the nonce in it, the ciphertext and the tag, as an open cuts them out of a frame. -/
theorem sealedFrame_parts (hiv : iv.length = 12) :
    let f := sealedFrame k n z iv
    let hd := sealHeader k iv n z.length
    let e := gcmEnc (k.mat.take 32) iv hd z
    f.take 32 = hd ∧ (f.drop 8).take 12 = iv ∧ (f.drop 32).take (f.length - 48) = e.1 ∧ f.drop (f.length - 16) = e.2 := by
  have hhd := sealHeader_length k n hiv z.length
  have hct := gcmEnc_ct_length (k.mat.take 32) iv (sealHeader k iv n z.length) z
  have body : (sealHeader k iv n z.length ++ (gcmEnc (k.mat.take 32) iv (sealHeader k iv n z.length) z).1).length = z.length + 32 := by
    rw [List.length_append, hhd, hct, Nat.add_comm]
  dsimp only
  rw [sealedFrame_length k n z hiv, show z.length + 48 - 48 = z.length by omega, show z.length + 48 - 16 = z.length + 32 by omega]
  refine ⟨?head, ?nonce, ?ciphertext, List.drop_left' body⟩ <;> simp only [sealedFrame, List.append_assoc]
  case head => exact List.take_left' hhd
  case nonce => rw [List.drop_append_of_le_length (by omega), List.take_append_of_le_length (by rw [List.length_drop]; omega), sealHeader_nonce k n hiv]
  case ciphertext => rw [List.drop_left' hhd, List.take_left' hct]

variable {k n z} {slot : Nat} {s t v : State}

/-- A frame's header passes the checks of a slot that holds its key domain and generation. -/
theorem sealedStatus_sealedFrame (hiv : iv.length = 12) (hz : z.length < 2 ^ 32) (hk : k.kd < 4096) (hg : k.gen < 65536) (htyp : (keyOf slot v).typ = 1)
    (hkd : (keyOf slot v).kd = k.kd) (hgen : (keyOf slot v).gen = k.gen) : sealedStatus slot (sealedFrame k n z iv) v = jOk := by
  have field : ∀ o w : Nat, o + w ≤ 32 → ofLe (((sealedFrame k n z iv).drop o).take w) = wordAt (sealHeader k iv n z.length) o w := fun o w h => by
    rw [sealedFrame, List.append_assoc]
    exact wordAt_append_left (by rw [sealHeader_length k n hiv]; exact h)
  obtain ⟨hmagic, hver, hkdF, hgenF, hz6, hlen, hz28⟩ := sealHeader_fields k n hiv z.length
  unfold sealedStatus
  simp only [field 0 1 (by omega), field 1 1 (by omega), field 2 2 (by omega), field 4 2 (by omega),
    field 6 2 (by omega), field 24 4 (by omega), field 28 4 (by omega),
    hmagic, hver, hkdF, hgenF, hz6, hlen, hz28, htyp, hkd, hgen, sealedFrame_length k n z hiv, Nat.mod_eq_of_lt hz, Nat.mod_eq_of_lt hk, Nat.mod_eq_of_lt hg]
  simp

/-- A slot with the frame's key material, key domain and generation opens it to the bytes sealed. -/
theorem openWith_sealedFrame (hiv : iv.length = 12) (hz : z.length < 2 ^ 32) (hk : k.kd < 4096) (hg : k.gen < 65536) (htyp : (keyOf slot v).typ = 1)
    (hmat : (keyOf slot v).mat = k.mat) (hkd : (keyOf slot v).kd = k.kd) (hgen : (keyOf slot v).gen = k.gen) :
    openWith slot (sealedFrame k n z iv) v = (jOk, z) := by
  obtain ⟨hhead, hnonce, hct, htag⟩ := sealedFrame_parts k n z hiv
  unfold openWith
  rw [if_neg (not_not.mpr (sealedStatus_sealedFrame hiv hz hk hg htyp hkd hgen)), hhead, hnonce, hct, htag, hmat, gcmDec_gcmEnc]

/-- A seal under a FRAME key whose counter has not reached its limit, the lock set (R216). -/
theorem sealWith_seals (htyp : (keyOf slot s).typ = 1) (hlock : rbit F.CIP_CTL_LOCK s = true) (hc : (keyOf slot s).counter ≠ (keyOf slot s).limit) :
    sealWith slot n z s = (jOk, sealedFrame (keyOf slot s) n z (nonceOf (keyOf slot s).counter s),
      setKey slot { keyOf slot s with counter := (keyOf slot s).counter + 1 } s) := by
  unfold sealWith
  dsimp only
  rw [if_neg (by simp [htyp, hlock]), if_neg hc]
  rfl

/-- Only under such a key does a seal answer OK. -/
theorem key_of_sealWith_ok {f : List Byte} (h : sealWith slot n z s = (jOk, f, t)) :
    (keyOf slot s).typ = 1 ∧ rbit F.CIP_CTL_LOCK s = true ∧ (keyOf slot s).counter ≠ (keyOf slot s).limit := by
  unfold sealWith at h
  dsimp only at h
  split at h
  · cases h
  · next hkey =>
    split at h
    · cases h
    · next hc =>
      obtain ⟨htyp, hlock⟩ := not_or.mp hkey
      exact ⟨not_not.mp htyp, by simpa using hlock, hc⟩

end

/-- Settles O21: a seal that answers OK made the frame of its slot's key, and that frame opens under the same key. -/
theorem sealedFrameOpens : Obligations.SealedFrameOpens := by
  unfold Obligations.SealedFrameOpens
  intro slot n z f s t v hseal hz _ hk hg htyp hmat hkd hgen
  obtain ⟨htypS, hlock, hc⟩ := key_of_sealWith_ok hseal
  rw [sealWith_seals htypS hlock hc] at hseal
  obtain ⟨rfl, rfl⟩ := Prod.mk.inj (Prod.mk.inj hseal).2
  exact ⟨sealedFrame_length _ n z (nonceOf_length ..), openWith_sealedFrame (nonceOf_length ..) hz hk hg htyp hmat hkd hgen, by simp [keyOf, setKey]⟩

/-! ### What each job of a cipher lane answers when its fields are in range, its buffers are found and its twins agree -/

section
variable {c : Chain} {d : Desc} {n oh oo cap : Nat} {al : Bool} {data out p : List Byte} {s t u : State}

/-- GCM_SEAL answers the frame and leaves the counter of its slot advanced (R212, R216). -/
theorem gcmSealJob_writes (hbad : gcmBad d true = false) (hb : FindsBuffers c d s data oh oo cap al t) (h14 : 14 ≤ data.length)
    (hmax : data.length ≤ 262163) (htyp : (keyOf (d.aux % 4096) t).typ = 1) (hlock : rbit F.CIP_CTL_LOCK t = true) (hcap : data.length + 48 ≤ cap)
    (hc : (keyOf (d.aux % 4096) t).counter ≠ (keyOf (d.aux % 4096) t).limit)
    (hout : sealedFrame (keyOf (d.aux % 4096) t) d.param data (nonceOf (keyOf (d.aux % 4096) t).counter t) = out)
    (hu : setKey (d.aux % 4096) { keyOf (d.aux % 4096) t with counter := (keyOf (d.aux % 4096) t).counter + 1 } t = u) :
    gcmSealJob n .agree c d s = (wrote oh oo al out, writeBuf oh oo out u) := by
  subst hout hu
  unfold gcmSealJob
  rw [if_neg (by simp [hbad])]
  refine runCodec_writes hb ?_
  dsimp only
  rw [if_neg (by omega), if_neg (by simp [htyp, hlock]), if_neg (by omega), sealWith_seals htyp hlock hc]
  rfl

theorem sealedStatus_of_opens {slot : Nat} (h : openWith slot data s = (jOk, out)) : sealedStatus slot data s = jOk := by
  by_contra hbad
  unfold openWith at h
  rw [if_pos hbad] at h
  exact hbad (Prod.mk.inj h).1

theorem gcmOpenJob_writes (hbad : gcmBad d false = false) (hb : FindsBuffers c d s data oh oo cap al t) (h62 : 62 ≤ data.length)
    (hmax : data.length ≤ 262211) (htyp : (keyOf (d.aux % 4096) t).typ = 1) (hcap : data.length - 48 ≤ cap)
    (hopen : openWith (d.aux % 4096) data t = (jOk, out)) :
    gcmOpenJob n .agree c d s = (wrote oh oo al out, writeBuf oh oo out t) := by
  unfold gcmOpenJob
  rw [if_neg (by simp [hbad])]
  refine runCodec_writes hb ?_
  rw [if_neg (by omega), if_neg (not_not.mpr htyp), if_neg (Nat.not_lt.mpr hcap), if_neg (not_not.mpr (sealedStatus_of_opens hopen))]
  simp only [twinRun, hopen]
  rfl

/-- What the modes with a parameter block ask of a job's fields and buffers: input and output found, the block's place in range, the block read. -/
structure FindsBlock (c : Chain) (d : Desc) (data p : List Byte) (oh oo cap : Nat) (al : Bool) (s t u : State) : Prop where
  buffers : FindsBuffers c d s data oh oo cap al t
  fits : data.length ≤ cap
  short : data.length ≤ 0x200000
  auxZero : bits d.aux 15 12 = 0
  paramZero : d.param = 0
  aligned : d.aux / 65536 % 16 = 0
  place : dataPlace (ctxCore c.ctx) (d.aux / 65536) false s = true
  block : readMem (physKey (ctxCore c.ctx) (d.aux / 65536)) 16 t = (some p, u)

/-- The parameter block with the value for the next job, where the mode writes it back (R214). -/
def storeBlock (c : Chain) (d : Desc) (b : List Byte) (s : State) : State := memWrite (physKey (ctxCore c.ctx) (d.aux / 65536)) (padTo 16 b) s

variable {typ : Nat} {okLen : Nat → Bool}

theorem blockJob_writes {f : List Byte → List Byte → List Byte → List Byte × Option (List Byte)} {next : Option (List Byte)}
    (h : FindsBlock c d data p oh oo cap al s t u) (htyp : (keyOf (d.aux % 4096) t).typ = typ) (hlen : okLen data.length = true)
    (hf : f (keyOf (d.aux % 4096) t).mat p data = (out, next)) :
    blockJob typ okLen f n .agree c d s = (wrote oh oo al out, writeBuf oh oo out (next.elim u fun b => storeBlock c d b u)) := by
  unfold blockJob
  dsimp only
  rw [if_neg (by simp [h.auxZero, h.paramZero, h.aligned, h.place])]
  refine runCodec_writes h.buffers ?_
  rw [if_neg (by simp [h.short, hlen]), if_neg (not_not.mpr htyp), if_neg (Nat.not_lt.mpr h.fits)]
  simp only [h.block, twinRun, hf]
  cases next <;> rfl

theorem xtsJob_writes (dec : Bool) (h : FindsBlock c d data p oh oo cap al s t u) (htyp : (keyOf (d.aux % 4096) t).typ = 2) (hlen : data.length % 4096 = 0) :
    let out := xtsAll dec (keyOf (d.aux % 4096) t).mat (ofLe p) (data.length / 4096 + 1) data
    xtsJob dec n .agree c d s = (wrote oh oo al out, writeBuf oh oo out u) := by
  unfold xtsJob
  exact blockJob_writes (next := none) h htyp (beq_iff_eq.mpr hlen) rfl

theorem progJob_writes (f : List (List Byte) → List Byte → List Byte → List Byte × List Byte) (h : FindsBlock c d data p oh oo cap al s t u)
    (htyp : (keyOf (d.aux % 4096) t).typ = 4) (hlen : okLen data.length = true) :
    let r := f (roundKeys ((keyOf (d.aux % 4096) t).mat.take 32)) p data
    progJob okLen f n .agree c d s = (wrote oh oo al r.1, writeBuf oh oo r.1 (storeBlock c d r.2 u)) := by
  intro r
  unfold progJob
  exact blockJob_writes (next := some r.2) h htyp hlen rfl

end

/-- Settles O20: each command runs its job's function at the head of the lane's queue, and a clause's hypotheses take that function past its checks. -/
theorem cipherJobs : Obligations.CipherJobs := by
  unfold Obligations.CipherJobs
  intro u c rest d data out p oh oo cap al s s2 s3 hk
  refine ⟨?gcmSeal, ?gcmOpen, fun hok htyp hlen => ?xts, fun hok htyp hlen => ?cbc, fun hok htyp hlen => ?cfb⟩
  case gcmSeal =>
    exact fun hj hbad hb h14 hmax htyp hlock hcap hc => engineJob_answers hk hj (gcmSealJob_writes hbad hb h14 hmax htyp hlock hcap hc rfl rfl)
  case gcmOpen =>
    exact fun hj hbad hb h62 hmax htyp hcap hopen => engineJob_answers hk hj (gcmOpenJob_writes hbad hb h62 hmax htyp hcap hopen)
  all_goals
    obtain ⟨hb, hfits, hshort, haux, hparam, haligned, hplace, hblock⟩ := hok
    have found : FindsBlock c d data p oh oo cap al (takeJob 6 u.val rest d s) s2 s3 := ⟨hb, hfits, hshort, haux, hparam, haligned, hplace, hblock⟩
  case xts =>
    exact ⟨fun hj => engineJob_answers hk hj (xtsJob_writes false found htyp hlen), fun hj => engineJob_answers hk hj (xtsJob_writes true found htyp hlen)⟩
  case cbc =>
    have whole : okCbc data.length = true := beq_iff_eq.mpr hlen
    exact ⟨fun hj => engineJob_answers hk hj (progJob_writes cbcEnc found htyp whole),
      fun hj => engineJob_answers hk hj (progJob_writes cbcDec found htyp whole)⟩
  case cfb =>
    have nonempty : okCfb data.length = true := bne_iff_ne.mpr hlen
    exact ⟨fun hj => engineJob_answers hk hj (progJob_writes cfbEnc found htyp nonempty),
      fun hj => engineJob_answers hk hj (progJob_writes cfbDec found htyp nonempty),
      fun hj => engineJob_answers hk hj (progJob_writes aesCtr found htyp nonempty)⟩

end Sys2Proof.Machine
end

section
/-! PROOFS. P gives a lost data strip back (R233, R234), and NVME jobs and their failures (R241 to R243, R544). -/

namespace Sys2Proof.Machine

open Sys2Proof

/-! ### Sums of strips (R234) -/

theorem padTo_of_length_eq {n : Nat} {l : List Byte} (h : l.length = n) : padTo n l = l := by
  rw [padTo_of_length_le h.le, h, Nat.sub_self, List.replicate_zero, List.append_nil]

theorem xorBytes_assoc (a b c : List Byte) : xorBytes (xorBytes a b) c = xorBytes a (xorBytes b c) := by
  apply List.ext_getElem
  · simp only [xorBytes_length, Nat.min_assoc]
  · intro i _ _
    simp only [xorBytes, List.getElem_zipWith, BitVec.xor_assoc]

@[simp] theorem zeroStrip_length (n : Nat) : (zeroStrip n).length = n := List.length_replicate

theorem xorBytes_zeroStrip {n : Nat} {a : List Byte} (h : a.length = n) : xorBytes a (zeroStrip n) = a := by
  apply List.ext_getElem
  · rw [xorBytes_length, zeroStrip_length, h, Nat.min_self]
  · intro i _ _
    simp only [xorBytes, zeroStrip, List.getElem_zipWith, List.getElem_replicate]
    exact BitVec.xor_zero

theorem zeroStrip_xorBytes {n : Nat} {a : List Byte} (h : a.length = n) : xorBytes (zeroStrip n) a = a :=
  (List.zipWith_comm_of_comm BitVec.xor_comm).trans (xorBytes_zeroStrip h)

/-- Strips added to a sum add P of them to it. -/
theorem foldl_xorBytes_eq_pOf {n : Nat} (l : List (Nat × List Byte)) {a : List Byte} (ha : a.length = n) :
    l.foldl (fun p d => xorBytes p (padTo n d.2)) a = xorBytes a (pOf n l) := by
  induction l generalizing a with
  | nil => exact (xorBytes_zeroStrip ha).symm
  | cons e l ih =>
    have sum : pOf n (e :: l) = xorBytes (padTo n e.2) (pOf n l) :=
      (ih (xorBytes_length_eq (zeroStrip_length n) (padTo_length n e.2))).trans (by rw [zeroStrip_xorBytes (padTo_length n e.2)])
    rw [List.foldl_cons, ih (xorBytes_length_eq ha (padTo_length n e.2)), sum, xorBytes_assoc]

theorem pOf_cons (n : Nat) (e : Nat × List Byte) (l : List (Nat × List Byte)) : pOf n (e :: l) = xorBytes (padTo n e.2) (pOf n l) := by
  rw [pOf, List.foldl_cons, zeroStrip_xorBytes (padTo_length n e.2), foldl_xorBytes_eq_pOf l (padTo_length n e.2)]

@[simp] theorem pOf_length (n : Nat) (l : List (Nat × List Byte)) : (pOf n l).length = n := by
  induction l with
  | nil => exact zeroStrip_length n
  | cons e l ih => rw [pOf_cons, xorBytes_length_eq (padTo_length n e.2) ih]

/-- Settles O22: P of the stripe is the lost strip plus P of the others, and what is added twice cancels. -/
theorem parityRestoresOneStrip : Obligations.ParityRestoresOneStrip := by
  unfold Obligations.ParityRestoresOneStrip
  intro n l i x _ hx
  rw [pOf_cons, padTo_of_length_eq hx, xorBytes_cancel (by rw [hx, pOf_length])]

/-! ### What each NVME job answers when its drive can be reached and answers success (R241, R242) -/

section
variable {c : Chain} {d : Desc} {r : DriveResp} {s t : State} {data sqe : List Byte} {oh oo cap : Nat} {al : Bool}

theorem driveIn_gets (op : Nat) (hok : r.code = 0) (haux : d.aux = nvmeDrive d) (hp : d.param < 2 ^ 48)
    (ho : outBuf d s = (some (oh, oo, cap, al), t)) (hlen : okLen cap = true) (hreach : driveReach (nvmeDrive d) t = true) :
    driveIn op r c d s = ({ outBytes := cap, outHandle := some (oo * 2 ^ 32 + oh), alloc := if al then some oh else none },
      writeBuf oh oo (padTo cap r.data) (emit (.drive (nvmeDrive d) op d.param false []) t)) := by
  unfold driveIn
  dsimp only
  rw [if_neg (by omega), ho]
  simp only [hlen, hreach, hok, Bool.not_true, Bool.false_eq_true, if_false, if_true]

/-- The state in which an APPEND's strip has been fed to the parity context that AUX names under PQ_EN. -/
def appendFed (d : Desc) (l : List Byte) (s : State) : State :=
  if d.aux.testBit 16 then parFeed (bits d.aux 29 24) (bits d.aux 36 32) l s else s

theorem driveAppend_keeps (hok : r.code = 0)
    (hr : readBuf d (inputOf c d s).1 (inputOf c d s).2.1 (inputOf c d s).2.2 s = (some data, t)) (hlen : okLen (inputOf c d s).2.2 = true)
    (hlba : r.lba = d.param / 2 ^ 32)
    (haux : d.aux = nvmeDrive d + (if d.aux.testBit 16 then 2 ^ 16 else 0) + bits d.aux 29 24 * 2 ^ 24 + bits d.aux 36 32 * 2 ^ 32)
    (hfeed : (d.aux.testBit 16 && feedBad (bits d.aux 29 24) (bits d.aux 36 32) t) = false)
    (hreach : driveReach (nvmeDrive d) (appendFed d data t) = true) :
    driveAppend r c d s = ({ outBytes := (inputOf c d s).2.2 }, keepStrip (nvmeDrive d) (d.param % 2 ^ 32) r.lba data
      (emit (.drive (nvmeDrive d) 1 d.param (appendFua (nvmeDrive d) (appendFed d data t)) data) (appendFed d data t))) := by
  have extra : d.aux - (nvmeDrive d + (if d.aux.testBit 16 then 2 ^ 16 else 0) + bits d.aux 29 24 * 2 ^ 24 + bits d.aux 36 32 * 2 ^ 32) = 0 :=
    Nat.sub_eq_zero_of_le haux.le
  unfold appendFed at hreach ⊢
  unfold driveAppend
  simp only [hr, hlen, extra, hfeed, hreach, hok, hlba, Bool.not_true, Bool.false_eq_true, ne_eq, not_true_eq_false, or_self, if_false, if_true]

theorem driveWrite_writes (hok : r.code = 0)
    (hr : readBuf d (inputOf c d s).1 (inputOf c d s).2.1 (inputOf c d s).2.2 s = (some data, t)) (hlen : okLen (inputOf c d s).2.2 = true)
    (haux : d.aux = nvmeDrive d) (htier : 512 ≤ nvmeDrive d) (hp : d.param < 2 ^ 48) (hreach : driveReach (nvmeDrive d) t = true) :
    driveWrite r c d s = ({ outBytes := (inputOf c d s).2.2 }, emit (.drive (nvmeDrive d) 2 d.param false data) t) := by
  have fields : ¬ ((!okLen (inputOf c d s).2.2) = true ∨ d.aux ≠ nvmeDrive d ∨ nvmeDrive d < 512 ∨ 2 ^ 48 ≤ d.param) := by
    rw [hlen]
    simp only [Bool.not_true, Bool.false_eq_true, false_or]
    omega
  unfold driveWrite
  simp only [hr]
  rw [if_neg fields, if_neg (by simp [hreach]), if_pos hok]

section
variable (haux : d.aux = nvmeDrive d) (hp : d.param < 2 ^ 36)
include haux hp

/-- A zone command goes to a drive that can be reached; its answer decides the rest. -/
theorem driveZone_of_reached (hreach : driveReach (nvmeDrive d) s = true) :
    driveZone r c d s =
      let sent := emit (.drive (nvmeDrive d) 3 d.param false []) s
      if r.code ≠ 0 then (driveFail r.code, sent)
      else ({}, if bits d.param 35 32 = 4 then resetZone (nvmeDrive d) (d.param % 2 ^ 32) sent else sent) := by
  unfold driveZone
  dsimp only
  rw [if_neg (by omega), if_neg (by simp [hreach])]

theorem driveZone_acts (hreach : driveReach (nvmeDrive d) s = true) (hok : r.code = 0) (hact : bits d.param 35 32 ≠ 4) :
    driveZone r c d s = ({}, emit (.drive (nvmeDrive d) 3 d.param false []) s) := by
  rw [driveZone_of_reached haux hp hreach]
  dsimp only
  rw [if_neg (not_not.mpr hok), if_neg hact]

theorem driveZone_resets (hreach : driveReach (nvmeDrive d) s = true) (hok : r.code = 0) (hact : bits d.param 35 32 = 4) :
    driveZone r c d s = ({}, resetZone (nvmeDrive d) (d.param % 2 ^ 32) (emit (.drive (nvmeDrive d) 3 d.param false []) s)) := by
  rw [driveZone_of_reached haux hp hreach]
  dsimp only
  rw [if_neg (not_not.mpr hok), if_pos hact]

theorem driveZone_fails (hreach : driveReach (nvmeDrive d) s = true) (hbad : r.code ≠ 0) :
    driveZone r c d s = (driveFail r.code, emit (.drive (nvmeDrive d) 3 d.param false []) s) :=
  (driveZone_of_reached haux hp hreach).trans (if_pos hbad)

theorem driveZone_unreached (hreach : driveReach (nvmeDrive d) s = false) : driveZone r c d s = (driveFail 0xFFFF, s) := by
  unfold driveZone
  dsimp only
  rw [if_neg (by omega), if_pos (by simp [hreach])]

end

theorem driveAdmin_sends (hok : r.code = 0) (hparam : d.param = nvmeDrive d) (haux : d.aux < 2 ^ 48)
    (hplace : dataPlace (ctxCore c.ctx) d.aux true s = true) (hr : readMem (physKey (ctxCore c.ctx) d.aux) 64 s = (some sqe, t))
    (halloc : d.flag fOutAlloc = false) (hlimit : d.outLimit = 0) (hout : d.out = 0) (hreach : driveReach (nvmeDrive d) t = true) :
    driveAdmin r c d s = ({}, tickFree (emit (.drive (nvmeDrive d) 5 0 false (adminSqe sqe t)) t)) := by
  have fields : ¬ (d.param ≠ nvmeDrive d ∨ 2 ^ 48 ≤ d.aux ∨ (!dataPlace (ctxCore c.ctx) d.aux true s) = true) := by
    rw [hplace]
    simp only [Bool.not_true, Bool.false_eq_true, or_false]
    omega
  unfold driveAdmin
  simp only [if_neg fields, hr, halloc, hlimit, hout, hreach, hok, bne_self_eq_false, Bool.or_self, Bool.not_true, Bool.not_false,
    Bool.false_eq_true, if_false, if_true]

end

/-! ### A job run on its drive, and one that is outstanding for too long (R243, R544) -/

section
variable {dr : DriveNo} {c : Chain} {rest : List Chain} {d : Desc} {r : DriveResp} {j : JobRes} {s t : State}

/-- The end of a READ, an APPEND or a WRITE is followed by what it reports of its member. -/
theorem memberJob_answers {p : Desc → Bool} {f : Chain → Desc → State → JobRes × State} (h : HasJob 9 dr.val p c rest d s)
    (hf : f c d (takeJob 9 dr.val rest d s) = (j, t)) :
    nextState (memberSettle (arSettle (runUnit 9 dr.val p f s))) = nextState (memberSettle (arSettle (jobEnds c d dr.val j t))) :=
  congrArg (fun x => nextState (memberSettle (arSettle x))) (runUnit_answers h hf)

theorem zoneAction_of_hasJob {act : Nat} (h : HasJob 9 dr.val (fun d => d.op == 3 && bits d.param 35 32 == act) c rest d s) :
    bits d.param 35 32 = act :=
  beq_iff_eq.mp (Bool.and_eq_true_iff.mp h.2.2.2).2

/-- A Zone Close, Finish or Open that succeeds changes nothing on this side but what was sent. -/
theorem zoneSend_acts {act : Nat} (hok : r.code = 0) (h : HasJob 9 dr.val (fun d => d.op == 3 && bits d.param 35 32 == act) c rest d s)
    (haux : d.aux = nvmeDrive d) (hp : d.param < 2 ^ 36) (hreach : driveReach (nvmeDrive d) (takeJob 9 dr.val rest d s) = true) (hact : act ≠ 4) :
    opZoneSend act dr r s = jobEnds c d dr.val {} (emit (.drive (nvmeDrive d) 3 d.param false []) (takeJob 9 dr.val rest d s)) :=
  runUnit_answers h (driveZone_acts haux hp hreach hok (zoneAction_of_hasJob h ▸ hact))

/-- A report of a drive that the criteria do not watch has no more effect than its job. -/
theorem zoneReportSeen_of_unwatched (h : HasJob 9 dr.val (·.op == 4) c rest d s) (ht : arSettle (opZoneReport dr r s) = t)
    (hw : watched dr.val t = false) : zoneReportSeen dr r s = t := by
  obtain ⟨_, hq, hd, hop⟩ := h
  unfold zoneReportSeen
  simp only [hq, hd, Option.bind_some, if_pos (beq_iff_eq.mp hop), ht, hw, Bool.not_false, or_true, if_true]

/-- The members' state after a command outstanding for too long: the time is noted, and enough of them within 600 s are a FAILED criterion. -/
def timeoutNoted (n : Nat) (s : State) : State :=
  let m := memberOf n s
  let l := (m.timeouts.filter (fun x => decide (opsec s < x + 600))) ++ [opsec s]
  let u := setMember n { m with timeouts := l } s
  if (settings u).timeoutFails ≤ l.length then reportMember n .failed u else u

theorem opCmdTimeout_aborts (hq : engQueue 9 dr.val s = c :: rest) (hd : c.descs.head? = some d)
    (hj : driveJob { code := 0xFFFE } c d (setEngQueue 9 dr.val rest s) = (j, t)) :
    opCmdTimeout dr s = timeoutNoted dr.val (finishJob c d j (emit (.drive dr.val 8 0 false []) t)) := by
  obtain ⟨l, hl⟩ := List.head?_eq_some_iff.mp hd
  unfold opCmdTimeout
  simp only [hq, hl, hj]
  rfl

theorem driveJob_zone (hop : d.op = 3) : driveJob r c d s = driveZone r c d s := by
  simp only [driveJob, hop]

end

/-- Settles O23: each command runs its job's function at the head of the drive's queue, and the hypotheses of a clause take that function past
its checks. -/
theorem driveJobsAndFailures : Obligations.DriveJobsAndFailures := by
  unfold Obligations.DriveJobsAndFailures
  refine ⟨fun dr c rest d l sqe r oh oo cap al s s1 hok => ⟨?read, ?append, ?write, ?close, ?finish, ?opened, ?reset, ?report, ?admin⟩,
    fun dr c rest d r s => ⟨fun j s1 hq hd hj => ⟨?timeout, ?timeoutCode⟩, fun act hj hact haux hp => ⟨?fails, ?unreached⟩⟩⟩
  case read => exact fun hj ⟨haux, hp, ho, hlen, hreach⟩ => memberJob_answers hj (driveIn_gets 0 hok haux hp ho hlen hreach)
  case append =>
    exact fun hj ⟨hr, hlen, _⟩ hlba haux hfeed hreach => memberJob_answers hj (driveAppend_keeps hok hr hlen hlba haux hfeed hreach)
  case write =>
    exact fun hj ⟨hr, hlen, hreach⟩ haux htier hp => memberJob_answers hj (driveWrite_writes hok hr hlen haux htier hp hreach)
  case close => exact fun ⟨hj, haux, hp, hreach⟩ => next_arSettle_congr (zoneSend_acts hok hj haux hp hreach (by decide))
  case finish => exact fun ⟨hj, haux, hp, hreach⟩ => next_arSettle_congr (zoneSend_acts hok hj haux hp hreach (by decide))
  case opened => exact fun ⟨hj, haux, hp, hreach⟩ => next_arSettle_congr (zoneSend_acts hok hj haux hp hreach (by decide))
  case reset =>
    exact fun ⟨hj, haux, hp, hreach⟩ => next_arSettle_congr (runUnit_answers hj (driveZone_resets haux hp hreach hok (zoneAction_of_hasJob hj)))
  case report =>
    exact fun hj ⟨haux, hp, ho, hlen, hreach⟩ hw => congrArg nextState
      (zoneReportSeen_of_unwatched hj (congrArg arSettle (runUnit_answers hj (driveIn_gets 4 hok haux hp ho hlen hreach))) hw)
  case admin =>
    exact fun hj hparam haux hplace hr halloc hlimit hout hreach =>
      next_arSettle_congr (runUnit_answers hj (driveAdmin_sends hok hparam haux hplace hr halloc hlimit hout hreach))
  case timeout => exact congrArg (fun x => nextState (memberSettle (arSettle x))) (opCmdTimeout_aborts hq hd hj)
  case timeoutCode =>
    intro hop haux hp hreach
    rw [driveJob_zone hop, driveZone_fails haux hp hreach (by decide)] at hj
    obtain ⟨rfl, _⟩ := Prod.mk.inj hj
    exact ⟨rfl, rfl⟩
  case fails =>
    subst hact
    exact fun hbad hreach => next_arSettle_congr (runUnit_answers hj (driveZone_fails haux hp hreach hbad))
  case unreached =>
    subst hact
    exact fun hreach => next_arSettle_congr (runUnit_answers hj (driveZone_unreached haux hp hreach))

end Sys2Proof.Machine
end

section
/-! PROOFS. Shelf Control, Event Recorder Read and Ownership Handover (R265, R266, R351, R413). -/

namespace Sys2Proof.Machine

open Sys2Proof

/-- The dwords of an admin command that its fields leave unused are 0. -/
def RestZero (q : Sqe) : Prop := q.cdw11 = 0 ∧ q.cdw12 = 0 ∧ q.cdw13 = 0 ∧ q.cdw14 = 0 ∧ q.cdw15 = 0

section
variable {slot : SlotNo} {t : Task} {m : HbMsg} {u s : State}

/-! ### Shelf Control (R265, R266) -/

/-- A Shelf Control command past its cancellation point whose ACTION is `a`, on a shelf that is there. -/
structure AsksShelf (slot : SlotNo) (a : Nat) (t : Task) (m : HbMsg) (u s : State) : Prop where
  runs : AdminRuns slot.val 0xC4 t m u s
  action : m.sqe.cdw10 = m.sqe.cdw10 % 8 + 256 * a
  rest : RestZero m.sqe
  present : shelfPresent (m.sqe.cdw10 % 8) u = true

/-- What a Shelf Control command answers that succeeds. -/
def shelfAnswered (i n : Nat) (s : State) : State := doneSlot i { dw0 := shelfDw0 n s } s

/-- A Shelf Control command of its own action does what the action says to its shelf. -/
theorem shelfCmd_runs {a : Nat} (h : AsksShelf slot a t m u s) (ha : a ≤ 4) (f : Nat → State → Option Cqe × State) :
    shelfCmd slot.val a f s =
      let r := f (m.sqe.cdw10 % 8) u
      doneSlot slot.val (r.1.getD { dw0 := shelfDw0 (m.sqe.cdw10 % 8) r.2 }) r.2 := by
  obtain ⟨hruns, haction, ⟨h11, h12, h13, h14, h15⟩, hpresent⟩ := h
  have hcmd : slotCmd slot.val true 0xC4 s = some m := hruns.1.1
  have hact : m.sqe.cdw10 / 256 % 16 = a := by omega
  have fields : ¬ (4 < a ∨ m.sqe.cdw10 / 8 % 32 ≠ 0 ∨ m.sqe.cdw10 / 4096 ≠ 0 ∨ m.sqe.cdw11 ≠ 0 ∨ m.sqe.cdw12 ≠ 0 ∨ m.sqe.cdw13 ≠ 0 ∨
      m.sqe.cdw14 ≠ 0 ∨ m.sqe.cdw15 ≠ 0 ∨ shelfPresent (m.sqe.cdw10 % 8) u = false) := by
    rw [hpresent]
    simp only [Bool.true_eq_false, or_false]
    omega
  unfold shelfCmd
  simp only [hcmd, hact, ne_eq, not_true_eq_false, false_and, if_false]
  rw [adminCmd_runs hruns, if_neg fields]
  cases (f (m.sqe.cdw10 % 8) u).1 <;> rfl

theorem opShelfReport_answers (h : AsksShelf slot 0 t m u s) : opShelfReport slot s = shelfAnswered slot.val (m.sqe.cdw10 % 8) u :=
  shelfCmd_runs h (by omega) _

theorem opShelfWake_of_asks (h : AsksShelf slot 1 t m u s) :
    opShelfWake slot s = if placesPinned (m.sqe.cdw10 % 8) u = true then doneSlot slot.val stBudgetFull u
      else shelfAnswered slot.val (m.sqe.cdw10 % 8) (requestWake (m.sqe.cdw10 % 8) .hostWake u) := by
  refine (shelfCmd_runs h (by omega) _).trans ?_
  dsimp only
  split <;> rfl

theorem opShelfControlRelease_releases (h : AsksShelf slot 2 t m u s) :
    opShelfControlRelease slot s =
      shelfAnswered slot.val (m.sqe.cdw10 % 8) (endHold (m.sqe.cdw10 % 8) .stage (endHold (m.sqe.cdw10 % 8) .hostWake u)) :=
  shelfCmd_runs h (by omega) _

theorem opShelfPin_of_asks (h : AsksShelf slot 3 t m u s) :
    opShelfPin slot s = if (holdsOn (m.sqe.cdw10 % 8) u).contains .hostPin = true then shelfAnswered slot.val (m.sqe.cdw10 % 8) u
      else if budgetOf u ≤ hostPins u + 1 ∨ placesPinned (m.sqe.cdw10 % 8) u = true then doneSlot slot.val stBudgetFull u
      else shelfAnswered slot.val (m.sqe.cdw10 % 8) (requestWake (m.sqe.cdw10 % 8) .hostPin u) := by
  refine (shelfCmd_runs h (by omega) _).trans ?_
  dsimp only
  split
  · rfl
  · split <;> rfl

theorem opShelfUnpin_unpins (h : AsksShelf slot 4 t m u s) :
    opShelfUnpin slot s = shelfAnswered slot.val (m.sqe.cdw10 % 8) (endHold (m.sqe.cdw10 % 8) .hostPin u) :=
  shelfCmd_runs h (by omega) _

/-! ### Event Recorder Read (R413) -/

theorem opEventRecorderRead_sends (h : AdminRuns slot.val 0xC6 t m u s) (h12 : m.sqe.cdw12 < 1024) (h13 : m.sqe.cdw13 = 0)
    (h14 : m.sqe.cdw14 = 0) (h15 : m.sqe.cdw15 = 0) :
    let l := eventRecords (m.sqe.cdw11 * 2 ^ 32 + m.sqe.cdw10) (m.sqe.cdw12 % 1024 + 1) u
    opEventRecorderRead slot s =
      doneSlot slot.val { dw0 := l.length, dw1 := rget F.EVR_HEAD_SEQ_SEQ u % 2 ^ 32 } (sendData m l.flatten u) := by
  rw [opEventRecorderRead, adminCmd_runs h]
  exact if_neg (by omega)

/-! ### Ownership Handover (R351) -/

/-- The head that the groups of an Ownership Handover go to is head B. -/
def handsToB (q : Sqe) : Bool := q.cdw10.testBit 16

/-- The groups of the range of an Ownership Handover that the head TO does not own. -/
def groupsHanded (q : Sqe) (s : State) : List Nat :=
  (List.range 256).filter (fun g => decide (q.cdw10 % 256 ≤ g) && decide (g ≤ q.cdw10 / 256 % 256) && ownerOf g s != (if handsToB q then 1 else 0))

/-- An Ownership Handover of the groups `gs` past its cancellation point that passes its checks: none of them moves yet, its fields are in range
and the partner can take groups. -/
structure HandsOver (slot : SlotNo) (gs : List Nat) (toB : Bool) (t : Task) (m : HbMsg) (u s : State) : Prop where
  runs : AdminRuns slot.val 0xC8 t m u s
  groups : groupsHanded m.sqe s = gs
  head : handsToB m.sqe = toB
  free : s.mir.moving.any (fun x => gs.any (x.2.1.contains ·)) = false
  firm : u.mir.partnerFirm = false
  range : m.sqe.cdw10 % 256 ≤ m.sqe.cdw10 / 256 % 256
  short : m.sqe.cdw10 < 2 ^ 17
  rest : RestZero m.sqe
  partner : partnerHere u = true

/-- A move of groups noted, under the number of the epoch that its record stands in, with the command that asked for it. -/
def noteMove (num : Nat) (gs : List Nat) (toB : Bool) (t : Task) (s : State) : State :=
  { s with mir := { s.mir with moving := s.mir.moving ++ [(num, gs, toB, some t)] } }

variable {gs : List Nat} {toB : Bool}

/-- Where nothing moves the command answers 0; else it waits in its slot, and the move is asked for or begun. -/
theorem opOwnershipHandover_of_hands (h : HandsOver slot gs toB t m u s) :
    opOwnershipHandover slot s =
      let f := waitSlot slot.val u
      if gs.isEmpty = true then doneSlot slot.val { dw0 := 0 } u
      else if (toB == (headSlot f == 1)) = true then noteMove 0 gs toB t (sendPartner (.handoverRequest gs toB) f)
      else startMove gs toB (some t) f := by
  obtain ⟨hruns, rfl, rfl, hfree, hfirm, hrange, hshort, ⟨h11, h12, h13, h14, h15⟩, hpartner⟩ := h
  have hcmd : slotCmd slot.val true 0xC8 s = some m := hruns.1.1
  have ready : ¬ ((!partnerHere u || u.mir.partnerFirm) = true) := by simp [hpartner, hfirm]
  unfold groupsHanded handsToB at hfree ⊢
  unfold opOwnershipHandover
  simp only [hcmd, hfree, Bool.false_eq_true, if_false]
  rw [adminCmd_runs hruns, if_neg (by omega), if_neg ready]
  rfl

theorem opOwnershipHandover_moves_none (h : HandsOver slot gs toB t m u s) (hnone : gs = []) :
    opOwnershipHandover slot s = doneSlot slot.val { dw0 := 0 } u :=
  (opOwnershipHandover_of_hands h).trans (if_pos (List.isEmpty_iff.mpr hnone))

section
variable (h : HandsOver slot gs toB t m u s) {f : State} (hf : waitSlot slot.val u = f) (hsome : gs ≠ [])
include h hf hsome

/-- The head that takes the groups asks its partner for them. -/
theorem opOwnershipHandover_asks (hto : (toB == (headSlot f == 1)) = true) :
    opOwnershipHandover slot s = noteMove 0 gs toB t (sendPartner (.handoverRequest gs toB) f) := by
  subst hf
  exact (opOwnershipHandover_of_hands h).trans ((if_neg (mt List.isEmpty_iff.mp hsome)).trans (if_pos hto))

/-- The head that gives the groups up places the HANDOVER record, and the hosts are told of the start. -/
theorem opOwnershipHandover_begins (hto : (toB == (headSlot f == 1)) = false) :
    opOwnershipHandover slot s =
      noticeAll 3 (anaChanged (noteMove (rget F.PNL_EPOCH_SEQ_NUMBER f) gs toB t (addRec' none (.handover gs toB) f))) := by
  subst hf
  exact (opOwnershipHandover_of_hands h).trans ((if_neg (mt List.isEmpty_iff.mp hsome)).trans (if_neg (ne_true_of_eq_false hto)))

end

end

/-- Settles O39: each command past its cancellation point is its operation's body, and the hypotheses of a clause choose the branch. -/
theorem shelfRecorderAndHandoverCommands : Obligations.ShelfRecorderAndHandoverCommands := by
  unfold Obligations.ShelfRecorderAndHandoverCommands
  intro slot t m u s i q n rest asks dw toB first last moves hands f num
  have asked : ∀ {a}, asks a → AsksShelf slot a t m u s := fun ⟨hruns, haction, hrest, hpresent⟩ => ⟨hruns, haction, hrest, hpresent⟩
  have handed : hands → HandsOver slot moves toB t m u s := fun ⟨hruns, hfree, hfirm, hrange, hshort, hrest, hpartner⟩ =>
    ⟨hruns, rfl, rfl, hfree, hfirm, hrange, hshort, hrest, hpartner⟩
  refine ⟨fun h => ?report, fun h => ⟨fun hroom => ?wake, fun hfull => ?wakeRefused⟩, fun h => ?release,
    fun h => ⟨fun hpin hbudget hroom => ?pin, fun hpin => ?pinned, fun hpin hbudget => ?pinRefused⟩, fun h => ?unpin,
    fun h h12 h13 h14 h15 => ?recorder, fun h hnone => ?movesNone, fun h hsome hto => ?asksPartner, fun h hsome hto => ?begins⟩
  case report => exact next_congr (opShelfReport_answers (asked h))
  case wake => exact next_congr ((opShelfWake_of_asks (asked h)).trans (if_neg (ne_true_of_eq_false hroom)))
  case wakeRefused => exact next_congr ((opShelfWake_of_asks (asked h)).trans (if_pos hfull))
  case release => exact next_congr (opShelfControlRelease_releases (asked h))
  case pin =>
    have room : ¬ (budgetOf u ≤ hostPins u + 1 ∨ placesPinned n u = true) := not_or.mpr ⟨Nat.not_le.mpr hbudget, ne_true_of_eq_false hroom⟩
    exact next_congr ((opShelfPin_of_asks (asked h)).trans ((if_neg (ne_true_of_eq_false hpin)).trans (if_neg room)))
  case pinned => exact next_congr ((opShelfPin_of_asks (asked h)).trans (if_pos hpin))
  case pinRefused => exact next_congr ((opShelfPin_of_asks (asked h)).trans ((if_neg (ne_true_of_eq_false hpin)).trans (if_pos (.inl hbudget))))
  case unpin => exact next_congr (opShelfUnpin_unpins (asked h))
  case recorder => exact next_congr (opEventRecorderRead_sends h h12 h13 h14 h15)
  case movesNone => exact next_congr (opOwnershipHandover_moves_none (handed h) hnone)
  case asksPartner => exact next_congr (opOwnershipHandover_asks (handed h) (f := f) rfl hsome hto)
  case begins => exact next_congr (opOwnershipHandover_begins (handed h) (f := f) rfl hsome hto)

end Sys2Proof.Machine
end

section
/-! PROOFS. Shelves go through the states of Table 8.7 (R262, R264, R265). -/

namespace Sys2Proof.Machine

open Sys2Proof

/-! ### The next write shelf (R262) -/

section
variable {rate sh v : Nat} {s : State}

/-- The choice of the next write shelf, told to the partner, its wake asked for. -/
def nextShelfChosen (sh : Nat) (s : State) : State :=
  requestWake sh .write (sendPartner (.writeShelves s.arr.writeShelf (some sh)) (onArr (fun a => { a with nextShelf := some sh }) s))

variable (hm : isMaster s = true) (hnext : s.arr.nextShelf = none)
include hm hnext

/-- With no write shelf, or one whose room is below what is stored in WAKE_AHEAD_S, the next one is chosen. -/
theorem opNextWriteShelf_chooses (hc : chooseWrite s = some sh)
    (hlow : s.arr.writeShelf = none ∨ s.arr.writeShelf = some v ∧ writeRoom v s < rate * wakeAhead s) :
    opNextWriteShelf rate s = writeOpened (nextShelfChosen sh s) := by
  unfold opNextWriteShelf nextShelfChosen
  rw [if_neg (by simp [hm, hnext])]
  rcases hlow with hw | ⟨hw, hroom⟩
  · simp only [hw, hc, Bool.not_true, Bool.false_eq_true, if_false, onArr]
  · simp only [hw, hc, decide_eq_true hroom, Bool.not_true, Bool.false_eq_true, if_false, onArr]

theorem opNextWriteShelf_keeps (hw : s.arr.writeShelf = some v) (hroom : rate * wakeAhead s ≤ writeRoom v s) :
    opNextWriteShelf rate s = writeOpened s := by
  unfold opNextWriteShelf
  rw [if_neg (by simp [hm, hnext])]
  simp only [hw, decide_eq_false (Nat.not_lt.mpr hroom), Bool.not_false, if_true]

end

/-! ### Grants (R265) -/

section
variable {p : Nat × HoldKind} {v : Nat} {s : State} (hm : isMaster s = true) (hr : nextRequest s = some p)
include hm hr

theorem opShelfWakeGrant_grants (hroom : shelvesUp s < budgetOf s) :
    opShelfWakeGrant s = decideShelf p.1 .powering (onArr (fun a => { a with requests := a.requests.filter (fun q => q.1 != p.1) }) s) := by
  unfold opShelfWakeGrant
  rw [if_neg (by simp [hm]), hr]
  exact if_pos hroom

theorem opShelfWakeGrant_drains (hfull : budgetOf s ≤ shelvesUp s) (hrel : s.arr.releasing = none) (hv : victim (rankOf p.2) s = some v) :
    opShelfWakeGrant s = decideShelf v .draining (onArr (fun a => { a with releasing := some v }) s) := by
  unfold opShelfWakeGrant
  rw [if_neg (by simp [hm]), hr]
  dsimp only
  rw [if_neg (Nat.not_lt.mpr hfull), if_neg (by simp [hrel]), hv]

end

/-! ### The master's transitions from one state to the next (Table 8.7) -/

theorem shelfSt_of_awake {n : Nat} {s : State} (h : shelfAwake n s = true) : shelfSt n s = .awake := by
  have code : shelfState n s = 3 := beq_iff_eq.mp h
  simp only [shelfSt, code]

theorem shelfMove_of_from {n : Nat} {from_ : List ShelfState} {t : ShelfState} {s : State} (hm : isMaster s = true)
    (h : from_.contains (shelfSt n s) = true) : shelfMove n from_ t s = decideShelf n t s :=
  if_pos ⟨hm, h⟩

section
variable {n : Fin 8} {notReady : List Nat} {s : State}

theorem opShelfPgAssert_links (hm : isMaster (rflag F.SHF_STATE_PG true s n.val) = true)
    (hst : shelfSt n.val (rflag F.SHF_STATE_PG true s n.val) = .powering) :
    opShelfPgAssert n s = decideShelf n.val .linking (rflag F.SHF_STATE_PG true s n.val) :=
  shelfMove_of_from hm (by rw [hst]; rfl)

theorem opShelfPgTimeout_faults (hm : isMaster s = true) (hst : shelfSt n.val s = .powering) :
    opShelfPgTimeout n s = driveShelf n.val false (decideShelf n.val .fault (recordFw Ev.SHELF_PG_TIMEOUT srcSUP n.val [] s)) :=
  if_pos ⟨hm, hst⟩

theorem opShelfLinked_wakes (hm : isMaster s = true) (hst : shelfSt n.val s = .linking) : opShelfLinked n s = shelfAwoke n.val s :=
  if_pos ⟨hm, hst⟩

theorem opShelfReadyTimeout_wakes (hm : isMaster s = true) (hst : shelfSt n.val s = .linking) :
    opShelfReadyTimeout n notReady s = shelfAwoke n.val (forEach (notReady.filter (fun b => b < 52))
      (fun b s => decideMember (52 * n.val + b) .failed s) (recordFw Ev.SHELF_READY_TIMEOUT srcSUP n.val [] s)) :=
  if_neg (by simp [hm, hst])

/-! ### Release of a shelf: drain and planned link-down (R264) -/

theorem opShelfRelease_drains (ha : shelfAwake n.val (syncHolds n.val s) = true) (hh : holdsOn n.val (syncHolds n.val s) = [])
    (hw : (writeOpen (syncHolds n.val s)).contains n.val = false)
    (ht : rget F.SHF_SEQ_CFG_MIN_AWAKE_S (syncHolds n.val s) ≤ rget F.SHF_STATE_TIME_IN_STATE (syncHolds n.val s) n.val)
    (hm : isMaster (syncHolds n.val s) = true) : opShelfRelease n s = decideShelf n.val .draining (syncHolds n.val s) := by
  unfold opShelfRelease
  dsimp only
  rw [if_pos (by simp only [ha, hh, hw, decide_eq_true ht]; rfl)]
  exact shelfMove_of_from hm (by rw [shelfSt_of_awake ha]; rfl)

theorem opShelfRelease_of_held (hh : holdsOn n.val (syncHolds n.val s) ≠ []) : opShelfRelease n s = syncHolds n.val s :=
  if_neg (by simp [hh])

/-- The number of a head that a report names. -/
def headNo (head : Bool) : Nat := if head then 1 else 0

/-- A head's drain report of a shelf noted by the master. -/
def drainNoted (n : Nat) (head : Bool) (s : State) : State :=
  setShelf n { shelfOf n s with drained := listSet (shelfOf n s).drained (headNo head) true } s

/-- A head's planned link-down of a shelf noted by the master. -/
def plannedNoted (n : Nat) (head : Bool) (s : State) : State :=
  setShelf n { shelfOf n s with planned := listSet (shelfOf n s).planned (headNo head) true } s

variable {head : Bool}

theorem onDrained_releases {n : Nat} (hm : isMaster s = true) (hst : shelfSt n s = .draining) (hb : bothReport (shelfOf n s).drained s = true) :
    onDrained n s = setPlanned n true (closeZones n (sendPartner (.shelfDecision n .releasing) (writeShelfState n .releasing s))) :=
  if_pos ⟨hm, hst, hb⟩

theorem onDrained_waits {n : Nat} (hb : bothReport (shelfOf n s).drained s = false) : onDrained n s = s :=
  if_neg (by simp [hb])

/-- The master notes a drain report: its own once its work on the shelf has ended. -/
theorem opDrainReport_of_master (hm : isMaster s = true) (hst : shelfSt n.val s = .draining)
    (hended : headNo head = headSlot s → ownWorkEnded n.val s = true) :
    opDrainReport n head s = onDrained n.val (drainNoted n.val head s) := by
  unfold opDrainReport
  dsimp only
  rw [if_neg (by simp [hst])]
  by_cases own : headNo head = headSlot s
  · exact (if_pos own).trans ((if_neg (by simp [hended own])).trans (if_neg (by simp [hm])))
  · exact (if_neg own).trans (if_pos hm)

theorem opDrainReport_of_other (hm : isMaster s = false) (hst : shelfSt n.val s = .draining) (hown : headNo head = headSlot s)
    (hended : ownWorkEnded n.val s = true) : opDrainReport n head s = sendPartner (.drainReport n.val) s := by
  unfold opDrainReport
  dsimp only
  rw [if_neg (by simp [hst])]
  exact (if_pos hown).trans ((if_neg (by simp [hended])).trans (if_pos (by simp [hm])))

theorem opPlannedDownReport_of_master (hm : isMaster s = true) (hst : shelfSt n.val s = .releasing) :
    opPlannedDownReport n head s =
      let t := plannedNoted n.val head s
      if bothReport (shelfOf n.val t).planned t = true then driveShelf n.val false t else t := by
  unfold opPlannedDownReport
  dsimp only
  rw [if_neg (by simp [hst]), if_neg (by simp [hm]), if_neg (by simp [hm])]
  rfl

theorem opPlannedDownReport_of_other (hm : isMaster s = false) (hst : shelfSt n.val s = .releasing) (hown : headNo head = headSlot s) :
    opPlannedDownReport n head s = driveShelf n.val false (sendPartner (.plannedReport n.val) s) := by
  unfold opPlannedDownReport
  dsimp only
  rw [if_neg (by simp [hst])]
  exact if_pos ⟨hown, by simp [hm]⟩

/-! ### PG falls, and FAULT (R264) -/

theorem opShelfPgDeassert_ends (hm : isMaster (rflag F.SHF_STATE_PG false s n.val) = true)
    (hst : shelfSt n.val (rflag F.SHF_STATE_PG false s n.val) = .releasing) :
    let t := rflag F.SHF_STATE_PG false s n.val
    opShelfPgDeassert n s = clearReleasing n.val (decideShelf n.val .off (setShelf n.val { shelfOf n.val t with minOff := true } t)) :=
  if_pos ⟨hm, hst⟩

theorem opShelfPgStuck_faults (hm : isMaster s = true) (hst : shelfSt n.val s = .releasing) (hpg : rbit F.SHF_STATE_PG s n.val = true) :
    opShelfPgStuck n s = clearReleasing n.val (decideShelf n.val .fault (recordFw Ev.SHELF_PG_STUCK srcSUP n.val [] s)) :=
  if_pos ⟨hm, hst, hpg⟩

/-- PG fallen on a shelf, PG_DROP latched. -/
def pgDropped (n : Nat) (s : State) : State := rflag F.SHF_STATE_PG_DROP true (rflag F.SHF_STATE_PG false s n) n

theorem opShelfPgLost_faults (hen : rbit F.SHF_STATE_EN_SENSE s n.val = true) (hm : isMaster (pgDropped n.val s) = true)
    (hst : [ShelfState.powering, .linking, .awake, .draining].contains (shelfSt n.val (pgDropped n.val s)) = true) :
    opShelfPgLost n s = arSettle (clearReleasing n.val (decideShelf n.val .fault (recordFw Ev.SHELF_PG_LOST srcSUP n.val [] (pgDropped n.val s)))) :=
  (if_neg (by simp [hen])).trans (if_pos ⟨hm, hst⟩)

theorem opShelfPgLost_of_released (hen : rbit F.SHF_STATE_EN_SENSE s n.val = false) : opShelfPgLost n s = rflag F.SHF_STATE_PG false s n.val :=
  if_pos (by simp [hen])

/-- The retries of a shelf in FAULT within the last hour. -/
def recentRetries (n : Nat) (s : State) : List Nat := (shelfOf n s).retries.filter (fun t => decide (opsec s < t + 3600))

/-- A shelf brought from FAULT to OFF for one more retry. -/
def retriedOff (n : Nat) (s : State) : State :=
  decideShelf n .off (setShelf n { shelfOf n s with retries := recentRetries n s ++ [opsec s] } s)

theorem opShelfFaultRetry_retries (hm : isMaster s = true) (hst : shelfSt n.val s = .fault)
    (ht : 60 ≤ rget F.SHF_STATE_TIME_IN_STATE s n.val) (hl : (recentRetries n.val s).length < 3) (hh : holdsOn n.val (retriedOff n.val s) = []) :
    opShelfFaultRetry n s = requestWake n.val .retention (retriedOff n.val s) := by
  have ready : ¬ ((!isMaster s) = true ∨ shelfSt n.val s ≠ .fault ∨ rget F.SHF_STATE_TIME_IN_STATE s n.val < 60 ∨
      3 ≤ (recentRetries n.val s).length) := by
    simp only [hm, hst, Bool.not_true, Bool.false_eq_true, ne_eq, not_true_eq_false, false_or]
    omega
  unfold retriedOff recentRetries at ready hh ⊢
  unfold opShelfFaultRetry
  dsimp only
  rw [if_neg ready, hh]
  rfl

theorem opShelfFaultRetry_stays (hl : 3 ≤ (recentRetries n.val s).length) : opShelfFaultRetry n s = s :=
  if_pos (.inr (.inr (.inr hl)))

end

/-- Settles O46: each command is its operation, and the hypotheses of a clause say which of its cases holds. -/
theorem shelfStates : Obligations.ShelfStates := by
  unfold Obligations.ShelfStates
  intro n b notReady rate sh v p s m st up dn lost h drained planned held fresh off
  refine ⟨fun hm hnext hlow hc => ?choose, fun hm hnext hw hroom => ?keep, fun hm hr hroom => ?grant, fun hm hr hfull hrel hv => ?drain, rfl,
    fun hm hst => ?pgAssert, fun hm hst => ?pgTimeout, fun hm hst => ?linked, fun hm hst => ?readyTimeout,
    fun ha hh hw ht hm => ?release, fun hh => ?heldOn, fun hm hst hended hmd hstd => ?drained, fun hm hst hown hended => ?drainSent,
    fun hm hst => ?planned, fun hm hst hown => ?plannedSent, fun hm hst => ?pgDeassert, fun hm hst hpg => ?pgStuck,
    fun hen hm hst => ?pgLost, fun hen => ?pgReleased, fun hm hst ht hl hh => ?retry, fun hst hl => ?retriesSpent⟩
  case choose => exact next_congr (opNextWriteShelf_chooses hm hnext hc hlow)
  case keep => exact next_congr (opNextWriteShelf_keeps hm hnext hw hroom)
  case grant => exact next_congr (opShelfWakeGrant_grants hm hr hroom)
  case drain => exact next_congr (opShelfWakeGrant_drains hm hr hfull hrel hv)
  case pgAssert => exact next_congr (opShelfPgAssert_links hm hst)
  case pgTimeout => exact next_congr (opShelfPgTimeout_faults hm hst)
  case linked => exact congrArg (fun x => nextState (settleRep (settleStage x))) (opShelfLinked_wakes hm hst)
  case readyTimeout => exact congrArg (fun x => nextState (settleRep (settleStage x))) (opShelfReadyTimeout_wakes hm hst)
  case release => exact next_congr (opShelfRelease_drains ha hh hw ht hm)
  case heldOn => exact next_congr (opShelfRelease_of_held hh)
  case drained =>
    have noted : opDrainReport n b s = onDrained n.val drained := opDrainReport_of_master hm hst hended
    exact ⟨fun hb => next_congr (noted.trans (onDrained_releases hmd hstd hb)), fun hb => next_congr (noted.trans (onDrained_waits hb))⟩
  case drainSent => exact next_congr (opDrainReport_of_other hm hst hown hended)
  case planned =>
    have noted := opPlannedDownReport_of_master (head := b) hm hst
    exact ⟨fun hb => next_congr (noted.trans (if_pos hb)), fun hb => next_congr (noted.trans (if_neg (ne_true_of_eq_false hb)))⟩
  case plannedSent => exact next_congr (opPlannedDownReport_of_other hm hst hown)
  case pgDeassert => exact next_congr (opShelfPgDeassert_ends hm hst)
  case pgStuck => exact next_congr (opShelfPgStuck_faults hm hst hpg)
  case pgLost =>
    have from_ : [ShelfState.powering, .linking, .awake, .draining].contains (shelfSt n.val lost) = true := by
      rcases hst with h | h | h | h <;> rw [h] <;> rfl
    exact next_congr (opShelfPgLost_faults hen hm from_)
  case pgReleased => exact next_congr (opShelfPgLost_of_released hen)
  case retry => exact next_congr (opShelfFaultRetry_retries hm hst ht hl hh)
  case retriesSpent => exact next_congr (opShelfFaultRetry_stays hl)

end Sys2Proof.Machine
end

section
/-! PROOFS. Shelf alerts, the RTC alarm and the backend ports (R259 to R261, R264, R267, R272, R493, R507). -/

namespace Sys2Proof.Machine

open Sys2Proof

/-! ### SHELF_ALERT (R264) and the alarm (R267, R493) -/

section
variable {n : Fin 8} {s : State}

/-- What a rising SHELF_ALERT leaves: the level and its latch, IRQ line 7 where it is enabled, and the record. -/
def alertRaised (n : Nat) (s : State) : State :=
  let t := rflag F.SHF_STATE_ALERT_LATCH true (rflag F.SHF_STATE_ALERT true s n) n
  record Ev.SHELF_ALERT srcAON n [] (if rtest F.SHF_CTL_ALERT_EN n t then raiseIrq 7 t else t)

theorem shelfAlert_rises {n : Nat} (hold : rbit F.SHF_STATE_ALERT s n = false) : shelfAlert n true s = alertRaised n s :=
  if_pos (by simp [hold])

/-- A rising alert also wakes, where the shelf's wake is enabled. -/
theorem opShelfAlert_rises (hold : rbit F.SHF_STATE_ALERT s n.val = false) :
    opShelfAlert n true s =
      if rtest F.PWR_WAKE_EN_SHELF n.val (alertRaised n.val s) = true then wakeSource 3 n.val (alertRaised n.val s) else alertRaised n.val s := by
  unfold opShelfAlert
  simp only [shelfAlert_rises hold, Bool.true_and]

theorem opShelfAlert_falls : opShelfAlert n false s = rflag F.SHF_STATE_ALERT false s n.val := rfl

/-- The RTC brought to ALARM. -/
def rtcAtAlarm (s : State) : State := rset F.CLK_ALARM_RTC_SEC (max (rget F.CLK_ALARM_ALARM s) (rget F.CLK_ALARM_RTC_SEC s)) s

theorem opAlarm_of_set (h : rget F.CLK_ALARM_ALARM s ≠ 0) :
    opAlarm s = alarmWork (if rbit F.PWR_WAKE_EN_RTC (rtcAtAlarm s) = true then wakeSource 2 0 (rtcAtAlarm s) else rtcAtAlarm s) :=
  if_neg h

end

/-! ### Link-downs (R260, R261) -/

/-- A loss counted and recorded, and the jobs of the port's drives ended. -/
def portLost (i : Nat) (s : State) : State :=
  arSettle (forEach (portDrives i) endDriveJobs (record Ev.PCI_LINK_LOST srcPCI i [] (raiseIrq 5
    (rinc F.PCI_PORT_STATUS_LINK_DOWNS 1 (rinc F.PCI_ERR_CNT_UNPLANNED_DOWN 1 (portDown i s) i) i))))

/-- The groups of this head handed to the partner, and noted as handed. -/
def groupsHandedOver (s : State) : State := handAll (onArr (fun a => { a with handed := (a.handed ++ ownGroups s).eraseDups }) s)

/-- What a loss of the uplink of a shelf does after the port's jobs have ended: SOLO, the shelf goes to FAULT; else the partner is told. -/
def shelfUplinkLost (m : Nat) (s : State) : State :=
  if solo s then (if shelfUp m s then decideShelf m .fault s else s) else uplinkLost m (headSlot s) (sendPartner (.uplink m true) s)

section
variable {p : Fin 17} {s : State} (hup : rbit F.PCI_PORT_STATUS_LINK_UP s p.val = true)
include hup

theorem opPciLinkPlanned_counts (hpl : rtest F.PCI_PLANNED_DOWN_PLANNED p.val s = true) :
    opPciLinkPlanned p s = record Ev.PCI_LINK_PLANNED srcPCI p.val [] (rinc F.PCI_PORT_STATUS_PLANNED_DOWNS 1 (portDown p.val s) p.val) :=
  if_neg (by simp [hup, hpl])

variable (hpl : rtest F.PCI_PLANNED_DOWN_PLANNED p.val s = false)
include hpl

/-- After the port's jobs, the groups are handed over where the port matters, and the shelf behind it has lost an uplink. -/
theorem opPciLinkLost_of_unplanned :
    opPciLinkLost p s = (portShelf p.val).elim id shelfUplinkLost
      (if portMatters p.val s = true ∧ partnerHere (portLost p.val s) = true then groupsHandedOver (portLost p.val s) else portLost p.val s) := by
  unfold opPciLinkLost
  rw [if_neg (by simp [hup, hpl])]
  cases portShelf p.val <;> rfl

theorem opPciLinkLost_hands_over (hm : portMatters p.val s = true) (hpartner : partnerHere (portLost p.val s) = true)
    (hnone : portShelf p.val = none) : opPciLinkLost p s = groupsHandedOver (portLost p.val s) := by
  rw [opPciLinkLost_of_unplanned hup hpl, hnone, if_pos ⟨hm, hpartner⟩]
  rfl

/-- Where the port does not matter, or the partner cannot take groups, this head keeps them. -/
theorem opPciLinkLost_keeps_groups (hk : portMatters p.val s = false ∨ partnerHere (portLost p.val s) = false) :
    opPciLinkLost p s = (portShelf p.val).elim id shelfUplinkLost (portLost p.val s) := by
  rw [opPciLinkLost_of_unplanned hup hpl, if_neg]
  rintro ⟨hm, hpartner⟩
  rcases hk with hk | hk
  · exact absurd (hm.symm.trans hk) (by decide)
  · exact absurd (hpartner.symm.trans hk) (by decide)

end

/-! ### Links that come up again (R259, R261, R273), correctable errors (R272) and PERST# (R507) -/

section
variable {p : Fin 17} {gen lanes : Nat} {s : State}

theorem opPciLinkStable_asks (hup : rbit F.PCI_PORT_STATUS_LINK_UP s p.val = true) (hh : s.arr.handed ≠ []) :
    opPciLinkStable p s = sendPartner (.handoverRequest s.arr.handed (headSlot s == 1)) (onArr (fun a => { a with handed := [] }) s) :=
  if_pos (by simp [hup, hh])

/-- The port's uplink of a shelf that this head had lost is noted back, and the partner is told. -/
def uplinkReturned (i : Nat) (s : State) : State :=
  match portShelf i with
  | some m => if (shelfOf m s).lost.getD (headSlot s) false then sendPartner (.uplink m false) (uplinkBack m (headSlot s) s) else s
  | none => s

/-- A port trained at a generation and lanes no more than it may. -/
def portTrained (i gen lanes : Nat) (s : State) : State :=
  rset F.PCI_PORT_STATUS_LANES (min lanes (portLanes i s)) (rset F.PCI_PORT_STATUS_GEN (min gen (portGen i s)) s i) i

theorem opPciLinkUp_trains (hmay : portMayTrain p.val s = true) (hg : rbit F.PNL_FENCE_STATUS_GATED s = false) :
    opPciLinkUp p gen lanes s = rputBit F.PCI_PLANNED_DOWN_PLANNED p.val false (rflag F.PCI_PORT_STATUS_DL_ACTIVE true
      (rflag F.PCI_PORT_STATUS_LINK_UP true (portTrained p.val gen lanes (uplinkReturned p.val s)) p.val) p.val) :=
  if_neg (by simp [hmay, hg])

theorem opPciLinkUp_of_held (hmay : portMayTrain p.val s = false) : opPciLinkUp p gen lanes s = s :=
  if_pos (by simp [hmay])

/-- A correctable error of a port counted in its register. -/
def corrCounted (i : Nat) (s : State) : State := rinc F.PCI_ERR_CNT_CORR 1 s i

/-- A port retrained one generation lower, down to 1. -/
def retrained (i : Nat) (s : State) : State :=
  let g := rget F.PCI_PORT_STATUS_GEN s i
  rinc F.PCI_ERR_CNT_RETRAINS 1 (rset F.PCI_PORT_STATUS_GEN (if 1 < g then g - 1 else g) s i) i

/-- A correctable error is counted; at the threshold it is recorded, and where the counter acts the port retrains. -/
theorem opPciCorrectableError_eq :
    opPciCorrectableError p s =
      let e := fltError 2 p.val (corrCounted p.val s)
      let t := record Ev.PCI_RETRAIN srcPCI p.val [] e.2
      if (!e.1) = true then e.2 else if (!fltActs 2 t) = true then t else retrained p.val t := by
  unfold opPciCorrectableError corrCounted retrained
  rfl

theorem opPciCorrectableError_counts (hit : (fltError 2 p.val (corrCounted p.val s)).1 = false) :
    opPciCorrectableError p s = (fltError 2 p.val (corrCounted p.val s)).2 :=
  opPciCorrectableError_eq.trans (if_pos (by rw [hit]; rfl))

theorem opPciCorrectableError_retrains (hit : (fltError 2 p.val (corrCounted p.val s)).1 = true)
    (hact : fltActs 2 (record Ev.PCI_RETRAIN srcPCI p.val [] (fltError 2 p.val (corrCounted p.val s)).2) = true) :
    opPciCorrectableError p s = retrained p.val (record Ev.PCI_RETRAIN srcPCI p.val [] (fltError 2 p.val (corrCounted p.val s)).2) :=
  opPciCorrectableError_eq.trans ((if_neg (by rw [hit]; decide)).trans (if_neg (by rw [hact]; decide)))

theorem opPerstRelease_releases (hen : rbit F.PCI_PORT_CFG_EN s p.val = true)
    (hclk : rtest F.CLK_PLL_STATUS_PCIE_REF_OK (portClock p.val) s = true) : opPerstRelease p s = emit (.pin (perstPin p.val) true p.val) s :=
  if_pos (by simp [hen, hclk])

theorem opPerstRelease_of_disabled (hen : rbit F.PCI_PORT_CFG_EN s p.val = false) : opPerstRelease p s = s :=
  if_neg (by simp [hen])

end

/-- Settles O47: each command is its operation, and the hypotheses of a clause say which of its cases holds. -/
theorem alertsAlarmAndBackendPorts : Obligations.AlertsAlarmAndBackendPorts := by
  unfold Obligations.AlertsAlarmAndBackendPorts
  intro n p level gen lanes s i old a0 a1 a2 rtc down hits ended back up e0 e1 e2 g
  refine ⟨fun hlevel hold hwake => ?alert, fun hlevel hold hwake => ?alertWakes, fun hlevel => ?alertFalls, fun ha hwake => ?alarmWakes,
    fun ha hwake => ?alarm, fun hup hpl => ?planned,
    fun hup hpl => ⟨fun hm hpartner hnone => ?handsOver, fun hm hnone => ?lost, fun m hm hs hsolo => ?told, fun m hpartner hs hsolo hsh => ?fault⟩,
    rfl, fun hup hh => ?stable, fun hmay hg => ?up, fun hmay => ?heldDown, fun hit => ?counted, fun hit hact => ?retrained,
    fun hen hclk => ?perst, fun hen => ?disabled⟩
  case alert =>
    subst hlevel
    exact next_congr ((opShelfAlert_rises hold).trans (if_neg (ne_true_of_eq_false hwake)))
  case alertWakes =>
    subst hlevel
    exact next_congr ((opShelfAlert_rises hold).trans (if_pos hwake))
  case alertFalls =>
    subst hlevel
    exact next_congr opShelfAlert_falls
  case alarmWakes => exact next_congr ((opAlarm_of_set ha).trans (congrArg alarmWork (if_pos hwake)))
  case alarm => exact next_congr ((opAlarm_of_set ha).trans (congrArg alarmWork (if_neg (ne_true_of_eq_false hwake))))
  case planned => exact next_congr (opPciLinkPlanned_counts hup hpl)
  case handsOver => exact next_congr (opPciLinkLost_hands_over hup hpl hm hpartner hnone)
  case lost =>
    have run := opPciLinkLost_keeps_groups hup hpl (.inl hm)
    rw [hnone] at run
    exact next_congr run
  case told =>
    have run := opPciLinkLost_keeps_groups hup hpl (.inl hm)
    rw [hs] at run
    exact next_congr (run.trans (if_neg (ne_true_of_eq_false hsolo)))
  case fault =>
    have run := opPciLinkLost_keeps_groups hup hpl (.inr hpartner)
    rw [hs] at run
    exact next_congr (run.trans ((if_pos hsolo).trans (if_pos hsh)))
  case stable => exact next_congr (opPciLinkStable_asks hup hh)
  case up => exact next_congr (opPciLinkUp_trains hmay hg)
  case heldDown => exact next_congr (opPciLinkUp_of_held hmay)
  case counted => exact next_congr (opPciCorrectableError_counts hit)
  case retrained => exact next_congr (opPciCorrectableError_retrains hit hact)
  case perst => exact next_congr (opPerstRelease_releases hen hclk)
  case disabled => exact next_congr (opPerstRelease_of_disabled hen)

end Sys2Proof.Machine
end

section
/-! PROOFS. Members, spares, rebuild and scrub (R238, R274, R276, R278, R281, R285, R286, R288, R289, R294, R544, R545). -/

namespace Sys2Proof.Machine

open Sys2Proof

/-! ### Criteria and decisions (R274, R276) -/

section
variable {drive : DriveNo} {warning : BitVec 8} {s : State}

theorem opSmartPoll_reports (hwarn : warning.toNat &&& 0x0D ≠ 0) (hw : watched drive.val s = true) :
    opSmartPoll drive warning s = memberSettle (reportMember drive.val .failing s) :=
  if_pos ⟨hwarn, hw⟩

theorem opSmartPoll_of_no_warning (hwarn : warning.toNat &&& 0x0D = 0) : opSmartPoll drive warning s = s :=
  if_neg fun h => h.1 hwarn

theorem opNotReadyTimeout_reports (hw : watched drive.val s = true) (ha : 512 ≤ drive.val ∨ shelfAwake (drive.val / 52) s = true) :
    opNotReadyTimeout drive s = memberSettle (reportMember drive.val .failed s) :=
  if_pos ⟨ha, hw⟩

theorem opUnreachableTimeout_reports (hw : watched drive.val s = true) (hup : rbit F.PCI_PORT_STATUS_LINK_UP s (portOf drive.val) = true) :
    opUnreachableTimeout drive s = memberSettle (reportMember drive.val .failed s) :=
  if_pos (Bool.and_eq_true_iff.mpr ⟨hup, hw⟩)

/-! ### Drives removed and inserted (R238, R278, R544) -/

/-- Both heads have seen a drive removed: the command says so, or the partner has reported it. -/
def seenByBoth (d : Nat) (both : Bool) (s : State) : Bool := both || (memberOf d s).seenThere

/-- A removal noted of a member, and its drive's jobs ended. -/
def removalTaken (d : Nat) (both : Bool) (s : State) : State :=
  let m := memberOf d s
  arSettle (endDriveJobs d (setMember d { m with removed := true, removedBoth := m.removedBoth || seenByBoth d both s } s))

/-- A drive that both heads have seen removed is reported ABSENT; the other head's sight of it is told to the master. -/
theorem opDriveRemoved_eq (both : Bool) :
    opDriveRemoved drive both s =
      let t := removalTaken drive.val both s
      if seenByBoth drive.val both s = true then memberSettle (reportMember drive.val .absent t)
      else if isMaster t = true then t else sendPartner (.removalSeen drive.val) t := by
  unfold opDriveRemoved removalTaken seenByBoth
  rfl

/-- A drive that has come into a bay: its member as it describes itself, what was known of the zones and strips of the drive before it forgotten. -/
def memberCame (d : Nat) (info : DriveInfo) (s : State) : State :=
  onArr (fun a => { a with zones := a.zones.filter (fun p => p.1 / 2 ^ 26 != d), strips := a.strips.filter (fun p => p.1 / 2 ^ 58 != d) })
    (setMember d { info := info, split := info.zones / 2 } s)

/-- Every zone of a drive reset, and the member recorded SPARE with its split. -/
def spareRecorded (d : Nat) (info : DriveInfo) (s : State) : State :=
  transact none [.member d .spare, .split d (info.zones / 2)]
    (forEach (List.range info.zones) (fun z s => egress (.drive d 3 (z + 4 * 2 ^ 32) false []) s) s)

section
variable {info : DriveInfo} (hst : (memberOf drive.val s).st = .absent) (hbay : drive.val < 512)
include hst hbay

theorem opDriveInserted_refuses (hspec : meetsSpec drive.val info s = false) :
    opDriveInserted drive info s = recordFw Ev.MEMBER_REFUSED_SPEC srcSUP (memberInst drive.val) [] s :=
  (if_neg (not_not.mpr hst)).trans ((if_neg (Nat.not_le.mpr hbay)).trans (if_pos (by simp [hspec])))

variable (hspec : meetsSpec drive.val info s = true)
include hspec

theorem opDriveInserted_of_other (hm : isMaster (memberCame drive.val info s) = false) :
    opDriveInserted drive info s = memberCame drive.val info s :=
  (if_neg (not_not.mpr hst)).trans ((if_neg (Nat.not_le.mpr hbay)).trans ((if_neg (by simp [hspec])).trans
    (if_pos (by rw [Bool.not_eq_true']; exact hm))))

/-- The master records the drive SPARE; with no rebuild waiting for one that is all. -/
theorem opDriveInserted_records_spare {t u : State} (ht : memberCame drive.val info s = t) (hu : spareRecorded drive.val info t = u)
    (hm : isMaster t = true) (hnone : u.arr.rebuilds = []) : opDriveInserted drive info s = u := by
  subst ht hu
  unfold memberCame at hm
  unfold spareRecorded memberCame at hnone ⊢
  unfold opDriveInserted
  simp only [hst, ne_eq, not_true_eq_false, if_false, Nat.not_le.mpr hbay, hspec, Bool.not_true, Bool.false_eq_true, hm, hnone, List.find?_nil]

end

end

/-! ### Rebuild (R281, R285, R286, R288, R289, R545) -/

section
variable {zs n : Nat} {hi : State → Nat} {k : State → State} {hs : List Nat} {t s : State}

theorem withBufs_of_taken {c : Nat} {f : State → State} (hb : takeBufs n c s = (hs, t)) :
    withBufs n c f s = dropAll hs (if hs.length = n then f t else t) := by
  unfold withBufs
  rw [hb]

theorem rebuildWork_of_unlisted (h : s.arr.rebuildList.contains zs = false) : rebuildWork zs hi k s = s :=
  if_pos (by simp only [h]; rfl)

section
variable (hl : s.arr.rebuildList.contains zs = true) (ha : shelfAwake (zsOf zs s).shelf s = true) (hstart : (startTargets zs s).1 = true)
include hl ha hstart

theorem rebuildWork_of_started :
    rebuildWork zs hi k s = if waitsPointer zs (startTargets zs s).2 = true then (startTargets zs s).2 else
      withStrips (zsOf zs s) (fun s => let s := forEach (targetsOf zs s) (verifyTarget zs) s; k (rebuildUpTo zs (hi s) s)) (startTargets zs s).2 := by
  have started : startTargets zs s = (true, (startTargets zs s).2) := Prod.ext hstart rfl
  unfold rebuildWork
  dsimp only
  rw [if_neg (by rw [hl, ha]; exact Bool.false_ne_true), started]

theorem rebuildWork_waits (hw : waitsPointer zs (startTargets zs s).2 = true) : rebuildWork zs hi k s = (startTargets zs s).2 :=
  (rebuildWork_of_started hl ha hstart).trans (if_pos hw)

/-- With the targets' pointers read, the rows are rebuilt while the buffers are held, if enough of them are free. -/
theorem rebuildWork_rebuilds (hw : waitsPointer zs (startTargets zs s).2 = false)
    (hn : min (settings (startTargets zs s).2).rebuildBufs ((zsOf zs s).k + 2) = n) (hb : takeBufs n 2 (startTargets zs s).2 = (hs, t)) :
    let v := forEach (targetsOf zs t) (verifyTarget zs) t
    rebuildWork zs hi k s = dropAll hs (if hs.length = n then k (rebuildUpTo zs (hi v) v) else t) := by
  subst hn
  exact (rebuildWork_of_started hl ha hstart).trans ((if_neg (ne_true_of_eq_false hw)).trans (withBufs_of_taken hb))

end

theorem opRebuildCheckpoint_writes {w : Nat} {ws : List Nat} (h : s.arr.rebuildList = w :: ws) :
    opRebuildCheckpoint s = writeCkpt (rebuildWork w (reachedRow w) tickFree s) := by
  unfold opRebuildCheckpoint
  rw [h]

theorem opRebuildCheckpoint_of_none (h : s.arr.rebuildList = []) : opRebuildCheckpoint s = s := by
  unfold opRebuildCheckpoint
  rw [h]

end

/-! ### Scrub (R294) -/

/-- A strip that is there needs no decode. -/
theorem decodeStrip_of_stored {k n i : Nat} {r : Row} {b : List Byte} (h : rowStrip r i = some b) : decodeStrip k n r i = some b := by
  unfold decodeStrip
  rw [h]

/-- A row whose strips are all there has nothing that cannot be recovered. -/
theorem unrecovered_of_whole {k : Nat} {r : Row} (hall : r.all (·.isSome) = true) (hlen : r.length = k + 2) : unrecovered k r = [] := by
  refine List.filter_eq_nil_iff.mpr fun i hi => ?_
  have hlt : i < r.length := by
    have hk : i < k := List.mem_range.mp hi
    omega
  obtain ⟨b, hb⟩ := Option.isSome_iff_exists.mp (List.all_eq_true.mp hall r[i] (List.getElem_mem hlt))
  have stored : rowStrip r i = some b := by rw [rowStrip, List.getD_eq_getElem _ _ hlt, hb]
  rw [decodeStrip_of_stored stored]
  exact Bool.false_ne_true

/-- A row stays as it is when no position is left out. -/
theorem zipIdx_map_keep {α : Type} (l : List (Option α)) : l.zipIdx.map (fun p => if ([] : List Nat).contains p.2 then none else p.1) = l := by
  simp

theorem any_isNone_of_all_isSome {α : Type} {l : List (Option α)} (h : l.all (·.isSome) = true) : l.any (·.isNone) = false := by
  simpa [List.any_eq_false, Option.isSome_iff_ne_none] using h

section
variable {zs row : Nat} {z : ZoneSet} {sc : ScrubResult} {hs : List Nat} {t s : State}

/-- A row scrubbed in which nothing was found. -/
def rowScrubbed (zs row : Nat) (s : State) : State :=
  onArr (fun a => { a with scrubPos := some (zs, row), rowsScrubbed := a.rowsScrubbed + 1 }) s

theorem opScrub_of_clean (hz : kfind s.arr.zoneSets zs = some z) (hown : z.own = true) (ha : shelfAwake z.shelf s = true)
    (hb : takeBufs (min (settings s).rebuildBufs (z.k + 2)) 2 s = (hs, t)) (hn : hs.length = min (settings s).rebuildBufs (z.k + 2))
    (hall : (rowOf z row true t).all (·.isSome) = true) (hlen : (rowOf z row true t).length = z.k + 2) (hfirst : z.firstAppend = none)
    (hunread : sc.unreadable = []) (hmis : sc.mismatch = false) (hslow : sc.slow = false) (hlast : sc.last = false) :
    opScrub zs row sc s = dropAll hs (memberSettle (rowScrubbed zs row t)) := by
  unfold opScrub
  simp only [hz, hown, ha, Bool.not_true, Bool.or_self, Bool.false_eq_true, if_false]
  rw [withStrips, withBufs_of_taken hb, if_pos hn]
  simp only [hunread, hmis, hslow, hlast, hfirst, List.isEmpty_nil, Bool.false_eq_true, and_false, if_false, List.filter_nil, List.length_nil,
    nonpos_iff_eq_zero, OfNat.ofNat_ne_zero, List.append_nil, zipIdx_map_keep, unrecovered_of_whole hall hlen, any_isNone_of_all_isSome hall,
    if_true, Bool.not_true, Bool.or_self]
  rfl

theorem opScrubCheckpoint_writes (h : s.arr.scrubPos ≠ none) :
    opScrubCheckpoint s = addRec' none (.index false []) (onArr (fun a => { a with scrubCkpt := a.scrubPos }) s) :=
  if_neg (by simp [h])

theorem opScrubCheckpoint_of_none (h : s.arr.scrubPos = none) : opScrubCheckpoint s = s :=
  if_pos (by rw [h]; rfl)

end

/-- Equal states answer alike after the lost chunks have been sought. -/
theorem next_settleLost_congr {s t : State} (h : s = t) : nextState (settleLost s) = nextState (settleLost t) :=
  congrArg (fun x => nextState (settleLost x)) h

/-- Settles O48: each command is its operation, and the hypotheses of a clause say which of its cases holds. -/
theorem membersRebuildAndScrub : Obligations.MembersRebuildAndScrub := by
  unfold Obligations.MembersRebuildAndScrub
  intro drive r both warning info sc zs row z hs t s d w reports m seen taken came spare p n v k1 l k2 k3 k4 clean whole
  refine ⟨fun hwarn hw => ?smart, fun hwarn => ?noWarning, fun hw ha => ?notReady, fun hw hup => ?unreachable,
    ⟨fun hm => ?decides, fun hm => ?reportsOn⟩, ⟨fun hseen => ?absent, fun hseen hm => ?removed, fun hseen hm => ?removalTold⟩,
    fun hst hbay hspec => ?refused, fun hst hbay hspec hm => ?came, fun hst hbay hspec hm hnone => ?spare,
    fun hl ha hstart hw hb => ?switch, fun hl ha hstart hw => ?waits, fun hl => ?unlisted,
    fun w ws h => ?rebuildCkpt, fun h => ?noRebuild,
    fun ⟨hz, hown, ha, hb, hn, hall, hlen, hfirst⟩ ⟨hunread, hmis, hslow, hlast⟩ => ?scrubbed, fun h => ?scrubCkpt, fun h => ?noScrub⟩
  case smart => exact next_congr (opSmartPoll_reports hwarn hw)
  case noWarning => exact next_congr (opSmartPoll_of_no_warning hwarn)
  case notReady => exact next_congr (opNotReadyTimeout_reports hw ha)
  case unreachable => exact next_congr (opUnreachableTimeout_reports hw hup)
  case decides => exact next_congr (if_pos hm)
  case reportsOn => exact next_congr (if_neg (ne_true_of_eq_false hm))
  case absent => exact next_congr ((opDriveRemoved_eq both).trans (if_pos hseen))
  case removed => exact next_congr ((opDriveRemoved_eq both).trans ((if_neg (ne_true_of_eq_false hseen)).trans (if_pos hm)))
  case removalTold =>
    exact next_congr ((opDriveRemoved_eq both).trans ((if_neg (ne_true_of_eq_false hseen)).trans (if_neg (ne_true_of_eq_false hm))))
  case refused => exact next_congr (opDriveInserted_refuses hst hbay hspec)
  case came => exact next_congr (opDriveInserted_of_other hst hbay hspec hm)
  case spare => exact next_congr (opDriveInserted_records_spare hst hbay hspec (t := came) (u := spare) rfl rfl hm hnone)
  case switch =>
    have run : opZoneSetSwitch zs s = dropAll hs (if hs.length = n then switchZs zs k1 else t) := rebuildWork_rebuilds hl ha hstart hw rfl hb
    exact ⟨fun hn => next_settleLost_congr (run.trans (congrArg (dropAll hs) (if_pos hn))),
      fun hn => next_settleLost_congr (run.trans (congrArg (dropAll hs) (if_neg hn)))⟩
  case waits => exact next_settleLost_congr (rebuildWork_waits hl ha hstart hw)
  case unlisted => exact next_settleLost_congr (rebuildWork_of_unlisted hl)
  case rebuildCkpt => exact next_settleLost_congr (opRebuildCheckpoint_writes h)
  case noRebuild => exact next_settleLost_congr (opRebuildCheckpoint_of_none h)
  case scrubbed => exact next_settleLost_congr (opScrub_of_clean hz hown ha hb hn hall hlen hfirst hunread hmis hslow hlast)
  case scrubCkpt => exact next_congr (opScrubCheckpoint_writes h)
  case noScrub => exact next_congr (opScrubCheckpoint_of_none h)

end Sys2Proof.Machine
end

section
/-! PROOFS. Snapshots are made, marked for deletion and swept (R299, R300, R302, R305). -/

namespace Sys2Proof.Machine

open Sys2Proof

/-! ### The Snapshot command (R299, R300, R305) -/

section
variable {slot : SlotNo} {a : Nat} {t : Task} {m : HbMsg} {ns : Namespace} {x : Snapshot} {u s : State}

/-- A Snapshot command past its cancellation point whose ACTION is `a`, of a namespace that is there. -/
structure AsksSnapshot (slot : SlotNo) (a : Nat) (t : Task) (m : HbMsg) (ns : Namespace) (u s : State) : Prop where
  runs : AdminRuns slot.val 0xC0 t m u s
  action : m.sqe.cdw10 = a
  unused : m.sqe.cdw11 = 0 ∧ m.sqe.cdw14 = 0 ∧ m.sqe.cdw15 = 0
  there : nsOf m.sqe.nsid u = some ns

/-- The SNAPID that a Snapshot delete names. -/
def snapNamed (q : Sqe) : Nat := q.cdw13 * 2 ^ 32 + q.cdw12

/-- A Snapshot command of its own action does what the action says; a create names no snapshot. -/
theorem snapCmd_runs (h : AsksSnapshot slot a t m ns u s) (ha : a ≤ 1) (hnew : a = 0 → m.sqe.cdw12 = 0 ∧ m.sqe.cdw13 = 0)
    (f : Task → HbMsg → State → State) : snapCmd slot.val a f s = f t m u := by
  obtain ⟨hruns, haction, ⟨h11, h14, h15⟩, hns⟩ := h
  have hcmd : slotCmd slot.val true 0xC0 s = some m := hruns.1.1
  have hact : m.sqe.cdw10 % 16 = a := by omega
  have fields : ¬ (1 < m.sqe.cdw10 ∨ m.sqe.cdw11 ≠ 0 ∨ m.sqe.cdw14 ≠ 0 ∨ m.sqe.cdw15 ≠ 0 ∨ (a = 0 ∧ (m.sqe.cdw12 ≠ 0 ∨ m.sqe.cdw13 ≠ 0)) ∨
      (nsOf m.sqe.nsid u).isNone = true) := by
    rw [hns]
    simp only [Option.isNone_some, Bool.false_eq_true, or_false]
    omega
  unfold snapCmd
  simp only [hcmd, hact, ne_eq, not_true_eq_false, false_and, if_false]
  rw [adminCmd_runs hruns]
  exact if_neg fields

/-- A create's answer once its snapshot is made. -/
def snapMade (i nsid : Nat) (s : State) : State :=
  let r := makeSnap nsid false s
  doneSlot i { dw0 := r.1 % 2 ^ 32, dw1 := r.1 / 2 ^ 32 } r.2

/-- A create passed to the partner, which answers by its request number; the command gives up its slot. -/
def snapPassed (i nsid : Nat) (t : Task) (s : State) : State :=
  let r := s.host.snapReq
  sendPartner (.snapRequest nsid r) (freeSlot i { s with host := { s.host with snapReq := r + 1, snapWait := s.host.snapWait ++ [(r, t)] } })

theorem opSnapshotCreate_of_asks (h : AsksSnapshot slot 0 t m ns u s) (h12 : m.sqe.cdw12 = 0) (h13 : m.sqe.cdw13 = 0) :
    opSnapshotCreate slot s =
      if (owns (groupOfNs m.sqe.nsid u) u || solo u) = true then
        if snapLimit m.sqe.nsid u = true then doneSlot slot.val stSnapLimit u else snapMade slot.val m.sqe.nsid u
      else snapPassed slot.val m.sqe.nsid t u :=
  snapCmd_runs h (Nat.zero_le 1) (fun _ => ⟨h12, h13⟩) _

section
variable (h : AsksSnapshot slot 1 t m ns u s)
include h

theorem opSnapshotDelete_of_live (hx : snapOf (snapNamed m.sqe) u = some x) (hlive : x.deleting = false) (hns : snapNs x.snapid = m.sqe.nsid) :
    opSnapshotDelete slot s =
      if x.inUse ≠ 0 then doneSlot slot.val stSeqErr u
      else doneSlot slot.val stOk (transact (some (groupOfNs m.sqe.nsid u)) [.snapPut { x with deleting := true }] u) := by
  have named : (snapOf (snapNamed m.sqe) u).filter (fun x => !x.deleting && snapNs x.snapid == m.sqe.nsid) = some x := by
    simp [hx, hlive, hns]
  unfold snapNamed at named
  rw [opSnapshotDelete, snapCmd_runs h (Nat.le_refl 1) (by omega)]
  simp only [named]

theorem opSnapshotDelete_of_unknown (hx : snapOf (snapNamed m.sqe) u = none) : opSnapshotDelete slot s = doneSlot slot.val stInvalidField u := by
  unfold snapNamed at hx
  rw [opSnapshotDelete, snapCmd_runs h (Nat.le_refl 1) (by omega)]
  simp only [hx, Option.filter_none]

end

end

/-! ### The sweep (R302, R305) -/

/-- The removals of the retained records of a snapshot's namespace that no live snapshot needs. -/
def sweepChanges (id : Nat) (s : State) : List IndexChange :=
  (s.arr.retained.filter (fun r => r.rec_.nsid == snapNs id && !needed (livePoints (snapNs id) s.arr) r.rec_.wseq r.wseqEnd)).map
    (fun r => .retDel (snapNs id) r.rec_.addr r.rec_.wseq)

theorem opSnapshotSweep_sweeps {id : Nat} {x : Snapshot} {s : State} (hx : snapOf id s = some x) (hdel : x.deleting = true)
    (hown : (owns (groupOfNs (snapNs id) s) s || solo s) = true) :
    opSnapshotSweep id s = transact (some (groupOfNs (snapNs id) s)) (withRefs (sweepChanges id s) s.arr ++ [.snapDel id]) s := by
  unfold opSnapshotSweep sweepChanges
  simp only [hx, hdel, hown, Bool.not_true, Bool.or_self, Bool.false_eq_true, if_false]

/-- Settles O40: each command is its operation's body, and the hypotheses of a clause choose the branch. -/
theorem snapshotCommands : Obligations.SnapshotCommands := by
  unfold Obligations.SnapshotCommands
  intro slot t m ns x id u s i n g new_ del runs
  have asked : ∀ {a}, runs a → AsksSnapshot slot a t m ns u s := fun ⟨hruns, haction, h11, h14, h15, hns⟩ => ⟨hruns, haction, ⟨h11, h14, h15⟩, hns⟩
  refine ⟨fun h h12 h13 hown hroom => ?made, fun h h12 h13 hown hfull => ?limit, fun h h12 h13 hown => ?passed,
    fun h hx hlive hns => ⟨fun hfree => ?marked, fun huse => ?inUse⟩, fun h hx => ?unknown, fun hx hdel hown => ?swept⟩
  case made =>
    exact next_congr ((opSnapshotCreate_of_asks (asked h) h12 h13).trans ((if_pos hown).trans (if_neg (ne_true_of_eq_false hroom))))
  case limit => exact next_congr ((opSnapshotCreate_of_asks (asked h) h12 h13).trans ((if_pos hown).trans (if_pos hfull)))
  case passed => exact next_congr ((opSnapshotCreate_of_asks (asked h) h12 h13).trans (if_neg (ne_true_of_eq_false hown)))
  case marked => exact next_congr ((opSnapshotDelete_of_live (asked h) hx hlive hns).trans (if_neg (not_not.mpr hfree)))
  case inUse => exact next_congr ((opSnapshotDelete_of_live (asked h) hx hlive hns).trans (if_pos huse))
  case unknown => exact next_congr (opSnapshotDelete_of_unknown (asked h) hx)
  case swept => exact next_congr (opSnapshotSweep_sweeps hx hdel hown)

end Sys2Proof.Machine
end

section
/-! PROOFS. The Replicate command's actions and the schedule (R308 to R311, R318, R321). -/

namespace Sys2Proof.Machine

open Sys2Proof

/-! ### The Replicate command (R308, R310, R311, R318, R321) -/

section
variable {slot : SlotNo} {a : Nat} {t : Task} {m : HbMsg} {ns : Namespace} {p : Pairing} {x : Session} {sn : Snapshot} {u s : State}

/-- A Replicate command past its cancellation point whose ACTION is `a`, of a namespace that is there and with no base. -/
structure AsksReplicate (slot : SlotNo) (a : Nat) (t : Task) (m : HbMsg) (ns : Namespace) (u s : State) : Prop where
  runs : AdminRuns slot.val 0xC2 t m u s
  action : m.sqe.cdw10 = a
  chip : m.sqe.cdw11 ≤ 0x3FF
  base : m.sqe.cdw14 = 0 ∧ m.sqe.cdw15 = 0
  there : nsOf m.sqe.nsid u = some ns

/-- A Replicate command of its own action does what the action says, with the SNAPID and the chip that it names. -/
theorem repCmd_runs (h : AsksReplicate slot a t m ns u s) (ha : a ≤ 4) (f : Task → HbMsg → Nat → Nat → State → State) :
    repCmd slot.val a f s = f t m (snapNamed m.sqe) m.sqe.cdw11 u := by
  obtain ⟨hruns, haction, hchip, ⟨h14, h15⟩, hns⟩ := h
  have hcmd : slotCmd slot.val true 0xC2 s = some m := hruns.1.1
  have hact : m.sqe.cdw10 % 16 = a := by omega
  have fields : ¬ (4 < m.sqe.cdw10 ∨ 0x3FF < m.sqe.cdw11 ∨ (a ≠ 0 ∧ (m.sqe.cdw14 ≠ 0 ∨ m.sqe.cdw15 ≠ 0)) ∨ (nsOf m.sqe.nsid u).isNone = true) := by
    rw [hns]
    simp only [Option.isNone_some, Bool.false_eq_true, or_false]
    omega
  unfold repCmd
  simp only [hcmd, hact, ne_eq, not_true_eq_false, false_and, if_false]
  rw [adminCmd_runs hruns]
  exact if_neg fields

section
variable (h : AsksReplicate slot 0 t m ns u s)
include h

/-- A full session to a paired chip, with none beside it that it would clash with and a place left in the queue, begins without its slot. -/
theorem opReplicateStart_begins (hp : (pairingsOf m.sqe.nsid u).find? (·.chip == m.sqe.cdw11) = some p)
    (hsn : usable m.sqe.nsid (snapNamed m.sqe) u = some sn) (hrep : ns.replica = false) (hclash : sessClash (snapNamed m.sqe) p u = false)
    (hqueue : queuedCount u < 1024) : opReplicateStart slot s = beginSess (snapNamed m.sqe) 0 p (some t) (freeSlot slot.val u) := by
  obtain ⟨h14, h15⟩ := h.base
  have source : ((nsOf m.sqe.nsid u).map (·.replica)).getD false = false := by simp [h.there, hrep]
  have room : ¬ ((sessClash (snapNamed m.sqe) p u || decide (1024 ≤ queuedCount u)) = true) := by simp [hclash, hqueue]
  rw [opReplicateStart, repCmd_runs h (by omega)]
  simp only [hp, hsn, h14, h15, source, Nat.zero_mul, Nat.add_zero, beq_self_eq_true, Bool.true_or, Bool.not_true, Bool.or_self, Bool.false_eq_true,
    if_false, if_neg room]

theorem opReplicateStart_of_unpaired (hp : (pairingsOf m.sqe.nsid u).find? (·.chip == m.sqe.cdw11) = none) :
    opReplicateStart slot s = doneSlot slot.val stInvalidField u := by
  rw [opReplicateStart, repCmd_runs h (by omega)]
  simp only [hp]

end

/-- Pause, resume and cancel of a session that has not ended act on it and answer its number. -/
theorem onNamed_acts {i id chip : Nat} (hx : namedSess m.sqe.nsid id chip u = some x) (hlive : sessEnded x = false) (f : Session → State → State) :
    onNamed i f m id chip u = doneSlot i { dw0 := x.num } (settleSessions (f x u)) := by
  have named : (namedSess m.sqe.nsid id chip u).filter (fun x => !sessEnded x) = some x := by simp [hx, hlive]
  unfold onNamed
  simp only [named]

section
variable (hx : namedSess m.sqe.nsid (snapNamed m.sqe) m.sqe.cdw11 u = some x)
include hx

theorem opReplicatePause_pauses (h : AsksReplicate slot 1 t m ns u s) (hlive : sessEnded x = false) (hst : x.st = .running) :
    opReplicatePause slot s = doneSlot slot.val { dw0 := x.num } (settleSessions (recordSess { x with st := .paused } u)) := by
  rw [opReplicatePause, repCmd_runs h (by omega), onNamed_acts hx hlive, if_pos hst]

/-- A session as it opens again: it runs where a place is free and queues where none is, and nothing of it is on its way. -/
def Session.resumed (x : Session) (s : State) : Session :=
  { x with st := if runningCount s < 64 then .running else .queued, sends := 1, mine := true, ready := false, flight := [], todo := [], owed := [] }

theorem opReplicateResume_resumes (h : AsksReplicate slot 2 t m ns u s) (hlive : sessEnded x = false) (hst : x.st = .paused) :
    opReplicateResume slot s =
      doneSlot slot.val { dw0 := x.num } (settleSessions (sendOpen (x.resumed u) (recordSess (x.resumed u) u))) := by
  rw [opReplicateResume, repCmd_runs h (by omega), onNamed_acts hx hlive, if_neg (not_not.mpr hst)]
  rfl

theorem opReplicateCancel_cancels (h : AsksReplicate slot 3 t m ns u s) (hlive : sessEnded x = false) :
    opReplicateCancel slot s = doneSlot slot.val { dw0 := x.num } (settleSessions (closeSess x .cancelled 0 u)) := by
  rw [opReplicateCancel, repCmd_runs h (by omega), onNamed_acts hx hlive]

theorem opReplicateStatus_answers (h : AsksReplicate slot 4 t m ns u s) :
    opReplicateStatus slot s = doneSlot slot.val { dw0 := x.num } (sendData m (statusRecord x) u) := by
  rw [opReplicateStatus, repCmd_runs h (by omega)]
  simp only [hx]

end

theorem opReplicateStatus_of_unknown (h : AsksReplicate slot 4 t m ns u s) (hx : namedSess m.sqe.nsid (snapNamed m.sqe) m.sqe.cdw11 u = none) :
    opReplicateStatus slot s = doneSlot slot.val stInvalidField u := by
  rw [opReplicateStatus, repCmd_runs h (by omega)]
  simp only [hx]

end

/-! ### The schedule (R309) -/

section
variable {nsid id : Nat} {ns : Namespace} {p : Pairing} {ps : List Pairing} {s v : State}
variable (hdue : kget 0 s.arr.schedule nsid ≠ 0) (hns : nsOf nsid s = some ns) (hown : (owns (groupOfNs nsid s) s || solo s) = true)
include hdue hns hown

/-- A schedule runs at the head that owns the group of a namespace that is there. -/
theorem schedule_runs : ¬ (kget 0 s.arr.schedule nsid = 0 ∨ (nsOf nsid s).isNone = true ∨ (!(owns (groupOfNs nsid s) s || solo s)) = true) := by
  simp [hdue, hns, hown]

theorem opRepSchedule_skips (hfull : snapLimit nsid s = true) :
    opRepSchedule nsid none s = recordFw Ev.REPL_SKIPPED srcSUP 0 (pack [(4, nsid)]) s :=
  (if_neg (schedule_runs hdue hns hown)).trans (if_pos hfull)

variable (hroom : snapLimit nsid s = false) (hmade : makeSnap nsid true s = (id, v))
include hroom hmade

theorem opRepSchedule_of_unpaired (hp : pairingsOf nsid (autoDelete nsid v) = []) : opRepSchedule nsid none s = autoDelete nsid v := by
  rw [opRepSchedule, if_neg (schedule_runs hdue hns hown), if_neg (ne_true_of_eq_false hroom), hmade]
  simp only [hp]

/-- With no choice of the policy's the session goes to the first paired chip. -/
theorem opRepSchedule_starts (hp : pairingsOf nsid (autoDelete nsid v) = p :: ps) (hclash : sessClash id p (autoDelete nsid v) = false)
    (hqueue : queuedCount (autoDelete nsid v) < 1024) :
    opRepSchedule nsid none s = beginSess id (deltaBase nsid p.chip (autoDelete nsid v)) p none (autoDelete nsid v) := by
  have room : ¬ ((sessClash id p (autoDelete nsid v) || decide (1024 ≤ queuedCount (autoDelete nsid v))) = true) := by simp [hclash, hqueue]
  rw [opRepSchedule, if_neg (schedule_runs hdue hns hown), if_neg (ne_true_of_eq_false hroom), hmade]
  simp only [hp, ite_self, Bool.false_eq_true, if_false, if_neg room]

end

/-- Settles O41: each command is its operation's body, and the hypotheses of a clause choose the branch. -/
theorem replicateCommands : Obligations.ReplicateCommands := by
  unfold Obligations.ReplicateCommands
  intro slot t m ns p x sn nsid u s i n id chip runs names made v
  have asked : ∀ {a}, runs a → AsksReplicate slot a t m ns u s := fun ⟨hruns, haction, hchip, h14, h15, hns⟩ =>
    ⟨hruns, haction, hchip, ⟨h14, h15⟩, hns⟩
  refine ⟨fun h hp hsn hrep hclash hqueue => ?start, fun h hp => ?unpaired, fun h ⟨hx, hlive⟩ hst => ?pause, fun h ⟨hx, hlive⟩ hst => ?resume,
    fun h ⟨hx, hlive⟩ => ?cancel, fun h hx => ?status, fun h hx => ?statusUnknown,
    fun hdue hns hown hroom => ⟨fun ps hp hclash hqueue => ?scheduled, fun hp => ?scheduledUnpaired⟩, fun hdue hns hown hfull => ?skipped⟩
  case start => exact next_congr (opReplicateStart_begins (asked h) hp hsn hrep hclash hqueue)
  case unpaired => exact next_congr (opReplicateStart_of_unpaired (asked h) hp)
  case pause => exact next_congr (opReplicatePause_pauses hx (asked h) hlive hst)
  case resume => exact next_congr (opReplicateResume_resumes hx (asked h) hlive hst)
  case cancel => exact next_congr (opReplicateCancel_cancels hx (asked h) hlive)
  case status => exact next_congr (opReplicateStatus_answers hx (asked h))
  case statusUnknown => exact next_congr (opReplicateStatus_of_unknown (asked h) hx)
  case scheduled => exact next_congr (opRepSchedule_starts hdue hns hown hroom Prod.mk.eta.symm hp hclash hqueue)
  case scheduledUnpaired => exact next_congr (opRepSchedule_of_unpaired hdue hns hown hroom Prod.mk.eta.symm hp)
  case skipped => exact next_congr (opRepSchedule_skips hdue hns hown hfull)

end Sys2Proof.Machine
end

section
/-! PROOFS. Replication messages at the source, at the target and between peers (R298, R308, R310, R311, R313 to R318, R320). -/

namespace Sys2Proof.Machine

open Sys2Proof

/-! ### The first answer to a session (R310, R311, R318) -/

section
variable {m : RepMsg} {x : Session} {f : Nat × List RepEntry} {s : State}

/-- A session whose REP_OPEN was answered: it goes on from the lower of the two addresses, and nothing of it is on its way. -/
def Session.answered (x : Session) (m : RepMsg) : Session :=
  { x with sends := 0, wait := 10, winKey := m.winKey, winGen := m.winGen, resume := min x.acked m.resume, acked := min x.acked m.resume,
           ready := false, todo := [], flight := [], owed := [] }

/-- A session that its first answer starts: it runs where a place is free and queues where none is. -/
def Session.begun (x : Session) (m : RepMsg) (s : State) : Session :=
  { x.answered m with st := if runningCount s < 64 then .running else .queued, task := none }

section
variable (hx : srcSess m s = some x)
include hx

section
variable (hs : x.sends ≠ 0)
include hs

theorem opRepOpenReply_starts (hr : m.result = 0) (hst : x.st = .opening) :
    opRepOpenReply m s =
      settleSessions (answerStart x { dw0 := x.num } (markUse (x.begun m s) true (recordSess (x.begun m s) s))) := by
  unfold opRepOpenReply
  simp only [hx, if_neg hs, hr, hst, ne_eq, not_true_eq_false, if_false, if_true]
  rfl

theorem opRepOpenReply_goes_on (hr : m.result = 0) (hst : x.st ≠ .opening) :
    opRepOpenReply m s = settleSessions (setSess (x.answered m) s) := by
  unfold opRepOpenReply
  simp only [hx, if_neg hs, hr, if_neg hst, ne_eq, not_true_eq_false, if_false]
  rfl

theorem opRepOpenReply_fails (hr : m.result ≠ 0) (hst : x.st = .opening) :
    opRepOpenReply m s = answerStart x { dw0 := x.num }
      (recordSess { x with st := .failed, reason := refusalReason m.result s, sends := 0, task := none } (tickFree s)) := by
  unfold opRepOpenReply
  simp only [hx, if_neg hs, if_pos hr, hst, if_true]

end

/-! ### Batches, the commit and the close at the source (R311, R315, R316, R318) -/

theorem opRepNeed_ships (hf : x.flight.find? (·.1 == m.batch) = some f) (hr : m.result ≠ 5) :
    opRepNeed m s = settleSessions (forEach m.need (fun i s => shipEntry x.num m.batch i s)
      (setSess { x with found := x.found + (if m.index = 0 then foundBytes f.2 m.need else 0) } s)) := by
  unfold opRepNeed
  simp only [hx, hf, if_neg hr]

theorem opRepNeed_of_full (hf : x.flight.find? (·.1 == m.batch) = some f) (hr : m.result = 5) :
    opRepNeed m s = settleSessions (closeSess x .failed 6 s) := by
  unfold opRepNeed
  simp only [hx, hf, if_pos hr]

/-- A session whose batch `b`, of the entries `es`, the target acknowledged. -/
def Session.batchAcked (x : Session) (b : Nat) (es : List RepEntry) (s : State) : Session :=
  let rest := x.flight.filter (·.1 != b)
  { x with flight := rest, owed := x.owed.filter (·.1 != b), acked := ackedAddr x rest es,
           ackedBytes := x.ackedBytes + (es.filter (fun e => !e.trim)).foldl (fun n e => n + e.len) 0, lastAck := opsec s }

theorem opRepBatchAck_acks (hf : x.flight.find? (·.1 == m.batch) = some f) (hr : m.result ≠ 5) :
    let a := x.batchAcked m.batch f.2 s
    opRepBatchAck m s = settleSessions (if a.ckptBytes + 2 ^ 30 ≤ a.ackedBytes then checkpoint a s else setSess a s) := by
  unfold opRepBatchAck Session.batchAcked
  simp only [hx, hf, if_neg hr]

/-- A session that is DONE gives the snapshot it shipped its LAST_TARGET, if that snapshot still stands. -/
theorem opRepCommitReply_ends (hst : x.st = .committing) (hr : m.result = 0) {e : State} (he : endSess x .done 0 s = e) :
    (∀ y, snapOf x.snapid e = some y → opRepCommitReply m s =
      settleSessions (autoDelete (snapNs x.snapid) (transact none [.snapPut { y with lastTarget := x.chip }] e))) ∧
    (snapOf x.snapid e = none → opRepCommitReply m s = settleSessions (autoDelete (snapNs x.snapid) e)) := by
  have replied : ¬ (m.result = 5) ∧ ¬ (m.result ≠ 0) := by omega
  unfold opRepCommitReply
  simp only [hx, if_neg (not_not.mpr hst), if_neg replied.1, if_neg replied.2, he]
  exact ⟨fun y hy => by rw [hy], fun hy => by rw [hy]⟩

theorem opRepClose_fails (hr : m.result ≠ 0) : opRepClose m s = settleSessions (endSess x .failed m.reason s) := by
  unfold opRepClose
  simp only [if_neg hr, hx]

end

section
variable (hx : (sessOf x.num s).filter (fun x => x.mine && !sessEnded x) = some x) (hst : x.st = .opening)
include hx hst

theorem opRepOpenRetry_sends (h3 : x.sends < 3) : opRepOpenRetry x.num s = sendOpen x (setSess { x with sends := x.sends + 1 } s) := by
  unfold opRepOpenRetry
  simp only [hx, if_pos hst, if_pos h3]

theorem opRepOpenRetry_gives_up (h3 : 3 ≤ x.sends) :
    opRepOpenRetry x.num s = answerStart x stUnreachable (onArr (fun a => { a with sessions := a.sessions.filter (·.num != x.num) }) s) := by
  unfold opRepOpenRetry
  simp only [hx, if_pos hst, if_neg (Nat.not_lt.mpr h3)]

end

end

/-! ### Messages at the target (R308, R311, R313 to R317) -/

section
variable {m : RepMsg} {x : InSession} {b : InBatch} {e : RepEntry} {z k : List Byte} {s v : State}

/-- A message of a session that this head is the target of is taken here. -/
theorem routeRep_of_session {typ : Nat} (ht : typ ≠ 0x10) (hx : inSess m s = some x) : routeRep typ m s = targetMsg typ m s :=
  if_pos (by simp [ht, hx])

theorem routeRep_opens (hown : owns (groupOfNs m.dstNsid s) s = true) : routeRep 0x10 m s = targetOpen m s :=
  if_pos (by simp [hown])

theorem routeRep_open_passes (hown : owns (groupOfNs m.dstNsid s) s = false) (hsolo : solo s = false) :
    routeRep 0x10 m s = sendPartner (.rep 0x10 m) s :=
  if_neg (by simp [hown, hsolo])

/-- REP_OPEN_REPLY of a target, with its RESULT and the window key it gives. -/
def openAnswer (m : RepMsg) (winKey : Nat) (s : State) : RepMsg :=
  { result := openResult m s, session := m.session, snapid := ((latestReplica m.dstNsid s).map (·.sourceSnapid)).getD 0, winKey := winKey }

theorem targetOpen_refuses (hr : openResult m s ≠ 0) : targetOpen m s = sendRep m.chip 0x11 (openAnswer m 0 s) s := if_pos hr

/-- The target session that a REP_OPEN begins. -/
def sessionOpened (m : RepMsg) (k : List Byte) : InSession :=
  { num := m.session, chip := m.chip, nsid := m.dstNsid, srcNsid := m.srcNsid, snapid := m.snapid, base := m.base, winKey := ofLe k }

theorem targetOpen_begins (hr : openResult m s = 0)
    (hnew : s.arr.inSessions.find? (fun y => y.nsid == m.dstNsid && y.num == m.session && y.snapid == m.snapid && !y.done) = none)
    (hk : drawBytes 4 s = (k, v)) :
    targetOpen m s = sendRep m.chip 0x11 (openAnswer m (ofLe k) s)
      (onArr (fun a => { a with inSessions := a.inSessions.filter (fun y => !(y.nsid == m.dstNsid && y.done)) ++ [sessionOpened m k] }) v) := by
  unfold targetOpen
  rw [if_neg (not_not.mpr hr), hnew, hk]
  rfl

/-- A target session dropped, with the holds its batches took. -/
def sessionDropped (x : InSession) (s : State) : State :=
  onArr (fun a => { a with inSessions := a.inSessions.filter (fun y => !(y.nsid == x.nsid && y.num == x.num && !y.done)) }) (releaseIn x s)

/-- The bytes that the entries of a REP_FPS would write. -/
def listedBytes (es : List RepEntry) : Nat := (es.filter (fun e => !e.trim)).foldl (fun n e => n + e.len) 0

section
variable (hx : inSess m s = some x)
include hx

section
variable (hnew : x.batches.any (·.batch == m.batch) = false) (hd : x.done = false)
include hnew hd

theorem targetFps_of_full (hfull : noSpace (listedBytes m.entries) s = true) :
    targetFps m s = sendRep m.chip 0x13 { result := 5, session := m.session, batch := m.batch } s := by
  unfold listedBytes at hfull
  unfold targetFps
  simp only [hx, hd, hnew, hfull, Bool.or_self, Bool.false_eq_true, if_false, if_true]

theorem targetFps_confirms (hroom : noSpace (listedBytes m.entries) s = false)
    (hc : confirmEntries x (kdOf x.nsid s) (dedupNs x.nsid s) m.entries.zipIdx { batch := m.batch, entries := m.entries } s = (b, v)) :
    targetFps m s = settleTargets
      (sendRep m.chip 0x13 { session := m.session, batch := m.batch, need := b.need } (setIn { x with batches := x.batches ++ [b] } v)) := by
  unfold listedBytes at hroom
  unfold targetFps
  simp only [hx, hd, hnew, hroom, Bool.or_self, Bool.false_eq_true, if_false]
  rw [hc]

end

/-- The REPLICA_POINT snapshot that a commit makes at the next point. -/
def replicaSnap (m : RepMsg) (x : InSession) (s : State) : Snapshot :=
  { snapid := x.nsid * 2 ^ 32 + kget 0 s.arr.snapSerial x.nsid + 1, point := newPoint s, created := opsec s, replicaPoint := true,
    sourceSnapid := m.snapid }

/-- A batch with the entry `i` no longer needed. -/
def InBatch.got (b : InBatch) (i : Nat) : InBatch := { b with need := b.need.filter (· != i) }

section
variable (hb : x.batches.find? (·.batch == m.batch) = some b) (he : (b.entries[m.index]?).filter (fun _ => b.need.contains m.index) = some e)
include hb he

theorem targetData_places (hz : checkFrame x e m s = some z) (hdd : dedupNs x.nsid s = true) (hst : storeFrame x e e.chunkLen z s = (true, v)) :
    targetData m s = setBatch x (b.got m.index) v := by
  unfold targetData InBatch.got
  simp only [hx, hb, he, hz, hdd, Bool.not_true, Bool.false_eq_true, if_false]
  rw [hst]

theorem targetData_keeps_raw (hz : checkFrame x e m s = some z) (hdd : dedupNs x.nsid s = false) :
    targetData m s = setBatch x { b.got m.index with raw := b.raw ++ [(m.index, e.chunkLen, z)] } s := by
  unfold targetData InBatch.got
  simp only [hx, hb, he, hz, hdd, Bool.not_false, if_true]

/-- A frame that fails a check is asked for again while the requests for it stay below three. -/
theorem targetData_asks_again (hz : checkFrame x e m s = none) (hn : kget 0 b.tries m.index < 2) :
    let n := kget 0 b.tries m.index + 1
    targetData m s = sendRep m.chip 0x13 { session := m.session, batch := m.batch, need := [m.index], index := n }
      (setBatch x { b with tries := kput b.tries m.index n } s) := by
  have more : kget 0 b.tries m.index + 1 < 3 := by omega
  unfold targetData
  simp only [hx, hb, he, hz, if_pos more]

end

section
variable (hd : x.done = false)
include hd

/-- With every batch acknowledged the commit makes the REPLICA_POINT snapshot. -/
theorem targetCommit_makes_point (hnone : x.batches = []) (hroom : snapLimit x.nsid s = false) (hfirst : latestReplica x.nsid s = none) :
    targetCommit m s = sendRep m.chip 0x17 { result := 0, session := m.session, snapid := m.snapid } (setIn { x with done := true }
      (transact (some (groupOfNs x.nsid s)) [.snapPut (replicaSnap m x s)] s)) := by
  unfold targetCommit replicaSnap
  simp only [hx, hd, hnone, hroom, hfirst, List.isEmpty_nil, Bool.not_true, Bool.false_eq_true, if_false]

theorem targetClose_drops : targetClose m s = sessionDropped x s := by
  unfold targetClose
  simp only [hx, hd, Bool.false_eq_true, if_false]
  rfl

end

end

end

/-! ### Lost chunks asked of peers (R298, R320) -/

section
variable {m : RepMsg} {y : IndexEntry} {l : Loc} {s : State}

/-- The LIVE chunk of this array that a REP_FETCH names. -/
def chunkFetched (m : RepMsg) (s : State) : Option IndexEntry :=
  s.arr.index.find? (fun e => e.fp == m.fp && e.kd == kdOf m.dstNsid s && e.state == .live && !e.lost &&
    (match e.kind with | .chunk _ => true | _ => false))

/-- REP_FETCH_REPLY of a peer, with its RESULT and CRD. -/
def peerAnswer (m : RepMsg) (result crd : Nat) (s : State) : State :=
  sendRep m.chip 0x1A { result := result, session := m.session, fp := m.fp, crd := crd } s

/-- REP_DATA of a peer: the frame under the session's key, and the session's next sequence number. -/
def peerShips (m : RepMsg) (x : InSession) (key chunkLen : Nat) (z : List Byte) (s : State) : State :=
  sendRep m.chip 0x14
    { session := m.session, fp := m.fp, chunkLen := chunkLen, counter := x.seq, frame := sessCtr key m.session (ownChip s) x.seq z s }
    (setIn { x with seq := x.seq + 1 } s)

theorem opRepFetch_of_other_salt (hp : m.probe ≠ saltProbe m.dstNsid s) : opRepFetch m s = peerAnswer m 3 0 s := if_pos hp

section
variable (hp : m.probe = saltProbe m.dstNsid s) (hy : chunkFetched m s = some y) (hk : y.kind = .chunk l)
include hp hy hk

/-- A frame on a sleeping shelf: NOT_READY with its delay, and a wake is asked for. -/
theorem opRepFetch_of_asleep (ha : ((steepOf l.stripe s).isNone && !shelfReads l.shelf s) = true) :
    opRepFetch m s = peerAnswer m 6 (crdOf l.shelf s) (requestWake l.shelf .rep s) := by
  unfold opRepFetch
  rw [if_neg (not_not.mpr hp)]
  dsimp only
  split
  next hnone => cases hnone.symm.trans hy
  next e he =>
    obtain rfl : e = y := Option.some.inj (he.symm.trans hy)
    simp only [hk, if_pos ha, peerAnswer]

theorem opRepFetch_ships {x : InSession} {z : List Byte} {cl key : Nat} (ha : ¬ ((steepOf l.stripe s).isNone && !shelfReads l.shelf s) = true)
    (hz : readFrame l y.frameLen s = some (z, cl)) (hkey : sessKey m.chip m.session s = some key)
    (hx : s.arr.inSessions.find? (fun x => x.chip == m.chip && x.num == m.session) = some x) :
    opRepFetch m s = peerAnswer m 0 0 (peerShips m x key cl z s) := by
  unfold opRepFetch
  rw [if_neg (not_not.mpr hp)]
  dsimp only
  split
  next hnone => cases hnone.symm.trans hy
  next e he =>
    obtain rfl : e = y := Option.some.inj (he.symm.trans hy)
    simp only [hk, if_neg ha, hz, hkey, hx, peerAnswer, peerShips]

end

section
variable {l : Lost} (hl : s.arr.lost.find? (fun l => l.fp == m.fp && (l.peers.head?).any (fun p => p.chip == m.chip)) = some l)
include hl

theorem opRepFetchReply_of_not_ready (hr : m.result = 6) : opRepFetchReply m s = askPeer l s := by
  unfold opRepFetchReply
  simp only [hl, if_pos hr]

theorem opRepFetchReply_asks_next (hr : m.result ≠ 0) (h6 : m.result ≠ 6) :
    opRepFetchReply m s = askPeer { l with peers := l.peers.drop 1 } (setLost { l with peers := l.peers.drop 1 } s) := by
  unfold opRepFetchReply
  simp only [hl, if_neg h6, if_pos hr]

end

end

/-- Settles O42: each message is its operation's body at the session it names, and the hypotheses of a clause choose the branch. -/
theorem replicationSourceAndTarget : Obligations.ReplicationSourceAndTarget := by
  unfold Obligations.ReplicationSourceAndTarget
  constructor
  · intro m x f s mine lo y z stands rest a
    refine ⟨fun hx hs hr hst => ?started, fun hx hs hr hst => ?goesOn, fun hx hs hr hst => ?refused,
      fun hx hst => ⟨fun h3 => ?openedAgain, fun h3 => ?unreachable⟩, fun hx hf hr => ?needed, fun hx hf hr => ?full, fun hx hf hr => ?acked, rfl,
      fun hx hst hr => ?committed, fun hx hr => ?closed⟩
    case started => exact next_congr (opRepOpenReply_starts hx hs hr hst)
    case goesOn => exact next_congr (opRepOpenReply_goes_on hx hs hr hst)
    case refused => exact next_congr (opRepOpenReply_fails hx hs hr hst)
    case openedAgain => exact next_congr (opRepOpenRetry_sends hx hst h3)
    case unreachable => exact next_congr (opRepOpenRetry_gives_up hx hst h3)
    case needed => exact next_settleLost_congr (opRepNeed_ships hx hf hr)
    case full => exact next_settleLost_congr (opRepNeed_of_full hx hf hr)
    case acked => exact next_congr (opRepBatchAck_acks hx hf hr)
    case committed =>
      obtain ⟨stands, gone⟩ := opRepCommitReply_ends hx hst hr rfl
      exact ⟨fun sn hsn => next_congr (stands sn hsn), fun hsn => next_congr (gone hsn)⟩
    case closed => exact next_congr (opRepClose_fails hx hr)
  · intro m x b e z k s s1 reply here fresh new_ g
    refine ⟨fun hown => ⟨fun hr => ?openRefused, fun hr hnew hk => ?opened⟩, fun hown hsolo => ?openPassed,
      fun ⟨hx, hd⟩ hnew => ⟨fun hfull => ?batchFull, fun hroom => ?confirmed⟩,
      fun ⟨hx, _⟩ hb he => ⟨fun hz hdd hst => ?placed, fun hz hdd => ?raw, fun hz hn => ?askedAgain⟩,
      fun ⟨hx, hd⟩ hnone hroom hfirst => ?replicaPoint, fun ⟨hx, hd⟩ hr => ?dropped, fun hp => ?otherSalt,
      fun y l cl key hp hy hk => ⟨fun ha => ?asleep, fun ha hz hkey hx => ?shipped⟩, fun l hl => ⟨fun hr => ?notReady, fun hr h6 => ?nextPeer⟩⟩
    case openRefused => exact next_congr ((routeRep_opens hown).trans (targetOpen_refuses hr))
    case opened => exact next_congr ((routeRep_opens hown).trans (targetOpen_begins hr hnew hk))
    case openPassed => exact next_congr (routeRep_open_passes hown hsolo)
    case batchFull => exact next_settleLost_congr ((routeRep_of_session (by decide) hx).trans (targetFps_of_full hx hnew hd hfull))
    case confirmed =>
      exact next_settleLost_congr ((routeRep_of_session (by decide) hx).trans (targetFps_confirms hx hnew hd hroom Prod.mk.eta.symm))
    case placed =>
      exact next_congr ((routeRep_of_session (by decide) hx).trans (congrArg settleTargets (targetData_places hx hb he hz hdd hst)))
    case raw => exact next_congr ((routeRep_of_session (by decide) hx).trans (congrArg settleTargets (targetData_keeps_raw hx hb he hz hdd)))
    case askedAgain => exact next_congr ((routeRep_of_session (by decide) hx).trans (congrArg settleTargets (targetData_asks_again hx hb he hz hn)))
    case replicaPoint => exact next_congr ((routeRep_of_session (by decide) hx).trans (targetCommit_makes_point hx hd hnone hroom hfirst))
    case dropped => exact next_congr ((if_pos hr).trans ((routeRep_of_session (by decide) hx).trans (targetClose_drops hx hd)))
    case otherSalt => exact next_settleLost_congr (opRepFetch_of_other_salt hp)
    case asleep => exact next_settleLost_congr (opRepFetch_of_asleep hp hy hk ha)
    case shipped => exact next_settleLost_congr (opRepFetch_ships hp hy hk ha hz hkey hx)
    case notReady => exact next_arSettle_congr (opRepFetchReply_of_not_ready hl hr)
    case nextPeer => exact next_arSettle_congr (opRepFetchReply_asks_next hl hr h6)

end Sys2Proof.Machine
end

section
/-! PROOFS. The partner link, heartbeat and fence registers (R340, R342, R344, R353, R356, R361). -/

namespace Sys2Proof.Machine

open Sys2Proof

/-! ### Writes of the PNL block -/

section
variable {who : CoreId} {a : Nat} {v : Word} {failing : List Nat} {s : State}

/-- An accepted write of the PNL block services IRQ line 0, then stores and acts. -/
theorem regCmd_pnl (h : Accepts who a v s) (hb : blockOf a = 9) : regCmd who a v failing s = writePnl a v failing (clearIrq 0 s) :=
  (regCmd_always_on h (by omega)).trans (writeReg_pnl hb)

theorem writePnl_link : writePnl 0x200009000000 v failing s =
    if wbit v 2 then loopbackNow failing (storeWord 0x200009000000 v s) else storeWord 0x200009000000 v s := rfl

theorem writePnl_heart : writePnl 0x200009000020 v failing s =
    if wbit v 1 then kickDog (setHeart (wbit v 0) (storeWord 0x200009000020 v s)) else setHeart (wbit v 0) (storeWord 0x200009000020 v s) := rfl

end

/-! ### PNL_FENCE_CTL (R344, R356, R361) -/

/-- What each command bit of PNL_FENCE_CTL does: ASSERT, RELEASE, SELF_STOP, PULSE and WIRE_TEST. -/
def fenceAct (b : Nat) : State → State :=
  match b with
  | 2 => assertFence 3
  | 3 => releaseFence
  | 4 => selfStop
  | 5 => pulseFence
  | _ => openWindow

section
variable {who : CoreId} {b cause : Nat} {v : Word} {failing : List Nat} {s : State}

/-- A word with one command bit set does what that bit says, and nothing else. -/
theorem writePnl_fence (hb : b ∈ [2, 3, 4, 5, 6]) (hset : wbit v b = true) (hclear : ∀ k ∈ [2, 3, 4, 5, 6], k ≠ b → wbit v k = false) :
    writePnl 0x200009000028 v failing s = fenceAct b (storeWord 0x200009000028 v s) := by
  have chain : writePnl 0x200009000028 v failing s =
      (let act := fun (k : Nat) (t : State) => if wbit v k then fenceAct k t else t
       act 6 (act 5 (act 4 (act 3 (act 2 (storeWord 0x200009000028 v s)))))) := rfl
  have bit : ∀ k ∈ [2, 3, 4, 5, 6], wbit v k = decide (k = b) := fun k hk => by
    by_cases h : k = b
    · rw [h, hset, decide_eq_true rfl]
    · rw [hclear k hk h, decide_eq_false h]
  simp only [List.forall_mem_cons, List.not_mem_nil, false_implies, implies_true, and_true] at bit
  obtain ⟨h2, h3, h4, h5, h6⟩ := bit
  simp only [List.mem_cons, List.not_mem_nil, or_false] at hb
  rw [chain]
  rcases hb with rfl | rfl | rfl | rfl | rfl <;> simp [h2, h3, h4, h5, h6]

theorem bitCmd_fence (hb : b ∈ [2, 3, 4, 5, 6])
    (h : Accepts who 0x200009000028 (withBit 0x200009000028 b s) s ∧ ∀ k ∈ [2, 3, 4, 5, 6], k ≠ b → wbit (withBit 0x200009000028 b s) k = false) :
    bitCmd who 0x200009000028 b failing s = fenceAct b (storeWord 0x200009000028 (withBit 0x200009000028 b s) (clearIrq 0 s)) := by
  have low : b < 64 := by
    simp only [List.mem_cons, List.not_mem_nil, or_false] at hb
    omega
  exact (regCmd_pnl h.1 (by decide)).trans (writePnl_fence hb (wbit_withBit _ _ _ low) h.2)

theorem assertFence_asserts (hin : rbit F.PNL_FENCE_STATUS_FENCE_IN s = false) (hout : rbit F.PNL_FENCE_STATUS_FENCE_OUT s = false) :
    assertFence cause s =
      disarm (emit (.pin "FENCE_OUT" true) (rset F.PNL_FENCE_STATUS_CAUSE cause (rflag F.PNL_FENCE_STATUS_FENCE_OUT true s))) :=
  if_neg (by simp [hin, hout])

/-- A part whose FENCE_IN is high is the fenced head, and asserts no fence. -/
theorem assertFence_of_fenced (hin : rbit F.PNL_FENCE_STATUS_FENCE_IN s = true) : assertFence cause s = s := if_pos (by simp [hin])

theorem releaseFence_releases (hout : rbit F.PNL_FENCE_STATUS_FENCE_OUT s = true) :
    releaseFence s =
      let u := rflag F.PNL_FENCE_STATUS_FENCE_OUT false (rflag F.PNL_FENCE_STATUS_FENCE_DONE false s)
      disarm (emit (.pin "FENCE_OUT" false) { u with fence := { u.fence with why := 0 } }) :=
  if_neg (by simp [hout])

theorem pulseFence_pulses (hout : rbit F.PNL_FENCE_STATUS_FENCE_OUT s = false) :
    pulseFence s = emit (.pin "FENCE_OUT" false) (emit (.pin "FENCE_OUT" true) s) :=
  if_neg (ne_true_of_eq_false hout)

end

/-- Settles O29: each command reaches its register's write, and the bits of the word that it writes say which of the block's acts follow. -/
theorem partnerAndFenceCommands : Obligations.PartnerAndFenceCommands := by
  unfold Obligations.PartnerAndFenceCommands
  intro who failing s t w only ctl fen hb
  refine ⟨fun h => ?enabled, fun h => ?loopback, fun on h hon hkick => ?heart, fun h hon => ?kick, fun h hin hout => ?asserts, fun h hin => ?fenced,
    fun h hout => ?releases, fun h => ?selfStops, fun h hout => ?pulses, fun h => ?wireTest⟩
  case enabled =>
    have quiet := h.2 2 (by decide) (by decide)
    exact next_congr ((regCmd_pnl h.1 (by decide)).trans (writePnl_link.trans (if_neg (ne_true_of_eq_false quiet))))
  case loopback =>
    exact next_congr ((regCmd_pnl h (by decide)).trans (writePnl_link.trans (if_pos (wbit_withBit _ _ _ (by decide)))))
  case heart =>
    have written := (regCmd_pnl (failing := []) h (by decide)).trans (writePnl_heart.trans (if_neg (ne_true_of_eq_false hkick)))
    rw [hon] at written
    exact next_congr written
  case kick =>
    have written := (regCmd_pnl (failing := []) h (by decide)).trans (writePnl_heart.trans (if_pos (wbit_withBit _ _ _ (by decide))))
    rw [hon] at written
    exact next_congr written
  case asserts => exact next_congr ((bitCmd_fence (by decide) h).trans (assertFence_asserts hin hout))
  case fenced => exact next_congr ((bitCmd_fence (by decide) h).trans (assertFence_of_fenced hin))
  case releases => exact next_congr ((bitCmd_fence (by decide) h).trans (releaseFence_releases hout))
  case selfStops => exact next_congr (bitCmd_fence (by decide) h)
  case pulses => exact next_congr ((bitCmd_fence (by decide) h).trans (pulseFence_pulses hout))
  case wireTest => exact next_congr (bitCmd_fence (by decide) h)

end Sys2Proof.Machine
end

section
/-! PROOFS. Mirror epochs, their replies and resends, and the state copy (R325 to R328, R333, R334, R336, R356). -/

namespace Sys2Proof.Machine

open Sys2Proof

/-! ### Closing the open epoch (R325 to R327) -/

/-- The number of the epoch that opens as this one closes. -/
def nextEpoch (s : State) : Nat := max (rget F.PNL_EPOCH_SEQ_NUMBER s + 1) (s.mir.recvMax + 1)

/-- The next epoch opened, empty, the records of the closed one in force. -/
def epochOpened (s : State) : State :=
  let num := rget F.PNL_EPOCH_SEQ_NUMBER s
  forEach s.mir.opened closeRec (rflag F.PNL_EPOCH_SEQ_HELD_OPEN false (longPeriod (rset F.PNL_EPOCH_SEQ_NUMBER (nextEpoch s)
    { s with mir := { s.mir with opened := [], takes := 0, prev := num } })))

/-- The open epoch as it waits for its REPLY. -/
def epochClosed (s : State) : EpochSt := { num := rget F.PNL_EPOCH_SEQ_NUMBER s, prev := s.mir.prev, recs := s.mir.opened }

/-- An epoch sent in the version of the link, with this head's ACK: first, or again. -/
def sendEpoch (e : EpochSt) (s : State) : State :=
  emit (.epoch { mpv := rget F.PNL_LINK_STATUS_MPV s, number := e.num, prev := e.prev, ack := s.mir.lastApplied, records := e.recs }) s

section
variable {s : State} (hend : s.mir.seqEnd = false) (hsolo : solo s = false)
include hend hsolo

theorem closeEpoch_of_full (hfull : epochWindow s ≤ s.mir.sent.length) : closeEpoch s = rflag F.PNL_EPOCH_SEQ_HELD_OPEN true s :=
  (if_neg (ne_true_of_eq_false hend)).trans (if_pos (by simp [hsolo, hfull]))

/-- With room in the window the epoch is sent with its number, the previous one and ACK, and waits for its REPLY. -/
theorem closeEpoch_sends (hroom : ¬ epochWindow s ≤ s.mir.sent.length) (hmir : rbit F.PNL_CTL_MIRROR_EN s = true)
    (hnext : nextEpoch s ≤ 0xFFFFFFFFFFFF) (hsolo' : solo (epochOpened s) = false) (hpause : (epochOpened s).mir.sendPaused = false) :
    let t := sendEpoch (epochClosed s) (epochOpened s)
    closeEpoch s = syncSent { t with mir := { t.mir with sent := t.mir.sent ++ [epochClosed s] } } := by
  have more : ¬ 0xFFFFFFFFFFFF < max (rget F.PNL_EPOCH_SEQ_NUMBER s + 1) (s.mir.recvMax + 1) := Nat.not_lt.mpr hnext
  have sends : ¬ ((solo (epochOpened s) && !(epochOpened s).mir.copying) || (epochOpened s).mir.sendPaused) = true := by simp [hsolo', hpause]
  unfold closeEpoch
  rw [if_neg (ne_true_of_eq_false hend), if_neg (by simp [hsolo, hroom]), if_neg (by simp [hmir])]
  dsimp only
  rw [if_neg more]
  change (let u := if ((solo (epochOpened s) && !(epochOpened s).mir.copying) || (epochOpened s).mir.sendPaused) = true then epochOpened s
      else sendEpoch (epochClosed s) (epochOpened s)
    if solo u = true then _ else syncSent { u with mir := { u.mir with sent := u.mir.sent ++ [epochClosed s] } }) = _
  rw [if_neg sends]
  exact if_neg (ne_true_of_eq_false hsolo')

end

/-! ### EPOCH (R328, R333) -/

section
variable {m : EpochMsg} {pend : List ReplyEntry} {s v : State}

/-- The link's state as the records of an epoch are applied: its ACK noted, and it the last one applied. -/
def epochTaken (m : EpochMsg) (s : State) : State :=
  let a := noteAck m.ack s
  { a with mir := { a.mir with lastApplied := m.number, recvMax := max a.mir.recvMax m.number } }

/-- An epoch whose records are applied, kept for repeats and for reads. -/
def epochKept (m : EpochMsg) (s : State) : State :=
  settleShadow (pruneReads { s with
    mir := { s.mir with applied := ({ num := m.number, prev := m.prev, recs := m.records } :: s.mir.applied).take (keptEpochs s) } })

/-- An epoch's REPLY lists the entries of its records that still are PENDING. -/
def epochReplied (m : EpochMsg) (pend : List ReplyEntry) (s : State) : State :=
  sendReply m.number (pend.filter (stillPending s)) (dropHeld pend s)

section
variable (hup : rbit F.PNL_LINK_STATUS_LINK_UP s = true)
include hup

theorem opEpoch_of_bad_crc (hcrc : m.crcOk = false) : opEpoch m s = sendResend s :=
  (if_neg (by simp [hup])).trans (if_pos (by simp [hcrc]))

variable (hcrc : m.crcOk = true)
include hcrc

theorem opEpoch_repeats (hold : m.number ≤ s.mir.lastApplied) :
    opEpoch m s = sendReply m.number ((s.mir.shadowPend.filter (fun p => p.1 == m.number)).map (fun p => ReplyEntry.pending p.1 p.2.1))
      (noteAck m.ack s) :=
  (if_neg (by simp [hup])).trans ((if_neg (by simp [hcrc])).trans (if_pos hold))

variable (hnew : s.mir.lastApplied < m.number)
include hnew

theorem opEpoch_of_misfit (hfits : epochFits m s = false) : opEpoch m s = sendResend s :=
  (if_neg (by simp [hup])).trans ((if_neg (by simp [hcrc])).trans ((if_neg (Nat.not_le.mpr hnew)).trans (if_pos (by simp [hfits]))))

theorem opEpoch_applies (hfits : epochFits m s = true) (happly : applyRecords m.number m.records (epochTaken m s) = (pend, v)) :
    opEpoch m s = afterEpoch (if handsHere m.records s = true then endHandover (epochReplied m pend (epochKept m v))
      else epochReplied m pend (epochKept m v)) := by
  unfold epochTaken at happly
  unfold opEpoch
  rw [if_neg (by simp [hup])]
  dsimp only
  rw [if_neg (by simp [hcrc]), if_neg (Nat.not_le.mpr hnew), if_neg (by simp [hfits]), happly]
  rfl

end

end

/-! ### REPLY, the rounds of a RESEND and a lost REPLY (R328, R334) -/

section
variable {r : ReplyMsg} {n : Nat} {e : EpochSt} {s : State}

theorem opReply_of_bad_crc (hcrc : r.crcOk = false) : opReply r s = s := if_pos (by simp [hcrc])

section
variable (hup : rbit F.PNL_LINK_STATUS_LINK_UP s = true) (hcrc : r.crcOk = true)
include hup hcrc

theorem opReply_confirms (hr : r.resend = false) :
    opReply r s = afterReply r.number (forEach r.entries onEntry (confirmEpoch r.number r.entries (noteAck r.ack s))) :=
  (if_neg (by simp [hup, hcrc])).trans (if_neg (ne_true_of_eq_false hr))

/-- A RESEND outside a round begins one. -/
theorem opReply_resends (hr : r.resend = true) (hround : (noteAck r.ack s).mir.roundFrom = none) :
    opReply r s = resendFrom r.number (noteAck r.ack s) :=
  (if_neg (by simp [hup, hcrc])).trans ((if_pos hr).trans (if_neg (by simp [hround])))

end

section
variable (hround : s.mir.roundFrom = some n)
include hround

theorem opRoundTimeout_eq :
    opRoundTimeout s = if s.mir.ackSeen ≤ n ∧ s.mir.sent.any (fun e => decide (n < e.num)) = true then resendFrom n s
      else { s with mir := { s.mir with roundFrom := none } } := by
  unfold opRoundTimeout
  rw [hround]

theorem opRoundTimeout_resends (hack : s.mir.ackSeen ≤ n) (hsent : s.mir.sent.any (fun e => decide (n < e.num)) = true) :
    opRoundTimeout s = resendFrom n s :=
  (opRoundTimeout_eq hround).trans (if_pos ⟨hack, hsent⟩)

theorem opRoundTimeout_ends (hack : n < s.mir.ackSeen) : opRoundTimeout s = { s with mir := { s.mir with roundFrom := none } } :=
  (opRoundTimeout_eq hround).trans (if_neg fun h => absurd h.1 (Nat.not_le.mpr hack))

end

theorem opReplyLost_sends_again (hsent : s.mir.sent.find? (·.num == n) = some e) (hack : n ≤ s.mir.ackSeen) :
    opReplyLost n s = sendEpoch e s := by
  unfold opReplyLost
  rw [if_neg (Nat.not_lt.mpr hack), hsent]
  rfl

theorem opReplyLost_of_unacked (hack : s.mir.ackSeen < n) : opReplyLost n s = s := if_pos hack

end

/-! ### CPL_FORWARD (R336) -/

section
variable {n i : Nat} {s : State}

/-- A record listed PENDING waits no longer. -/
def noLongerAwaited (n i : Nat) (s : State) : State :=
  { s with mir := { s.mir with await := s.mir.await.filter (fun q => !(q.1 == n && q.2.1 == i)) } }

theorem opCplForward_moves {w : Nat × Nat × ERecord} {rd re by_ : Bool} {id : CmdId} {csn : Nat} {cqe : Cqe} {d : Dirty}
    (hw : s.mir.await.find? (fun p => p.1 == n && p.2.1 == i) = some w) (hcpl : w.2.2.body = .cpl rd re by_ id csn cqe)
    (hd : s.arr.dirty.find? (fun d => d.id == id && d.kind != .zeroes) = some d) (hv : 4 ≤ rget F.PNL_LINK_STATUS_MPV s) :
    let place := fun (b : ERec) (t : State) => (addRec w.2.2.slot w.2.2.group b t).2
    opCplForward n i s = place w.2.2.body (place (.data id (cmdData d (noLongerAwaited n i s))) (noLongerAwaited n i s)) := by
  unfold opCplForward
  simp only [hw, hcpl, hd, if_neg (Nat.not_lt.mpr hv)]
  rfl

/-- A link below version 4 forwards nothing. -/
theorem opCplForward_of_old_version (hv : rget F.PNL_LINK_STATUS_MPV s < 4) : opCplForward n i s = s := by
  unfold opCplForward
  split
  next => rfl
  next p _ =>
    split
    next =>
      split
      next => rfl
      next => exact if_pos hv
    next => rfl

end

/-! ### The state copy (R356) -/

section
variable {s : State}

theorem opStateCopy_of_other (hj : s.mir.joiner = false) (c : CopyMsg) : opStateCopy c s = s := if_pos (by simp [hj])

/-- The joiner with its copy ended. -/
def copyEnded (s : State) : State := { s with mir := { s.mir with copyDone := true } }

theorem opStateCopyDone_of_joiner (hj : s.mir.joiner = true) :
    opStateCopyDone s = if rbit F.PNL_FENCE_STATUS_FENCE_IN s = true then copyEnded s else becomeShadow (copyEnded s) := if_pos hj

theorem opStateCopyDone_of_survivor (hj : s.mir.joiner = false) (hsolo : solo s = true) (hcopy : s.mir.copying = true) :
    opStateCopyDone s = endCopy (releaseFence s) :=
  (if_neg (ne_true_of_eq_false hj)).trans (if_pos (by simp [hsolo, hcopy]))

end

/-- Equal states answer alike once the commits that became durable have followed. -/
theorem next_afterConfirm_congr {s t : State} (h : s = t) : nextState (afterConfirm s) = nextState (afterConfirm t) :=
  congrArg (fun x => nextState (afterConfirm x)) h

/-- Settles O49: each command is its operation, and the hypotheses of a clause say which of its cases holds. -/
theorem mirrorEpochsAndStateCopy : Obligations.MirrorEpochsAndStateCopy := by
  unfold Obligations.MirrorEpochsAndStateCopy
  intro m r n i pend e w rd re by_ id csn cqe d je mr ix v s num nxt c1 c2 c3 full up l a0 a1 a2 a3 again ra rest copyEnd
  refine ⟨fun hend hsolo hroom hmir hnext hsolo' hpause => ?sends, fun hend hsolo hfull => ?heldOpen, fun hend => ?ended,
    fun hup hcrc hnew hfits happly hkeep => ?applies, fun hup hcrc hnew hfits happly hmove => ?handsOver, fun hup hcrc hold => ?repeats,
    fun hup hbad => ?asksResend, fun hup hcrc hr => ?confirms, fun hup hcrc hr hround => ?resends, fun hcrc => ?discards,
    fun hround hack hsent => ?roundAgain, fun hround hack => ?roundEnds, fun hsent hack => ?sentAgain, fun hack => ?unacked,
    fun hw hcpl hd hv => ?forwards, fun hv => ?oldVersion, fun hj => ?copied, fun hj c => ?notJoiner, fun hj => ?joinerDone,
    fun hj hsolo hcopy => ?survivorDone⟩
  case sends => exact next_afterConfirm_congr (closeEpoch_sends hend hsolo hroom hmir hnext hsolo' hpause)
  case heldOpen => exact next_afterConfirm_congr (closeEpoch_of_full hend hsolo hfull)
  case ended => exact next_afterConfirm_congr (if_pos hend)
  case applies =>
    exact next_congr ((opEpoch_applies hup hcrc hnew hfits happly).trans (congrArg afterEpoch (if_neg (ne_true_of_eq_false hkeep))))
  case handsOver => exact next_congr ((opEpoch_applies hup hcrc hnew hfits happly).trans (congrArg afterEpoch (if_pos hmove)))
  case repeats => exact next_congr (opEpoch_repeats hup hcrc hold)
  case asksResend =>
    rcases Bool.eq_false_or_eq_true m.crcOk with hcrc | hcrc
    · have misfit : l < m.number ∧ epochFits m s = false := hbad.resolve_left (by simp [hcrc])
      exact next_congr (opEpoch_of_misfit hup hcrc misfit.1 misfit.2)
    · exact next_congr (opEpoch_of_bad_crc hup hcrc)
  case confirms => exact next_congr (opReply_confirms hup hcrc hr)
  case resends => exact next_congr (opReply_resends hup hcrc hr hround)
  case discards => exact next_congr (opReply_of_bad_crc hcrc)
  case roundAgain => exact next_congr (opRoundTimeout_resends hround hack hsent)
  case roundEnds => exact next_congr (opRoundTimeout_ends hround hack)
  case sentAgain => exact next_congr (opReplyLost_sends_again hsent hack)
  case unacked => exact next_congr (opReplyLost_of_unacked hack)
  case forwards => exact next_congr (opCplForward_moves hw hcpl hd hv)
  case oldVersion => exact next_congr (opCplForward_of_old_version hv)
  case copied =>
    have joins : ¬ (!s.mir.joiner) = true := by simp [hj]
    exact ⟨next_congr (if_neg joins), next_congr (if_neg joins), next_congr (if_neg joins)⟩
  case notJoiner => exact next_congr (opStateCopy_of_other hj c)
  case joinerDone =>
    exact ⟨fun hin => next_congr ((opStateCopyDone_of_joiner hj).trans (if_pos hin)),
      fun hin => next_congr ((opStateCopyDone_of_joiner hj).trans (if_neg (ne_true_of_eq_false hin)))⟩
  case survivorDone => exact next_congr (opStateCopyDone_of_survivor hj hsolo hcopy)

end Sys2Proof.Machine
end

section
/-! PROOFS. The partner link: health words, lanes and their tests, loss and link up (R325, R340, R341, R353, R354, R512). -/

namespace Sys2Proof.Machine

open Sys2Proof

/-! ### Health words (R354) -/

section
variable {w : HealthWord} {s : State}

/-- A health word shown in its register and kept as the latest one. -/
def healthShown (w : HealthWord) (s : State) : State :=
  let t := rset F.PNL_PARTNER_HEALTH_VERSION w.version (rset F.PNL_PARTNER_HEALTH_SEQ w.seq
    (rset F.PNL_PARTNER_HEALTH_FORMAT w.format (rset F.PNL_PARTNER_HEALTH_FLAGS w.flags s)))
  { t with mir := { t.mir with healthLast := w, partnerFirm := w.flags.testBit 2 || w.flags.testBit 4 } }

/-- A word that passes its CRC is shown, and one that differs from the previous one in its flags or retirements becomes a task. -/
theorem opHealth_shows (hcrc : w.crcOk = true) :
    opHealth w s = if s.mir.healthLast.flags = w.flags ∧ s.mir.healthLast.retirement = w.retirement then healthShown w s
      else partnerTask 7 (healthShown w s) :=
  if_neg (by simp [hcrc])

theorem opHealth_of_bad_crc (hcrc : w.crcOk = false) : opHealth w s = s := if_pos (by simp [hcrc])

theorem opHealthSend_sends (ht : mayTalk s = true) :
    let n := (s.mir.healthSeq + 1) % 2 ^ 32
    opHealthSend s = emit (.health (healthWord n s)) { s with mir := { s.mir with healthSeq := n } } :=
  if_neg (by simp [ht])

end

/-! ### Lanes and their tests (R341, R353) -/

section
variable {l : Fin 8} {s : State}

section
variable (hl : laneUp l.val s = true)
include hl

theorem opTest_of_returned (same : Bool) : opTest l true same s = if same = true then s else laneError l.val s := if_neg (by simp [hl])

theorem opTest_returns (ht : mayTalk s = true) (same : Bool) : opTest l false same s = emit (.test l.val true) s :=
  (if_neg (by simp [hl])).trans (if_pos ht)

end

theorem opTestSend_sends {n : Nat} (hn : nextLane s.mir.laneTest s = some n) (ht : mayTalk s = true) :
    opTestSend s = emit (.test n false) { s with mir := { s.mir with laneTest := (n + 1) % 8 } } := by
  unfold opTestSend
  rw [hn]
  exact if_pos ht

/-- A dropped lane that passes its test is no longer held out, and carries traffic where the link is up. -/
theorem opLaneRetrain_passes (hd : (rget F.PNL_LINK_STATUS_LANES_DROPPED s).testBit l.val = true) (hen : rbit F.PNL_CTL_PNL_EN s = true) :
    let back := rputBit F.PNL_LINK_STATUS_LANES_DROPPED l.val false s
    opLaneRetrain l true s =
      if rbit F.PNL_LINK_STATUS_LINK_UP back = true then rputBit F.PNL_LINK_STATUS_LANES_UP l.val true back else back :=
  if_neg (by simp [hd, hen])

end

/-! ### Loss of the link (R341) -/

section
variable {s : State}

theorem opLinkLost_of_up (hup : rbit F.PNL_LINK_STATUS_LINK_UP s = true) : opLinkLost s = linkLossRule (linkDown s) := if_pos hup

/-- A loss of the link has no consequence: it is expected, or HB_IN does not toggle, or the partner is no shadow. -/
def LossQuiet (s : State) : Prop :=
  linkLossQuiet s = true ∨ rbit F.PNL_FENCE_STATUS_HB_IN_LIVE s = false ∨ s.mir.partnerShadow = false

theorem lossQuiet_iff :
    (!rbit F.PNL_FENCE_STATUS_HB_IN_LIVE s || !s.mir.partnerShadow || linkLossQuiet s) = true ↔ LossQuiet s := by
  unfold LossQuiet
  simp only [Bool.or_eq_true, Bool.not_eq_true']
  tauto

theorem linkLossRule_of_quiet (hq : LossQuiet s) : linkLossRule s = s := if_pos (lossQuiet_iff.mpr hq)

section
variable (hq : ¬ LossQuiet s)
include hq

/-- Head B stops itself, and restarts toward rejoin where its Array Runtime can act. -/
theorem linkLossRule_of_b (hslot : headSlot s = 1) :
    let t := record Ev.PARTNER_LINK_LOST srcPNL 0 [] (selfStop s)
    linkLossRule s = if runtimeUp t = true then restartToRejoin t else t :=
  (if_neg (mt lossQuiet_iff.mp hq)).trans (if_pos hslot)

/-- Head A stops sending. -/
theorem linkLossRule_of_a (hslot : headSlot s = 0) : linkLossRule s = { s with mir := { s.mir with sendPaused := true } } :=
  (if_neg (mt lossQuiet_iff.mp hq)).trans (if_neg (by omega))

end

end

/-! ### Link up (R325, R340, R356, R512) -/

section
variable {lanes : BitVec 8} {lo hi period : Nat} {slot : Bool} {s : State}

/-- The lanes that both ends hold aligned and that are not dropped. -/
def lanesAligned (lanes : BitVec 8) (s : State) : Nat := lanes.toNat &&& (0xFF - rget F.PNL_LINK_STATUS_LANES_DROPPED s)

/-- The link up on its aligned lanes, with the partner's strap and highest version. -/
def linkTrained (lanes : BitVec 8) (hi : Nat) (slot : Bool) (s : State) : State :=
  rset F.PNL_LINK_STATUS_PARTNER_MPV_MAX hi (rflag F.PNL_LINK_STATUS_PARTNER_SLOT slot (rset F.PNL_LINK_STATUS_LANES_UP (lanesAligned lanes s)
    (rflag F.PNL_LINK_STATUS_LINK_UP true (rflag F.PNL_LINK_STATUS_FRAMES_OK true s))))

/-- The version of the link, and whether there is a common one. -/
def versionSet (v : Nat) (ok : Bool) (s : State) : State := rset F.PNL_LINK_STATUS_MPV v (rflag F.PNL_LINK_STATUS_VERSION_OK ok s)

/-- The highest common version, the lower of 4 and the partner's highest, is one that both ends still run. -/
def versionFits (lo hi : Nat) : Bool := decide (3 ≤ min 4 hi) && decide (lo ≤ min 4 hi)

theorem versionFits_iff : versionFits lo hi = true ↔ 3 ≤ hi ∧ lo ≤ min 4 hi := by
  simp only [versionFits, Bool.and_eq_true, decide_eq_true_eq]
  omega

/-- What follows at a link that has a version: equal straps form no pair; otherwise the larger period holds, and the heads that can form a pair. -/
def linkVersioned (slot : Bool) (period : Nat) (s : State) : State :=
  if slot == (headSlot s == 1) then
    let s := recordFw Ev.REJOIN_REFUSED srcPNL 0 [] s
    if solo s then s else rflag F.PNL_CTL_MIRROR_EN false { s with chip := { s.chip with noPair := true } }
  else
    let s := setPeriod period s
    if s.mir.partnerShadow || solo s || s.chip.noPair || s.mir.refused then s
    else if rbit F.PNL_FENCE_STATUS_FENCE_IN s then { s with mir := { s.mir with joiner := true } }
    else formPair s

section
variable (htrains : rbit F.PNL_CTL_PNL_EN s = true ∧ lanesAligned lanes s ≠ 0 ∧ islandRuns 18 s = true)
include htrains

theorem opLinkUp_trains :
    opLinkUp lanes lo hi slot period s =
      let t := versionSet (if versionFits lo hi then min 4 hi else 0) (versionFits lo hi) (linkTrained lanes hi slot s)
      if (!versionFits lo hi) = true then recordFw Ev.PARTNER_VERSION_REFUSED srcPNL 0 [] t else linkVersioned slot period t := by
  obtain ⟨hen, hmask, hrun⟩ := htrains
  unfold lanesAligned at hmask
  unfold opLinkUp versionFits linkVersioned versionSet linkTrained lanesAligned
  dsimp only
  rw [if_neg (by simp [hen, hmask, hrun])]

/-- Without a common version the link carries none. -/
theorem opLinkUp_refuses_version (hfits : ¬ (3 ≤ hi ∧ lo ≤ min 4 hi)) :
    opLinkUp lanes lo hi slot period s = recordFw Ev.PARTNER_VERSION_REFUSED srcPNL 0 [] (versionSet 0 false (linkTrained lanes hi slot s)) := by
  have none_ : versionFits lo hi = false := eq_false_of_ne_true (mt versionFits_iff.mp hfits)
  rw [opLinkUp_trains htrains, none_]
  exact if_pos rfl

theorem opLinkUp_of_version (hfits : 3 ≤ hi ∧ lo ≤ min 4 hi) :
    opLinkUp lanes lo hi slot period s = linkVersioned slot period (versionSet (min 4 hi) true (linkTrained lanes hi slot s)) := by
  rw [opLinkUp_trains htrains, versionFits_iff.mpr hfits]
  exact if_neg Bool.false_ne_true

end

/-- Equal straps form no pair. -/
theorem linkVersioned_of_equal_straps (hslot : (slot == (headSlot s == 1)) = true) (hsolo : solo (recordFw Ev.REJOIN_REFUSED srcPNL 0 [] s) = false) :
    let t := recordFw Ev.REJOIN_REFUSED srcPNL 0 [] s
    linkVersioned slot period s = rflag F.PNL_CTL_MIRROR_EN false { t with chip := { t.chip with noPair := true } } :=
  (if_pos hslot).trans (if_neg (ne_true_of_eq_false hsolo))

/-- A head that serves with no other yet is the joiner where its FENCE_IN is high, and otherwise forms the pair. -/
theorem linkVersioned_pairs {t : State} (hslot : (slot == (headSlot s == 1)) = false) (ht : setPeriod period s = t)
    (hshadow : t.mir.partnerShadow = false) (hsolo : solo t = false) (hpair : t.chip.noPair = false) (href : t.mir.refused = false) :
    linkVersioned slot period s =
      if rbit F.PNL_FENCE_STATUS_FENCE_IN t = true then { t with mir := { t.mir with joiner := true } } else formPair t := by
  subst ht
  exact (if_neg (ne_true_of_eq_false hslot)).trans (if_neg (by simp [hshadow, hsolo, hpair, href]))

end

/-- Settles O50: each command is its operation, and the hypotheses of a clause say which of its cases holds. -/
theorem partnerLinkAndHealth : Obligations.PartnerLinkAndHealth := by
  unfold Obligations.PartnerLinkAndHealth
  intro w l ret same pass slot lanes lo hi period n s seq shown kept changed talks up quiet halts back mask u1 u2 up1 u3 refused trains fits
  refine ⟨fun hcrc hnew => ?task, fun hcrc hold => ?shown, fun hcrc => ?badWord, fun ht => ?sendsHealth, fun hup => ?healthLost, fun ht => ?idle,
    fun hl => ⟨fun hret hsame => ?same, fun hret hsame => ?differs, fun hret ht => ?returned⟩, fun hn ht => ?sendsTest,
    fun hpass hd hen => ⟨fun hup => ?laneBack, fun hdown => ?laneHeld⟩, fun hpass => ?laneFails, fun hup hq => ?quiet,
    fun hup hq => ⟨fun hslot hrun => ?restarts, fun hslot hrun => ?halts, fun hslot => ?pauses⟩, rfl,
    fun htrains hfits => ?versionRefused, fun htrains hfits hslot hsolo => ?equalStraps,
    fun htrains hfits hslot hshadow hsolo hpair href => ?pairs⟩
  case task => exact next_congr ((opHealth_shows hcrc).trans (if_neg (by tauto)))
  case shown => exact next_congr ((opHealth_shows hcrc).trans (if_pos (by tauto)))
  case badWord => exact next_congr (opHealth_of_bad_crc hcrc)
  case sendsHealth => exact next_congr (opHealthSend_sends ht)
  case healthLost => exact next_congr (if_pos hup)
  case idle => exact next_congr (if_pos ht)
  case same =>
    subst hret
    exact next_congr ((opTest_of_returned hl same).trans (if_pos hsame))
  case differs =>
    subst hret
    exact next_congr ((opTest_of_returned hl same).trans (if_neg (ne_true_of_eq_false hsame)))
  case returned =>
    subst hret
    exact next_congr (opTest_returns hl ht same)
  case sendsTest => exact next_congr (opTestSend_sends hn ht)
  case laneBack =>
    subst hpass
    exact next_congr ((opLaneRetrain_passes hd hen).trans (if_pos hup))
  case laneHeld =>
    subst hpass
    exact next_congr ((opLaneRetrain_passes hd hen).trans (if_neg (ne_true_of_eq_false hdown)))
  case laneFails => exact next_congr (if_pos (by simp [hpass]))
  case quiet => exact next_congr ((opLinkLost_of_up hup).trans (linkLossRule_of_quiet hq))
  case restarts => exact next_congr ((opLinkLost_of_up hup).trans ((linkLossRule_of_b hq hslot).trans (if_pos hrun)))
  case halts => exact next_congr ((opLinkLost_of_up hup).trans ((linkLossRule_of_b hq hslot).trans (if_neg (ne_true_of_eq_false hrun))))
  case pauses => exact next_congr ((opLinkLost_of_up hup).trans (linkLossRule_of_a hq hslot))
  case versionRefused => exact next_congr (opLinkUp_refuses_version htrains hfits)
  case equalStraps => exact next_congr ((opLinkUp_of_version htrains hfits).trans (linkVersioned_of_equal_straps hslot hsolo))
  case pairs =>
    have paired := (opLinkUp_of_version htrains hfits).trans (linkVersioned_pairs (t := u3) hslot rfl hshadow hsolo hpair href)
    exact ⟨fun hin => next_congr (paired.trans (if_pos hin)), fun hin => next_congr (paired.trans (if_neg (ne_true_of_eq_false hin)))⟩

end Sys2Proof.Machine
end

section
/-! PROOFS. Heartbeat loss, the fence, its release, starting alone and the wire tests (R342 to R348, R355, R356, R361, R478). -/

namespace Sys2Proof.Machine

open Sys2Proof

/-! ### The watchdog, arming and the declared losses (R342, R343) -/

section
variable {s : State}

theorem opWdogTrip_trips (hout : s.fence.hbOut = true) (hlate : s.fence.kickAt + kickWindow s ≤ rget F.CLK_TICK_TICK s) :
    opWdogTrip s = rflag F.PNL_HB_CFG_WDOG_TRIP true (stopHeart s) :=
  if_pos (by simp [hout, hlate])

theorem opWdogTrip_of_kicked (hkicked : rget F.CLK_TICK_TICK s < s.fence.kickAt + kickWindow s) : opWdogTrip s = s :=
  if_neg (by simp [Nat.not_le.mpr hkicked])

theorem opArmed_arms (hedges : 8 ≤ s.fence.edges) (hout : rbit F.PNL_FENCE_STATUS_FENCE_OUT s = false) (hpf : s.chip.pfLow = false)
    (hawake : linkLossQuiet s = false) : opArmed s = rflag F.PNL_FENCE_STATUS_ARMED true s :=
  if_pos (by simp [hedges, hout, hpf, hawake])

theorem opArmed_of_few_edges (hedges : s.fence.edges < 8) : opArmed s = s := if_neg (by simp [Nat.not_le.mpr hedges])

/-! ### FENCE_IN (R345, R346, R356) -/

/-- FENCE_IN high. -/
def fenceInRisen (s : State) : State := rflag F.PNL_FENCE_STATUS_FENCE_IN true s

/-- Egress held and the shelf lines released. -/
def egressFenced (s : State) : State := redriveShelves (setGated true (fenceInRisen s))

variable {conflict : Bool}

/-- In a WIRE_TEST window FENCE_IN is latched. -/
theorem opFenceIn_of_window (hw : s.fence.window = true) :
    opFenceIn conflict s = rflag F.PNL_FENCE_STATUS_TEST_SEEN true (fenceInRisen s) := if_pos hw

/-- Outside a window egress is held; head B withdraws its own fence in a conflict. -/
theorem opFenceIn_gates (hw : s.fence.window = false) :
    opFenceIn conflict s =
      if (conflict && rbit F.PNL_FENCE_STATUS_FENCE_OUT (egressFenced s) && headSlot (egressFenced s) == 1) = true then
        record Ev.FENCE_ARB_LOST srcAON 0 [] (rflag F.PNL_FENCE_STATUS_ARB_LOST true (releaseFence (egressFenced s)))
      else egressFenced s :=
  if_neg (ne_true_of_eq_false hw)

theorem opFenced_records (hin : rbit F.PNL_FENCE_STATUS_FENCE_IN s = true) (hout : rbit F.PNL_FENCE_STATUS_FENCE_OUT s = false)
    (hw : s.fence.window = false) (hfirst : s.fence.fenced = false) :
    let t := record Ev.FENCED srcAON 0 [] (raiseIrq 0 { s with fence := { s.fence with fenced := true } })
    opFenced s = if runtimeUp t = true then restartToRejoin (rflag F.TSK_CTL_DISPATCH_EN false t) else t :=
  if_neg (by simp [hin, hout, hw, hfirst])

/-- A part that holds a fence is not the fenced head. -/
theorem opFenced_of_holder (hout : rbit F.PNL_FENCE_STATUS_FENCE_OUT s = true) : opFenced s = s := if_pos (by simp [hout])

/-- FENCE_IN low again. -/
def fenceInFallen (s : State) : State := rflag F.PNL_FENCE_STATUS_FENCE_IN false { s with fence := { s.fence with fenced := false } }

/-- The hold lifts, and a joiner whose copy has ended is shadow of every group. -/
theorem opFenceInFall_lifts (hw : (fenceInFallen s).fence.window = false)
    (hstop : rbit F.PNL_FENCE_STATUS_SELF_STOPPED (fenceInFallen s) = false) :
    let t := liftHold (fenceInFallen s)
    opFenceInFall s = if (t.mir.joiner && t.mir.copyDone) = true then becomeShadow t else t := by
  have lifts : ¬ ((fenceInFallen s).fence.window || rbit F.PNL_FENCE_STATUS_SELF_STOPPED (fenceInFallen s)) = true := by simp [hw, hstop]
  exact if_neg lifts

/-- SELF_STOP keeps the hold. -/
theorem opFenceInFall_of_self_stopped (hstop : rbit F.PNL_FENCE_STATUS_SELF_STOPPED (fenceInFallen s) = true) :
    opFenceInFall s = fenceInFallen s := by
  have kept : ((fenceInFallen s).fence.window || rbit F.PNL_FENCE_STATUS_SELF_STOPPED (fenceInFallen s)) = true := by simp [hstop]
  exact if_pos kept

/-! ### FENCE_DONE, starting alone and the wire tests (R344, R347, R348, R355, R356) -/

theorem opFenceDone_counts (hout : rbit F.PNL_FENCE_STATUS_FENCE_OUT s = true) (hdone : rbit F.PNL_FENCE_STATUS_FENCE_DONE s = false) :
    let t := raiseIrq 0 (record Ev.FENCE_ASSERTED srcAON 0 []
      (rinc F.PNL_FENCE_STATUS_FENCE_COUNT 1 (rflag F.PNL_FENCE_STATUS_FENCE_DONE true s)))
    opFenceDone s = if (runtimeUp t && !t.chip.noPair && !servesNone t) = true then takeover t else t :=
  if_neg (by simp [hout, hdone])

/-- With FENCE_IN high the part is the joiner; with FENCE_IN low it fences, or takes over where its fence has come about. -/
theorem opStartAlone_starts (hrun : runtimeUp s = true) (hsolo : solo s = false) (hshadow : s.mir.partnerShadow = false)
    (hpair : s.chip.noPair = false) (href : s.mir.refused = false) (hserves : servesNone s = false) :
    opStartAlone s =
      if rbit F.PNL_FENCE_STATUS_FENCE_IN s = true then
        onArr (fun a => { a with journal := [] }) { s with mir := { s.mir with joiner := true } }
      else
        let t := { s with fence := { s.fence with why := 1 } }
        if rbit F.PNL_FENCE_STATUS_FENCE_DONE t = true then takeover t else assertFence 3 t :=
  if_neg (by simp [hrun, hsolo, hshadow, hpair, href, hserves])

variable {ok : Bool}

theorem opWireTestEnd_of_joiner (hj : s.mir.joiner = true) :
    opWireTestEnd ok s =
      if ok = true then s else recordFw Ev.FENCE_WIRE_FAULT srcPNL 0 [] { s with mir := { s.mir with joiner := false } } := if_pos hj

/-- The survivor closes its window; with both wires proven its copy begins. -/
theorem opWireTestEnd_of_survivor (hj : s.mir.joiner = false) (hw : s.fence.window = true) :
    let t := { s with fence := { s.fence with window := false } }
    opWireTestEnd ok s =
      if (rbit F.PNL_FENCE_STATUS_TEST_SEEN t && ok) = true then if solo t = true then beginCopy t else t
      else recordFw Ev.FENCE_WIRE_FAULT srcPNL 0 [] t :=
  (if_neg (ne_true_of_eq_false hj)).trans (if_neg (by simp [hw]))

end

/-- Settles O51: each command is its operation, and the hypotheses of a clause say which of its cases holds. -/
theorem heartbeatAndFence : Obligations.HeartbeatAndFence := by
  unfold Obligations.HeartbeatAndFence
  intro conflict ok s stopped hb pg edge in_ gated lost fenced fell done alone shut
  refine ⟨fun hout hlate => ?trips, fun hkicked => ?kicked, fun hedges hout hpf hawake => ?arms, fun hedges => ?fewEdges,
    fun ha => ?hbLost, fun ha => ?hbNotArmed, fun ha => ?pwrgoodLost, fun hst => ?edgeInSleep, fun hst => ?edge,
    fun hw => ?window, fun hw hlost => ?gates, fun hw hlost => ?withdraws, fun hin hout hw hfirst => ?fenced, fun hout => ?holder,
    fun hg => ?discards, fun hw hstop hj => ?lifts, fun hw hstop hj hcopy => ?shadow, fun hstop => ?selfStopped,
    fun hout hdone => ?fenceDone, fun hj hw hseen hok hsolo => ?copyBegins, fun hj hw hok => ?wireFault, fun hj hok => ?joinRefused,
    fun hrun hsolo hshadow hpair href hserves => ?startsAlone⟩
  case trips => exact next_congr (opWdogTrip_trips hout hlate)
  case kicked => exact next_congr (opWdogTrip_of_kicked hkicked)
  case arms => exact next_congr (opArmed_arms hedges hout hpf hawake)
  case fewEdges => exact next_congr (opArmed_of_few_edges hedges)
  case hbLost => exact next_congr (if_pos ha)
  case hbNotArmed => exact next_congr (if_neg (ne_true_of_eq_false ha))
  case pwrgoodLost => exact next_congr (if_pos ha)
  case edgeInSleep => exact next_congr (if_pos hst)
  case edge => exact next_congr (if_neg hst)
  case window => exact next_congr (opFenceIn_of_window hw)
  case gates => exact next_congr ((opFenceIn_gates hw).trans (if_neg (ne_true_of_eq_false hlost)))
  case withdraws => exact next_congr ((opFenceIn_gates hw).trans (if_pos hlost))
  case fenced =>
    have recorded := opFenced_records hin hout hw hfirst
    exact ⟨fun hrun => next_congr (recorded.trans (if_pos hrun)), fun hrun => next_congr (recorded.trans (if_neg (ne_true_of_eq_false hrun)))⟩
  case holder => exact next_congr (opFenced_of_holder hout)
  case discards => exact next_congr (if_pos hg)
  case lifts => exact next_congr ((opFenceInFall_lifts hw hstop).trans (if_neg fun h => ne_true_of_eq_false hj (Bool.and_eq_true_iff.mp h).1))
  case shadow => exact next_congr ((opFenceInFall_lifts hw hstop).trans (if_pos (Bool.and_eq_true_iff.mpr ⟨hj, hcopy⟩)))
  case selfStopped => exact next_congr (opFenceInFall_of_self_stopped hstop)
  case fenceDone =>
    have counted := opFenceDone_counts hout hdone
    refine ⟨fun hrun hpair hserves => next_congr (counted.trans (if_pos ?_)), fun hrun => next_congr (counted.trans (if_neg ?_))⟩
    · exact Bool.and_eq_true_iff.mpr ⟨Bool.and_eq_true_iff.mpr ⟨hrun, by rw [hpair]; rfl⟩, by rw [hserves]; rfl⟩
    · exact fun h => ne_true_of_eq_false hrun (Bool.and_eq_true_iff.mp (Bool.and_eq_true_iff.mp h).1).1
  case copyBegins =>
    exact next_congr ((opWireTestEnd_of_survivor hj hw).trans ((if_pos (Bool.and_eq_true_iff.mpr ⟨hseen, hok⟩)).trans (if_pos hsolo)))
  case wireFault =>
    exact next_congr ((opWireTestEnd_of_survivor hj hw).trans (if_neg fun h => ne_true_of_eq_false hok (Bool.and_eq_true_iff.mp h).2))
  case joinRefused => exact next_congr ((opWireTestEnd_of_joiner hj).trans (if_neg (ne_true_of_eq_false hok)))
  case startsAlone =>
    have starts := opStartAlone_starts hrun hsolo hshadow hpair href hserves
    exact ⟨fun hin => next_congr (starts.trans (if_pos hin)),
      fun hin hdone => next_congr (starts.trans ((if_neg (ne_true_of_eq_false hin)).trans (if_neg (ne_true_of_eq_false hdone))))⟩

end Sys2Proof.Machine
end

section
/-! PROOFS. Rearn's packets: the receive checks, what a packet that passes them does, and the operations that replies end (R374 to R392). -/

namespace Sys2Proof.Machine

open Sys2Proof

/-! ### The receive checks (Table 12.6) -/

/-- A packet with a good CRC comes while Rearn runs and passes checks 2 to 8. -/
def PassesChecks (p : RrnPkt) (s : State) : Prop := rbit F.RRN_CTL_EN s = true ∧ p.crcOk = true ∧ firstBad p s = none

/-- A packet with a good CRC comes while Rearn runs, and `code` is that of the first of checks 2 to 8 that it fails. -/
def FailsChecks (code : Nat) (p : RrnPkt) (s : State) : Prop := rbit F.RRN_CTL_EN s = true ∧ p.crcOk = true ∧ firstBad p s = some code

section
variable {p : RrnPkt} {f : State → State} {code : Nat} {s : State}

theorem checked_of_disabled (hen : rbit F.RRN_CTL_EN s = false) : checked p f s = s := if_pos (by rw [hen]; rfl)

theorem checked_of_bad_crc (hen : rbit F.RRN_CTL_EN s = true) (hcrc : p.crcOk = false) :
    checked p f s = rinc F.RRN_VIOL_STATUS_BAD_HDR 1 s :=
  (if_neg (by rw [hen]; decide)).trans (if_pos (by rw [hcrc]; rfl))

/-- Past the CRC the checks decide. -/
theorem checked_of_good_crc (hen : rbit F.RRN_CTL_EN s = true) (hcrc : p.crcOk = true) :
    checked p f s = (firstBad p s).elim (f s) (fun c => nakPkt p c s) := by
  unfold checked
  rw [hen, hcrc]
  cases firstBad p s <;> rfl

theorem checked_passes (h : PassesChecks p s) : checked p f s = f s := by
  obtain ⟨hen, hcrc, hgood⟩ := h
  rw [checked_of_good_crc hen hcrc, hgood]
  rfl

theorem checked_refuses (h : FailsChecks code p s) : checked p f s = nakPkt p code s := by
  obtain ⟨hen, hcrc, hbad⟩ := h
  rw [checked_of_good_crc hen hcrc, hbad]
  rfl

/-! ### The lease check (R378) -/

/-- No live lease holds the packet's number. -/
def LeaseUnknown (p : RrnPkt) (s : State) : Prop := ∀ m, kfind s.rrn.leases (p.lease % 4096) = some m → m.num ≠ p.lease

/-- The packet's lease was issued to another node, or from another pool. -/
def LeaseForeign (p : RrnPkt) (s : State) : Prop :=
  ∃ m, kfind s.rrn.leases (p.lease % 4096) = some m ∧ m.num = p.lease ∧ (m.node ≠ p.src ∨ m.pool ≠ poolFor p.op p.window)

theorem leaseCheck_of_unknown (h : LeaseUnknown p s) : leaseCheck p s = some 7 := by
  unfold leaseCheck
  cases hl : kfind s.rrn.leases (p.lease % 4096) with
  | none => rfl
  | some m => exact if_pos (h m hl)

theorem leaseCheck_of_foreign (h : LeaseForeign p s) : leaseCheck p s = some 8 := by
  obtain ⟨m, hl, hnum, hother⟩ := h
  unfold leaseCheck
  rw [hl]
  exact (if_neg (not_not_intro hnum)).trans (if_pos hother)

/-- A data-bearing packet whose header is good is refused with the code of its lease check. -/
theorem firstBad_of_leaseCheck (hhdr : hdrBad p s = false) (hop : dataOp p.op = true) (hlease : leaseCheck p s = some code) :
    firstBad p s = some code := by
  unfold firstBad
  rw [hhdr, hop, if_pos rfl, hlease]
  rfl

end

/-! ### Data-bearing packets (checks 9 to 12, R380, R384, R385) -/

section
variable {p : RrnPkt} {c : RCtx} {r : Receipt} {s : State}

theorem recvData_of_disabled (hen : rbit F.RRN_CTL_EN s = false) : recvData p s = s := checked_of_disabled hen

theorem recvData_of_bad_crc (hen : rbit F.RRN_CTL_EN s = true) (hcrc : p.crcOk = false) :
    recvData p s = rinc F.RRN_VIOL_STATUS_BAD_HDR 1 s := checked_of_bad_crc hen hcrc

theorem recvData_refuses {code : Nat} (h : FailsChecks code p s) : recvData p s = nakPkt p code s := checked_refuses h

section
variable (hen : rbit F.RRN_CTL_EN s = true) (hcrc : p.crcOk = true) (hhdr : hdrBad p s = false) (hop : dataOp p.op = true)
include hen hcrc hhdr hop

theorem recvData_of_unknown_lease (h : LeaseUnknown p s) : recvData p s = nakPkt p 7 s :=
  recvData_refuses ⟨hen, hcrc, firstBad_of_leaseCheck hhdr hop (leaseCheck_of_unknown h)⟩

theorem recvData_of_foreign_lease (h : LeaseForeign p s) : recvData p s = nakPkt p 8 s :=
  recvData_refuses ⟨hen, hcrc, firstBad_of_leaseCheck hhdr hop (leaseCheck_of_foreign h)⟩

end

section
variable (hgood : PassesChecks p s)
include hgood

/-- A packet of an open message. -/
theorem recvData_of_ctx (hctx : ctxFor p s = some c) :
    recvData p s = if c.slots.contains (p.offset / pktSize p.pkt) then s else if leaseFull p s then nakPkt p 1 s else takePkt c p s := by
  refine (checked_passes hgood).trans ?_
  simp only [hctx]

theorem recvData_of_filled_slot (hctx : ctxFor p s = some c) (hslot : c.slots.contains (p.offset / pktSize p.pkt) = true) :
    recvData p s = s :=
  (recvData_of_ctx hgood hctx).trans (if_pos hslot)

theorem recvData_takes (hctx : ctxFor p s = some c) (hslot : c.slots.contains (p.offset / pktSize p.pkt) = false) (hroom : leaseFull p s = false) :
    recvData p s = takePkt c p s :=
  (recvData_of_ctx hgood hctx).trans ((if_neg (ne_true_of_eq_false hslot)).trans (if_neg (ne_true_of_eq_false hroom)))

/-- An executed message is answered from its receipt. -/
theorem recvData_of_receipt (hctx : ctxFor p s = none) (hkeeps : keepsReceipt p.op = true)
    (hr : s.rrn.receipts.find? (isReceipt p.src p.msgId) = some r) :
    recvData p s = sendPkt r.reply 0 (rinc F.RRN_RECEIPT_CFG_HITS 1 s) := by
  refine (checked_passes hgood).trans ?_
  simp only [hctx, hkeeps, hr, if_true]

/-- A message with neither context nor receipt opens; a WRITE keeps no receipt. -/
theorem recvData_opens (hctx : ctxFor p s = none)
    (hnew : keepsReceipt p.op = true → s.rrn.receipts.find? (isReceipt p.src p.msgId) = none) : recvData p s = openMsg p s := by
  have fresh : (if keepsReceipt p.op then s.rrn.receipts.find? (isReceipt p.src p.msgId) else none) = none := by
    split
    next h => exact hnew h
    next => rfl
  refine (checked_passes hgood).trans ?_
  simp only [hctx, fresh]

end

/-- The packet's bytes charged to its lease. -/
def chargeLease (p : RrnPkt) (s : State) : State :=
  onRrn (fun r => { r with leases := kmod {} r.leases (p.lease % 4096) (fun l => { l with charged := l.charged + p.payload.length }) }) s

/-- A context with the packet's slot filled. -/
def slotFilled (p : RrnPkt) (c : RCtx) : RCtx :=
  { c with slots := c.slots ++ [p.offset / pktSize p.pkt], placed := c.placed + p.payload.length, charged := c.charged + p.payload.length,
           data := if p.op = oSend ∧ c.handle.isNone then c.data ++ [(p.offset, p.payload)] else c.data }

theorem takePkt_completes (hlast : c.placed + p.payload.length = p.totalLen) :
    takePkt c p s = completeMsg (slotFilled p c) p (placePkt c p (chargeLease p s)) :=
  if_pos hlast

theorem completeMsg_of_write (hop : p.op = oWrite) :
    let a := ackFor { p with more := p.more || c.first.more } 0 (dropCtx p.src p.msgId s)
    completeMsg c p s = sendPkt a.1 0 a.2 := by
  unfold completeMsg
  simp only [hop, if_true]
  rfl

/-- A WRITE in one packet keeps no receipt and takes no caddy, so it is placed at once. -/
theorem openMsg_of_whole_write (hop : p.op = oWrite) (hwhole : p.payload.length = p.totalLen) (hroom : leaseFull p s = false) :
    openMsg p s = takePkt { first := p, op := oWrite } p s := by
  have keepsNone : keepsReceipt oWrite = false := rfl
  have needsNoCaddy : (oWrite == oSend) = false := rfl
  have whole : (p.totalLen == p.totalLen) = true := beq_self_eq_true _
  unfold openMsg
  simp only [hop, hwhole, hroom, keepsNone, needsNoCaddy, whole, Bool.not_true, Bool.or_false, Bool.false_and, Bool.false_eq_true, if_false]

/-- A WRITE in one packet is placed in its window and acknowledged. -/
theorem openMsg_places_write (hop : p.op = oWrite) (hwhole : p.payload.length = p.totalLen) (hroom : leaseFull p s = false) :
    let x := (winOf p.window s).base + p.raddr + p.offset
    let a := ackFor p 0 (dropCtx p.src p.msgId (memWrite x p.payload (wakeRange x p.payload.length (chargeLease p s))))
    openMsg p s = sendPkt a.1 0 a.2 := by
  intro x a
  have placed : placePkt { first := p, op := oWrite } p (chargeLease p s) =
      memWrite x p.payload (wakeRange x p.payload.length (chargeLease p s)) := if_pos (Or.inl hop)
  rw [openMsg_of_whole_write hop hwhole hroom, takePkt_completes ((Nat.zero_add _).trans hwhole), placed, completeMsg_of_write hop]
  simp only [slotFilled, Bool.or_self]
  rfl

end

/-! ### Requests (R376, R387) and the replies to this part's operations (R377, R387, R388, R391) -/

section
variable {p : RrnPkt} {o : ROp} {l : LeaseIn} {s v : State}

theorem readOps_of_disabled (hen : rbit F.RRN_CTL_EN s = false) : opReadReq p s = s ∧ opReadResp p s = s ∧ opAck p s = s := by
  unfold opReadReq opReadResp opAck
  exact ⟨checked_of_disabled hen, checked_of_disabled hen, checked_of_disabled hen⟩

theorem opReadReq_refuses {code : Nat} (h : FailsChecks code { p with op := oReadReq } s) :
    opReadReq p s = nakPkt { p with op := oReadReq } code s := by
  unfold opReadReq
  exact checked_refuses h

/-- READ_RESP packet `j` of the answer to a READ_REQ. -/
def readRespPkt (p : RrnPkt) (base j : Nat) (s : State) : RrnPkt :=
  let o := j * pktSize p.pkt
  { replyTo p oReadResp s with totalLen := p.totalLen, offset := o, payload := memRead s (base + o) (min (pktSize p.pkt) (p.totalLen - o)) }

/-- A READ_REQ is answered with the window's bytes. -/
theorem opReadReq_answers (hgood : PassesChecks { p with op := oReadReq } s) :
    let q := { p with op := oReadReq }
    let base := (winOf p.window s).base + p.raddr
    opReadReq p s = forEach (List.range (packetCount p.totalLen (pktSize p.pkt))) (fun j s => sendPkt (readRespPkt q base j s) p.retry s)
      (wakeRange base p.totalLen s) := by
  unfold opReadReq
  exact checked_passes hgood

theorem opCreditReq_grants (hgood : PassesChecks { p with op := oCreditReq } s) (hg : grantLease p.src p.code p.totalLen s = (some l, v)) :
    opCreditReq p s =
      sendPkt { replyTo { p with op := oCreditReq } oCreditGrant v with lease := l.num, arg := l.bytes, ttl := leaseTtl v } 0 v := by
  unfold opCreditReq
  refine (checked_passes hgood).trans ?_
  simp only [hg]

theorem opCreditReq_refuses (hgood : PassesChecks { p with op := oCreditReq } s) (hg : grantLease p.src p.code p.totalLen s = (none, v)) :
    opCreditReq p s = nakPkt { p with op := oCreditReq } 1 v := by
  unfold opCreditReq
  refine (checked_passes hgood).trans ?_
  simp only [hg]

theorem opCreditGrant_launches (hgood : PassesChecks { p with op := oCreditGrant } s)
    (hop : s.rrn.ops.find? (fun o => o.phase == .lease && o.asked == p.msgId && o.req.dst == p.src) = some o) :
    opCreditGrant p s = launch o (holdLease { p with op := oCreditGrant } (poolFor o.req.op o.req.window) o.askedAt s) := by
  unfold opCreditGrant
  refine (checked_passes hgood).trans ?_
  simp only [hop]

/-- An ACK ends its operation; an ATOMIC's old value goes to LOCAL first. -/
theorem opAck_ends (hgood : PassesChecks { p with op := oAck } s) (hop : opBy p.msgId s = some o) (hdst : o.req.dst = p.src)
    (hread : o.req.op ≠ oReadReq) (hsent : o.firstAt ≠ none) :
    let held := holdLease { p with op := oAck } (poolFor o.req.op o.req.window) (o.firstAt.getD 0) s
    opAck p s = endOp o 0 (if o.req.op = oAtomic then writeBuf (o.req.local_ % 2 ^ 32) (o.req.local_ / 2 ^ 32) (leBytes 8 p.value) held else held) := by
  have answered : ¬ (o.req.dst ≠ p.src ∨ o.req.op = oReadReq ∨ o.firstAt.isNone = true) := by simp [hdst, hread, hsent]
  unfold opAck
  refine (checked_passes hgood).trans ?_
  simp only [hop]
  exact if_neg answered

/-- A READ_RESP fills a slot; the last one ends the READ. -/
theorem opReadResp_places (hgood : PassesChecks { p with op := oReadResp } s) (hop : opBy p.msgId s = some o) (hdst : o.req.dst = p.src)
    (hread : o.req.op = oReadReq) (htotal : p.totalLen = o.req.length) (hslot : o.slots.contains (p.offset / pktSize p.pkt) = false) :
    let o' := { o with slots := o.slots ++ [p.offset / pktSize p.pkt] }
    let put := memWrite (localAddr o.req s + p.offset) p.payload s
    opReadResp p s = if o'.slots.length = packetCount o.req.length (pktSize p.pkt) then
        endOp o' 0 (setFill (o.req.local_ % 2 ^ 32) (o.req.local_ / 2 ^ 32 + o.req.length) put)
      else putOp o' put := by
  have awaited : ¬ (o.req.dst ≠ p.src ∨ o.req.op ≠ oReadReq ∨ p.totalLen ≠ o.req.length ∨ o.slots.contains (p.offset / pktSize p.pkt) = true) := by
    simp only [hdst, hread, htotal, hslot, ne_eq, not_true_eq_false, Bool.false_eq_true, or_self, not_false_eq_true]
  unfold opReadResp
  refine (checked_passes hgood).trans ?_
  simp only [hop]
  exact if_neg awaited

section
variable (hgood : PassesChecks { p with op := oNak } s) (hhello : (nodeOf p.src s).sends = 0)
  (hop : s.rrn.ops.find? (fun o => o.req.dst == p.src && (o.msgId == p.msgId || (o.phase == .lease && o.asked == p.msgId))) = some o)
include hgood hhello hop

/-- A NAK for an operation of a node that no HELLO is out to: a transient code is kept and the first one sends again, a final code ends it. -/
theorem opNak_of_op :
    opNak p s =
      if p.code = 1 ∨ p.code = 2 ∨ p.code = 7 then
        let o' := { o with transient := some p.code }
        if o.transient.isNone = true ∧ o.phase = .sent then resend (p.code != 2) o' (putOp o' s) else putOp o' s
      else
        let b := pack [(2, o.req.dst), (2, o.req.window), (4, o.msgId)]
        endOp o (0x40 + p.code) (if p.code = 3 then record Ev.GEN_STALE_SEEN srcNET 0 b s
          else if p.code = 4 ∨ p.code = 5 ∨ p.code = 6 then record Ev.WIN_VIOLATION srcNET 0 b s else s) := by
  have noHello : ((nodeOf p.src s).sends != 0) = false := by rw [hhello]; rfl
  unfold opNak
  simp only [noHello, Bool.and_false, Bool.false_and, Bool.false_eq_true, if_false]
  refine (checked_passes hgood).trans ?_
  simp only [hop]

/-- Codes 8 and 9 end the operation with no event. -/
theorem opNak_ends (hcode : p.code = 8 ∨ p.code = 9) : opNak p s = endOp o (0x40 + p.code) s := by
  rw [opNak_of_op hgood hhello hop, if_neg (by omega)]
  simp only [show p.code ≠ 3 by omega, show ¬ (p.code = 4 ∨ p.code = 5 ∨ p.code = 6) by omega, if_false]

/-- The window's codes end the operation with WIN_VIOLATION. -/
theorem opNak_ends_with_violation (hcode : p.code = 4 ∨ p.code = 5 ∨ p.code = 6) :
    opNak p s = endOp o (0x40 + p.code) (record Ev.WIN_VIOLATION srcNET 0 (pack [(2, o.req.dst), (2, o.req.window), (4, o.msgId)]) s) := by
  rw [opNak_of_op hgood hhello hop, if_neg (by omega)]
  simp only [show p.code ≠ 3 by omega, hcode, if_false, if_true]

/-- The first NO_BUFFER has the operation sent again under the lease that it has. -/
theorem opNak_sends_again (hcode : p.code = 2) (hfirst : o.transient = none) (hsent : o.phase = .sent) :
    opNak p s = resend false { o with transient := some 2 } (putOp { o with transient := some 2 } s) := by
  have first : o.transient.isNone = true ∧ o.phase = .sent := ⟨by rw [hfirst]; rfl, hsent⟩
  rw [opNak_of_op hgood hhello hop, if_pos (by omega), hcode]
  exact if_pos first

end

end

/-- Settles O54: each packet's operation is its checks and then its own act, and the hypotheses of a clause say which case of the act holds. -/
theorem rearnPackets : Obligations.RearnPackets := by
  unfold Obligations.RearnPackets
  intro p c r o l code v s w nt sd am rq cq cg ak rr nk on bad good joins again starts known one charged placed base size mine held j last put
  refine ⟨fun hen => ?disabled, fun hen hcrc => ?badCrc, fun h => ?badWrite, fun h => ?badNotify, fun h => ?badSend, fun h => ?badAtomic,
    fun h => ?badRead, fun ⟨hgood, hctx, hwhole, _, hroom⟩ => ?oneWrite, fun h => ?joinsWrite, fun h => ?joinsNotify, fun h => ?joinsSend,
    fun h => ?joinsAtomic, fun h => ?againWrite, fun h => ?againNotify, fun h => ?knownNotify, fun h => ?knownAtomic, fun h => ?startsNotify,
    fun h => ?startsAtomic, fun h => ?startsSend, fun hgood => ?reads, fun hgood hg => ?grants, fun hgood hg => ?noCredit,
    fun hgood hop => ?granted, fun hgood ⟨hop, hdst⟩ hread hsent => ?acked, fun hgood ⟨hop, hdst⟩ hread htotal hslot => ?readBack,
    fun hgood hhello hop => ?naked⟩
  case disabled =>
    obtain ⟨hreq, hresp, hack⟩ := readOps_of_disabled (p := p) hen
    exact ⟨next_congr (recvData_of_disabled hen), next_congr (recvData_of_disabled hen), next_congr (recvData_of_disabled hen),
      next_congr hreq, next_congr hresp, next_congr hack⟩
  case badCrc =>
    exact ⟨next_congr (recvData_of_bad_crc hen hcrc), next_congr (congrArg arSettle (recvData_of_bad_crc hen hcrc))⟩
  case badWrite => exact next_congr (recvData_refuses h)
  case badNotify => exact next_congr (recvData_refuses h)
  case badSend => exact next_congr (congrArg arSettle (recvData_refuses h))
  case badAtomic => exact next_congr (recvData_refuses h)
  case badRead => exact next_congr (opReadReq_refuses h)
  case oneWrite =>
    have keepsNone : keepsReceipt oWrite ≠ true := by decide
    exact next_congr ((recvData_opens hgood hctx (absurd · keepsNone)).trans (openMsg_places_write rfl hwhole hroom))
  case joinsWrite | joinsNotify | joinsAtomic =>
    obtain ⟨hgood, hctx, hslot, hroom⟩ := h
    exact next_congr (recvData_takes hgood hctx hslot hroom)
  case joinsSend =>
    obtain ⟨hgood, hctx, hslot, hroom⟩ := h
    exact next_congr (congrArg arSettle (recvData_takes hgood hctx hslot hroom))
  case againWrite | againNotify =>
    obtain ⟨hgood, hctx, hslot⟩ := h
    exact next_congr (recvData_of_filled_slot hgood hctx hslot)
  case knownNotify | knownAtomic =>
    obtain ⟨hgood, hctx, hr⟩ := h
    exact next_congr (recvData_of_receipt hgood hctx rfl hr)
  case startsNotify | startsAtomic =>
    obtain ⟨hgood, hctx, hnew⟩ := h
    exact next_congr (recvData_opens hgood hctx fun _ => hnew)
  case startsSend =>
    obtain ⟨hgood, hctx, hnew⟩ := h
    exact next_congr (congrArg arSettle (recvData_opens hgood hctx fun _ => hnew))
  case reads => exact next_congr (opReadReq_answers hgood)
  case grants => exact next_congr (opCreditReq_grants hgood hg)
  case noCredit => exact next_congr (opCreditReq_refuses hgood hg)
  case granted => exact next_congr (opCreditGrant_launches hgood hop)
  case acked =>
    have ends := opAck_ends hgood hop hdst hread hsent
    exact ⟨fun hop => next_congr (ends.trans (congrArg (endOp o 0) (if_neg hop))), fun hop => next_congr (ends.trans (congrArg (endOp o 0) (if_pos hop)))⟩
  case readBack =>
    have places := opReadResp_places hgood hop hdst hread htotal hslot
    exact ⟨fun hlast => next_congr (places.trans (if_pos hlast)), fun hmore => next_congr (places.trans (if_neg hmore))⟩
  case naked =>
    exact ⟨fun hcode => next_congr (opNak_ends hgood hhello hop hcode), fun hcode => next_congr (opNak_ends_with_violation hgood hhello hop hcode),
      fun hcode hfirst hsent => next_congr (opNak_sends_again hgood hhello hop hcode hfirst hsent)⟩

/-- Settles O58: behind a good header the lease check is the first that fails, and each data-bearing packet takes it. -/
theorem leaseRefusals : Obligations.LeaseRefusals := by
  unfold Obligations.LeaseRefusals
  intro p s hen hcrc gone foreign wr nt sd am
  refine ⟨fun hhdr => ?write, fun hhdr => ?notify, fun hhdr => ?send, fun hhdr => ?atomic⟩
  case write =>
    exact ⟨fun h => next_congr (recvData_of_unknown_lease (p := wr) hen hcrc hhdr rfl h),
      fun h => next_congr (recvData_of_foreign_lease (p := wr) hen hcrc hhdr rfl h)⟩
  case notify =>
    exact ⟨fun h => next_congr (recvData_of_unknown_lease (p := nt) hen hcrc hhdr rfl h),
      fun h => next_congr (recvData_of_foreign_lease (p := nt) hen hcrc hhdr rfl h)⟩
  case send =>
    exact ⟨fun h => next_congr (congrArg arSettle (recvData_of_unknown_lease (p := sd) hen hcrc hhdr rfl h)),
      fun h => next_congr (congrArg arSettle (recvData_of_foreign_lease (p := sd) hen hcrc hhdr rfl h))⟩
  case atomic =>
    exact ⟨fun h => next_congr (recvData_of_unknown_lease (p := am) hen hcrc hhdr rfl h),
      fun h => next_congr (recvData_of_foreign_lease (p := am) hen hcrc hhdr rfl h)⟩

end Sys2Proof.Machine
end

section
/-! PROOFS. A report at the recorder's intake merges, enters or is dropped, and the FIFO keeps its bound (R406 to R408). -/

namespace Sys2Proof.Machine

open Sys2Proof

/-! ### The three ways of a report -/

/-- The report `e` is identical to the newest entry `n`, which still takes repeats (R408). -/
def Merges (n e : EvEntry) (s : State) : Prop := s.evr.fifo.getLast? = some n ∧ evSame n e = true ∧ n.closed = false ∧ n.rept < 0xFFFF

/-- The severity of `e` finds room (R407), within the wear budget for Info and Notice (R406). -/
def HasRoom (e : EvEntry) (s : State) : Prop :=
  s.evr.fifo.length < (if e.sev = 3 then 256 else 224) ∧ (2 ≤ e.sev ∨ wearLimited s = false)

/-- The report merged into the newest entry `n`. -/
def reportMerged (n e : EvEntry) (s : State) : State :=
  syncFifo (openHead
    { s with evr := { s.evr with fifo := mergeLast e.tick s.evr.fifo, last := some { n with rept := n.rept + 1, lastTick := e.tick } } })

section
variable {n e : EvEntry} {s : State}

theorem withinBudget_iff : ¬ (e.sev < 2 ∧ wearLimited s = true) ↔ (2 ≤ e.sev ∨ wearLimited s = false) := by
  rw [not_and_or, Nat.not_lt, Bool.not_eq_true]

theorem intake_merges (h : Merges n e s) : (intake e s).2 = reportMerged n e s := by
  obtain ⟨hlast, hjoin⟩ := h
  unfold intake
  simp only [hlast]
  rw [if_pos hjoin]
  rfl

section
variable (hnew : ∀ n, ¬ Merges n e s)
include hnew

/-- A report that does not merge enters where there is room; an empty FIFO has room but for the budget. -/
theorem intake_of_new : (HasRoom e s → (intake e s).2 = enterFifo e s) ∧ (¬ HasRoom e s → (intake e s).2 = dropReport e s) := by
  unfold intake
  cases hlast : s.evr.fifo.getLast? with
  | none =>
    have short : s.evr.fifo.length < (if e.sev = 3 then 256 else 224) := by
      rw [List.getLast?_eq_none_iff.mp hlast, List.length_nil]
      split <;> decide
    refine ⟨fun ⟨_, hbudget⟩ => ?_, fun hfull => ?_⟩
    · simp only [if_neg (withinBudget_iff.mpr hbudget)]
    · have spent : e.sev < 2 ∧ wearLimited s = true := by
        by_contra hbudget
        exact hfull ⟨short, withinBudget_iff.mp hbudget⟩
      simp only [if_pos spent]
  | some m =>
    have apart : ¬ (evSame m e = true ∧ m.closed = false ∧ m.rept < 0xFFFF) := fun hjoin => hnew m ⟨hlast, hjoin⟩
    refine ⟨fun ⟨hlen, hbudget⟩ => ?_, fun hfull => ?_⟩
    · simp only [if_neg apart, if_pos (And.intro hlen (withinBudget_iff.mpr hbudget))]
    · have none_ : ¬ (s.evr.fifo.length < (if e.sev = 3 then 256 else 224) ∧ ¬ (e.sev < 2 ∧ wearLimited s = true)) :=
        fun ⟨hlen, hbudget⟩ => hfull ⟨hlen, withinBudget_iff.mp hbudget⟩
      simp only [if_neg apart, if_neg none_]

theorem intake_enters (hroom : HasRoom e s) : (intake e s).2 = enterFifo e s := (intake_of_new hnew).1 hroom

theorem intake_drops (hfull : ¬ HasRoom e s) : (intake e s).2 = dropReport e s := (intake_of_new hnew).2 hfull

end

/-! ### How many entries the FIFO holds -/

@[simp] theorem syncFifo_evr : (syncFifo s).evr = s.evr := (rset_evr _ _ _ _).trans (rset_evr _ _ _ _)

@[simp] theorem openHead_fifo_length : (openHead s).evr.fifo.length = s.evr.fifo.length := by
  unfold openHead
  split
  next => rfl
  next =>
    split
    next => rfl
    next hf => split <;> rw [hf] <;> rfl

@[simp] theorem mergeLast_length {tick : Nat} (l : List EvEntry) : (mergeLast tick l).length = l.length := by
  induction l using mergeLast.induct with
  | case1 => rfl
  | case2 => rfl
  | case3 e l hne ih => rw [mergeLast.eq_3 tick e l hne, List.length_cons, List.length_cons, ih]

@[simp] theorem enterFifo_fifo_length : (enterFifo e s).evr.fifo.length = s.evr.fifo.length + 1 := by
  unfold enterFifo
  simp only [syncFifo_evr, openHead_fifo_length, List.length_append, List.length_singleton]

@[simp] theorem reportMerged_fifo_length : (reportMerged n e s).evr.fifo.length = s.evr.fifo.length := by
  unfold reportMerged
  simp only [syncFifo_evr, openHead_fifo_length, mergeLast_length]

@[simp] theorem dropReport_fifo : (dropReport e s).evr.fifo = s.evr.fifo := by
  unfold dropReport
  dsimp only
  split <;> split <;> rfl

/-- A report adds at most one entry, and one only where its severity has room. -/
theorem intake_fifo_length : (intake e s).2.evr.fifo.length = s.evr.fifo.length ∨
    (HasRoom e s ∧ (intake e s).2.evr.fifo.length = s.evr.fifo.length + 1) := by
  by_cases hm : ∃ n, Merges n e s
  · obtain ⟨n, hm⟩ := hm
    exact Or.inl (by rw [intake_merges hm, reportMerged_fifo_length])
  · have hnew : ∀ n, ¬ Merges n e s := not_exists.mp hm
    by_cases hroom : HasRoom e s
    · exact Or.inr ⟨hroom, by rw [intake_enters hnew hroom, enterFifo_fifo_length]⟩
    · exact Or.inl (by rw [intake_drops hnew hroom, dropReport_fifo])

end

/-- Settles O32: a report goes one of three ways, and only the one that enters lengthens the FIFO, below the bound of its severity. -/
theorem recorderIntake : Obligations.RecorderIntake := by
  unfold Obligations.RecorderIntake
  intro r s e merges room
  refine ⟨fun n h => next_congr (intake_merges h), fun hnew hroom => next_congr (intake_enters hnew hroom),
    fun hnew hfull => next_congr (intake_drops hnew hfull), fun hbound t ht => ?_⟩
  obtain rfl : opEventReport r s = t := Host.Outcome.next.inj ht
  rcases intake_fifo_length (e := e) (s := s) with hlen | ⟨⟨hlt, _⟩, hlen⟩
  · exact ⟨hlen.trans_le hbound, hlen.ge, fun _ _ => hlen⟩
  · have below : s.evr.fifo.length < 256 := hlt.trans_le (by split <;> decide)
    refine ⟨hlen.trans_le below, hlen.ge.trans' (Nat.le_succ _), fun hsev hfull => ?_⟩
    rw [if_neg hsev] at hlt
    exact absurd hlt (Nat.not_lt.mpr hfull)

end Sys2Proof.Machine
end

section
/-! PROOFS. Writes of the engine, buffer, key, power, clock, dispatcher, shelf and reset registers (R90, R136, R138, R157, R194, R195, R217, R223, R224,
R264, R422, R423, R427, R429, R433, R479, R493). -/

namespace Sys2Proof.Machine

open Sys2Proof

/-! ### The engine blocks -/

section
variable {who : CoreId} {a : Nat} {v : Word} {failing : List Nat} {s : State}

/-- An accepted write of an engine's block ungates its island's clock, then stores and acts. -/
theorem regCmd_engine (h : Accepts who a v s) (hb : blockOf a = 10 ∨ blockOf a = 11 ∨ blockOf a = 12 ∨ blockOf a = 13) :
    regCmd who a v failing s = writeEngine who a v failing (ctlUngate a s) := by
  refine (regCmd_accepts h).trans ?_
  rcases hb with hb | hb | hb | hb
  · exact writeReg_ing hb
  · exact writeReg_cmp hb
  · exact writeReg_cip hb
  · exact writeReg_par hb

theorem regCmd_ing (h : Accepts who a v s) (hb : blockOf a = 10) : regCmd who a v failing s = writeEngine who a v failing (ctlUngate a s) :=
  regCmd_engine h (Or.inl hb)

theorem regCmd_cip (h : Accepts who a v s) (hb : blockOf a = 12) : regCmd who a v failing s = writeEngine who a v failing (ctlUngate a s) :=
  regCmd_engine h (Or.inr (Or.inr (Or.inl hb)))

/-! ### The RUN_NOW bits (R195, R228, R230, R271) -/

theorem writeEngine_ingKat (hrun : wbit v 1 = true) :
    writeEngine who 0x20000a000010 v failing s = ingRunNow failing (writeIngKatCtl v s) := if_pos hrun

theorem writeEngine_cmpKat (hrun : wbit v 3 = true) :
    writeEngine who 0x20000b000008 v failing s = cmpRunNow failing (writeCmpVerifyCfg v s) := if_pos hrun

theorem writeEngine_cipKat (hrun : wbit v 3 = true) :
    writeEngine who 0x20000c000000 v failing s = cipRunNow failing (writeCipCtl v s) := if_pos hrun

theorem writeEngine_parKat (hrun : wbit v 3 = true) :
    writeEngine who 0x20000d000000 v failing s = parKatOne (!failing.isEmpty) (writeParCtl v s) := if_pos hrun

end

/-! ### Key slot commands (R223, R224) -/

/-- The word of CIP_KEYSLOT_CMD (Table 7.8). -/
def keyCmdWord (op typ slot addr : Nat) : Word := BitVec.ofNat 64 (op * 2 ^ 60 + typ * 2 ^ 56 + slot * 2 ^ 42 + addr / 64 % 2 ^ 42)

section
variable {who : CoreId} {op typ slot addr : Nat} {s : State}

theorem keyCmdWord_fields (hop : op < 16) (htyp : typ < 16) (hslot : slot < 4096) :
    bits (keyCmdWord op typ slot addr).toNat 63 60 = op ∧ bits (keyCmdWord op typ slot addr).toNat 59 56 = typ ∧
      bits (keyCmdWord op typ slot addr).toNat 53 42 = slot ∧ bits (keyCmdWord op typ slot addr).toNat 41 0 = addr / 64 % 2 ^ 42 := by
  unfold keyCmdWord bits
  rw [BitVec.toNat_ofNat]
  omega

/-- What a key slot command of each OP does; the others are refused. -/
def keyAct (who : CoreId) (op typ slot at_ : Nat) (s : State) : State :=
  match op with
  | 1 => opLoad who typ slot at_ s
  | 2 => opGenerate who typ slot at_ s
  | 3 => opZeroize slot s
  | 4 => opQuery who slot at_ s
  | 5 => opZeroizeAll slot s
  | _ => keyDone op slot 4 s

theorem writeKeyCmd_of_idle {v : Word} (hidle : rbit F.CIP_KEYSLOT_STATUS_BUSY s = false) :
    writeKeyCmd who v s =
      keyAct who (bits v.toNat 63 60) (bits v.toNat 59 56) (bits v.toNat 53 42) (bits v.toNat 41 0 * 64) s := if_neg (ne_true_of_eq_false hidle)

theorem writeKeyCmd_acts (hop : op < 16) (htyp : typ < 16) (hslot : slot < 4096) (hidle : rbit F.CIP_KEYSLOT_STATUS_BUSY s = false) :
    writeKeyCmd who (keyCmdWord op typ slot addr) s = keyAct who op typ slot (addr / 64 % 2 ^ 42 * 64) s := by
  obtain ⟨hopBits, htypBits, hslotBits, haddrBits⟩ := keyCmdWord_fields (addr := addr) hop htyp hslot
  rw [writeKeyCmd_of_idle hidle, hopBits, htypBits, hslotBits, haddrBits]

theorem keyCmd_eq : keyCmd who op typ slot addr s = regCmd who 0x20000c000008 (keyCmdWord op typ slot addr) [] s := rfl

theorem writeEngine_keyCmd {v : Word} {failing : List Nat} : writeEngine who 0x20000c000008 v failing s = writeKeyCmd who v s := rfl

/-- A command written while BUSY is discarded. -/
theorem writeKeyCmd_of_busy {v : Word} (hbusy : rbit F.CIP_KEYSLOT_STATUS_BUSY s = true) :
    writeKeyCmd who v s = rflag F.CIP_KEYSLOT_STATUS_CMD_DROPPED true s := if_pos hbusy

section
variable (h : Accepts who 0x20000c000008 (keyCmdWord op typ slot addr) s)
include h

theorem keyCmd_writes : keyCmd who op typ slot addr s = writeKeyCmd who (keyCmdWord op typ slot addr) (ctlUngate 0x20000c000008 s) :=
  keyCmd_eq.trans ((regCmd_cip h (by decide)).trans writeEngine_keyCmd)

theorem keyCmd_acts (hop : op < 16) (htyp : typ < 16) (hslot : slot < 4096)
    (hidle : rbit F.CIP_KEYSLOT_STATUS_BUSY (ctlUngate 0x20000c000008 s) = false) :
    keyCmd who op typ slot addr s = keyAct who op typ slot (addr / 64 % 2 ^ 42 * 64) (ctlUngate 0x20000c000008 s) :=
  (keyCmd_writes h).trans (writeKeyCmd_acts hop htyp hslot hidle)

end

end

/-! ### The buffer registers (R136, R138, R157) -/

section
variable {who : CoreId} {a : Nat} {v : Word} {failing : List Nat} {s : State}

theorem regCmd_bpm (h : Accepts who a v s) (hb : blockOf a = 4) : regCmd who a v failing s = writeBpm a v s :=
  (regCmd_always_on h (by omega)).trans (writeReg_bpm hb)

/-- BPM_CTL: what follows depends on whether set D is enabled by the write. -/
theorem writeBpm_ctl : writeBpm 0x200004000000 v s =
    if !rbit F.BPM_CTL_D_EN s && rbit F.BPM_CTL_D_EN (writeBpmCtl v s) then afterDEn (writeBpmCtl v s) else writeBpmCtl v s := rfl

/-- No work of set D follows a write that leaves D_EN as it was, or clear. -/
theorem writeBpm_ctl_of_no_rise (h : (rbit F.BPM_CTL_D_EN s || !rbit F.BPM_CTL_D_EN (writeBpmCtl v s)) = true) :
    writeBpm 0x200004000000 v s = writeBpmCtl v s := by
  have still : (!rbit F.BPM_CTL_D_EN s && rbit F.BPM_CTL_D_EN (writeBpmCtl v s)) = false := by
    rwa [← Bool.not_eq_true', Bool.not_and, Bool.not_not]
  exact writeBpm_ctl.trans (if_neg (ne_true_of_eq_false still))

/-- The set that is enabled with every buffer free. -/
theorem enableS_enables (hwas : rbit F.BPM_CTL_S_EN s = false) (hcfg : cfgOk 0 s = true) : enableS s = rflag F.BPM_CTL_S_EN true (emptySet 0 s) :=
  (if_neg (ne_true_of_eq_false hwas)).trans (if_pos hcfg)

theorem enableD_enables (hwas : rbit F.BPM_CTL_D_EN s = false) (hcfg : cfgOk 1 s = true) (hkeep : rbit F.BPM_CTL_D_KEEP s = false) :
    enableD s = rflag F.BPM_CTL_D_EN true (emptySet 1 s) :=
  (if_neg (ne_true_of_eq_false hwas)).trans ((if_pos hcfg).trans (if_neg (ne_true_of_eq_false hkeep)))

theorem writeBpmCtl_of_s (hs : wbit v 0 = true) (hd : wbit v 1 = false) : writeBpmCtl v s = enableS (rflag F.BPM_CTL_D_KEEP (wbit v 2) s) :=
  (if_neg (ne_true_of_eq_false hd)).trans (if_pos hs)

theorem writeBpmCtl_of_d (hs : wbit v 0 = false) (hd : wbit v 1 = true) : writeBpmCtl v s = enableD (rflag F.BPM_CTL_D_KEEP (wbit v 2) s) :=
  (if_pos hd).trans (congrArg enableD (if_neg (ne_true_of_eq_false hs)))

theorem writeBpm_lowWater (set : Fin 2) (cls : Fin 5) :
    writeBpm (0x200004000200 + 64 * set.val + 8 * cls.val) (BitVec.ofNat 64 (2 ^ 63)) s = lwResetAt set.val cls.val s := by
  have hset := set.isLt
  have hcls := cls.isLt
  have ho : offsetOf (0x200004000200 + 64 * set.val + 8 * cls.val) = 0x200 + (64 * set.val + 8 * cls.val) := by unfold offsetOf; omega
  have hseti : (0x200 + (64 * set.val + 8 * cls.val) - 0x200) / 64 = set.val := by omega
  have hclsi : (0x200 + (64 * set.val + 8 * cls.val) - 0x200) / 8 % 8 = cls.val := by omega
  have hreset : wbit (BitVec.ofNat 64 (2 ^ 63)) 63 = true := by decide
  unfold writeBpm
  dsimp only
  rw [ho, if_neg (by omega), if_neg (by omega), if_neg (by omega), if_neg (by omega), if_neg (by omega), if_neg (by omega), if_pos (by omega),
    if_pos hreset, hseti, hclsi]

end

/-! ### The power block (R422, R427, R429, R433) -/

section
variable {who : CoreId} {a : Nat} {v : Word} {failing : List Nat} {s : State}

/-- An accepted write of the power block services IRQ line 1, then stores and acts. -/
theorem regCmd_power (h : Accepts who a v s) (hb : blockOf a = 1) : regCmd who a v failing s = writePower a v (clearIrq 1 s) :=
  (regCmd_always_on h (by omega)).trans (writeReg_power hb)

theorem writePower_mode : writePower 0x200001000000 v s = writePwrMode v.toNat s := rfl

/-- The fields of PWR_MODE stored. -/
def modeStored (v : Nat) (s : State) : State :=
  rset F.PWR_MODE_STATE (v % 4) (rset F.PWR_MODE_AGREE_SEQ (bits v 23 8)
    (rset F.PWR_MODE_VETO (bits v 63 48) (rset F.PWR_MODE_PG_IDLE_US (bits v 47 32) (rset F.PWR_MODE_CG_IDLE_10NS (bits v 31 24) s))))

/-- With no entry at step 3 PWR_MODE is stored; an entry into the state asked for goes on. -/
theorem writePwrMode_stores {n : Nat} (h : atStep3 (modeStored n s) = false ∨ n % 4 = 2) : writePwrMode n s = modeStored n s := by
  have goesOn : (!atStep3 (modeStored n s) || n % 4 == 2) = true := by
    rcases h with h | h <;> simp [h]
  exact if_pos goesOn

/-- P0 or P1 aborts an entry at step 3. -/
theorem writePwrMode_aborts {n : Nat} (hstep : atStep3 (modeStored n s) = true) (hlow : n % 4 < 2) :
    writePwrMode n s = abortEntry 7 0 (n % 4) (modeStored n s) := by
  have stops : ¬ (!atStep3 (modeStored n s) || n % 4 == 2) = true := by
    simp only [hstep, Bool.not_true, Bool.false_or, beq_iff_eq]
    omega
  exact (if_neg stops).trans (if_pos hlow)

/-- The island gates as a word of PWR_ISLAND_GATE asks: AUTO_PG stored, FORCE_OFF, then WAKE. -/
def gateAct (v : Word) (s : State) : State :=
  wakeIslands (bits v.toNat 56 38) (writeForceOff (bits v.toNat 18 0) (rset F.PWR_ISLAND_GATE_AUTO_PG (bits v.toNat 37 19 &&& autoPgMask) s))

theorem writePower_gate (hkeep : wbit v 57 = false) : writePower 0x200001000010 v s = gateAct v s :=
  congrArg (gateAct v) (if_neg (ne_true_of_eq_false hkeep))

theorem regCmd_gate (h : Accepts who 0x200001000010 v s) (hkeep : wbit v 57 = false) :
    regCmd who 0x200001000010 v failing s = gateAct v (clearIrq 1 s) :=
  (regCmd_power h (by decide)).trans (writePower_gate hkeep)

theorem writePower_level (n : Fin 16) (lvl : Fin 4) :
    writePower (0x200001000100 + 8 * n.val) (BitVec.ofNat 64 lvl.val) s = writeLevel n.val lvl.val s := by
  have hn := n.isLt
  have ho : offsetOf (0x200001000100 + 8 * n.val) = 0x100 + 8 * n.val := by unfold offsetOf; omega
  have hi : (0x100 + 8 * n.val - 0x100) / 8 = n.val := by omega
  have hlvl : bits (BitVec.ofNat 64 lvl.val).toNat 1 0 = lvl.val := by
    have := lvl.isLt
    rw [BitVec.toNat_ofNat]
    unfold bits
    omega
  unfold writePower
  dsimp only
  rw [ho, if_neg (by omega), if_neg (by omega), if_pos (by omega), hi, hlvl]

theorem fixedLevel_iff {n : Nat} : fixedLevel n = true ↔ n = 0 ∨ n = 14 ∨ n = 15 := by
  simp only [fixedLevel, Bool.or_eq_true, beq_iff_eq, or_assoc]

theorem writeLevel_eq {n lvl : Nat} :
    writeLevel n lvl s = if n = 0 ∨ n = 14 ∨ n = 15 then s else startLevel n (rset F.PWR_DVFS_LEVEL lvl s n) :=
  if_congr fixedLevel_iff rfl rfl

/-! ### The clock, dispatcher, shelf and chip blocks (R90, R264, R479, R493) -/

theorem regCmd_clkAlarm (h : Accepts who 0x200002000028 v s) : regCmd who 0x200002000028 v failing s = writeClkAlarm v.toNat s :=
  (regCmd_always_on h (by decide)).trans rfl

/-- TSK_CTL: a rising DRAIN marks the busy slots. -/
theorem writeTsk_ctl : writeTsk 0x200005000000 v s =
    if !rbit F.TSK_CTL_DRAIN s && rbit F.TSK_CTL_DRAIN (storeWord 0x200005000000 v s) then startDrain (storeWord 0x200005000000 v s)
    else storeWord 0x200005000000 v s := rfl

theorem regCmd_drain (h : Accepts who 0x200005000000 v s) (hwas : rbit F.TSK_CTL_DRAIN s = false)
    (hnow : rbit F.TSK_CTL_DRAIN (storeWord 0x200005000000 v s) = true) :
    regCmd who 0x200005000000 v failing s = startDrain (storeWord 0x200005000000 v s) :=
  (regCmd_always_on h (by decide)).trans ((writeReg_tsk (by decide)).trans (writeTsk_ctl.trans (if_pos (by rw [hwas, hnow]; rfl))))

theorem writeShf_ctl : writeShf 0x200010000000 v s =
    setPresent (bits v.toNat 63 56) (rset F.SHF_CTL_ALERT_EN (bits v.toNat 47 40) (rset F.SHF_CTL_EN_DRIVE (bits v.toNat 55 48) s)) := rfl

theorem regCmd_shf (h : Accepts who 0x200010000000 v s) : regCmd who 0x200010000000 v failing s =
    setPresent (bits v.toNat 63 56) (rset F.SHF_CTL_ALERT_EN (bits v.toNat 47 40) (rset F.SHF_CTL_EN_DRIVE (bits v.toNat 55 48) (clearIrq 7 s))) :=
  (regCmd_always_on h (by decide)).trans ((writeReg_shf (by decide)).trans writeShf_ctl)

theorem writeChip_reset (hwarm : wbit v 0 = true) :
    writeChip 0x200000000020 v s = warmReset F.CHIP_RESET_CAUSE_WARM_SW (storeWord 0x200000000020 v s) := if_pos hwarm

theorem regCmd_warm (h : Accepts who 0x200000000020 v s) (hwarm : wbit v 0 = true) :
    regCmd who 0x200000000020 v failing s = warmReset F.CHIP_RESET_CAUSE_WARM_SW (storeWord 0x200000000020 v s) :=
  (regCmd_always_on h (by decide)).trans ((writeReg_chip (by decide)).trans (writeChip_reset hwarm))

end

/-- Settles O25: each command reaches its register's write, and the word that it writes says which of the block's acts follows. -/
theorem enginePowerAndChipCommands : Obligations.EnginePowerAndChipCommands := by
  unfold Obligations.EnginePowerAndChipCommands
  refine ⟨fun who v failing fail set cls typ slot addr s => ?engines, fun who v mask m8 n lvl s => ?chip⟩
  case engines =>
    intro ing cmp cip par key at_ idle
    have htyp := typ.isLt
    have hslot := slot.isLt
    refine ⟨fun h => ?chunks, fun h => ?ingKat, fun h => ?cmpKat, fun h => ?cipKat, fun h => ?parKat, fun h hidle => ?load, fun h hidle => ?generate,
      fun h hidle => ?zeroize, fun h hidle => ?query, fun h hidle => ?zeroizeAll, fun h hbusy => ?dropped, fun h => ?limit,
      fun h hwas hcfg hd hkept => ?enablesS, fun h hs hkeep hwas hwas' hkeep' hcfg hnow => ?enablesD, fun h => ?lowWater⟩
    case chunks => exact next_congr (regCmd_ing h (by decide))
    case ingKat => exact next_congr ((regCmd_ing h (by decide)).trans (writeEngine_ingKat (wbit_withBit _ _ _ (by decide))))
    case cmpKat =>
      exact next_congr ((regCmd_engine h (Or.inr (Or.inl (by decide)))).trans (writeEngine_cmpKat (wbit_withBit _ _ _ (by decide))))
    case cipKat => exact next_congr ((regCmd_cip h (by decide)).trans (writeEngine_cipKat (wbit_withBit _ _ _ (by decide))))
    case parKat =>
      have failed : (!(if fail then [0] else ([] : List Nat)).isEmpty) = fail := by cases fail <;> rfl
      have written := (regCmd_engine (failing := if fail then [0] else []) h (Or.inr (Or.inr (Or.inr (by decide))))).trans
        (writeEngine_parKat (wbit_withBit _ _ _ (by decide)))
      rw [failed] at written
      exact next_congr written
    case load => exact next_congr (keyCmd_acts h (by decide) htyp hslot hidle)
    case generate => exact next_congr (keyCmd_acts h (by decide) htyp hslot hidle)
    case zeroize => exact next_congr (keyCmd_acts h (by decide) (by decide) hslot hidle)
    case query => exact next_congr (keyCmd_acts h (by decide) htyp hslot hidle)
    case zeroizeAll => exact next_congr (keyCmd_acts h (by decide) (by decide) (by decide) hidle)
    case dropped => exact next_congr ((keyCmd_writes h).trans (writeKeyCmd_of_busy (eq_true_of_ne_false hbusy)))
    case limit => exact next_congr (regCmd_cip h (by decide))
    case enablesS =>
      have stored := (writeBpmCtl_of_s (s := s) (wbit_withBit _ _ _ (by decide)) hd).trans (enableS_enables hwas hcfg)
      exact next_congr ((regCmd_bpm h (by decide)).trans ((writeBpm_ctl_of_no_rise (by rw [stored]; exact hkept)).trans stored))
    case enablesD =>
      have stored := writeBpmCtl_of_d (s := s) hs (wbit_withBit _ _ _ (by decide))
      rw [hkeep] at stored
      refine next_congr ((regCmd_bpm h (by decide)).trans (writeBpm_ctl.trans ?_))
      rw [stored, enableD_enables hwas' hcfg hkeep']
      exact if_pos (by rw [hwas, hnow]; rfl)
    case lowWater =>
      have hset := set.isLt
      have hcls := cls.isLt
      exact next_congr ((regCmd_bpm h (by unfold blockOf; omega)).trans (writeBpm_lowWater set cls))
  case chip =>
    intro p wk fo pr gate
    refine ⟨fun h => ?mode, fun h hkeep => ?wake, fun h hkeep => ?forceOff, fun h => ?level, fun h => ?alarm, fun h hwas hnow => ?drain,
      fun h => ?present, fun h => ?warm⟩
    case mode =>
      have written := (regCmd_power (failing := []) h (by decide)).trans writePower_mode
      exact ⟨fun hstay => next_congr (written.trans (writePwrMode_stores hstay)),
        fun hstep hlow => next_congr (written.trans (writePwrMode_aborts hstep hlow))⟩
    case wake => exact next_congr (regCmd_gate h hkeep)
    case forceOff => exact next_congr (regCmd_gate h hkeep)
    case level =>
      have hn := n.isLt
      exact next_congr ((regCmd_power h (by unfold blockOf; omega)).trans ((writePower_level n lvl).trans writeLevel_eq))
    case alarm => exact next_congr (regCmd_clkAlarm h)
    case drain => exact next_congr (regCmd_drain h hwas hnow)
    case present => exact next_congr (regCmd_shf h)
    case warm => exact next_congr (regCmd_warm h (wbit_withBit _ _ _ (by decide)))

end Sys2Proof.Machine
end

section
/-! PROOFS. The agreement to retain, wakes, idle islands, levels, temperature and the regulator (R422 to R437, R472, R510, R524 to R526). -/

namespace Sys2Proof.Machine

open Sys2Proof

/-! ### The agreement of the heads (R329, R430 to R432) -/

/-- No request waits, and the part is in P0 or P1. -/
def MayRequest (s : State) : Prop := s.pwr.waitp = none ∧ rget F.PWR_STATUS_STATE s < 2

/-- PWR_MODE as the Array Runtime writes it for its own request. -/
def modeAsked (target agree veto : Nat) (s : State) : State :=
  rset F.PWR_MODE_STATE target (rset F.PWR_MODE_AGREE_SEQ agree (rset F.PWR_MODE_VETO veto s))

section
variable {target agree veto : Nat} {s : State}

theorem requestState_presents (h : MayRequest s) :
    let u := modeAsked target agree veto s
    requestState target agree veto s = presentRequest { u with pwr := { u.pwr with waitp := some 32 } } := by
  obtain ⟨hwait, hlow⟩ := h
  exact if_neg (by simp [hwait, Nat.not_le.mpr hlow])

theorem opRetainPropose_agrees (hveto : arVeto s = 0) : opRetainPropose agree s = requestState 2 agree 0 (sendPartner (.agree agree) s) := if_pos hveto

theorem opRetainPropose_refuses (hveto : arVeto s ≠ 0) :
    opRetainPropose agree s = requestState 2 agree (arVeto s) (sendPartner (.refuse agree (lowestId (arVeto s))) s) := if_neg hveto

theorem opRefuse_at_step3 (hstep : atStep3 s = true) : opRefuse agree s = refusePower 2 0x20 (undoStep2 s) := if_pos hstep

theorem opRefuse_before_step3 (hstep : atStep3 s = false) : opRefuse agree s = requestState 2 agree 0x20 s := if_neg (ne_true_of_eq_false hstep)

theorem opPower_agrees (hstep : atStep3 s = true) (hseq : agree = rget F.PWR_MODE_AGREE_SEQ s) : opPower 2 agree s = agreed s :=
  (if_neg (by decide)).trans ((if_pos hstep).trans (if_pos hseq))

/-- A POWER that comes before step 3 is kept. -/
theorem opPower_kept (hstep : atStep3 s = false) : opPower 2 agree s = { s with pwr := { s.pwr with offered := some agree } } :=
  (if_neg (by decide)).trans (if_neg (ne_true_of_eq_false hstep))

end

/-! ### Wakes and idle islands (R426, R434, R435, R437) -/

section
variable {s : State}

/-- A matching address byte is counted, and wakes where SMBus may. -/
theorem opSmbusMatch_matches {addr : BitVec 7}
    (h : addr.toNat &&& rget F.PWR_SMB_WAKE_ADDR_MASK s = rget F.PWR_SMB_WAKE_ADDR_ADDR s &&& rget F.PWR_SMB_WAKE_ADDR_MASK s) :
    let t := rinc F.PWR_SMB_WAKE_ADDR_MATCHES 1 s
    opSmbusMatch addr s = if rbit F.PWR_WAKE_EN_SMBUS t = true then wakeSource 1 0 t else t :=
  if_neg (not_not_intro h)

theorem opHeartbeatWake_wakes (hst : rget F.PWR_STATUS_STATE s = 2) (hedges : 8 ≤ s.pwr.edges) (hen : rbit F.PWR_WAKE_EN_HEARTBEAT s = true) :
    opHeartbeatWake s = wakeSource 5 0 s := if_pos ⟨hst, hedges, hen⟩

theorem opHeartbeatWake_of_few_edges (hedges : s.pwr.edges < 8) : opHeartbeatWake s = s :=
  if_neg fun ⟨_, hmany, _⟩ => Nat.not_le.mpr hedges hmany

theorem opHbInAbsent_fences (hquiet : linkLossQuiet s = false) (hedges : s.fence.edges = 0) (hshadow : s.mir.partnerShadow = true)
    (hrun : runtimeUp s = true) : opHbInAbsent s = assertFence 3 { s with fence := { s.fence with why := 2 } } :=
  if_neg (by simp [hquiet, hedges, hshadow, hrun])

variable {i : Fin 19}

theorem opClockGate_stops (hst : rget F.PWR_STATUS_STATE s = 1) (hidle : clockIdle i.val s = true) (hon : islandOff i.val s = false) :
    opClockGate i s = setElec i.val (rputBit F.PWR_STATUS_CG i.val true s) := if_pos ⟨hst, hidle, hon⟩

theorem opPowerGate_gates (hst : rget F.PWR_STATUS_STATE s = 1) (hidle : powerIdle i.val s = true)
    (hauto : rtest F.PWR_ISLAND_GATE_AUTO_PG i.val s = true) :
    opPowerGate i s = setElec i.val (rputBit F.PWR_STATUS_PG i.val true s) := if_pos ⟨hst, hidle, hauto⟩

/-- Outside P1 no island is gated for idleness. -/
theorem idleGates_of_other_state (hst : rget F.PWR_STATUS_STATE s ≠ 1) : opClockGate i s = s ∧ opPowerGate i s = s :=
  ⟨if_neg fun ⟨h, _, _⟩ => hst h, if_neg fun ⟨h, _, _⟩ => hst h⟩

end

/-! ### Levels and VDD_CORE (R422, R423, R472) -/

section
variable {n : Fin 16} {s : State}

/-- The level that an island's change has reached, in force. -/
def levelReached (n : Nat) (s : State) : State :=
  let l := kget 1 s.pwr.target n
  rset F.PWR_DVFS_MHZ (levelMhz n l s) (rset F.PWR_DVFS_CUR_LEVEL l s n) n

/-- What ends a level change: the voltage of a lowering falls, and a held write is applied. -/
def changeEnded (n : Nat) (s : State) : State := startLevel n (syncCore (setElec (n + 1) (rflag F.PWR_DVFS_CHANGING false s n)))

theorem opLevelDone_ends (hchanging : rbit F.PWR_DVFS_CHANGING s n.val = true) :
    let d := levelReached n.val s
    opLevelDone n s = changeEnded n.val
      (if (kfind d.chip.plls n.val).isNone then rset F.CLK_ISLAND_FREQ_MHZ (levelMhz n.val (kget 1 s.pwr.target n.val) s) d n.val else d) :=
  if_neg (by rw [hchanging]; decide)

/-- While a PLL is out of lock, its island's frequency shows nothing else. -/
theorem opLevelDone_of_lost_pll (hchanging : rbit F.PWR_DVFS_CHANGING s n.val = true) (hpll : kfind (levelReached n.val s).chip.plls n.val ≠ none) :
    opLevelDone n s = changeEnded n.val (levelReached n.val s) :=
  (opLevelDone_ends hchanging).trans (congrArg _ (if_neg (by rwa [Option.isNone_iff_eq_none])))

theorem opLevelDone_of_locked_pll (hchanging : rbit F.PWR_DVFS_CHANGING s n.val = true) (hpll : kfind (levelReached n.val s).chip.plls n.val = none) :
    opLevelDone n s = changeEnded n.val
      (rset F.CLK_ISLAND_FREQ_MHZ (levelMhz n.val (kget 1 s.pwr.target n.val) s) (levelReached n.val s) n.val) :=
  (opLevelDone_ends hchanging).trans (congrArg _ (if_pos (by rw [hpll]; rfl)))

theorem opAvsRetry_commands {ok : Bool} (hfault : rbit F.CLK_PLL_STATUS_AVS_FAULT s = true) :
    let t := emit (.avs 0 (coreVolt s)) s
    opAvsRetry ok s =
      if ok = true then startLevels (rflag F.CLK_PLL_STATUS_AVS_FAULT false { t with pwr := { t.pwr with core := coreVolt t } }) else t :=
  if_neg (by rw [hfault]; decide)

theorem opAvsRetry_of_answering {ok : Bool} (hfault : rbit F.CLK_PLL_STATUS_AVS_FAULT s = false) : opAvsRetry ok s = s :=
  if_pos (by rw [hfault]; rfl)

theorem syncCore_commands (hfault : rbit F.CLK_PLL_STATUS_AVS_FAULT s = false) (hvolt : coreVolt s ≠ s.pwr.core) :
    syncCore s = emit (.avs 0 (coreVolt s)) { s with pwr := { s.pwr with core := coreVolt s } } :=
  if_neg (by simp [hfault, hvolt])

end

/-! ### Temperature (R510, R524, R525) -/

section
variable {temps : List Int} {t0 : Int} {held : Nat} {s : State}

/-- Tj taken from a sample, with the events of the thresholds that it passed. -/
def sampled (tj : Int) (s : State) : State := tempEvents s.pwr.tj tj { s with pwr := { s.pwr with tj := tj } }

section
variable (hst : rget F.PWR_STATUS_STATE s < 2) (htrip : s.pwr.tripped = false)
include hst htrip

/-- In P0 and P1 a sample sets Tj and may step the cap. -/
theorem opThermalSample_samples :
    let tj := temps.foldl max t0
    let u := sampled tj s
    opThermalSample (t0 :: temps) held s =
      if capNow u < capAt tj then setCap (capAt tj) u
      else if capAt tj < capNow u ∧ tj ≤ capThreshold (capNow u) - 5 ∧ 100 ≤ held then setCap (max (capAt tj) (capNow u - 1)) u
      else u :=
  if_neg (by rw [htrip, not_or]; exact ⟨Nat.not_le.mpr hst, Bool.false_ne_true⟩)

/-- A threshold reached applies its cap. -/
theorem opThermalSample_raises_cap (h : capNow (sampled (temps.foldl max t0) s) < capAt (temps.foldl max t0)) :
    opThermalSample (t0 :: temps) held s = setCap (capAt (temps.foldl max t0)) (sampled (temps.foldl max t0) s) :=
  (opThermalSample_samples hst htrip).trans (if_pos h)

/-- A cap lifts a step once Tj has stayed 5 °C below its threshold for 100 ms. -/
theorem opThermalSample_lifts_cap (h : capAt (temps.foldl max t0) < capNow (sampled (temps.foldl max t0) s))
    (hcool : temps.foldl max t0 ≤ capThreshold (capNow (sampled (temps.foldl max t0) s)) - 5) (hheld : 100 ≤ held) :
    opThermalSample (t0 :: temps) held s =
      setCap (max (capAt (temps.foldl max t0)) (capNow (sampled (temps.foldl max t0) s) - 1)) (sampled (temps.foldl max t0) s) :=
  (opThermalSample_samples hst htrip).trans ((if_neg h.not_gt).trans (if_pos ⟨h, hcool, hheld⟩))

theorem opThermalSample_keeps_cap (h : capAt (temps.foldl max t0) = capNow (sampled (temps.foldl max t0) s)) :
    opThermalSample (t0 :: temps) held s = sampled (temps.foldl max t0) s :=
  (opThermalSample_samples hst htrip).trans ((if_neg h.not_gt).trans (if_neg fun ⟨hlt, _, _⟩ => hlt.ne h))

end

theorem smbAlert_iff : smbAlert s = true ↔
    rget F.FLT_CTR_STATE_TRIPPED s ≠ 0 ∨ rbit F.EVR_STATUS_CRIT_LOST s = true ∨ rbit F.PWR_STATUS_THROTTLE s = true := by
  rw [smbAlert, Bool.or_eq_true, Bool.or_eq_true, bne_iff_ne, or_assoc]

end

/-- Settles O52: each command is its operation, and the hypotheses of a clause say which of its cases holds. -/
theorem powerStatesWakesAndLevels : Obligations.PowerStatesWakesAndLevels := by
  unfold Obligations.PowerStatesWakesAndLevels
  intro agree alarm id target addr g i n temps t0 held ok s asks request free yes no st matched edge lvl f d1 tj warm asked dead
  refine ⟨fun hveto hfree => ?agrees, fun hveto hfree => ?refuses, fun hfree => ?agree, fun hstep => ?refused, fun hstep hfree => ?refusedEarly,
    fun ht hstep hseq => ?power, fun ht hstep => ?powerKept, fun hstep => ?timeout, fun haddr => ?smbus, ⟨fun hen => ?gpio, fun hen => ?gpioMasked⟩,
    fun hst hedges hen => ?heartbeat, fun hedges => ?fewEdges, fun hquiet hedges hshadow hrun => ?absent, fun hup => ?notUp, fun hup => ?linkUp,
    fun hst hidle hon => ?clockGate, fun hst hidle hauto => ?powerGate, fun hst => ?noGate, fun hchanging => ?levelDone,
    fun hst htrip hcap => ?capRises, fun hst htrip hcap hcool hheld => ?capLifts, fun hst htrip hcap => ?capStays, rfl, rfl,
    fun hfault => ?retry, fun hfault => ?noRetry, syncCore_commands, smbAlert_iff, Iff.rfl⟩
  case agrees => exact next_congr ((opRetainPropose_agrees hveto).trans (requestState_presents hfree))
  case refuses => exact next_congr ((opRetainPropose_refuses hveto).trans (requestState_presents hfree))
  case agree => exact next_congr (requestState_presents hfree)
  case refused => exact next_congr (opRefuse_at_step3 hstep)
  case refusedEarly => exact next_congr ((opRefuse_before_step3 hstep).trans (requestState_presents hfree))
  case power =>
    subst ht
    exact next_congr (opPower_agrees hstep hseq)
  case powerKept =>
    subst ht
    exact next_congr (opPower_kept hstep)
  case timeout => exact next_congr (if_pos hstep)
  case smbus =>
    have counted := opSmbusMatch_matches haddr
    exact ⟨fun hen => next_congr (counted.trans (if_pos hen)), fun hen => next_congr (counted.trans (if_neg (ne_true_of_eq_false hen)))⟩
  case gpio => exact next_congr (if_pos hen)
  case gpioMasked => exact next_congr (if_neg (ne_true_of_eq_false hen))
  case heartbeat => exact next_congr (opHeartbeatWake_wakes hst hedges hen)
  case fewEdges => exact next_congr (opHeartbeatWake_of_few_edges hedges)
  case absent => exact next_congr (opHbInAbsent_fences hquiet hedges hshadow hrun)
  case notUp => exact next_congr (if_neg (ne_true_of_eq_false hup))
  case linkUp => exact next_congr (if_pos hup)
  case clockGate => exact next_congr (opClockGate_stops hst hidle hon)
  case powerGate => exact next_congr (opPowerGate_gates hst hidle hauto)
  case noGate => exact (idleGates_of_other_state hst).imp next_congr next_congr
  case levelDone =>
    exact ⟨fun hpll => next_congr (opLevelDone_of_locked_pll hchanging hpll), fun hpll => next_congr (opLevelDone_of_lost_pll hchanging hpll)⟩
  case capRises => exact next_congr (opThermalSample_raises_cap hst htrip hcap)
  case capLifts => exact next_congr (opThermalSample_lifts_cap hst htrip hcap hcool hheld)
  case capStays => exact next_congr (opThermalSample_keeps_cap hst htrip hcap)
  case retry =>
    have commanded := opAvsRetry_commands (ok := ok) hfault
    exact ⟨fun hok => next_congr (commanded.trans (if_pos hok)), fun hok => next_congr (commanded.trans (if_neg (ne_true_of_eq_false hok)))⟩
  case noRetry => exact next_congr (opAvsRetry_of_answering hfault)

end Sys2Proof.Machine
end

section
/-! PROOFS. The operations of the security block (R448 to R451, R454, R456, R460, R461, R468) and the transport of keys between arrays (R219, R451,
R452). -/

namespace Sys2Proof.Machine

open Sys2Proof

/-! ### A write of SEC_ATTEST_CTL (R468) -/

/-- The word of SEC_ATTEST_CTL that starts operation `op` with OBJ and INDEX as they are. -/
def attestWord (op addr : Nat) (s : State) : Word :=
  BitVec.ofNat 64 (op * 2 ^ 60 + rget F.SEC_ATTEST_CTL_OBJ s * 2 ^ 52 + rget F.SEC_ATTEST_CTL_INDEX s * 2 ^ 42 + addr / 64 % 2 ^ 42)

/-- The address of the block that the word names. -/
def blockAt (addr : Nat) : Nat := addr / 64 % 2 ^ 42 * 64

/-- The state in which an operation starts: IRQ line 9 serviced, OBJ and INDEX stored as they were. -/
def attestStart (s : State) : State :=
  rset F.SEC_ATTEST_CTL_OBJ (rget F.SEC_ATTEST_CTL_OBJ s) (rset F.SEC_ATTEST_CTL_INDEX (rget F.SEC_ATTEST_CTL_INDEX s) (clearIrq 9 s))

/-- Operation `op` is asked by a writer that R537 accepts, with OBJ and INDEX within their fields. -/
def Asked (who : CoreId) (op addr : Nat) (s : State) : Prop :=
  Accepts who 0x200011000018 (attestWord op addr s) s ∧ rget F.SEC_ATTEST_CTL_OBJ s < 8 ∧ rget F.SEC_ATTEST_CTL_INDEX s < 1024

/-- The operations of Table 15.12 by their number. -/
def attestAct (who : CoreId) (op addr : Nat) (s : State) : State :=
  match op with
  | 1 => secReport who addr s
  | 2 => secVerify who addr s
  | 3 => secMeasure who addr s
  | 4 => secAwkGenerate who addr s
  | 5 => secAwkUnseal who addr s
  | 6 => secSendKey who addr s
  | 7 => secReceiveKey who addr s
  | 8 => secWriteSlot who addr s
  | 9 => secSetDir who addr s
  | _ => secDone resBadOp s

section
variable {who : CoreId} {op addr : Nat} {v : Word} {failing : List Nat} {s : State}

/-- An accepted write of the security block services IRQ line 9, then stores and acts. -/
theorem regCmd_sec {a : Nat} (h : Accepts who a v s) (hb : blockOf a = 17) : regCmd who a v failing s = writeSec who a v (clearIrq 9 s) :=
  (regCmd_always_on h (by omega)).trans (writeReg_sec hb)

theorem attestWord_fields (hop : op < 16) (hobj : rget F.SEC_ATTEST_CTL_OBJ s < 8) (hidx : rget F.SEC_ATTEST_CTL_INDEX s < 1024) :
    bits (attestWord op addr s).toNat 63 60 = op ∧ bits (attestWord op addr s).toNat 54 52 = rget F.SEC_ATTEST_CTL_OBJ s ∧
      bits (attestWord op addr s).toNat 51 42 = rget F.SEC_ATTEST_CTL_INDEX s ∧ bits (attestWord op addr s).toNat 41 0 = addr / 64 % 2 ^ 42 := by
  unfold attestWord bits
  rw [BitVec.toNat_ofNat]
  omega

theorem writeSec_attest : writeSec who 0x200011000018 v s = writeAttest who v.toNat s := by
  unfold writeSec
  simp only [show offsetOf 0x200011000018 = 0x18 from by decide]

theorem writeAttest_eq {n : Nat} :
    writeAttest who n s = attestAct who (bits n 63 60) (bits n 41 0 * 64)
      (rset F.SEC_ATTEST_CTL_OBJ (bits n 54 52) (rset F.SEC_ATTEST_CTL_INDEX (bits n 51 42) s)) := rfl

theorem secCmd_eq : secCmd who op addr s = regCmd who 0x200011000018 (attestWord op addr s) [] s := rfl

theorem secCmd_acts (hop : op < 16) (h : Asked who op addr s) : secCmd who op addr s = attestAct who op (blockAt addr) (attestStart s) := by
  obtain ⟨haccept, hobj, hidx⟩ := h
  obtain ⟨hopBits, hobjBits, hidxBits, haddrBits⟩ := attestWord_fields (addr := addr) hop hobj hidx
  rw [secCmd_eq, regCmd_sec haccept (by decide), writeSec_attest, writeAttest_eq, hopBits, hobjBits, hidxBits, haddrBits]
  rfl

end

/-! ### The operations on the block (R448 to R451, R454, R456, R461) -/

section
variable {who : CoreId} {addr : Nat} {b l img awk : List Byte} {s s1 s2 : State}

theorem secReport_writes (hb : blockRead who addr 0 33 s = (some b, s1)) (hready : rbit F.SEC_STATUS_ALIAS_READY s1 = true)
    (hitem : reportItem (ofLe (b.drop 32)) (b.take 32) s1 = (some l, s2)) :
    secReport who addr s = secDone 0 (blockWrite who addr 64 l s2) := by
  unfold secReport
  simp only [hb, hready, hitem, Bool.not_true, Bool.false_eq_true, if_false]
  rfl

theorem secVerify_checks (hb : blockRead who addr 0 9 s = (some b, s1))
    (himg : blockImage who (ofLe (b.take 8)) (ofLe (b.drop 8)) s1 = (some img, s2)) :
    let code := checkImage (ofLe (b.drop 8)) img s2
    let w := blockWrite who addr 16 (leBytes 1 code) s2
    secVerify who addr s = if code = 0 then secDone 0 w else secDone 4 (refuseImage (ofLe (b.drop 8)) 0xFF code w) := by
  unfold secVerify
  simp only [hb, himg]
  rfl

/-- Stage 1 measures slot 2 once. -/
theorem secMeasure_stage1 (hb : blockRead who addr 0 40 s = (some b, s1)) (hslot : ofLe (b.take 8) = 2) (hstage : rget F.SEC_STATUS_STAGE s1 = 1) :
    secMeasure who addr s = secDone 0 (enterStage2 (setMeas 2 (digestOf (b.drop 8)) s1)) := by
  unfold secMeasure
  simp only [hb]
  exact if_pos ⟨hslot, hstage⟩

theorem secAwkGenerate_makes (htest : testMode s = false) (hnone : s.keys.awk = none) (hplace : dataPlace who addr true s = true) :
    let k := drawBytes 32 s
    let e := sealBytes (sealKey k.2) [] k.1 k.2
    secAwkGenerate who addr s = secDone 0 (setAwk k.1 (keepBlob e.1 (blockWrite who addr 0 (padTo 64 e.1) e.2))) :=
  (if_neg (ne_true_of_eq_false htest)).trans ((if_neg (by rw [hnone]; decide)).trans (if_neg (by rw [hplace]; decide)))

theorem secAwkUnseal_opens (htest : testMode s = false) (hb : blockRead who addr 0 64 s = (some b, s1))
    (hopen : openSealed (sealKey s1) [] b 32 = some l) : secAwkUnseal who addr s = secDone 0 (setAwk l s1) := by
  unfold secAwkUnseal
  simp only [htest, hb, hopen, Bool.false_eq_true, if_false]
  rfl

theorem secWriteSlot_writes (hb : blockRead who addr 0 10 s = (some b, s1)) (hlo : 1 ≤ ofLe ((b.drop 8).take 1)) (hhi : ofLe ((b.drop 8).take 1) ≤ 3)
    (hslot : ofLe (b.drop 9) ≤ 1) (himg : blockImage who (ofLe (b.take 8)) (ofLe ((b.drop 8).take 1)) s1 = (some img, s2)) :
    secWriteSlot who addr s = secDone 0 (writeSlot (ofLe ((b.drop 8).take 1)) (ofLe (b.drop 9)) img s2) := by
  unfold secWriteSlot
  simp only [hb]
  refine (if_neg (by omega)).trans ?_
  simp only [himg]
  rfl

theorem secSetDir_writes (hb : blockRead who addr 0 3 s = (some b, s1)) (hlo : 1 ≤ ofLe (b.take 1)) (hhi : ofLe (b.take 1) ≤ 3)
    (hslot : ofLe (b.drop 2) ≤ 1) (hact : ofLe ((b.drop 1).take 1) ≤ 1) :
    secSetDir who addr s = secDone 0 (if ofLe ((b.drop 1).take 1) = 0 then setTrial (ofLe (b.take 1)) (ofLe (b.drop 2)) s1
      else setCommitted (ofLe (b.take 1)) (ofLe (b.drop 2)) s1) := by
  unfold secSetDir
  simp only [hb]
  exact if_neg (by omega)

/-- SEND_KEY of the array wrapping key (PURPOSE 0): encapsulated to the peer's key, sealed under the shared secret. -/
theorem sendKey_of_awk {session : Nat} {peer rec_ : List Byte} (htest : testMode s = false) (hawk : s.keys.awk = some awk) :
    let enc := Config.mlkemEncaps peer (drawBytes 32 s).1
    let p := sealBytes (xferKey enc.2) [] awk (drawBytes 32 s).2
    sendKey 0 session peer rec_ s = ({ ct := padTo 1088 enc.1, payload := p.1 }, p.2) := by
  unfold sendKey
  simp only [htest, hawk, Bool.false_eq_true, if_false]
  rfl

theorem secSendKey_of_awk (hb : blockRead who addr 0 3392 s = (some b, s1)) (htest : testMode s1 = false) (hawk : s1.keys.awk = some awk)
    (hpurpose : ofLe (b.take 1) = 0) :
    let enc := Config.mlkemEncaps ((b.drop 64).take 1184) (drawBytes 32 s1).1
    let p := sealBytes (xferKey enc.2) [] awk (drawBytes 32 s1).2
    secSendKey who addr s = secDone 0 (blockWrite who addr 2048 (padTo 1088 (padTo 1088 enc.1))
      (blockWrite who addr 3136 p.1 (blockWrite who addr 3264 [] p.2))) := by
  unfold secSendKey
  simp only [hb, hpurpose, sendKey_of_awk htest hawk]
  rfl

/-- RECEIVE_KEY of an array wrapping key by a part that has none installs it. -/
theorem receiveKey_of_awk {session keyId : Nat} {ct payload : List Byte} (htest : testMode s = false) (hawk : s.keys.awk = none)
    (hopen : openSealed (xferKey (Config.mlkemDecaps (identitySeed 2 s) (identitySeed 3 s) ct)) [] payload 32 = some l) :
    receiveKey 0 session keyId ct payload s = (0, [], takeAwk l s) := by
  unfold receiveKey
  simp only [htest, hawk, hopen, Bool.false_eq_true, if_false]
  rfl

theorem secReceiveKey_of_awk (hb : blockRead who addr 0 2176 s = (some b, s1)) (htest : testMode s1 = false) (hpurpose : ofLe (b.take 1) = 0)
    (hawk : s1.keys.awk = none)
    (hopen : openSealed (xferKey (Config.mlkemDecaps (identitySeed 2 s1) (identitySeed 3 s1) ((b.drop 64).take 1088))) []
      ((b.drop 1152).take 128) 32 = some l) :
    secReceiveKey who addr s = secDone 0 (blockWrite who addr 2048 [] (takeAwk l s1)) := by
  unfold secReceiveKey
  simp only [hb, hpurpose, receiveKey_of_awk htest hawk hopen]
  rfl

end

/-! ### SVN_F and the identity window (R460, R468) -/

section
variable {who : CoreId} {s : State}

/-- The word of SEC_SVN that ADVANCE writes. -/
theorem advanceWord_fields {n : Nat} (hn : n < 256) :
    bits (BitVec.ofNat 64 (n * 2 ^ 56)).toNat 63 56 = n ∧ (BitVec.ofNat 64 (n * 2 ^ 56)).toNat.testBit 48 = false := by
  have small : n * 2 ^ 56 < 2 ^ 64 := by omega
  rw [BitVec.toNat_ofNat, Nat.mod_eq_of_lt small]
  refine ⟨by unfold bits; omega, ?_⟩
  rw [Nat.testBit_mul_two_pow]
  rfl

theorem writeSvn_advances {v : Nat} (hs1 : bits v 63 56 ≤ rget F.SEC_SVN_S1_SVN s) (hrt : bits v 63 56 ≤ rget F.SEC_SVN_RT_SVN s)
    (hmax : bits v 63 56 ≤ 128) (hfused : rget F.SEC_SVN_FUSED s < bits v 63 56) (hkeep : v.testBit 48 = false) :
    writeSvn v s = record Ev.SVN_ADVANCED srcSUP 0 (leBytes 1 (bits v 63 56)) (rset F.SEC_SVN_FUSED (bits v 63 56) s) := by
  unfold writeSvn svnF
  dsimp only
  rw [if_neg (by omega), if_neg (by omega), hkeep, if_neg Bool.false_ne_true]

theorem writeSec_svn {v : Word} (hv : bits v.toNat 63 56 ≠ 0) : writeSec who 0x200011000008 v s = writeSvn v.toNat s := if_neg hv

/-- ADVANCE without APPLY_REVOKE writes the SVN alone. -/
theorem execAdvance_without_revoke {svn : BitVec 8} :
    execAdvance who svn false s = .next (regCmd who 0x200011000008 (BitVec.ofNat 64 (svn.toNat * 2 ^ 56)) [] s) := by
  unfold execAdvance
  rw [if_neg Bool.false_ne_true, Nat.add_zero]

/-- A read of SEC_ID_WIN takes the word of the object at INDEX, and INDEX advances. -/
theorem readCmd_idWin {d : Rn} (hx : executes s who = true) (hf : ctlFault who 0x200011000010 false 0 s = none) :
    readCmd who 0x200011000010 d s = wr who d (readIdWin s).1 (readIdWin s).2 := by
  unfold readCmd
  rw [hx, hf]
  rfl

theorem readIdWin_of_measurements (hobj : rget F.SEC_ATTEST_CTL_OBJ s = 3) :
    readIdWin s =
      (BitVec.ofNat 64 (ofLe (((((List.range 6).map (fun i => digestBytes (measOf i s))).flatten).drop (8 * rget F.SEC_ATTEST_CTL_INDEX s)).take 8)),
        rset F.SEC_ATTEST_CTL_INDEX (rget F.SEC_ATTEST_CTL_INDEX s + 1) s) := by
  unfold readIdWin
  simp only [hobj]

end

/-! ### Key transport between arrays (R219, R451, R452) -/

section
variable {m : KeyMsg} {x : Session} {i r : Nat} {b l : List Byte} {o : XferOut} {s s1 : State}

/-- The three certificates and the report go back to the asker. -/
theorem opKeyQuery_answers (hrep : reportItem 0 m.nonce s = (some b, s1)) :
    let c3 := reportItem 3 [] s1
    let c2 := reportItem 2 [] c3.2
    let c1 := reportItem 1 [] c2.2
    opKeyQuery m s = sendKeyMsg m.chip 0x21
      { purpose := m.purpose, session := m.session, nonce := m.nonce, peerKey := transportPub c1.2, svn := svnF c1.2,
        payload := c3.1.getD [] ++ c2.1.getD [] ++ c1.1.getD [] ++ b } c1.2 := by
  unfold opKeyQuery
  simp only [hrep, List.foldl_cons, List.foldl_nil, List.nil_append, Option.getD_some]

section
variable (hok : m.ok = true) (hsvn : svnF s ≤ m.svn)
include hok hsvn

/-- The peer's certificates pass and its SVN_F is high enough. -/
theorem peerPasses : (!m.ok || decide (m.svn < svnF s)) = false := by
  rw [hok, decide_eq_false (Nat.not_lt.mpr hsvn)]
  rfl

variable (hres : o.result = 0)
include hres

/-- A session's key is offered, and this head's own copy of it loaded. -/
theorem opKeyCerts_offers_session (hpurpose : m.purpose ≠ 2) (hx : keyWaiter m s = some x) (hsend : sendKey 1 x.num m.peerKey [] s = (o, s1)) :
    opKeyCerts m s =
      sendKeyMsg m.chip 0x22 { purpose := 1, session := x.num, ciphertext := o.ct, payload := o.payload } (loadBlock o.block s1) := by
  unfold opKeyCerts
  simp only [if_neg hpurpose, hx, peerPasses hok hsvn, hsend, hres, ne_eq, not_true_eq_false, Bool.false_eq_true, if_false]

/-- A record of a new generation is offered to a chip that has not accepted it. -/
theorem opKeyCerts_offers_record (hpurpose : m.purpose = 2) (hrec : pendingRecord m s = some b)
    (hsend : sendKey 2 m.session m.peerKey (padTo 128 b) s = (o, s1)) :
    opKeyCerts m s = sendKeyMsg m.chip 0x22 { purpose := 2, session := m.session, ciphertext := o.ct, payload := o.payload } s1 := by
  unfold opKeyCerts
  simp only [if_pos hpurpose, hrec, peerPasses hok hsvn, hsend, hres, ne_eq, not_true_eq_false, Bool.false_eq_true, if_false]

end

theorem opKeyOffer_answers (hrecv : receiveKey m.purpose m.session (m.chip * 2 ^ 32 + m.session) m.ciphertext m.payload s = (r, l, s1)) :
    opKeyOffer m s = sendKeyMsg m.chip 0x23 { purpose := m.purpose, session := m.session, result := r }
      (if r ≠ 0 then s1 else if m.purpose = 1 then loadBlock l s1 else if m.purpose = 2 then takeRecord l s1 else s1) := by
  unfold opKeyOffer
  simp only [hrecv]
  rfl

section
variable (hpurpose : m.purpose = 1)
include hpurpose

theorem opKeyAccept_goes_on (hres : m.result = 0) (hx : sessOf m.session s = some x) (hchip : x.chip = m.chip) :
    opKeyAccept m s = onSessionKey m.session s := by
  unfold opKeyAccept
  simp only [hpurpose, hres, hx, hchip, OfNat.one_ne_ofNat, ne_eq, not_true_eq_false, and_true, if_false, if_true]

/-- A session whose key was refused gives it up. -/
theorem opKeyAccept_gives_up (hres : m.result ≠ 0) (hi : sessKey (ownChip s) m.session s = some i) : opKeyAccept m s = setKey i {} s := by
  unfold opKeyAccept
  simp only [hpurpose, hres, hi, ne_eq, not_true_eq_false, and_false, if_false]

end

/-- A chip that took the new generation is no longer waited for. -/
theorem opKeyAccept_of_record (hpurpose : m.purpose = 2) (hres : m.result = 0) :
    opKeyAccept m s = { s with keys := { s.keys with pend := s.keys.pend.map (fun p =>
      if p.kd * 65536 + p.gen = m.session then { p with chips := p.chips.filter (· != m.chip) } else p) } } := if_pos ⟨hpurpose, hres⟩

end

/-- Settles O30: each command reaches its operation, and the block that it names says which of the operation's cases holds; the messages likewise. -/
theorem securityBlockAndKeyTransport : Obligations.SecurityBlockAndKeyTransport := by
  unfold Obligations.SecurityBlockAndKeyTransport
  refine ⟨fun who d svn addr b l img s s1 s2 => ?block, fun who addr m x i b l awk o r s s1 => ?transport⟩
  case block =>
    intro ctl at_ u asked cls
    refine ⟨fun h hb hready hitem => ?report, fun h hb himg => ?verify, fun h hb hslot hstage => ?measure, fun h htest hnone hplace => ?generate,
      fun h htest hb hopen => ?opens, fun h hb hlo hhi hslot himg => ?writeSlot, fun h hb hlo hhi hslot => ?setDir,
      fun h hpos hmax hs1 hrt hfused => ?advance, fun hx hf hobj => ?idWin⟩
    case report => exact next_congr ((secCmd_acts (by decide) h).trans (secReport_writes hb hready hitem))
    case verify => exact next_congr ((secCmd_acts (by decide) h).trans (secVerify_checks hb himg))
    case measure => exact next_congr ((secCmd_acts (by decide) h).trans (secMeasure_stage1 hb hslot hstage))
    case generate => exact next_congr ((secCmd_acts (by decide) h).trans (secAwkGenerate_makes htest hnone hplace))
    case opens => exact next_congr ((secCmd_acts (by decide) h).trans (secAwkUnseal_opens htest hb hopen))
    case writeSlot => exact next_congr ((secCmd_acts (by decide) h).trans (secWriteSlot_writes hb hlo hhi hslot himg))
    case setDir =>
      have written := fun hact => (secCmd_acts (by decide) h).trans (secSetDir_writes hb hlo hhi hslot hact)
      refine ⟨fun htrial => next_congr ((written (by omega)).trans (congrArg _ (if_pos htrial))),
        fun hcommit => next_congr ((written (by omega)).trans (congrArg _ (if_neg (by omega))))⟩
    case advance =>
      obtain ⟨hbits, hkeep⟩ := advanceWord_fields svn.isLt
      have written := writeSvn_advances (s := clearIrq 9 s) (v := (BitVec.ofNat 64 (svn.toNat * 2 ^ 56)).toNat)
        (by rwa [hbits]) (by rwa [hbits]) (by rwa [hbits]) (by rwa [hbits]) hkeep
      rw [hbits] at written
      have stored := (regCmd_sec (failing := []) h (by decide)).trans ((writeSec_svn (by rw [hbits]; omega)).trans written)
      exact execAdvance_without_revoke.trans (next_congr stored)
    case idWin =>
      have window := readCmd_idWin (d := d) hx hf
      rw [readIdWin_of_measurements hobj] at window
      exact next_congr window
  case transport =>
    intro ctl at_ u asked enc p ss
    refine ⟨fun h hb htest hawk hpurpose => ?sendKey, fun h hb htest hpurpose hawk hopen => ?receiveKey, fun hrep => ?query,
      fun hpurpose hx hok hsvn hsend hres => ?certsSession, fun hpurpose hrec hok hsvn hsend hres => ?certsRecord, fun hrecv => ?offer,
      fun hpurpose => ⟨fun hres hx hchip => ?goesOn, fun hres hi => ?givesUp⟩, fun hpurpose hres => ?acceptRecord⟩
    case sendKey => exact next_congr ((secCmd_acts (by decide) h).trans (secSendKey_of_awk hb htest hawk hpurpose))
    case receiveKey => exact next_congr ((secCmd_acts (by decide) h).trans (secReceiveKey_of_awk hb htest hpurpose hawk hopen))
    case query => exact next_congr (opKeyQuery_answers hrep)
    case certsSession => exact next_congr (opKeyCerts_offers_session hok hsvn hres hpurpose hx hsend)
    case certsRecord => exact next_congr (opKeyCerts_offers_record hok hsvn hres hpurpose hrec hsend)
    case offer => exact next_congr (opKeyOffer_answers hrecv)
    case goesOn => exact next_congr (congrArg settleKeys (opKeyAccept_goes_on hpurpose hres hx hchip))
    case givesUp => exact next_congr (congrArg settleKeys (opKeyAccept_gives_up hpurpose hres hi))
    case acceptRecord => exact next_congr (congrArg settleKeys (opKeyAccept_of_record hpurpose hres))

end Sys2Proof.Machine
end
